-- ==== Sys2Proof/Word.lean ====
section
/-!
DEFINITION. Words, bytes and the plainest arithmetic over them (00_scope R8: little-endian; R10: access types).
-/
namespace Sys2Proof

/-- One byte. -/
abbrev Byte := BitVec 8
/-- 16-bit word of a register or message. -/
abbrev U16 := BitVec 16
/-- 32-bit word of a register or message. -/
abbrev U32 := BitVec 32
/-- 64-bit word of a register or message. -/
abbrev U64 := BitVec 64

/-- A saturating counter counts one event. -/
def satInc {n : Nat} (x : BitVec n) : BitVec n :=
  if x = BitVec.allOnes n then x else x + 1

/-- A saturating counter counts `k` events. -/
def satAdd {n : Nat} (x : BitVec n) (k : Nat) : BitVec n :=
  BitVec.ofNat n (min (x.toNat + k) (2 ^ n - 1))

/-- `⌈a / b⌉` for natural numbers (0 when `b` is 0). -/
def ceilDiv (a b : Nat) : Nat := if b = 0 then 0 else (a + b - 1) / b

/-- The `n` low bytes of `v`, least significant first (R8). -/
def leBytes : Nat → Nat → List Byte
  | 0, _ => []
  | n + 1, v => BitVec.ofNat 8 v :: leBytes n (v / 256)

/-- The number that bytes spell, least significant first (R8). -/
def leNat : List Byte → Nat
  | [] => 0
  | b :: bs => b.toNat + 256 * leNat bs

/-- The number that bytes spell, most significant first (network order, R8's exception). -/
def beNat (bs : List Byte) : Nat := leNat bs.reverse

/-- The `n` low bytes of `v`, most significant first. -/
def beBytes (n v : Nat) : List Byte := (leBytes n v).reverse

/-- The `n` bytes of `bs` from `off`, read as a little-endian number; missing bytes read as 0. -/
def leAt (bs : List Byte) (off n : Nat) : Nat := leNat ((bs.drop off).take n)

/-- The byte of `bs` at `off`; 0 past the end. -/
def byteAt (bs : List Byte) (off : Nat) : Byte := bs.getD off 0

/-- `n` zero bytes. -/
def zeros (n : Nat) : List Byte := List.replicate n 0

/-- `bs` cut or zero-filled to `n` bytes. -/
def padTo (n : Nat) (bs : List Byte) : List Byte := (bs ++ zeros n).take n

/-- Bits `[lo + w - 1 : lo]` of `v`. -/
def bitsOf (v lo w : Nat) : Nat := v / 2 ^ lo % 2 ^ w

/-- Bit `i` of `v`. -/
def bitOf (v i : Nat) : Bool := v.testBit i

/-- `b` as a number. -/
def b2n (b : Bool) : Nat := if b then 1 else 0

/-- The value of `n` low bits of `v` read as two's complement. -/
def signed (n v : Nat) : Int :=
  if v % 2 ^ n < 2 ^ (n - 1) then (v % 2 ^ n : Nat) else (v % 2 ^ n : Nat) - (2 ^ n : Nat)

/-- `x` limited to `lo .. hi`. -/
def clampInt (lo hi x : Int) : Int := max lo (min hi x)

/-- `x` limited to `lo .. hi`. -/
def clampNat (lo hi x : Nat) : Nat := max lo (min hi x)

/-- Entry `i` of a table is replaced by `f` of it. -/
def updAt {α : Type} {n : Nat} (v : Vector α n) (i : Fin n) (f : α → α) : Vector α n :=
  v.set i (f v[i])

end Sys2Proof
end

