-- ==== Sys2Proof/Machine/StateHost.lean ====
section
/-!
DEFINITION. State of the host interface (04_host_interface.md): mailboxes, result-ring registers, interrupt
block, MSI-X table, PCIe function, and what the device has sent out. Default values are the reset values (R13).
-/
namespace Sys2Proof.Machine
open Sys2Proof

/-- Status codes (22_catalogue, Status codes). -/
inductive Status where
  | ok | pending | invalidOpcode | invalidField | reservedNonzero | noResource | poolEmpty | doubleFree
  | notFound | staleHandle | denied | busy | discardedFault | abortedReset | epochMismatch | unreachable
  | updating | supplyInhibit | digestMismatch | remoteError | safetyLocked | internal
  deriving DecidableEq, Repr

/-- The 16-bit value of a status (22_catalogue, Status codes). -/
def Status.code : Status → Nat
  | .ok => 0x0000 | .pending => 0x0001 | .invalidOpcode => 0x0010 | .invalidField => 0x0011
  | .reservedNonzero => 0x0012 | .noResource => 0x0020 | .poolEmpty => 0x0021 | .doubleFree => 0x0022
  | .notFound => 0x0030 | .staleHandle => 0x0031 | .denied => 0x0040 | .busy => 0x0050
  | .discardedFault => 0x0060 | .abortedReset => 0x0061 | .epochMismatch => 0x0062
  | .unreachable => 0x0063 | .updating => 0x0070 | .supplyInhibit => 0x0080
  | .digestMismatch => 0x0090 | .remoteError => 0x00A0 | .safetyLocked => 0x00B0 | .internal => 0x00FF

/-- What a mailbox records in ERR_CODE (04, MBX_STATUS). -/
inductive MbxErr where
  | none | badTail | badHead | cmdFault | descFault
  deriving DecidableEq, Repr

/-- One mailbox (04 R119–R145, Mailbox register set). -/
structure Mbx where
  /-- MBX_CMD_BASE; bits [11:0] read 0. -/
  cmdBase : U64 := 0
  /-- MBX_CMD_SIZE.SIZE: log2 of the entries. -/
  cmdSize : BitVec 4 := 4
  /-- MBX_CMD_TAIL. -/
  cmdTail : BitVec 12 := 0
  /-- MBX_CMD_HEAD. -/
  cmdHead : BitVec 12 := 0
  /-- MBX_RSP_BASE. -/
  rspBase : U64 := 0
  /-- MBX_RSP_SIZE.SIZE. -/
  rspSize : BitVec 4 := 4
  /-- MBX_RSP_HEAD. -/
  rspHead : BitVec 12 := 0
  /-- MBX_RSP_TAIL. -/
  rspTail : BitVec 12 := 0
  /-- MBX_CTRL.EN. -/
  en : Bool := false
  /-- MBX_CTRL.IRQ_EN. -/
  irqEn : Bool := false
  /-- MBX_STATUS.ENABLED. -/
  enabled : Bool := false
  /-- MBX_STATUS.BOUND. -/
  bound : Bool := false
  /-- MBX_STATUS.CONTEXT. -/
  context : BitVec 6 := 0
  /-- MBX_STATUS.ERR. -/
  err : Bool := false
  /-- MBX_STATUS.ERR_CODE. -/
  errCode : MbxErr := .none
  /-- MBX_STATUS.HALTED (R144). -/
  halted : Bool := false
  /-- MBX_STATUS.RSP_STALL (R124). -/
  rspStall : Bool := false
  /-- The command that waits for room is asynchronous, so that it needs two entries (R124). -/
  stallAsync : Bool := false
  /-- The mailbox is armed for a message (R136). Log entry 2. -/
  armed : Bool := true
  /-- For each response from RSP_HEAD to RSP_TAIL, oldest first: its command was without NO_IRQ (R136). -/
  unread : List Bool := []
  /-- The switch mark of R139, recorded at DRAIN. -/
  switchMark : Option (BitVec 12) := none
  /-- The context bound to the mailbox was destroyed (R129). -/
  ctxGone : Bool := false
  deriving DecidableEq, Repr

/-- One result ring's registers (04, Result-ring register set; R137, R138). -/
structure Rrg where
  /-- RRG_BASE. -/
  base : U64 := 0
  /-- RRG_SIZE.LOG2; 0 when not configured. -/
  log2 : BitVec 5 := 0
  /-- RRG_CTRL.EN. -/
  en : Bool := false
  /-- RRG_CTRL.UDP. -/
  udp : Bool := false
  /-- RRG_WRITE. -/
  write : U32 := 0
  /-- RRG_READ. -/
  read : U32 := 0
  /-- RRG_IRQ.COUNT. -/
  count : BitVec 8 := 1
  /-- RRG_IRQ.TIMEOUT_US. -/
  timeoutUs : BitVec 16 := 0
  /-- RRG_IRQ.VECTOR. -/
  vector : BitVec 6 := 17
  /-- RRG_STATUS.FULL. -/
  full : Bool := false
  /-- RRG_FULL_COUNT, saturating. -/
  fullCount : U32 := 0
  /-- RRG_POSTED, wrapping. -/
  posted : U32 := 0
  /-- The ring is armed (R137). Log entry 2. -/
  armed : Bool := true
  /-- Records written since the ring's last message. -/
  sinceMsg : Nat := 0
  /-- When the oldest such record was written (R137), on the model's clock. -/
  oldestAt : Option Nat := none
  deriving DecidableEq, Repr

/-- The reset value of ring `s` (RRG_IRQ.VECTOR is 17 + (s mod 47)). -/
def Rrg.fresh (s : Nat) : Rrg := { vector := BitVec.ofNat 6 (17 + s % 47) }

/-- One MSI-X table entry (R149). -/
structure MsixEntry where
  /-- Message Address. -/
  addr : U64 := 0
  /-- Message Data. -/
  data : U32 := 0
  /-- Vector Control.Mask. -/
  mask : Bool := true
  /-- Pending bit of the PBA. -/
  pend : Bool := false
  deriving DecidableEq, Repr

/-- Interrupt block and identification block registers of BAR0 (04). -/
structure IntBlk where
  /-- INT_STATUS.BOOT. -/
  boot : Bool := false
  /-- INT_STATUS.FW_SWITCH. -/
  fwSwitch : Bool := false
  /-- INT_STATUS.BAR2_MISS. -/
  bar2Miss : Bool := false
  /-- INT_STATUS.DB_DROP. -/
  dbDrop : Bool := false
  /-- INT_STATUS.BAD_ACCESS. -/
  badAccess : Bool := false
  /-- INT_STATUS.MBX_ERR. -/
  mbxErr : Bool := false
  /-- INT_STATUS.UNIT. -/
  unit : Bool := false
  /-- INT_ENABLE.EN. -/
  enable : BitVec 10 := 0x3FF
  /-- INT_BAR2_MISS_ADDR. -/
  missAddr : BitVec 48 := 0
  /-- INT_DB_DROP_COUNT, saturating. -/
  dbDropCount : U32 := 0
  /-- INT_BAD_ACCESS.OFFSET. -/
  badOffset : BitVec 24 := 0
  /-- INT_BAD_ACCESS.BYTES. -/
  badBytes : BitVec 4 := 0
  /-- INT_BAD_ACCESS.WRITE. -/
  badWrite : Bool := false
  /-- ID_BAR2_BASE. -/
  bar2Base : U64 := 0
  /-- ID_SCRATCH. -/
  scratch : U32 := 0
  deriving DecidableEq, Repr

/-- Power management states of the PCIe function (R111). -/
inductive DState where
  | d0 | d3hot
  deriving DecidableEq, Repr

/-- The kinds of PCIe error the endpoint reports through AER (R148). -/
inductive AerKind where
  | receiverError | badTlp | badDllp | replay
  | completionTimeout | poisonedTlp | unexpectedCompletion | malformedTlp | unsupportedRequest
  deriving DecidableEq, Repr

/-- A correctable kind (R148). -/
def AerKind.correctable : AerKind → Bool
  | .receiverError | .badTlp | .badDllp | .replay => true
  | _ => false

/-- A request through the outbound window that the endpoint holds (R111). -/
structure WindowReq where
  /-- The work item that waits for it. -/
  item : Option Nat
  /-- Host bus address. -/
  addr : Nat
  /-- Length. -/
  len : Nat
  /-- A write. -/
  write : Bool
  deriving DecidableEq, Repr

/-- The PCIe function's own state (R108–R111, R134, R147, R148). -/
structure Pcie where
  /-- Bus Master Enable of the Command register. -/
  busMaster : Bool := false
  /-- Power management state. -/
  dstate : DState := .d0
  /-- Requests are held in D3hot because work was running (R111). -/
  held : Bool := false
  /-- MSI-X Enable. -/
  msixEnable : Bool := false
  /-- Function Mask. -/
  funcMask : Bool := false
  /-- Completion timeout of Device Control 2 for the device's own reads, in µs (R148). -/
  cplTimeoutUs : Nat := 50000
  /-- AER: kinds reported, oldest first, each once. -/
  aer : List AerKind := []
  /-- Requests through the outbound window that wait until the device may issue requests, oldest first (R110, R111). -/
  outWait : List WindowReq := []
  deriving DecidableEq, Repr

/-- What the device sends out of itself. `State.out` holds them newest first. -/
inductive Out where
  /-- A posted write to host memory (records, responses, outbound window). -/
  | hostWrite (addr : Nat) (bytes : List Byte)
  /-- An MSI-X message. -/
  | msix (vector : Nat) (addr : U64) (data : U32)
  /-- A read of the host returned these bytes to a BAR2 reader; `poisoned` as R116. -/
  | bar2Data (bytes : List Byte) (poisoned : Bool)
  /-- A read of BAR0 or BAR4 that the device answers with these bytes (R113, R118). -/
  | barData (bytes : List Byte)
  /-- A request of an engine through the outbound window: host bus address, length, a write; the bytes are the
  requester's (R210). -/
  | hostRequest (addr len : Nat) (write : Bool)
  /-- A DRAM controller answers a read: channel, channel-local line, the bytes asked for and their values in ascending
  order; poisoned as R238. -/
  | dmcData (ch line : Nat) (mask : BitVec 64) (bytes : List Byte) (poisoned : Bool)
  /-- A PTM request (R329). -/
  | ptmRequest
  /-- An Ethernet frame's payload leaves port `port` at egress priority `prio` (R471). -/
  | ethSend (port : Nat) (prio : Nat) (bytes : List Byte)
  /-- A PTP Delay_Req leaves port `port` (R329). -/
  | delayReq (port transport : Nat)
  /-- A frame on the AVSBus: command data type, commit, rail and, for a voltage write, the millivolts (R52). -/
  | avsbus (type : BitVec 4) (commit : Bool) (rail : Nat) (mv : Nat)
  /-- A Lofin packet leaves port `port` on a virtual channel (R481). -/
  | packet (port vc : Nat) (bytes : List Byte)
  /-- A flit carrying sequence `fseq` leaves port `port` again (R479). -/
  | flit (port : Nat) (fseq : Nat)
  /-- A link-control flit with ACK, NAK and credits leaves port `port` (R478, R479). -/
  | linkControl (port : Nat) (ack : Nat) (nak : Bool) (credits : List Nat)
  /-- A voltage code, image or word driven on a flash or fuse interface is complete (R66). -/
  | flashProgram (addr : Nat) (bytes : List Byte)
  deriving DecidableEq, Repr

/-- The host interface (04). -/
structure HostIf where
  /-- Mailboxes 0–15; mailbox 0 is always bound (R127). -/
  mbx : Vector Mbx 16 := (Vector.replicate 16 {}).set 0 { bound := true }
  /-- Result rings 0–63. -/
  rrg : Vector Rrg 64 := Vector.ofFn (fun s : Fin 64 => Rrg.fresh s.val)
  /-- MSI-X table and PBA. -/
  msix : Vector MsixEntry 64 := Vector.replicate 64 {}
  /-- Interrupt and identification blocks. -/
  int : IntBlk := {}
  /-- The PCIe function. -/
  pcie : Pcie := {}
  /-- The last mailbox other than 0 that was served (R132); 0 when none. -/
  lastServed : Nat := 0
  /-- The next turn is mailbox 0's (R132). -/
  turnZero : Bool := true
  deriving DecidableEq, Repr

end Sys2Proof.Machine
end

