-- ==== Sys2Proof/Machine/StatePower.lean ====
section
/-!
DEFINITION. State of the clocks, supplies, throttle, AVS, flash, fuses, boot and pins
(02_clocks_power_supply, 03_start_up, 21_electrical_package). Default values are the reset values (R13).
-/
namespace Sys2Proof.Machine
open Sys2Proof

/-- Power states (02, Power states). -/
inductive PowerState where
  | active | low | standby | off
  deriving DecidableEq, Repr

/-- One junction sensor (SUP_TEMPn). -/
structure Sensor where
  /-- TEMP, two's complement units of 0.25 °C. -/
  temp : BitVec 16 := 0
  /-- VALID. -/
  valid : Bool := false
  /-- Its reading has not changed for 1 s (R72). -/
  stuck : Bool := false
  /-- When its reading last changed, on the model's clock; none before the first reading (R72). -/
  changedAt : Option Nat := none
  deriving DecidableEq, Repr

/-- What the flash is doing (R66). -/
inductive FlashOp where
  /-- Erase of the 64 KiB block at this offset. -/
  | erase (block : Nat)
  /-- Program of one page. -/
  | program (addr : Nat) (bytes : List Byte) (retry : Bool)
  deriving DecidableEq, Repr

/-- What an OTP program blows (R175). -/
inductive OtpOp where
  | secver (min : Nat) | key (slot : Fin 4) (hash : BitVec 384) | revoke (slot : Fin 4)
  deriving DecidableEq, Repr

/-- The OTP fuses (03, Secure-boot fuses; 04 ID registers marked Fused). -/
structure Fuses where
  /-- KEY_HASH[s]; all zero is an empty slot. Slot 0 is delivered populated (R88); its value is a choice (log entry 25). -/
  keyHash : Vector (BitVec 384) 4 := (Vector.replicate 4 0).set 0 1
  /-- KEY_REVOKE. -/
  revoke : BitVec 4 := 0
  /-- SECVER_MIN: how many bits are blown. -/
  secverMin : Nat := 0
  /-- VARIANT: true for the Z64-L. -/
  variantL : Bool := true
  /-- ID_DEVICE.STEPPING. -/
  stepping : BitVec 8 := 0
  /-- ID_SERIAL. -/
  serial : U64 := 0
  deriving DecidableEq, Repr

/-- A frame of the AVSBus master (R52, R73). -/
structure AvsFrame where
  /-- A read of the AVSBus Status; else a write of the setpoint. -/
  status : Bool := false
  /-- The setpoint code of a voltage write. -/
  code : Nat := 0
  /-- Retries made. -/
  retries : Nat := 0
  deriving DecidableEq, Repr

/-- The supply and thermal block, the AVS controller and the supply guard (02). -/
structure Supply where
  /-- The supply guard is active (R64). -/
  guard : Bool := false
  /-- SUP_STATUS.V3V3_LOW. -/
  v3v3Low : Bool := false
  /-- SUP_STATUS.PWR_WARN. -/
  pwrWarn : Bool := false
  /-- Throttle level 0, 1 or 2. -/
  throttle : Fin 3 := 0
  /-- CLK_CORE is stretched by droop (R46). -/
  droop : Bool := false
  /-- SUP_STATUS.AVS_LIMIT: R54 holds. -/
  avsLimit : Bool := false
  /-- SUP_STATUS.AVS_FAULT: R73 holds. -/
  avsFault : Bool := false
  /-- SUP_STATUS.PLL_LOCK. -/
  pllLock : Bool := true
  /-- The device power state; SUP_STATUS.POWER_STATE shows it. -/
  power : PowerState := .active
  /-- SUP_EVENT. -/
  event : BitVec 7 := 0
  /-- SUP_EVENT_EN. -/
  eventEn : BitVec 7 := 0x35
  /-- SUP_VDD_CORE.SET_CODE. -/
  setCode : BitVec 16 := 0x0140
  /-- SUP_VDD_CORE.MEAS_MV. -/
  measMv : BitVec 16 := 0
  /-- SUP_AVS_CTRL.EN. -/
  avsEn : Bool := false
  /-- SUP_AVS_LIMITS.FLOOR_CODE. -/
  floor : BitVec 9 := 0x104
  /-- SUP_AVS_LIMITS.CEIL_CODE. -/
  ceil : BitVec 9 := 0x168
  /-- SUP_DROOP_CFG.MARGIN. -/
  margin : BitVec 4 := 3
  /-- SUP_DROOP_COUNT, saturating. -/
  droopCount : U32 := 0
  /-- SUP_STRETCH_CYCLES, wrapping. -/
  stretchCycles : U32 := 0
  /-- SUP_GUARD_COUNT, saturating. -/
  guardCount : U32 := 0
  /-- SUP_TEMPn. -/
  temps : Vector Sensor 12 := Vector.replicate 12 {}
  /-- SUP_TEMP_MAX.TMAX. -/
  tmax : BitVec 16 := 0
  /-- SUP_TEMP_MAX.INDEX. -/
  tmaxIndex : BitVec 8 := 0
  /-- SUP_THROTTLE_CFG.THROTTLE_C. -/
  throttleC : BitVec 8 := 0x64
  /-- SUP_THROTTLE_CFG.HYST_C. -/
  hystC : BitVec 8 := 5
  /-- Due time of the 10 ms dwell at level 1 (R55). -/
  dwellDue : Option Nat := none
  /-- Due time of the 100 ms release (R55). -/
  releaseDue : Option Nat := none
  /-- The controller waits until then after a request (R51). -/
  avsSettle : Option Nat := none
  /-- Due time of the lowering: codes above 16 for 1 ms (R50). -/
  avsLowerDue : Option Nat := none
  /-- No lowering is requested until then after a droop trip (02, When things fall together). -/
  avsHoldoff : Option Nat := none
  /-- The AVSBus frame in flight (R52, R73). -/
  avsFrame : Option AvsFrame := none
  /-- When a raise was last requested, on the model's clock (R97). -/
  avsRaiseAt : Option Nat := none
  /-- A throttle or AVS request of the divider began or ended inside the droop block in progress (R48). -/
  droopMixed : Bool := false
  /-- Both conditions of the guard have been good since this time, while the guard is active (R64). -/
  guardGoodAt : Option Nat := none
  /-- HOT bit of each Tower (R59). -/
  hot : BitVec 8 := 0
  /-- The Tower sensor readings the scheduler was last given (R59). -/
  towerTemp : Vector (BitVec 16) 8 := Vector.replicate 8 0
  /-- Units whose power switches wait to be turned on (R61). -/
  switchOn : List Nat := []
  /-- When the last power switch was turned on, on the model's clock (R61). -/
  switchAt : Option Nat := none
  /-- The device leaves LOW or STANDBY for ACTIVE. -/
  toActive : Bool := false
  /-- The 32 MiB or more of serial NOR flash; erased bytes (0xFF) are not listed. -/
  flash : List (Nat × Byte) := []
  /-- Flash size in bytes (R85). -/
  flashSize : Nat := 0x04000000
  /-- The flash operation in progress (R66: at most one). -/
  flashOp : Option FlashOp := none
  /-- A suspended erase (R66). -/
  eraseSusp : Option Nat := none
  /-- An OTP program in progress (R66). -/
  otpOp : Option OtpOp := none
  /-- Keeper log entries copied to flash so far (R592). -/
  logCopied : Nat := 0
  /-- Fuses. -/
  fuses : Fuses := {}
  deriving DecidableEq, Repr

/-- Boot error codes (R107). -/
inductive BootErr where
  | none | pllNoLock | otpInvalid | flashNoResponse | bcfgInvalid | bcfgMismatch | noValidImage
  | hostImageInvalid | lockstepFail | dramInitFail | trainFail | eccInitFail | bistFail | unitInitFail
  | stageTimeout
  deriving DecidableEq, Repr

/-- BOOT_ERROR.CODE (R107). -/
def BootErr.code : BootErr → Nat
  | .none => 0 | .pllNoLock => 1 | .otpInvalid => 2 | .flashNoResponse => 3 | .bcfgInvalid => 4
  | .bcfgMismatch => 5 | .noValidImage => 6 | .hostImageInvalid => 7 | .lockstepFail => 8
  | .dramInitFail => 9 | .trainFail => 10 | .eccInitFail => 11 | .bistFail => 12 | .unitInitFail => 13
  | .stageTimeout => 14

/-- Why an image is refused, in the order of R89. -/
inductive ImgReason where
  | ok | badHeader | badLength | keyEmpty | keyRevoked | keyMismatch | rollback | sigFail | notTried | readFail
  deriving DecidableEq, Repr

/-- Image reason codes (03). -/
def ImgReason.code : ImgReason → Nat
  | .ok => 0 | .badHeader => 1 | .badLength => 2 | .keyEmpty => 3 | .keyRevoked => 4 | .keyMismatch => 5
  | .rollback => 6 | .sigFail => 7 | .notTried => 8 | .readFail => 9

/-- Which image runs: BOOT_STAGE.IMAGE. -/
inductive ImgSlot where
  | none | a | b | hostLoad
  deriving DecidableEq, Repr

/-- The trained window of one byte lane (BOOT_EYEn). -/
structure Eye where
  /-- RD_CENTRE. -/
  rdCentre : BitVec 8 := 0
  /-- RD_WIDTH. -/
  rdWidth : BitVec 8 := 0
  /-- WR_CENTRE. -/
  wrCentre : BitVec 8 := 0
  /-- WR_WIDTH. -/
  wrWidth : BitVec 8 := 0
  deriving DecidableEq, Repr

/-- Boot (03). -/
structure Boot where
  /-- Level of POR_N. -/
  porN : Bool := true
  /-- Level of PERST_N. -/
  perstN : Bool := true
  /-- BOOT_STAGE.STAGE; 0xF is READY. -/
  stage : BitVec 4 := 0
  /-- BOOT_STAGE.ERROR. -/
  error : Bool := false
  /-- BOOT_STAGE.DEGRADED. -/
  degraded : Bool := false
  /-- BOOT_STAGE.IMAGE. -/
  image : ImgSlot := .none
  /-- BOOT_STAGE.BOOT_SEL as latched (R77). -/
  bootSel : BitVec 2 := 0
  /-- BOOT_STAGE.BCFG_COPY. -/
  bcfgCopy : Bool := false
  /-- BOOT_STAGE.FALLBACK. -/
  fallback : Bool := false
  /-- BOOT_ERROR.CODE. -/
  errCode : BootErr := .none
  /-- BOOT_ERROR.STAGE. -/
  errStage : BitVec 8 := 0
  /-- BOOT_ERROR.DETAIL. -/
  errDetail : BitVec 16 := 0
  /-- BOOT_IMAGE. -/
  imgVersion : U32 := 0
  /-- BOOT_SECVER.SEC_VERSION. -/
  secVersion : BitVec 8 := 0
  /-- BOOT_SECVER.SECVER_MIN. -/
  secverMin : BitVec 8 := 0
  /-- BOOT_TIME. -/
  timeMs : U32 := 0
  /-- BOOT_FENCED_LO and _HI: bit `u` for unit `u`. -/
  fenced : BitVec 64 := 0
  /-- BOOT_HOST_LEN. -/
  hostLen : U32 := 0
  /-- BOOT_EYEn. -/
  eyes : Vector Eye 16 := Vector.replicate 16 {}
  /-- Boot stopped (R107). -/
  stopped : Bool := false
  /-- The device waits for a host image (R92, R93). -/
  hostWait : Bool := false
  /-- Clock of the model when the stage began (R104). -/
  stageAt : Nat := 0
  /-- Clock of the model when the later reset input was released. -/
  startAt : Nat := 0
  /-- Clock when the host-load wait began, and time so far spent in waits (R81). -/
  waitFrom : Option Nat := none
  /-- Time spent in host-load waits. -/
  waited : Nat := 0
  /-- The image being tried: A (false) or B (true), and whether it is the second tried. -/
  tryB : Bool := false
  /-- The second image is being tried. -/
  second : Bool := false
  /-- Reason codes of image A and of image B. -/
  reasonA : ImgReason := .notTried
  /-- Reason code of image B. -/
  reasonB : ImgReason := .notTried
  /-- The staging area: the image read from the flash (R78) or written by the host (R92); zero bytes not listed. A byte
  that nothing has written reads 0 (DESIGN CHOICE: log entry 6). -/
  staging : List (Nat × Byte) := []
  /-- Time spent in earlier visits to stage 0x05, in µs: its maximum covers both image reads (R78, R104). -/
  loadSpent : Nat := 0
  /-- Time spent in earlier visits to stage 0x06, in µs. -/
  verifySpent : Nat := 0
  /-- Hyldo SRAM: the Hyldo code of the accepted image (R95). -/
  hylSram : List Byte := []
  /-- The other parts of the image, in firmware's reserved DRAM region (R100). -/
  fwDram : List Byte := []
  /-- Board configuration: WCK_DIV, CH_GIB, RANKS, AVS floor and ceiling, MIN_EYE (R86). -/
  wckDiv : Nat := 4
  /-- CH_GIB. -/
  chGib : Nat := 0
  /-- RANKS. -/
  ranks : Nat := 0
  /-- AVS_FLOOR. -/
  avsFloor : Nat := 0
  /-- AVS_CEIL. -/
  avsCeil : Nat := 0
  /-- MIN_EYE, with 0 read as 16. -/
  minEye : Nat := 16
  /-- BOOT_OPT[0]: the UART console is enabled. -/
  uart : Bool := false
  /-- WR_VREF, RD_VREF and CA_VREF codes written at stage 0x09 (R98): bytes 16–51. -/
  vref : List Byte := []
  deriving DecidableEq, Repr

/-- Output and board pins that are not held elsewhere (21, Pin behaviour). SAFE_N, BEACON and FAULT_N are the
Keeper's; THERM_N follows the throttle level (R56). -/
structure Pins where
  /-- THERM_N is driven low. -/
  thermLow : Bool := false
  /-- PTP_PPS_OUT level. -/
  ppsOut : Bool := false
  /-- GPIO[15:0] directions: true is an output. Inputs from reset. -/
  gpioOut : BitVec 16 := 0
  /-- VDD_IO18 is within its window. -/
  io18 : Bool := true
  deriving DecidableEq, Repr

end Sys2Proof.Machine
end

