-- ==== Sys2Proof/Machine/StateMem.lean ====
section
/-!
DEFINITION. State of contexts, memory, MMU, DRAM controllers, buffer pools, pips, models, instances and jobs
(05, 07, 08, 09 and 06's job group). Default values are the reset values (R13).
-/
namespace Sys2Proof.Machine
open Sys2Proof

/-- Priority classes (10, R295). -/
inductive Cls where
  | s | q | b
  deriving DecidableEq, Repr

/-- The code of a class: 0 S, 1 Q, 2 B. -/
def Cls.code : Cls → Nat
  | .s => 0 | .q => 1 | .b => 2

/-- The class that a command's byte names. -/
def Cls.ofNat? : Nat → Option Cls
  | 0 => some .s | 1 => some .q | 2 => some .b | _ => none

/-- A memory region that MEM_ALLOC gave a context (R159). -/
structure Region where
  /-- Context address. -/
  va : Nat
  /-- Device address. -/
  pa : Nat
  /-- Length in bytes. -/
  bytes : Nat
  /-- Page size in bytes: 4 KiB, 64 KiB or 2 MiB. -/
  page : Nat
  deriving DecidableEq, Repr

/-- How far the teardown of a context has come (R157, R241). -/
inductive Teardown where
  | none | streams | draining
  deriving DecidableEq, Repr

/-- A context (R156). Context 0 always exists. -/
structure Ctx where
  /-- The context exists. -/
  exists_ : Bool := false
  /-- MAX_CLASS. -/
  maxClass : Cls := .s
  /-- QUOTA_MIB; 0 is no quota. -/
  quotaMib : Nat := 0
  /-- Regions, in the order of allocation. -/
  regions : List Region := []
  /-- Teardown progress. -/
  teardown : Teardown := .none
  /-- Streams stopped, jobs aborted and objects released by CTX_DESTROY so far. -/
  counts : Nat × Nat × Nat := (0, 0, 0)
  deriving DecidableEq, Repr

/-- MMU_CTX_ROOTn. -/
structure MmuRoot where
  /-- EN. -/
  en : Bool := false
  /-- ROOT: bits [47:12] of the L1 table's address. -/
  root : BitVec 36 := 0
  deriving DecidableEq, Repr

/-- One cached translation (R216). -/
structure Tlb where
  /-- Context tag. -/
  ctx : Nat
  /-- First context address of the page. -/
  va : Nat
  /-- Page size in bytes. -/
  size : Nat
  /-- Device address of the page. -/
  pa : Nat
  /-- W. -/
  w : Bool
  /-- WP. -/
  wp : Bool
  deriving DecidableEq, Repr

/-- MEM_REGIONn (R220). -/
structure MemRegion where
  /-- BASE. -/
  base : BitVec 48 := 0
  /-- SIZE. -/
  size : BitVec 48 := 0
  /-- EN. -/
  en : Bool := false
  /-- GRAIN_LOG2. -/
  grain : BitVec 4 := 8
  /-- WAYS: 0 one, 1 two, 2 four. -/
  ways : BitVec 2 := 2
  /-- CH_FIRST. -/
  chFirst : BitVec 2 := 0
  /-- CH_OFFSET. -/
  chOffset : BitVec 33 := 0
  deriving DecidableEq, Repr

/-- Page hint of a DRAM request (R224). -/
inductive Hint where
  | open_ | close | none
  deriving DecidableEq, Repr

/-- One entry of a write queue: a line with the bytes it covers (R225). The values are in `State.mem`. -/
structure WqEntry where
  /-- Channel-local line number. -/
  line : Nat
  /-- Bit `i`: byte `i` of the line is covered. -/
  mask : BitVec 64
  /-- Page hint of its last write. -/
  hint : Hint
  deriving DecidableEq, Repr

/-- An open row of a bank (R224). -/
structure OpenRow where
  /-- Rank, bank group and bank as one number. -/
  bank : Nat
  /-- Row. -/
  row : Nat
  /-- The row was last accessed with hint NONE, so it closes after PAGE_IDLE idle cycles. -/
  idleClose : Bool
  deriving DecidableEq, Repr

/-- What JESD209-5 requires for the code that MR4 returned (R230). -/
inductive Mr4Req where
  | x1 | x2 | over | undefined
  deriving DecidableEq, Repr

/-- One DRAM controller (07). -/
structure Dmc where
  /-- RAW_MODE: true STRICT, false FORWARD. -/
  strict : Bool := false
  /-- PAGE_IDLE. -/
  pageIdle : BitVec 8 := 0x40
  /-- WQ_HIGH. -/
  wqHigh : BitVec 6 := 0x30
  /-- WQ_LOW. -/
  wqLow : BitVec 6 := 0x10
  /-- READY. -/
  ready : Bool := false
  /-- DQ Vref codes of the DRAM's mode registers, one for each byte lane (R98). -/
  wrVref : Vector Byte 4 := Vector.replicate 4 0
  /-- Controller receiver Vref codes, one for each byte lane (R86, R98). -/
  rdVref : Vector Byte 4 := Vector.replicate 4 0
  /-- CA Vref code of the DRAM's mode register (R98). -/
  caVref : Byte := 0
  /-- Link ECC in the DRAM; it stays disabled (R98). -/
  linkEcc : Bool := false
  /-- REFRESH_X2. -/
  refreshX2 : Bool := false
  /-- DERATE. -/
  derate : Bool := false
  /-- SELF_REFRESH. -/
  selfRefresh : Bool := false
  /-- DRIFT_LIMIT. -/
  driftLimit : Bool := false
  /-- MR4_FAIL. -/
  mr4Fail : Bool := false
  /-- MR4_CODE. -/
  mr4Code : BitVec 5 := 0
  /-- DMC_TREFIPB. -/
  trefipb : BitVec 16 := 0
  /-- DMC_ECC_CE, saturating. -/
  eccCe : U32 := 0
  /-- DMC_ECC_UE, saturating. -/
  eccUe : U32 := 0
  /-- DMC_ECC_UE_ADDR.LINE, as channel-local address bits [32:6]. -/
  ueLine : BitVec 27 := 0
  /-- DMC_ECC_UE_ADDR.VALID. -/
  ueValid : Bool := false
  /-- DMC_DRIFTb.RD_OFFSET, signed taps. -/
  driftRd : Vector Int 4 := Vector.replicate 4 0
  /-- DMC_DRIFTb.WR_OFFSET, signed taps. -/
  driftWr : Vector Int 4 := Vector.replicate 4 0
  /-- DMC_SCRUB, wrapping. -/
  scrub : U32 := 0
  /-- Write queue, oldest first, at most 64 entries. -/
  wq : List WqEntry := []
  /-- Open rows. -/
  rows : List OpenRow := []
  /-- Refresh commands postponed (R229). -/
  postponed : Nat := 0
  /-- MR4 reads in a row that require 1x while at 2x (R231). -/
  x1Reads : Nat := 0
  /-- MR4 failures in a row. -/
  mr4Fails : Nat := 0
  /-- Patrol position: the next channel-local line number. -/
  scrubPos : Nat := 0
  /-- ECC lines held, most recently used first, at most 256: channel-local line number, and whether it was changed (R223). -/
  eccCache : List (Nat × Bool) := []
  /-- When the next MR4 read falls due, on the model's clock (R230, R232). -/
  mr4Due : Nat := 0
  /-- When the next drift update of each lane falls due (R232, R233). -/
  driftDue : Vector Nat 4 := Vector.replicate 4 0
  /-- Since STANDBY was left MR4 has not been read: requests wait (R232). -/
  wakeMr4 : Bool := false
  /-- Lanes that have had no drift update since STANDBY was left: requests wait (R232). -/
  wakeDrift : BitVec 4 := 0
  /-- Oscillator counts of each lane's read and write side at training (R233). -/
  oscBase : Vector (Int × Int) 4 := Vector.replicate 4 (0, 0)
  /-- Oscillator counts per tap of each lane, measured at stage 0x0A (R233). -/
  perTap : Vector Nat 4 := Vector.replicate 4 0
  deriving DecidableEq, Repr

/-- The state of one line's inline ECC when it is not clean (R237, R238). -/
inductive EccErr where
  | correctable | uncorrectable
  deriving DecidableEq, Repr

/-- One buffer's state table entry (R247); `gen 0`, free is the entry at POOL_CREATE. -/
structure Buf where
  /-- GEN. -/
  gen : BitVec 8 := 0
  /-- ALLOC. -/
  alloc : Bool := false
  /-- HOST. -/
  host : Bool := false
  deriving DecidableEq, Repr

/-- What a waiting buffer request is for. -/
inductive BufFor where
  /-- The open frame of an ingesting slot. -/
  | source (slot : Nat)
  /-- A frame that completed INGEST while its source buffer request waited (R267). -/
  | late (slot : Nat) (seq : U32)
  /-- The reference buffer of a frame's picture. -/
  | ref (slot : Nat) (seq : U32)
  /-- The decoded picture of a frame. -/
  | frame (slot : Nat) (seq : U32)
  /-- The crop tensors of a frame. -/
  | crop (slot : Nat) (seq : U32)
  /-- The record of a frame. -/
  | record (slot : Nat) (seq : U32)
  /-- POOL_ALLOC of a mailbox. -/
  | command (mbx : Fin 16) (seq : BitVec 16)
  deriving DecidableEq, Repr

/-- A request waiting at a pool's allocation sequencer (R252–R254). -/
structure BufReq where
  /-- Requester port (R251 table). -/
  port : Nat
  /-- Class. -/
  cls : Cls
  /-- Pool the request now waits at. -/
  pool : Nat
  /-- Home pool (R252). -/
  home : Nat
  /-- Pools reached, in order. -/
  reached : List Nat
  /-- The reserve pass: pools still to try (R253 step 3); `none` in the normal pass. -/
  reserve : Option (List Nat)
  /-- What it is for. -/
  use : BufFor
  deriving DecidableEq, Repr

/-- One pool (08). -/
structure Pool where
  /-- EN. -/
  en : Bool := false
  /-- STORE: true LIST, false RING. -/
  list : Bool := false
  /-- SIZE_MODE: true CLASS. -/
  chain : Bool := false
  /-- FALLBACK. -/
  fallback : Bool := false
  /-- ADAPT. -/
  adapt : Bool := false
  /-- NEXT with NEXT_VALID. -/
  next : Option (BitVec 4) := none
  /-- NEXT while NEXT_VALID is 0. -/
  nextIdle : BitVec 4 := 0
  /-- CTX. -/
  ctx : BitVec 6 := 0
  /-- POOL_BUF_BYTES. -/
  bufBytes : BitVec 25 := 0
  /-- POOL_COUNT. -/
  count : BitVec 21 := 0
  /-- POOL_BASE, device address. -/
  base : BitVec 48 := 0
  /-- The context address of buffer 0. -/
  va : Nat := 0
  /-- POOL_RING, device address. -/
  ring : BitVec 48 := 0
  /-- POOL_STATE. -/
  stateAddr : BitVec 48 := 0
  /-- POOL_BUOY1. -/
  buoy1 : BitVec 21 := 0
  /-- POOL_BUOY2. -/
  buoy2 : BitVec 21 := 0
  /-- POOL_BUOY3. -/
  buoy3 : BitVec 21 := 0
  /-- POOL_B2. -/
  b2 : BitVec 21 := 0
  /-- POOL_FREE. -/
  free : BitVec 21 := 0
  /-- POOL_RING_HEAD. -/
  ringHead : BitVec 20 := 0
  /-- POOL_RING_TAIL. -/
  ringTail : BitVec 20 := 0
  /-- POOL_LIST_HEAD.INDEX. -/
  listHead : BitVec 20 := 0
  /-- POOL_LIST_HEAD.EMPTY. -/
  listEmpty : Bool := true
  /-- POOL_MIN_FREE. -/
  minFree : BitVec 21 := 0
  /-- POOL_FAILS, saturating. -/
  fails : U32 := 0
  /-- POOL_RATE. -/
  rate : BitVec 20 := 0
  /-- POOL_CORRUPT, saturating. -/
  corrupt : U32 := 0
  /-- POOL_RR. -/
  rr : BitVec 5 := 0
  /-- STATUS.BUOY1. -/
  atBuoy1 : Bool := false
  /-- STATUS.PAUSE_B. -/
  pauseB : Bool := false
  /-- STATUS.PAUSE_Q. -/
  pauseQ : Bool := false
  /-- STATUS.BUOY3. -/
  atBuoy3 : Bool := false
  /-- STATUS.REBUILD. -/
  rebuild : Bool := false
  /-- The on-chip cache of a RING pool, at most 64 handles. -/
  cache : List U32 := []
  /-- State table; entries equal to the default are not listed. -/
  bufs : List (Nat × Buf) := []
  /-- Grants in the current adaptive window (R263). -/
  grants : Nat := 0
  /-- When the current adaptive window ends, on the model's clock (R263). -/
  windowEnd : Nat := 0
  /-- The pool's region was taken from the Feature Store (FLAGS[2]). -/
  inFs : Bool := false
  /-- Requests waiting at this sequencer, in arrival order. -/
  waiting : List BufReq := []
  deriving DecidableEq, Repr

/-- Why a free failed (BPM_FREE_ERR_LAST.CAUSE). -/
inductive FreeErr where
  | notFound | staleHandle | doubleFree
  deriving DecidableEq, Repr

/-- Device-wide BPM registers (08). -/
structure Bpm where
  /-- The pools. -/
  pool : Vector Pool 16 := Vector.replicate 16 {}
  /-- BPM_EVENT. -/
  event : BitVec 16 := 0
  /-- BPM_FREE_ERR. -/
  freeErr : BitVec 16 := 0
  /-- BPM_FREE_ERR_COUNT, saturating. -/
  freeErrCount : U32 := 0
  /-- BPM_FREE_ERR_LAST: handle, port and cause while VALID. -/
  freeErrLast : Option (U32 × Nat × FreeErr) := none
  deriving DecidableEq, Repr

/-- One pip (R270). -/
structure Pip where
  /-- VALUE. -/
  value : U32 := 0
  /-- ERR as a status code; 0 is clear. -/
  err : BitVec 16 := 0
  deriving DecidableEq, Repr

/-- A block of general pips (PIP_ALLOC). -/
structure PipBlock where
  /-- First pip. -/
  first : Nat
  /-- Pips in the block. -/
  count : Nat
  /-- OPEN. -/
  open_ : Bool
  /-- Owning context. -/
  ctx : Nat
  deriving DecidableEq, Repr

/-- Who waits on a pip. -/
inductive WaitBy where
  /-- PIP_WAIT of a mailbox, by its SEQ; `due` is when its TIMEOUT_US passes. -/
  | command (mbx : Fin 16) (seq : BitVec 16) (due : Option Nat)
  /-- WAIT_PIP of a job. -/
  | job (id : U32)
  /-- A guarding wait of a work item. -/
  | item (id : Nat)
  deriving DecidableEq, Repr

/-- A registered waiter (R275). -/
structure Waiter where
  /-- Pip waited on. -/
  pip : Nat
  /-- True for WAIT_EQ, false for WAIT_GE. -/
  eq : Bool
  /-- Operand X. -/
  x : U32
  /-- Who waits. -/
  by_ : WaitBy
  deriving DecidableEq, Repr

/-- The pip store (09). -/
structure PipStore where
  /-- Pips whose value or error is not 0. -/
  pips : List (Nat × Pip) := []
  /-- Blocks of general pips that are allocated. -/
  blocks : List PipBlock := []
  /-- The watch table, in registration order, at most 16,384. -/
  watch : List Waiter := []
  /-- Waiters held outside the full table (R288). -/
  overflow : List Waiter := []
  /-- PIP_WATCH_USED.PEAK. -/
  peak : BitVec 15 := 0
  /-- PIP_WATCH_FULL, saturating. -/
  watchFull : U32 := 0
  /-- PIP_ECC_CE, saturating. -/
  eccCe : U32 := 0
  /-- PIP_ECC_UE, saturating. -/
  eccUe : U32 := 0
  /-- PIP_STALE_DROP, saturating. -/
  staleDrop : U32 := 0
  /-- PIP_REMOTE_REFUSED, saturating. -/
  remoteRefused : U32 := 0
  /-- PIP_POISONS, wrapping. -/
  poisons : U32 := 0
  deriving DecidableEq, Repr

/-- A loaded model (R161). -/
structure Model where
  /-- Owning context. -/
  ctx : Nat
  /-- Context address of the package. -/
  va : Nat
  /-- Device address of the package. -/
  pa : Nat
  /-- SIZE. -/
  size : Nat
  /-- Header bytes 0–127. -/
  header : List Byte
  /-- ROLE. -/
  role : Nat
  /-- CODEBOOKS. -/
  codebooks : Nat
  /-- FS_PEAK. -/
  fsPeak : Nat
  /-- WB_BYTES. -/
  wbBytes : Nat
  /-- VPU_LOCAL. -/
  vpuLocal : Nat
  /-- ENTRY_COUNT. -/
  entries : Nat
  /-- IN_W. -/
  inW : Nat
  /-- IN_H. -/
  inH : Nat
  /-- IN_C. -/
  inC : Nat
  /-- IN_FORMAT. -/
  inFormat : Nat
  /-- IN_LAYOUT: true C32. -/
  inC32 : Bool
  deriving DecidableEq, Repr

/-- An admitted instance (R163, R424). -/
structure Inst where
  /-- Owning context. -/
  ctx : Nat
  /-- Its model. -/
  model : Nat
  /-- First Feature Store granule of the partition. -/
  granule : Nat
  /-- Granules in the partition. -/
  granules : Nat
  /-- The frame or job it serves now (R35). -/
  serving : Option (Nat × U32) := none
  /-- That frame or job has been discarded; the instance is free, its plan pips clear, when the last step in an engine has
  ended (R287). -/
  cut : Bool := false
  deriving DecidableEq, Repr

/-- State of a job (JOB_QUERY). -/
inductive JobState where
  | queued | waiting | running | done
  deriving DecidableEq, Repr

/-- A job (R190, R191). -/
structure Job where
  /-- JOB_ID. -/
  id : U32
  /-- Owning context. -/
  ctx : Nat
  /-- Instance. -/
  inst : Nat
  /-- Entry plan. -/
  entry : Nat
  /-- Class. -/
  cls : Cls
  /-- DONE_PIP. -/
  donePip : Option Nat
  /-- WAIT_PIP. -/
  waitPip : Option Nat := none
  /-- IN_VA. -/
  inVa : Nat
  /-- OUT_VA. -/
  outVa : Nat
  /-- OUT_BYTES. -/
  outBytes : Nat
  /-- State. -/
  state : JobState
  /-- Frames of all slots that had completed INGEST when the job was accepted: its place among them (R35, R190). -/
  order : Nat
  /-- Clock at start. -/
  startedAt : Option Nat := none
  /-- RESULT once done. -/
  result : Status := .ok
  /-- RUN_US once done. -/
  runUs : Nat := 0
  /-- Completes with ABORTED_RESET when it leaves the engines (R157 step 2). -/
  abort : Bool := false
  deriving DecidableEq, Repr

/-- One entry of firmware's fault log (R169). -/
structure FaultEntry where
  /-- Device time. -/
  time : U64
  /-- Unit ID. -/
  unit : Nat
  /-- Epoch of the unit at the fault. -/
  epoch : BitVec 8
  /-- Status. -/
  status : Nat
  /-- Detail. -/
  detail : U32
  deriving DecidableEq, Repr

/-- Memory, contexts and their objects (05, 07). -/
structure MemSys where
  /-- Device memory: DRAM, Feature Store, Weight Buffers and VPU local memories; zero bytes are not listed. -/
  cells : List (Nat × Byte) := []
  /-- Lines (by device address / 64) whose inline ECC is not clean. -/
  ecc : List (Nat × EccErr) := []
  /-- Contexts 0–63. -/
  ctx : Vector Ctx 64 := (Vector.replicate 64 {}).set 0 { exists_ := true }
  /-- MMU_CTX_ROOTn (entry 0 is not used). -/
  root : Vector MmuRoot 64 := Vector.replicate 64 {}
  /-- Cached translations, most recently used first, at most 2,048. -/
  tlb : List Tlb := []
  /-- Table pages in use in firmware's reserved region: (context, device address). -/
  tables : List (Nat × Nat) := []
  /-- MEM_REGIONn. -/
  region : Vector MemRegion 8 := Vector.replicate 8 {}
  /-- The DRAM controllers. -/
  dmc : Vector Dmc 4 := Vector.replicate 4 {}
  /-- Loaded models by MODEL_ID. -/
  models : List (Nat × Model) := []
  /-- Instances by INST_ID. -/
  insts : List (Nat × Inst) := []
  /-- Jobs queued, waiting or running, in acceptance order. -/
  jobs : List Job := []
  /-- The last 1,024 completed jobs, newest first (R191). -/
  doneJobs : List Job := []
  /-- The next JOB_ID. -/
  nextJob : U32 := 0
  /-- Firmware's fault log, newest first, at most 4,096 entries. -/
  log : List FaultEntry := []
  /-- Index after the newest entry. -/
  logNext : Nat := 0
  deriving DecidableEq, Repr

end Sys2Proof.Machine
end

