-- ==== Sys2Proof/Machine/StateKeeper.lean ====
section
/-!
DEFINITION. State of the Keeper (20_safety), the unit gates (19_faults_and_partial_reset), the commands in
progress and the firmware switch (04, 19). Default values are the reset values (R13).
-/
namespace Sys2Proof.Machine
open Sys2Proof

/-- Stream-fault causes (R572). -/
inductive StreamCause where
  | source | deadline | sequence | noResult | start
  deriving DecidableEq, Repr

/-- The code of a cause, 1 to 5 (R572). -/
def StreamCause.code : StreamCause → Nat
  | .source => 1 | .deadline => 2 | .sequence => 3 | .noResult => 4 | .start => 5

/-- State of a supervised slot (R571). -/
inductive KprSlotState where
  | idle | starting | ok | fault
  deriving DecidableEq, Repr

/-- KPR_SLOTs_CFG.STATE. -/
def KprSlotState.code : KprSlotState → Nat
  | .idle => 0 | .starting => 1 | .ok => 2 | .fault => 3

/-- An arrival whose deadline is armed (R572). -/
structure Arrival where
  /-- Number of the frame, read from stage pip 0. -/
  seq : U32
  /-- End of INGEST on the model's clock. -/
  at_ : Nat
  /-- The stage-8 advance of this arrival is ignored (injection 0x02). -/
  ignored : Bool := false
  /-- Its deadline has tripped; the arrival is kept until its POST. -/
  tripped : Bool := false
  deriving DecidableEq, Repr

/-- One slot as the Keeper sees it (R571–R574). -/
structure KprSlot where
  /-- PERIOD_US. -/
  periodUs : U32 := 0
  /-- STATE. -/
  state : KprSlotState := .idle
  /-- CAUSE: bit `code − 1` for each latched cause. -/
  cause : BitVec 5 := 0
  /-- SAFETY_SEQ. -/
  safetySeq : U32 := 0
  /-- LAST_ARRIVAL. -/
  lastArrival : U32 := 0
  /-- The first arrival has come; when the last came, on the model's clock. -/
  lastArrivalAt : Option Nat := none
  /-- Arrivals whose deadline has not been met. -/
  armed : List Arrival := []
  /-- End of INGEST of the frame of the last OK record. -/
  lastOkAt : Option Nat := none
  /-- The latched cause is gone: an OK record was posted since the fault, or supervision ended (R574). -/
  okSince : Bool := false
  /-- SOURCE has tripped and no arrival has come since (R572). -/
  sourceTripped : Bool := false
  /-- When supervision started. -/
  startAt : Nat := 0
  /-- Arrival reports are ignored until this time (injection 0x01). -/
  ignoreUntil : Option Nat := none
  deriving DecidableEq, Repr

/-- The slot when its supervision ends: a latched cause stays until SAFETY_CLEAR (R571, R574; 20, When things fall
together). -/
def KprSlot.ended (k : KprSlot) : KprSlot :=
  { periodUs := k.periodUs, safetySeq := k.safetySeq, lastArrival := k.lastArrival, cause := k.cause, okSince := k.cause != 0 }

/-- One Keeper fault-log entry (20, Registers and fields). -/
structure KprEntry where
  /-- KTICK. -/
  ktick : U32 := 0
  /-- BOOTS. -/
  boots : U32 := 0
  /-- DEVTIME. -/
  devTime : U64 := 0
  /-- CLASS. -/
  cls : BitVec 8 := 0
  /-- CAUSE. -/
  cause : BitVec 8 := 0
  /-- WHO. -/
  who : BitVec 8 := 0
  /-- FLAGS. -/
  flags : BitVec 8 := 0
  /-- VALUE. -/
  value : U32 := 0
  deriving DecidableEq, Repr

/-- The Keeper (20). -/
structure Keeper where
  /-- SAFE_N is released (KPR_STATUS.SAFE). -/
  safe : Bool := false
  /-- ARMED. -/
  armed : Bool := false
  /-- SAFETY_LOCK in force, and its code (R196). -/
  lock : Option U64 := none
  /-- Level of BEACON. -/
  beacon : Bool := false
  /-- READY_SEEN. -/
  readySeen : Bool := false
  /-- Device-fault stop in force (R563). -/
  stopped : Bool := false
  /-- KPR_FAULT. -/
  fault : BitVec 11 := 0
  /-- KPR_CAUSE. -/
  live : BitVec 11 := 0
  /-- KPR_EVENT. -/
  event : BitVec 4 := 0
  /-- KPR_EVENT_EN. -/
  eventEn : BitVec 4 := 0xB
  /-- KPR_TICK. -/
  tick : U32 := 0
  /-- The release of POR_N, from which KPR_TICK counts, on the model's clock (R569). -/
  tickFrom : Nat := 0
  /-- The last change of BEACON's level, on the model's clock (R582). -/
  beaconAt : Nat := 0
  /-- The last self-test, or the release of POR_N, on the model's clock (R570). -/
  selfAt : Nat := 0
  /-- KPR_LOG_COUNT. -/
  logCount : U32 := 0
  /-- KPR_BOOTS. -/
  boots : U32 := 0
  /-- The fault log. -/
  log : Vector KprEntry 64 := Vector.replicate 64 {}
  /-- The slots. -/
  slot : Vector KprSlot 64 := Vector.replicate 64 {}
  /-- KPR_WDOG.LAST. -/
  wdogLast : BitVec 8 := 0
  /-- Start of the watchdog window on the model's clock; none before stage 0x07. -/
  wdogAt : Option Nat := none
  /-- Pending injection: MECH and TARGET (R585). -/
  inject : Option (Nat × Nat) := none
  /-- The fault being latched comes from an injection. -/
  injecting : Bool := false
  /-- The live units that firmware gave it at stage 0x0D: bit `u` for unit `u` (R103). -/
  units : BitVec 56 := 0
  /-- CLK_CORE cycles expected so far in the 100 µs window in progress, in fifteenths of a cycle; none while the clocks are
  not checked (R44). -/
  winExp : Option Nat := none
  /-- The same for the last window that ended and has not been compared yet (R44). -/
  winDone : Option Nat := none
  deriving DecidableEq, Repr

/-- What an automatic or commanded unit sequence does next (R549, R550). -/
inductive UnitSeq where
  | reset | powerOn
  deriving DecidableEq, Repr

/-- One gate (UNIT_GATEu; R545–R552). -/
structure UnitGate where
  /-- EPOCH. -/
  epoch : BitVec 8 := 0
  /-- CLOSED. -/
  closed : Bool := false
  /-- FENCED. -/
  fenced : Bool := false
  /-- POWERED. -/
  powered : Bool := false
  /-- POWER_UNIT turned it off (02, Power states). -/
  userOff : Bool := false
  /-- DRAINING. -/
  draining : Bool := false
  /-- STALE_DROPS, saturating. -/
  staleDrops : U32 := 0
  /-- Last automatic reset, on the model's clock (R551). -/
  lastAuto : Option Nat := none
  /-- The sequence in progress. -/
  seq : Option UnitSeq := none
  /-- When the gate closed or the power-on command came. -/
  seqAt : Nat := 0
  /-- When its domain was last turned on, on the model's clock (R103). -/
  poweredAt : Option Nat := none
  /-- Tombstones sent at the closure: requests the unit had accepted and not answered (R546). -/
  tombstones : Nat := 0
  deriving DecidableEq, Repr

/-- What a command in progress waits for. -/
inductive WaitFor where
  | ctxDestroy (ctx : Nat) | power (target : PowerState) | pip (pip : Nat)
  | probe (tower : Nat) | flashWrite | fwSwitch | fuse (op : OtpOp) | streamStop (slot : Nat)
  | job (id : U32) | ckptNow (slot : Nat) | ckptRestore (slot win : Nat)
  | resetUnit (unit : Nat) | powerUnit (unit : Nat) | linkFlush (peer : Nat)
  | poolAlloc (pool : Nat)
  /-- An asynchronous MODEL_LOAD: context, package address and length (R161, R162). -/
  | modelLoad (ctx va bytes : Nat)
  /-- An asynchronous UNIT_FENCE with FENCE = 0: the unit's self-test runs (R199, R206). -/
  | unitFence (unit : Nat)
  deriving DecidableEq, Repr

/-- A command whose execution goes on after its consumption. -/
structure Running where
  /-- Mailbox. -/
  mbx : Fin 16
  /-- Command code. -/
  op : Nat
  /-- SEQ. -/
  seq : BitVec 16
  /-- NO_IRQ. -/
  noIrq : Bool
  /-- Accepted as asynchronous: a PENDING response was posted. -/
  async : Bool
  /-- What it waits for. -/
  wait : WaitFor
  /-- Result once it has completed: status and response data (bytes 16–63). -/
  done : Option (Status × List Byte) := none
  deriving DecidableEq, Repr

/-- Phase of a firmware switch (R139, R558). -/
inductive FwPhase where
  | none | check | drain | handover
  deriving DecidableEq, Repr

/-- The firmware switch and firmware's flash command state. -/
structure Fw where
  /-- Phase. -/
  phase : FwPhase := .none
  /-- The image being switched to. -/
  image : ImgSlot := .none
  /-- BOOT_IMAGE and SEC_VERSION of that image. -/
  version : U32 := 0
  /-- SEC_VERSION of that image. -/
  secVersion : BitVec 8 := 0
  /-- When the phase began. -/
  phaseAt : Nat := 0
  /-- Pages and blocks of the FLASH_WRITE in progress that are still to do. -/
  flashTodo : List FlashOp := []
  /-- FLASH_WRITE: bytes programmed so far. -/
  flashAt : Nat := 0
  /-- FLASH_WRITE or FUSE command waiting for the guard: since when (R69). -/
  guardWait : Option Nat := none
  /-- FUSE operation waiting for the guard. -/
  fuseTodo : Option OtpOp := none
  deriving DecidableEq, Repr

end Sys2Proof.Machine
end

