-- ==== Sys2Proof/Machine/StateLink.lean ====
section
/-!
DEFINITION. State of the Lofin ports (16_lofin_link), the Lantern ports (17_lantern_optics) and checkpoints
(18_checkpoint). Default values are the reset values (R13).
-/
namespace Sys2Proof.Machine
open Sys2Proof

/-- A packet: its 32-byte header flit and its data flits (R481). -/
structure Packet where
  /-- Header. -/
  hdr : List Byte
  /-- Content of the data flits. -/
  data : List Byte := []
  deriving DecidableEq, Repr

/-- Port state (LFN_STATUS.STATE). -/
inductive LinkState where
  | down | training | up | failed
  deriving DecidableEq, Repr

/-- LFN_STATUS.STATE. -/
def LinkState.code : LinkState → Nat
  | .down => 0 | .training => 1 | .up => 2 | .failed => 3

/-- A packet in an output queue. -/
structure OutPkt where
  /-- The packet. -/
  pkt : Packet
  /-- Port it arrived on; none when this device originated it. -/
  from_ : Option Nat
  /-- When it was queued. -/
  at_ : Nat
  deriving DecidableEq, Repr

/-- A flit in a replay buffer. -/
structure ReplayFlit where
  /-- FSEQ. -/
  fseq : BitVec 12
  /-- The 32 content bytes. -/
  content : List Byte
  /-- Header flit. -/
  header : Bool
  /-- The packet that the flit belongs to. -/
  pkt : OutPkt
  deriving DecidableEq, Repr

/-- One Lofin port (R476–R480 and Registers). -/
structure LfnPort where
  /-- STATE. -/
  state : LinkState := .down
  /-- LANES: 0, 1, 2 or 4. -/
  lanes : BitVec 3 := 0
  /-- PEER. -/
  peer : BitVec 7 := 0x7F
  /-- LFN_CRC_ERR, saturating. -/
  crcErr : U32 := 0
  /-- LFN_REPLAYS, saturating. -/
  replays : U32 := 0
  /-- LFN_RETRAINS, saturating. -/
  retrains : U32 := 0
  /-- LFN_LINK_DOWNS, saturating. -/
  linkDowns : U32 := 0
  /-- LFN_DISCARDS, saturating. -/
  discards : U32 := 0
  /-- LFN_TX_FLITS, wrapping. -/
  tx : U32 := 0
  /-- LFN_RX_FLITS, wrapping. -/
  rx : U32 := 0
  /-- Failed training attempts in a row (R477). -/
  attempts : Nat := 0
  /-- The port is wanted up: LINK_PORT OP 1 without a later OP 2. -/
  wantUp : Bool := false
  /-- A retrain is in progress (R479). -/
  retraining : Bool := false
  /-- When the training attempt or the retrain times out; none while neither runs. -/
  trainDue : Option Nat := none
  /-- Next FSEQ to send. -/
  nextSeq : BitVec 12 := 0
  /-- Replay buffer, oldest first, at most 1,024. -/
  replay : List ReplayFlit := []
  /-- Replays with no progress in ACK. -/
  stuck : Nat := 0
  /-- Credits held for VC0, VC1, VC2. -/
  credits : List Nat := [128, 128, 16]
  /-- Credits to return for VC0, VC1, VC2. -/
  owed : List Nat := [0, 0, 0]
  /-- FSEQ of the last flit received good and in order. -/
  lastGood : BitVec 12 := 0xFFF
  /-- Flits are discarded until the replay arrives. -/
  waitReplay : Bool := false
  /-- There is something to acknowledge. -/
  ackDue : Bool := false
  /-- A NAK is to be sent. -/
  nakDue : Bool := false
  /-- The packet being received, with its missing data flits. -/
  partial_ : Option (Packet × Nat) := none
  /-- Packets received whole in the VC buffers, oldest first. -/
  inbox : List Packet := []
  /-- Output queue of VC0. -/
  q0 : List OutPkt := []
  /-- Output queue of VC1. -/
  q1 : List OutPkt := []
  /-- Output queue of VC2. -/
  q2 : List OutPkt := []
  /-- Optical port: lines marked bad by the Lantern port (R518). -/
  badLines : BitVec 8 := 0
  deriving DecidableEq, Repr

/-- The export window for a peer (R201, R487–R489). -/
structure Window where
  /-- The window is open. -/
  open_ : Bool := false
  /-- PERM: [0] write, [1] read, [2] signal. -/
  perm : BitVec 8 := 0
  /-- Context. -/
  ctx : Nat := 0
  /-- Pages of 4,096 bytes. -/
  pages : Nat := 0
  /-- Context address of offset 0. -/
  va : Nat := 0
  /-- First pip open to the peer. -/
  pipFirst : Nat := 0
  /-- Pips open to the peer. -/
  pipCount : Nat := 0
  /-- Window epoch, 1–255; 0 before the first open. -/
  epoch : BitVec 8 := 0
  deriving DecidableEq, Repr

/-- What an initiator knows of a peer's window (R488, R489). -/
structure PeerWin where
  /-- WEPOCH. -/
  epoch : BitVec 8
  /-- PERM. -/
  perm : BitVec 8
  /-- PAGES. -/
  pages : Nat
  /-- PIP_FIRST. -/
  pipFirst : Nat
  /-- PIP_COUNT. -/
  pipCount : Nat
  deriving DecidableEq, Repr

/-- Who made a remote request. -/
inductive RemoteBy where
  /-- A job. -/
  | job (id : U32)
  /-- A frame. -/
  | frame (slot : Nat) (seq : U32)
  /-- The checkpoint writer of a slot. -/
  | ckpt (slot : Nat)
  /-- LINK_FLUSH of a mailbox. -/
  | flushCmd (mbx : Fin 16) (seq : BitVec 16)
  /-- Firmware. -/
  | firmware
  deriving DecidableEq, Repr

/-- A request held until a WINDOW arrives (R488). -/
structure HeldReq where
  /-- Target. -/
  dst : Nat
  /-- The packet with WEPOCH not filled in. -/
  pkt : Packet
  /-- Requester. -/
  by_ : RemoteBy
  deriving DecidableEq, Repr

/-- Write counts of one source and generation (R493). -/
structure GenCount where
  /-- Source. -/
  src : Nat
  /-- Generation. -/
  gen : BitVec 8
  /-- Performed (P). -/
  p : Nat := 0
  /-- Failed (J). -/
  j : Nat := 0
  deriving DecidableEq, Repr

/-- A READ_REQ, PIP_SIGNAL or FLUSH waiting for its write count (R493). -/
structure CountWait where
  /-- The packet. -/
  pkt : Packet
  /-- When it arrived. -/
  at_ : Nat
  /-- The port that delivered it. -/
  port : Nat := 0
  deriving DecidableEq, Repr

/-- A remote read waiting for its response (R491). -/
structure RemoteRead where
  /-- TAG. -/
  tag : BitVec 16
  /-- Target. -/
  dst : Nat
  /-- Requester. -/
  by_ : RemoteBy
  /-- When it fails. -/
  due : Nat
  deriving DecidableEq, Repr

/-- A FLUSH waiting for its FLUSH_ACK (R494). -/
structure FlushOut where
  /-- Target. -/
  dst : Nat
  /-- Generation. -/
  gen : BitVec 8
  /-- WCOUNT sent. -/
  wcount : Nat
  /-- Requester. -/
  by_ : RemoteBy
  /-- When it fails. -/
  due : Nat
  deriving DecidableEq, Repr

/-- A notice waiting to be sent (R495). -/
structure Notice where
  /-- The failed packet's header (the first failure). -/
  hdr : List Byte
  /-- CAUSE. -/
  cause : Nat
  /-- COUNT. -/
  count : Nat
  deriving DecidableEq, Repr

/-- A flush that waits for the spacing of R494. -/
structure FlushWait where
  /-- Target. -/
  dst : Nat
  /-- Requester. -/
  by_ : RemoteBy
  deriving DecidableEq, Repr

/-- The device's side of Lofin Link (16). -/
structure Lofin where
  /-- LFN0–LFN3. -/
  port : Vector LfnPort 4 := Vector.replicate 4 {}
  /-- LFN_DEV_ID. -/
  devId : BitVec 7 := 0x7F
  /-- LFN_ERR_DROPPED, saturating. -/
  errDropped : U32 := 0
  /-- LFN_LATE_DROP, saturating. -/
  lateDrop : U32 := 0
  /-- LFN_STALE_RSP, saturating. -/
  staleRsp : U32 := 0
  /-- LFN_BAD_PACKET, saturating. -/
  badPacket : U32 := 0
  /-- LFN_NOTICES, wrapping. -/
  notices : U32 := 0
  /-- LFN_ROUTEd. -/
  route : Vector (BitVec 4) 128 := Vector.replicate 128 0
  /-- Export windows by peer. -/
  win : List (Nat × Window) := []
  /-- Peers whose window is known since their route last came up. -/
  known : List (Nat × PeerWin) := []
  /-- Peers queried, with when the hold ends. -/
  query : List (Nat × Nat) := []
  /-- Requests held for a WINDOW, oldest first. -/
  held : List HeldReq := []
  /-- Per target: FGEN and the writes sent in it. -/
  gen : List (Nat × (BitVec 8 × Nat)) := []
  /-- Per source and generation: P and J. -/
  counts : List GenCount := []
  /-- Per source: the last generation closed by a FLUSH_ACK. -/
  closed : List (Nat × BitVec 8) := []
  /-- Requests waiting for their write count. -/
  waiting : List CountWait := []
  /-- Remote reads outstanding. -/
  reads : List RemoteRead := []
  /-- Flushes outstanding. -/
  flushes : List FlushOut := []
  /-- Targets within 10 µs of their last FLUSH_ACK, with the end of that time. -/
  spacing : List (Nat × Nat) := []
  /-- Flushes waiting for the spacing. -/
  flushWait : List FlushWait := []
  /-- Notices waiting to be sent, oldest first. -/
  noticeQ : List Notice := []
  /-- Remote Error Ring: BASE and LOG2 once set (R497). -/
  rer : Option (U64 × Nat) := none
  /-- PRODUCER. -/
  producer : U32 := 0
  /-- CONSUMER as last read. -/
  consumer : U32 := 0
  /-- DROPPED, saturating. -/
  dropped : U32 := 0
  /-- Ring entries, with their TIME, that found the ring full and wait until CONSUMER is read, oldest first (R497). -/
  rerHeld : List (List Byte) := []
  /-- When CONSUMER is next due to be read while REMOTE_ERR is 1 (R497). -/
  rerDue : Option Nat := none
  /-- INT_STATUS.REMOTE_ERR. -/
  remoteErr : Bool := false
  /-- The next TAG. -/
  nextTag : BitVec 16 := 0
  deriving DecidableEq, Repr

/-- Lantern port state (LTN_STATUS.STATE). -/
inductive LtnState where
  | off | cal | acquire | locked | dark | fault
  deriving DecidableEq, Repr

/-- LTN_STATUS.STATE. -/
def LtnState.code : LtnState → Nat
  | .off => 0 | .cal => 1 | .acquire => 2 | .locked => 3 | .dark => 4 | .fault => 5

/-- Lantern fault causes (LTN_STATUS.CAUSE). -/
inductive LtnCause where
  | none | acquire | ring | heater | monitor
  deriving DecidableEq, Repr

/-- LTN_STATUS.CAUSE. -/
def LtnCause.code : LtnCause → Nat
  | .none => 0 | .acquire => 1 | .ring => 2 | .heater => 3 | .monitor => 4

/-- Relock phase of a ring (R518). -/
inductive Relock where
  | none | hold (periods : Nat) | sweep (step : Nat) | fine
  deriving DecidableEq, Repr

/-- One ring (R505–R518). -/
structure Ring where
  /-- HEATER: D_r. -/
  heater : BitVec 14 := 0
  /-- DETUNE: d_r in signed units of 0.1 pm. -/
  detune : BitVec 16 := 0
  /-- S_r, signed 16.16. -/
  slope : U32 := 0
  /-- Codes between the assigned resonance and the next line's (ν_r = line spacing / codes). -/
  codes : Nat := 0
  /-- Y_r, in the units of S (2^-16). -/
  target : Int := 0
  /-- LOCKED bit. -/
  locked : Bool := false
  /-- The target's code as its sweep found it, held while the chain's other rings are swept (R516). -/
  rest : BitVec 14 := 0
  /-- Consecutive periods in the window. -/
  good : Nat := 0
  /-- Relock phase. -/
  relock : Relock := .none
  /-- When the ring was declared unlocked. -/
  unlockedAt : Nat := 0
  /-- The heater is faulty (R523). -/
  faulty : Bool := false
  deriving DecidableEq, Repr

/-- Phase of a chain's acquisition (R516). -/
inductive ChainPhase where
  /-- No light qualified yet. -/
  | idle
  /-- Sweeping ring `ring` at step `step`. -/
  | sweep (ring : Nat) (step : Nat)
  /-- Fine lock. -/
  | fine
  /-- Locked. -/
  | locked
  deriving DecidableEq, Repr

/-- One monitor chain (R507, R512–R514, R520). -/
structure Chain where
  /-- Range in use. -/
  range : BitVec 2 := 3
  /-- M[0], M[1], M[2] in 16.16. -/
  ratio : Vector U32 3 := Vector.replicate 3 0
  /-- Requested range. -/
  request : Option (BitVec 2) := none
  /-- Blanking is in progress. -/
  blank : Bool := false
  /-- Integrators are frozen. -/
  frozen : Bool := false
  /-- Full periods since blanking ended, while the exception of R514 is in force. -/
  sinceChange : Option Nat := none
  /-- The chain is dark. -/
  dark : Bool := false
  /-- Acquisition. -/
  phase : ChainPhase := .idle
  /-- When the light that qualified the chain began. -/
  qualifiedAt : Option Nat := none
  /-- When the present dwell of a sweep began (R516). -/
  dwellAt : Nat := 0
  /-- The range changed before the present dwell, which is repeated (R516). -/
  again : Bool := false
  /-- When blanking began (R513). -/
  blankAt : Nat := 0
  /-- The millisecond of device time at which the present integration interval begins (R506, R508). -/
  since : Nat := 0
  /-- The millisecond of device time of the last dither-period boundary (R506). -/
  period : Nat := 0
  deriving DecidableEq, Repr

/-- One Lantern port (17). Ring `r < 8` and chain 0 are TX; rings 8–15 and chain 1 are RX. -/
structure Ltn where
  /-- STATE. -/
  state : LtnState := .off
  /-- OVERLOAD. -/
  overload : Bool := false
  /-- CAUSE. -/
  cause : LtnCause := .none
  /-- AUTO_RANGE. -/
  autoRange : Bool := true
  /-- TINT: true 10 periods. -/
  tint10 : Bool := false
  /-- GAIN. -/
  gain : BitVec 4 := 8
  /-- DITHER_AMP. -/
  dither : BitVec 6 := 8
  /-- MOD_OFFSET. -/
  modOffset : BitVec 6 := 0x1E
  /-- LIGHT_MIN. -/
  lightMin : BitVec 8 := 0x10
  /-- LTN_LIMIT. -/
  limit : BitVec 16 := 0
  /-- LTN_UNLOCKS, saturating. -/
  unlocks : U32 := 0
  /-- LTN_DARK_COUNT, saturating. -/
  darkCount : U32 := 0
  /-- LTN_RANGE_SWITCHES, wrapping. -/
  switches : U32 := 0
  /-- LTN_RELOCKS, wrapping. -/
  relocks : U32 := 0
  /-- Rings. -/
  ring : Vector Ring 16 := Vector.replicate 16 {}
  /-- TX and RX chains. -/
  chain : Vector Chain 2 := Vector.replicate 2 {}
  /-- A warm relock is in progress since (R522). -/
  warm : Option Nat := none
  /-- The TX laser input was lost while this port was acquiring: it resumes from CAL. -/
  resumeCal : Bool := false
  /-- When LINK_PORT OP 1 or a reset started the port (R519). -/
  upAt : Option Nat := none
  /-- Entry to CAL. -/
  calAt : Nat := 0
  /-- Entry to ACQUIRE. -/
  acquireAt : Nat := 0
  deriving DecidableEq, Repr

/-- A checkpoint window (R193, R527). -/
inductive CkptWin where
  /-- KIND 0: host extents (address, length). -/
  | host (extents : List (Nat × Nat))
  /-- KIND 1: a range of a peer's export window. -/
  | peer (dev : Nat) (offset : Nat) (bytes : Nat)
  deriving DecidableEq, Repr

/-- Progress of a checkpoint (R531–R534). -/
inductive CkptPhase where
  | waiting | snapshot | copy | reduce | flush1 | flush2
  deriving DecidableEq, Repr

/-- A checkpoint in progress or waiting. -/
structure CkptRun where
  /-- Slot. -/
  slot : Nat
  /-- It was asked for by CKPT_NOW. -/
  now : Bool
  /-- Phase. -/
  phase : CkptPhase
  /-- Window index and context, SHARDS, as at the trigger. -/
  ctx : Nat
  /-- Window. -/
  win : Nat
  /-- SHARDS. -/
  shards : Nat
  /-- The clock at which it fired (R531). -/
  firedAt : Nat := 0
  /-- NUMBER, once the snapshot has begun. -/
  num : U32 := 0
  /-- Feature Store granules taken: first and count. -/
  fs : Option (Nat × Nat) := none
  /-- Snapshot bytes: the shards, STREAM first, without padding. -/
  snap : List (List Byte) := []
  /-- TIME. -/
  time : U64 := 0
  /-- FRAME_SEQ. -/
  frameSeq : U32 := 0xFFFFFFFF
  /-- The finished manifest, kept until its step of R534. -/
  manifest : List Byte := []
  /-- BYTES of the response. -/
  bytes : Nat := 0
  /-- TAG of the writer's packets. -/
  tag : BitVec 16 := 0
  deriving DecidableEq, Repr

/-- A slot's checkpoint configuration and history (R194, R195, R528, R530). -/
structure CkptSlot where
  /-- Window; none when not configured. -/
  win : Option Nat := none
  /-- TRIGGER: 0 none, 1 timer, 2 frames. -/
  trigger : Nat := 0
  /-- PERIOD. -/
  period : Nat := 0
  /-- SHARDS. -/
  shards : Nat := 0
  /-- The next checkpoint number. -/
  number : U32 := 0
  /-- Frames through TRACK since the last snapshot. -/
  frames : Nat := 0
  /-- T0 of the timer, device time. -/
  t0 : Nat := 0
  /-- The timer's next k. -/
  k : Nat := 1
  /-- The last completed checkpoint: NUMBER, FRAME_SEQ, TIME, status. -/
  last : Option (U32 × U32 × U64 × Status) := none
  /-- SKIPPED. -/
  skipped : U32 := 0
  /-- FAILED. -/
  failed : U32 := 0
  deriving DecidableEq, Repr

/-- Checkpoints (18). -/
structure Ckpt where
  /-- Windows by (context, index), as context × 16 + index. -/
  win : List (Nat × CkptWin) := []
  /-- Per slot. -/
  slot : Vector CkptSlot 64 := Vector.replicate 64 {}
  /-- Checkpoints in progress and waiting, in fire order. -/
  run : List CkptRun := []
  deriving DecidableEq, Repr

end Sys2Proof.Machine
end

