-- ==== Sys2Proof/Machine/StateIngest.lean ====
section
/-!
DEFINITION. State of the stream slots' configuration, the time base and the sources (11_ingest, 06 streams and
Ethernet). Default values are the reset values (R13).
-/
namespace Sys2Proof.Machine
open Sys2Proof

/-- Slot states (R182). -/
inductive SlotState where
  | free | configured | running | stale | stopping
  deriving DecidableEq, Repr

/-- STREAM_STATUS state code (R182). -/
def SlotState.code : SlotState → Nat
  | .free => 0 | .configured => 1 | .running => 2 | .stale => 3 | .stopping => 4

/-- Kinds of source (R183). -/
inductive SrcType where
  | csi | rtp | host
  deriving DecidableEq, Repr

/-- Codecs. -/
inductive Codec where
  | h264 | h265
  deriving DecidableEq, Repr

/-- STREAM_SOURCE (R183). -/
structure SrcCfg where
  /-- TYPE. -/
  type : SrcType
  /-- PORT. -/
  port : Nat
  /-- VC. -/
  vc : Nat
  /-- DT. -/
  dt : Nat
  /-- CODEC. -/
  codec : Codec
  /-- SESSION. -/
  session : Nat
  /-- WIDTH. -/
  width : Nat
  /-- HEIGHT. -/
  height : Nat
  /-- PERIOD_US. -/
  periodUs : Nat
  /-- RING_BASE. -/
  ringBase : Nat
  /-- RING_LOG2. -/
  ringLog2 : Nat
  /-- LINE_T, 0 read as the default. -/
  lineT : Nat
  /-- FRAME_T, 0 read as the default. -/
  frameT : Nat
  /-- ASSY_T, 0 read as the default. -/
  assyT : Nat
  deriving DecidableEq, Repr

/-- STREAM_ANALYTICS (R184). -/
structure AnaCfg where
  /-- CLASS. -/
  cls : Cls
  /-- CROP_LIMIT. -/
  cropLimit : Nat
  /-- Detector instance. -/
  det : Nat
  /-- Embedder instance. -/
  emb : Option Nat
  /-- SRC_POOL. -/
  srcPool : Nat
  /-- FRAME_POOL. -/
  framePool : Option Nat
  /-- CROP_POOL. -/
  cropPool : Option Nat
  /-- REC_POOL. -/
  recPool : Nat
  /-- RETAIN. -/
  retain : Nat
  /-- SHED. -/
  shed : Nat
  deriving DecidableEq, Repr

/-- STREAM_RESULT (R185). -/
inductive ResCfg where
  /-- A result ring: base, log2, count, timeout, vector are in the ring registers. -/
  | ring
  /-- A UDP flow. -/
  | flow (flow : Nat)
  deriving DecidableEq, Repr

/-- STREAM_TRACK (R187). Defaults of R445. -/
structure TrackPar where
  /-- NMS_MODE. -/
  nmsMode : Nat := 0
  /-- MIN_HITS. -/
  minHits : Nat := 3
  /-- TOPK. -/
  topK : Nat := 1024
  /-- SCORE_MIN, UNORM16. -/
  scoreMin : Nat := 0x4CCC
  /-- IOU_NMS, UNORM16. -/
  iouNms : Nat := 0x7333
  /-- NMS_MAX. -/
  nmsMax : Nat := 1024
  /-- MAX_AGE. -/
  maxAge : Nat := 30
  /-- W_EMB, UNORM16. -/
  wEmb : Nat := 0x8000
  deriving DecidableEq, Repr

/-- The open frame of a slot. -/
structure OpenFrame where
  /-- Capture time in device time. -/
  capture : U64
  /-- Its source buffer, once granted. -/
  buf : Option U32 := none
  /-- Request failed: not captured (R325). -/
  lost : Bool := false
  /-- The slot was shed when it opened (R318). -/
  shed : Bool := false
  /-- Damaged so far. -/
  damaged : Bool := false
  /-- Lines received. -/
  lines : Nat := 0
  /-- Length in bytes of the first line. -/
  lineBytes : Nat := 0
  /-- Bytes received while the request waits at a pool that is being rebuilt, by offset in the buffer (R267). -/
  held : List (Nat × List Byte) := []
  /-- RTP timestamp. -/
  ts : U32 := 0
  /-- Bytes written so far. -/
  size : Nat := 0
  /-- A write into its buffer was refused or not performed (R219, R239). -/
  refused : Bool := false
  /-- RTP: device time at which the packet that ends it came (R331). -/
  endAt : Option U64 := none
  deriving DecidableEq, Repr

/-- Why the slot last lost its source (ING_SLOT.CAUSE). -/
inductive LossCause where
  | none | line | frame | monitor
  deriving DecidableEq, Repr

/-- ING_SLOT.CAUSE. -/
def LossCause.code : LossCause → Nat
  | .none => 0 | .line => 1 | .frame => 2 | .monitor => 3

/-- One slot's ingest state (11). -/
structure Ingest where
  /-- ING_SLOT.RING_HALT. -/
  ringHalt : Bool := false
  /-- ING_SLOT.CAUSE. -/
  cause : LossCause := .none
  /-- The open frame. -/
  open_ : Option OpenFrame := none
  /-- E: end time of the last frame that completed INGEST, device time. -/
  lastEnd : U64 := 0
  /-- Due times of R350 already passed, up to the last one that was taken. -/
  k : Nat := 0
  /-- The line timer runs and falls due at this time. -/
  lineDue : Option Nat := none
  /-- The frame timer. -/
  frameDue : Option Nat := none
  /-- The assembly timer. -/
  assyDue : Option Nat := none
  /-- Host ring: CONSUMER. -/
  consumer : Nat := 0
  /-- Host ring: CONSUMED. -/
  consumed : U32 := 0
  /-- Host ring: PRODUCER as last read. -/
  producer : Nat := 0
  /-- Host ring: when PRODUCER is next read (R345). -/
  pollDue : Nat := 0
  /-- The slot is shed (R318). -/
  shed : Bool := false
  /-- The receiver or port is fenced: stale records carry FAULT (R554). -/
  fenced : Bool := false
  deriving DecidableEq, Repr

/-- One CSI receiver (R332–R336). -/
structure Csi where
  /-- LANES: 0 none, 1, 2, 3 for four. -/
  lanes : BitVec 2 := 0
  /-- LOCKED. -/
  locked : Bool := false
  /-- LANE_FAULT. -/
  laneFault : Bool := false
  /-- CSI_ECC_CE, saturating. -/
  eccCe : U32 := 0
  /-- CSI_ECC_UE, saturating. -/
  eccUe : U32 := 0
  /-- CSI_CRC_ERR, saturating. -/
  crcErr : U32 := 0
  /-- CSI_UNBOUND, saturating. -/
  unbound : U32 := 0
  deriving DecidableEq, Repr

/-- An RTP session's configuration (ETH_SESSION, R204). Addresses are 128-bit numbers, most significant byte first. -/
structure SessCfg where
  /-- PORT. -/
  port : Nat
  /-- CODEC. -/
  codec : Codec
  /-- PT. -/
  pt : Nat
  /-- VLAN expected; 0xFFFF is untagged. -/
  vlan : Nat
  /-- LOCAL_PORT. -/
  udp : Nat
  /-- SSRC; 0 locks to the first. -/
  ssrc : Nat
  /-- LOCAL_IP. -/
  laddr : Nat
  /-- REMOTE_IP; 0 any. -/
  raddr : Nat
  deriving DecidableEq, Repr

/-- A packet in the reorder window. -/
structure RtpPkt where
  /-- Sequence number. -/
  seq : U16
  /-- Timestamp. -/
  ts : U32
  /-- Marker. -/
  marker : Bool
  /-- Payload. -/
  payload : List Byte
  /-- Device time of arrival (start of frame). -/
  sof : U64
  /-- Clock of arrival. -/
  at_ : Nat
  deriving DecidableEq, Repr

/-- An RTP session at work (R338–R342). -/
structure Sess where
  /-- Configuration while the session is valid. -/
  cfg : Option SessCfg := none
  /-- Locked SSRC. -/
  ssrc : Option U32 := none
  /-- Next sequence number expected. -/
  next : Option U16 := none
  /-- Packets held for order, by distance from `next`. -/
  held : List RtpPkt := []
  /-- A gap was declared since the last packet in order (R341, R342). -/
  gap : Bool := false
  /-- The NAL unit being reassembled from fragments (R339). -/
  fu : Option (List Byte) := none
  deriving DecidableEq, Repr

/-- ETH_PTP of a port (R204). -/
structure PtpCfg where
  /-- ENABLE. -/
  en : Bool := false
  /-- DOMAIN. -/
  domain : Nat := 0
  /-- TRANSPORT. -/
  transport : Nat := 0
  deriving DecidableEq, Repr

/-- A datagram queued at a port (R471). -/
structure Datagram where
  /-- Egress priority. -/
  prio : Nat
  /-- The Ethernet payload. -/
  bytes : List Byte
  deriving DecidableEq, Repr

/-- One Ethernet port. -/
structure Eth where
  /-- SPEED: 0 off, 1 10GBASE-R, 2 25GBASE-R. -/
  speed : BitVec 2 := 0
  /-- MAX_FRAME. -/
  maxFrame : Nat := 64
  /-- MAC. -/
  mac : BitVec 48 := 0
  /-- PCS lock. -/
  up : Bool := false
  /-- ETH_STATS counters (R204), wrapping. -/
  stat : Vector U64 6 := Vector.replicate 6 0
  /-- ING_ETH_DROP_FILTER, saturating. -/
  dropFilter : U32 := 0
  /-- ING_ETH_DROP_IP, saturating. -/
  dropIp : U32 := 0
  /-- ING_ETH_DROP_RTP, saturating. -/
  dropRtp : U32 := 0
  /-- ING_ETH_DROP_LATE, saturating. -/
  dropLate : U32 := 0
  /-- PTP. -/
  ptp : PtpCfg := {}
  /-- Egress queue, oldest first. -/
  queue : List Datagram := []
  deriving DecidableEq, Repr

/-- A neighbour entry (ETH_NEIGHBOUR). -/
structure Neigh where
  /-- MAC. -/
  mac : BitVec 48
  /-- VLAN; 0xFFFF is untagged. -/
  vlan : Nat
  /-- IP, as a 128-bit number. -/
  ip : Nat
  deriving DecidableEq, Repr

/-- A UDP flow (ETH_FLOW). -/
structure Flow where
  /-- PORT. -/
  port : Nat
  /-- NEIGH. -/
  neigh : Nat
  /-- DSCP. -/
  dscp : Nat
  /-- SRC_PORT. -/
  sport : Nat
  /-- DST_PORT. -/
  dport : Nat
  /-- SRC_IP. -/
  src : Nat
  /-- DST_IP. -/
  dst : Nat
  /-- IPv4 identification counter (R469). -/
  ident : U16 := 0
  deriving DecidableEq, Repr

/-- Sources of discipline (R327). -/
inductive TbsSource where
  | ptp | ptm | pps | free
  deriving DecidableEq, Repr

/-- TBS_STATUS.SOURCE. -/
def TbsSource.code : TbsSource → Nat
  | .ptp => 0 | .ptm => 1 | .pps => 2 | .free => 3

/-- The device time base (R326–R330). -/
structure Tbs where
  /-- Device time runs (from READY). -/
  running : Bool := false
  /-- TBS_NOW. -/
  now : U64 := 0
  /-- Fractional bits of the count. -/
  frac : U32 := 0
  /-- TBS_STEP. -/
  step : BitVec 40 := 0x0140000000
  /-- SOURCE. -/
  source : TbsSource := .free
  /-- LOCKED. -/
  locked : Bool := false
  /-- HOLDOVER. -/
  holdover : Bool := false
  /-- TBS_OFFSET, signed. -/
  offset : U32 := 0
  /-- TBS_PPS_IN. -/
  ppsIn : U64 := 0
  /-- The clock of the last edge, against which the silence of R328 is measured. -/
  ppsAt : Nat := 0
  /-- t2 of a Sync that waits for its Follow_Up: the port's timestamp (R329). -/
  syncAt : Option Int := none
  /-- t3 of a Delay_Req that waits for its Delay_Resp: the port's timestamp (R329). -/
  reqAt : Option Int := none
  /-- Clock of the last accepted Sync and its port. -/
  sync : Option (Nat × Nat) := none
  /-- t1 and t2 of the last Sync: the master's time, the local timestamp. -/
  syncTimes : Option (Int × Int) := none
  /-- Mean path delay in ns. -/
  delay : Int := 0
  /-- When the next PTM request is due. -/
  ptmDue : Nat := 0
  /-- PTM Enable in the PTM capability. -/
  ptmEnable : Bool := false
  /-- Clock of the last good PTM dialogue. -/
  ptm : Option Nat := none
  /-- PPS is available. -/
  pps : Bool := false
  /-- An edge has been seen since PPS was last lost. -/
  ppsSeen : Bool := false
  /-- Good intervals in a row. -/
  ppsGood : Nat := 0
  /-- Bad intervals in a row. -/
  ppsBad : Nat := 0
  /-- When the offset came within 1 µs; none while outside. -/
  within : Option Nat := none
  deriving DecidableEq, Repr

/-- Sources, ports and the time base. -/
structure Io where
  /-- CSI0–CSI5. -/
  csi : Vector Csi 6 := Vector.replicate 6 {}
  /-- ETH0, ETH1. -/
  eth : Vector Eth 2 := Vector.replicate 2 {}
  /-- RTP sessions. -/
  sess : Vector Sess 64 := Vector.replicate 64 {}
  /-- Neighbour entries 0–255. -/
  neigh : List (Nat × Neigh) := []
  /-- Flows 0–63. -/
  flow : List (Nat × Flow) := []
  /-- The time base. -/
  tbs : Tbs := {}
  deriving DecidableEq, Repr

end Sys2Proof.Machine
end

