-- ==== Sys2Proof/Machine/StateSched.lean ====
section
/-!
DEFINITION. State of the scheduler: work items, engine queues, sharing modes, admission (10_scheduling).
Default values are the reset values (R13).
-/
namespace Sys2Proof.Machine
open Sys2Proof

/-- Engine groups (R296, R394). -/
inductive Group where
  | tower | vpu | scan | region | vde
  deriving DecidableEq, Repr

/-- Engines of a group. -/
def Group.size : Group → Nat
  | .tower => 8 | .vpu => 16 | .scan => 2 | .region => 2 | .vde => 4

/-- First index of a group in the table of engines. -/
def Group.base : Group → Nat
  | .tower => 0 | .vpu => 8 | .scan => 24 | .region => 26 | .vde => 28

/-! ### Tile-runs of a Tower (R410–R421) -/

/-- Operand paths (R410). -/
inductive TPath where
  | int | half | bf
  deriving DecidableEq, Repr

/-- How the weights of a tile are packed (R386, R388, R390). -/
inductive WPack where
  /-- CB4 indices into a codebook slot. -/
  | cb4 (slot : Nat)
  /-- CB8 indices into a codebook slot. -/
  | cb8 (slot : Nat)
  /-- 16-bit weights. -/
  | wide
  deriving DecidableEq, Repr

/-- The layer of a step, as the walker sees it (R416). -/
structure Conv where
  /-- KH. -/
  kh : Nat
  /-- KW. -/
  kw : Nat
  /-- SY. -/
  sy : Nat
  /-- SX. -/
  sx : Nat
  /-- DY. -/
  dy : Nat
  /-- DX. -/
  dx : Nat
  /-- Padding on top. -/
  padT : Nat
  /-- Padding at the bottom. -/
  padB : Nat
  /-- Padding on the left. -/
  padL : Nat
  /-- Padding on the right. -/
  padR : Nat
  /-- Groups. -/
  groups : Nat
  /-- Input channels. -/
  cin : Nat
  /-- Output channels. -/
  cout : Nat
  /-- Input height. -/
  h : Nat
  /-- Input width. -/
  w : Nat
  /-- Activation format, a FORMATS bit index (R386). -/
  fmt : Nat
  /-- The layout is C32, else C16 (R392). -/
  c32 : Bool
  /-- Pad value in the activation format. -/
  pad : U16
  /-- Device address of the input tensor. -/
  inAt : Nat
  deriving DecidableEq, Repr

/-- Rescale of one output channel (R391, R419). -/
inductive Scale where
  /-- M, s and zp of the integer path. -/
  | int (m : Int) (s : Nat) (zp : Int)
  /-- The FP32 scale of a float path. -/
  | float (x : U32)
  deriving DecidableEq, Repr

/-- Activation of the post-op unit (R419, R420). -/
inductive Act where
  | none
  | relu
  /-- 257 INT16 entries. -/
  | lutInt (t : List Int)
  /-- LO, INV and 257 FP32 entries. -/
  | lutFloat (lo inv : U32) (t : List U32)
  deriving DecidableEq, Repr

/-- Pooling (R421). -/
structure PoolOp where
  /-- MAX, else AVERAGE. -/
  max : Bool
  /-- Window size on each axis. -/
  size : Nat
  /-- Vertical stride. -/
  sy : Nat
  /-- Horizontal stride. -/
  sx : Nat
  /-- Vertical padding. -/
  py : Nat
  /-- Horizontal padding. -/
  px : Nat
  /-- Height of the pooled map. -/
  oh : Nat
  /-- Width of the pooled map. -/
  ow : Nat
  /-- Pooled positions that this run completes, (y, x). -/
  out : List (Nat × Nat)
  deriving DecidableEq, Repr

/-- What the post-op unit does to a completed run (R419); `scale` none writes raw accumulators. -/
structure Post where
  /-- Bias of each output column. -/
  bias : Option (List U32)
  /-- Rescale of each output column. -/
  scale : Option (List Scale)
  /-- Activation. -/
  act : Act
  /-- Pooling. -/
  pool : Option PoolOp
  /-- The output layout is C32, else C16. -/
  c32 : Bool
  /-- Device address of the output tensor. -/
  outAt : Nat
  deriving DecidableEq, Repr

/-- One tile-run: a run of positions through one weight tile (R416–R418). -/
structure TileRun where
  /-- Operand path. -/
  path : TPath
  /-- The layer. -/
  conv : Conv
  /-- Packing of the weights. -/
  pack : WPack
  /-- Format of a weight after expansion, a FORMATS bit index. -/
  wfmt : Nat
  /-- Packed weights, row by row of the tile. -/
  weights : List Byte
  /-- Group. -/
  group : Nat
  /-- First output column of the tile inside its group. -/
  n0 : Nat
  /-- Output columns. -/
  cols : Nat
  /-- Index of the tile along the reduction. -/
  tile : Nat
  /-- Output positions (oy, ox) of the run. -/
  run : List (Nat × Nat)
  /-- The run is complete with this tile and passes to the post-op unit. -/
  last : Option Post
  deriving DecidableEq, Repr

/-- Where a value of the array or of a checksum is wrong. -/
inductive TileSite where
  /-- The partial result of a position and a column. -/
  | cell (m n : Nat)
  /-- The check column's value of a position. -/
  | col (m : Nat)
  /-- The check row's value of a column. -/
  | row (n : Nat)
  deriving DecidableEq, Repr

/-- Why a known-answer probe was placed (R311, R431; 14, When things fall together). -/
inductive ProbeBy where
  /-- It fell due. -/
  | due
  /-- A retry failed. -/
  | check
  /-- Both. -/
  | both
  /-- DIAG_PROBE. -/
  | diag
  deriving DecidableEq, Repr

/-- What a work item serves (R295). -/
inductive Origin where
  /-- A stage of a stream frame. -/
  | frame (slot : Nat) (seq : U32)
  /-- A job. -/
  | job (id : U32)
  /-- A known-answer probe of a Tower. -/
  | probe (by_ : ProbeBy)
  /-- A reference vector. -/
  | vector
  /-- Firmware maintenance. -/
  | maintenance
  deriving DecidableEq, Repr

/-- What the item does. -/
inductive ItemKind where
  | step | prep | crop | decode | cost | probe | vector | maintenance
  deriving DecidableEq, Repr

/-- A work item (10). -/
structure Item where
  /-- Identity: the one its waits are registered under, then the one given at eligibility. -/
  id : Nat
  /-- Kind. -/
  kind : ItemKind
  /-- What it serves. -/
  origin : Origin
  /-- Group. -/
  group : Group
  /-- Queue level 0–3. -/
  level : Fin 4
  /-- Context. -/
  ctx : Nat
  /-- The only engine it may run on (probe, vector, decode). -/
  only : Option Nat := none
  /-- MODEL_ID whose weights or local image it uses. -/
  model : Option Nat := none
  /-- Certified cycles. -/
  cycles : Nat := 0
  /-- Bytes of live state when stopped, in the terms of R307 and R308; of a Tower item while no accumulator holds a result. -/
  live : Nat := 0
  /-- Completion pip of the step. -/
  pip : Option Nat := none
  /-- It is the last item of its stage or job. -/
  last : Bool := false
  /-- When it was placed. -/
  placedAt : Nat := 0
  /-- It has run before and its state is in the save slot. -/
  saved : Bool := false
  /-- A level-3 item that was promoted (R300). -/
  promoted : Bool := false
  /-- The quantum of its context ended while it ran, at this time (R302). -/
  overAt : Option Nat := none
  /-- How long it has run, saved time left out: fifteenths of CLK_CORE cycles on a Tower or VPU, µs on a pipe or VDE (R299,
  R383, R408). -/
  ran : Nat := 0
  /-- Accumulators of the current run, by position and column: part of the item's live state (R418, R433). -/
  acc : List (List U32) := []
  /-- The tile-run before in the run of positions that is in progress (R418). -/
  prev : Option TileRun := none
  /-- The tile-run that is being retried (R431). -/
  retry : Option TileRun := none
  deriving DecidableEq, Repr

/-- An entry of the save directory (R312). -/
structure SaveEntry where
  /-- Bytes saved. -/
  bytes : Nat
  /-- Identity of the item. -/
  item : Nat
  /-- Its context. -/
  ctx : Nat
  /-- Epoch of the engine. -/
  epoch : BitVec 8
  /-- CRC-32C of the saved state, whose bytes the spec does not lay out: a free value. -/
  crc : U32
  deriving DecidableEq, Repr

/-- One engine's queue and items (R297, R306, R310). -/
structure Engine where
  /-- The four levels, each in placement order, at most 32. -/
  queue : Vector (List Item) 4 := Vector.replicate 4 []
  /-- The running item. -/
  running : Option Item := none
  /-- The saved or yielded item. -/
  saved : Option Item := none
  /-- The item that starts when the save and restore end. -/
  incoming : Option Item := none
  /-- The engine's entry of the save directory while its save slot is full (R312). -/
  dir : Option SaveEntry := none
  /-- A yield has been asked for (R310). -/
  yield_ : Bool := false
  /-- Next probe or reference vector due (R311, R578). -/
  nextDue : Option Nat := none
  deriving DecidableEq, Repr

/-- Level-2 sharing of a Tower or VPU group (R301, R302). -/
structure Share where
  /-- Time-sliced. -/
  sliced : Bool := false
  /-- Owner of level 2. -/
  owner : Option Nat := none
  /-- The last owner. -/
  lastOwner : Nat := 0
  /-- When the quantum ends, on the model's clock. -/
  quantumEnd : Nat := 0
  /-- Deductions (context, µs). -/
  deduct : List (Nat × Nat) := []
  deriving DecidableEq, Repr

/-- What admission counts for one running stream (10, Admission). -/
structure Demand where
  /-- Slot. -/
  slot : Nat
  /-- Class. -/
  cls : Cls
  /-- PERIOD_US. -/
  periodUs : Nat
  /-- Tower cycles per frame. -/
  tower : Nat
  /-- VPU cycles per frame. -/
  vpu : Nat
  /-- Scan-pipe time per frame, in units of 1/2112 ns. -/
  scanC : Nat
  /-- Region-pipe time per frame, in units of 1/2112 ns. -/
  regionC : Nat
  /-- Decode time per frame, in units of 1/2112 ns. -/
  vdeC : Nat
  /-- Bound VDE (R305). -/
  vde : Option Nat
  /-- A decoded stream. -/
  decoded : Bool
  /-- SHED rank. -/
  rank : Nat
  deriving DecidableEq, Repr

/-- The scheduler (10). -/
structure Sched where
  /-- Engines: Towers 0–7, VPUs 8–23, scan pipes 24–25, region pipes 26–27, VDEs 28–31. -/
  eng : Vector Engine 32 := Vector.replicate 32 {}
  /-- Items waiting in the dispatcher, in eligibility order. -/
  waiting : List Item := []
  /-- Plan steps whose guarding waits have been registered and that are not yet eligible (R296). -/
  guarded : List Item := []
  /-- Steps released from a poisoned pip, with the status, until they are discarded (R285). -/
  cut : List (Item × Nat) := []
  /-- The next item's identity. -/
  nextId : Nat := 0
  /-- Level-2 sharing of the Tower group. -/
  towerShare : Share := {}
  /-- Level-2 sharing of the VPU group. -/
  vpuShare : Share := {}
  /-- Admitted streams. -/
  demand : List Demand := []
  /-- Groups whose R314 is broken (R319): Towers, VPUs, scan, region, VDEs. -/
  degraded : BitVec 5 := 0
  deriving DecidableEq, Repr

end Sys2Proof.Machine
end

