-- ==== Sys2Proof/Machine/StateStream.lean ====
section
/-!
DEFINITION. State of frames, decoders, encoder, pre-processing, Towers, Feature Store, VPUs, SSU, TRK, tracks and
stream slots (01, 12–15, 19). Default values are the reset values (R13).
-/
namespace Sys2Proof.Machine
open Sys2Proof

/-- Gap reasons (15, Gap reasons). -/
inductive GapReason where
  | noBuffer | overrun | sourceError | sourceLost | resync | unsupported | fault | shed
  deriving DecidableEq, Repr

/-- GAP_REASON of a record. -/
def GapReason.code : GapReason → Nat
  | .noBuffer => 1 | .overrun => 2 | .sourceError => 3 | .sourceLost => 4 | .resync => 5
  | .unsupported => 6 | .fault => 7 | .shed => 8

/-- Chroma formats of a descriptor, with FMT_CHROMA's codes 1 to 4 (R364, 18). -/
inductive Chroma where
  | yuv420 | yuv400 | yuv422 | rgb
  deriving DecidableEq, Repr

/-- FMT_CHROMA. -/
def Chroma.code : Chroma → Nat
  | .yuv420 => 1 | .yuv400 => 2 | .yuv422 => 3 | .rgb => 4

/-- Matrices of a descriptor (R365). -/
inductive Matrix where
  | none | bt601 | bt709
  deriving DecidableEq, Repr

/-- FMT_MATRIX. -/
def Matrix.code : Matrix → Nat
  | .none => 0 | .bt601 => 1 | .bt709 => 2

/-- The format of a frame (R364, R370). -/
structure Fmt where
  /-- W. -/
  w : Nat
  /-- H. -/
  h : Nat
  /-- Bit depth: 8 or 10. -/
  depth : Nat
  /-- Chroma format. -/
  chroma : Chroma
  /-- Matrix. -/
  matrix : Matrix
  /-- Full range. -/
  full : Bool
  /-- SAR_W. -/
  sarW : Nat
  /-- SAR_H. -/
  sarH : Nat
  /-- Conformance window offsets left, right, top, bottom as UNORM16 fractions. -/
  conf : List Nat
  deriving DecidableEq, Repr

/-- A survivor of SELECT (R441, R443). -/
structure Surv where
  /-- SCORE. -/
  score : Nat
  /-- CLASS. -/
  cls : Nat
  /-- X in the frame. -/
  x : Nat
  /-- Y. -/
  y : Nat
  /-- W. -/
  w : Nat
  /-- H. -/
  h : Nat
  deriving DecidableEq, Repr

/-- The values of STREAM_VIEW that a picture is encoded and sent with (R187, R373). -/
structure ViewCfg where
  /-- Codec. -/
  codec : Codec
  /-- WIDTH. -/
  width : Nat
  /-- HEIGHT. -/
  height : Nat
  /-- RC. -/
  rc : Nat
  /-- FLOW. -/
  flow : Nat
  /-- KBPS or QP. -/
  kbps : Nat
  deriving DecidableEq, Repr

/-- The values of CKPT_CONFIG that a frame counts under (R187, R530). -/
structure CkCfg where
  /-- Window; none when not configured. -/
  win : Option Nat := none
  /-- TRIGGER. -/
  trigger : Nat := 0
  /-- PERIOD. -/
  period : Nat := 0
  /-- SHARDS. -/
  shards : Nat := 0
  deriving DecidableEq, Repr

/-- When a frame's turn at SELECT or TRACK came. -/
structure Turn where
  /-- The stage; 0 before either. -/
  stage : Nat := 0
  /-- Clock. -/
  at_ : Nat := 0
  /-- Place among the turns of all slots. -/
  no : Nat := 0
  deriving DecidableEq, Repr

/-- One frame from the end of INGEST to RETURN (01). -/
structure Frame where
  /-- Frame sequence number. -/
  seq : U32
  /-- The next stage to complete: 1 DECODE … 8 POST; 9 when only RETURN is left. -/
  stage : Nat
  /-- It waits in the ingest queue (R33). -/
  queued : Bool := false
  /-- It was pushed out of the ingest queue, and takes none of the four places in flight (R33). -/
  pushed : Bool := false
  /-- The stage's unit works on it. -/
  busy : Bool := false
  /-- Capture time. -/
  capture : U64
  /-- End time. -/
  endTime : U64
  /-- Place of its end of INGEST among the ends of INGEST of all slots (R35). -/
  order : Nat := 0
  /-- Gap reason of the first cause; none while not discarded. -/
  gap : Option GapReason := none
  /-- STALE_SOURCE. -/
  stale : Bool := false
  /-- Re-issued (R189). -/
  reissued : Bool := false
  /-- Damaged at INGEST. -/
  damaged : Bool := false
  /-- DISCONT of its ring entry. -/
  discont : Bool := false
  /-- Source buffer. -/
  src : Option U32 := none
  /-- Bytes of the access unit. -/
  auBytes : Nat := 0
  /-- Frame buffer of a decoded stream. -/
  pic : Option U32 := none
  /-- Crop tensors. -/
  crop : List U32 := []
  /-- Record buffer. -/
  rec_ : Option U32 := none
  /-- The source buffer request still waits at a pool that is being rebuilt (R267). -/
  waitBuf : Bool := false
  /-- Bytes received meanwhile, by offset in the buffer. -/
  held : List (Nat × List Byte) := []
  /-- The picture has been decoded and waits for a frame buffer while its pool is being rebuilt: format and bytes (R267). -/
  waitPic : Option (Fmt × List Byte) := none
  /-- Descriptor. -/
  fmt : Option Fmt := none
  /-- Pitch of the descriptor. -/
  pitch : Nat := 0
  /-- PREP geometry ax0, ay0, aw, ah (R403). -/
  geom : Option (Nat × Nat × Nat × Nat) := none
  /-- STREAM_TRACK values captured at INGEST (R187). -/
  par : TrackPar := {}
  /-- STREAM_VIEW values captured at INGEST, of each view enabled for the slot then (R187). -/
  viewCfg : List (Nat × ViewCfg) := []
  /-- CKPT_CONFIG values captured at INGEST (R187). -/
  ck : CkCfg := {}
  /-- SSU output. -/
  surv : List Surv := []
  /-- SSU output indices that are cropped, in SSU order (R29, R404). -/
  crops : List Nat := []
  /-- Offset of the candidate list in the detector instance's partition (the plan's own; log entry 9). -/
  candAt : Nat := 0
  /-- Embeddings by SSU output index, as FP32 values of what the embedder wrote (log entry 9). -/
  emb : List (Nat × List U32) := []
  /-- The Tower item of TRACK's cost matrix has completed (R453). -/
  costDone : Bool := false
  /-- The record TRK or the result DMA built: header and entries. -/
  record : List Byte := []
  /-- CRC-32C of the entries as TRK built them (R573). -/
  entryCrc : U32 := 0
  /-- GREEDY_ASSIGN. -/
  greedy : Bool := false
  /-- Its last turn at SELECT or TRACK (R297, R472). -/
  turn : Turn := {}
  /-- Views that still read the frame buffer. -/
  views : List Nat := []
  deriving DecidableEq, Repr

/-- A retained source buffer (R555). -/
structure Kept where
  /-- The frame whose buffer it is. -/
  seq : U32
  /-- Handle. -/
  buf : U32
  /-- Capture time. -/
  capture : U64
  /-- Whole frames completed INGEST since. -/
  age : Nat
  /-- Descriptor data for a re-issue: CSI format and pitch. -/
  fmt : Option Fmt
  /-- Pitch. -/
  pitch : Nat
  /-- Bytes of the access unit. -/
  auBytes : Nat
  deriving DecidableEq, Repr

/-- One axis of a track, FP32 patterns (R448). -/
structure Axis where
  /-- Position. -/
  p : U32
  /-- Rate. -/
  v : U32
  /-- Covariance a. -/
  a : U32
  /-- Covariance b. -/
  b : U32
  /-- Covariance c. -/
  c : U32
  deriving DecidableEq, Repr

/-- A track (R446, R447). -/
structure Track where
  /-- Track ID. -/
  id : U32
  /-- CLASS. -/
  cls : Nat
  /-- Last matched score. -/
  score : Nat
  /-- CONFIRMED. -/
  confirmed : Bool
  /-- Matches counted toward MIN_HITS. -/
  hits : Nat
  /-- MISSES. -/
  misses : Nat
  /-- AGE. -/
  age : Nat
  /-- State time. -/
  time : U64
  /-- cx. -/
  cx : Axis
  /-- cy. -/
  cy : Axis
  /-- w. -/
  w : Axis
  /-- h. -/
  h : Axis
  /-- Gallery: 8 slots of 128 FP16 patterns. -/
  gal : List (Option (List U16)) := List.replicate 8 none
  /-- Samples written, wrapping. -/
  written : U32 := 0
  deriving DecidableEq, Repr

/-- The decoder state of a slot (R366, R367). -/
structure Dec where
  /-- SYNC; false is RESYNC. -/
  sync : Bool := false
  /-- The active or most recently refused parameter set declares a refused feature (R368). -/
  unsupp : Bool := false
  /-- Pictures left to the recovery point, when one is being followed. -/
  recovery : Option Nat := none
  /-- Picture order count of the previous picture since the last IRAP. -/
  poc : Option Int := none
  /-- Luma samples of a picture under the active parameter set; 0 before the first (R360). -/
  px : Nat := 0
  /-- Reference buffers held, oldest first. -/
  refs : List U32 := []
  /-- An IRAP must come next (R359). -/
  needIrap : Bool := false
  deriving DecidableEq, Repr

/-- One stream slot (R323, 06, 01). -/
structure Slot where
  /-- State (R182). -/
  state : SlotState := .free
  /-- Owning context. -/
  ctx : Nat := 0
  /-- Source. -/
  src : Option SrcCfg := none
  /-- Analytics. -/
  ana : Option AnaCfg := none
  /-- Result destination. -/
  res : Option ResCfg := none
  /-- STREAM_TRACK values for new frames. -/
  par : TrackPar := {}
  /-- Ingest. -/
  ing : Ingest := {}
  /-- Next frame sequence number. -/
  nextSeq : U32 := 0
  /-- Frames from the end of INGEST to RETURN, in sequence order. -/
  frames : List Frame := []
  /-- Retention window, oldest first. -/
  kept : List Kept := []
  /-- Decoder. -/
  dec : Dec := {}
  /-- Format of the last analysed frame. -/
  prevFmt : Option Fmt := none
  /-- An analysed frame has been seen since STREAM_START. -/
  analysed : Bool := false
  /-- Tracks, in ascending ID. -/
  tracks : List Track := []
  /-- NEXT_TRACK_ID. -/
  nextTrack : U32 := 1
  /-- Tracking time (R459). -/
  trackTime : Option U64 := none
  /-- Format recorded with the tracks (R460). -/
  trackFmt : Option Fmt := none
  /-- The next analysed record carries TRACK_RESET (R475). -/
  resetPending : Bool := false
  /-- FRAME_SEQ of the last frame whose TRACK committed since STREAM_START, and its capture time. -/
  lastTracked : Option (U32 × U64) := none
  /-- A snapshot copy is running: the next TRACK waits (R532). -/
  copying : Bool := false
  /-- The record at POST waits for room until this time (R466). -/
  roomDue : Option Nat := none
  /-- The gap-record area is set aside (R474). -/
  gapArea : Bool := false
  /-- When STREAM_START was accepted. -/
  startedAt : Nat := 0
  /-- The last frame sequence number posted since STREAM_START. -/
  lastPosted : Option U32 := none
  /-- GAPS: GAP records since STREAM_START, wrapping. -/
  gaps : U32 := 0
  deriving DecidableEq, Repr

/-- One encoder view (R188, R373–R381). -/
structure View where
  /-- ENABLE. -/
  en : Bool := false
  /-- Slot. -/
  slot : Nat := 0
  /-- Codec. -/
  codec : Codec := .h265
  /-- WIDTH. -/
  width : Nat := 0
  /-- HEIGHT. -/
  height : Nat := 0
  /-- RC. -/
  rc : Nat := 0
  /-- FLOW. -/
  flow : Nat := 0
  /-- KBPS or QP. -/
  kbps : Nat := 0
  /-- The next picture is an IDR. -/
  idr : Bool := true
  /-- Position k in the sweep. -/
  sweep : Nat := 0
  /-- Capture times of the pictures whose slices are still being sent, oldest first, with the values each is sent with. -/
  caps : List (U64 × ViewCfg) := []
  /-- RTP sequence number. -/
  rtpSeq : U16 := 0
  /-- VEE_PICSv, wrapping. -/
  pics : U32 := 0
  /-- VEE_SKIPv, saturating. -/
  skip : U32 := 0
  /-- VEE_BYTESv, wrapping. -/
  bytes : U32 := 0
  deriving DecidableEq, Repr

/-- The view's values of STREAM_VIEW. -/
def View.cfg (w : View) : ViewCfg :=
  { codec := w.codec, width := w.width, height := w.height, rc := w.rc, flow := w.flow, kbps := w.kbps }

/-- One VDE's counters. -/
structure Vde where
  /-- VDE_PICS, wrapping. -/
  pics : U32 := 0
  /-- VDE_BITERR, saturating. -/
  bitErr : U32 := 0
  /-- VDE_RESYNC, saturating. -/
  resync : U32 := 0
  /-- VDE_UNSUPP, saturating. -/
  unsupp : U32 := 0
  /-- VDE_MATRIX_SUBST, saturating. -/
  matrixSubst : U32 := 0
  /-- VDE_STOPS, saturating. -/
  stops : U32 := 0
  deriving DecidableEq, Repr

/-- One PPE's counters. -/
structure Ppe where
  /-- PPE_PREP, wrapping. -/
  prep : U32 := 0
  /-- PPE_CROPS, wrapping. -/
  crops : U32 := 0
  /-- PPE_CROP_ADJ, saturating. -/
  cropAdj : U32 := 0
  /-- PPE_RATIO_REJ, saturating. -/
  ratioRej : U32 := 0
  /-- PPE_STOPS, saturating. -/
  stops : U32 := 0
  deriving DecidableEq, Repr

/-- A weight image or VPU local image held by an engine, most recently used first. -/
structure Image where
  /-- MODEL_ID. -/
  model : Nat
  /-- Bytes. -/
  bytes : Nat
  /-- Codebook slots. -/
  slots : List Nat
  deriving DecidableEq, Repr

/-- One Tower (14). -/
structure Tower where
  /-- Images held, most recently used first. -/
  images : List Image := []
  /-- Codebook store: slots that hold entries, each 512 bytes. -/
  cb : List (Nat × List Byte) := []
  /-- An image load is in progress for the running item. -/
  loading : Bool := false
  /-- TWR_ABFT_RETRY, saturating. -/
  abftRetry : U32 := 0
  /-- TWR_ABFT_FAIL, saturating. -/
  abftFail : U32 := 0
  /-- TWR_PROBE_RUNS, wrapping. -/
  probeRuns : U32 := 0
  /-- TWR_PROBE_FAIL, saturating. -/
  probeFail : U32 := 0
  /-- TWR_WB_RELOAD, saturating. -/
  wbReload : U32 := 0
  /-- TWR_IMAGE_LOADS, wrapping. -/
  imageLoads : U32 := 0
  /-- TWR_PREEMPT, wrapping. -/
  preempt : U32 := 0
  /-- TWR_LAST_PROBE. -/
  lastProbe : U64 := 0
  /-- Clock of each failed retry within the last second (R437). -/
  fails : List Nat := []
  /-- Clock of the last invalidation (R438). -/
  lastInval : Option Nat := none
  deriving DecidableEq, Repr

/-- One VPU (14). -/
structure Vpu where
  /-- Local images held. -/
  images : List Image := []
  /-- A local load is in progress. -/
  loading : Bool := false
  /-- VPU_ECC_CE, saturating. -/
  eccCe : U32 := 0
  /-- VPU_PREEMPT, wrapping. -/
  preempt : U32 := 0
  /-- Clock of the last uncorrectable error (R552). -/
  lastUe : Option Nat := none
  deriving DecidableEq, Repr

/-- The Feature Store (14). -/
structure FeatStore where
  /-- Allocated runs of granules (first, count), in ascending order. -/
  runs : List (Nat × Nat) := []
  /-- FS_ECC_CE, saturating. -/
  eccCe : U32 := 0
  /-- FS_ECC_UE, saturating. -/
  eccUe : U32 := 0
  /-- FS_UE_ADDR.WORD. -/
  ueWord : BitVec 24 := 0
  /-- FS_UE_ADDR.VALID. -/
  ueValid : Bool := false
  /-- FS_SCRUB, wrapping. -/
  scrub : U32 := 0
  /-- FS_BOUND_REFUSED, saturating. -/
  boundRefused : U32 := 0
  /-- Poisoned words, as word numbers. -/
  poison : List Nat := []
  /-- Uncorrectable words met: (word, clock), within the last second (R439). -/
  ueSeen : List (Nat × Nat) := []
  /-- Scrubber position, as a word number. -/
  pos : Nat := 0
  deriving DecidableEq, Repr

/-- SSU and TRK (15). -/
structure SsuTrk where
  /-- SSU_ITEMS, wrapping. -/
  items : U32 := 0
  /-- SSU_TRUNC, saturating. -/
  trunc : U32 := 0
  /-- SSU_BAD_BOX, saturating. -/
  badBox : U32 := 0
  /-- SSU_STOPS, saturating. -/
  ssuStops : U32 := 0
  /-- TRK_FRAMES, wrapping. -/
  frames : U32 := 0
  /-- TRK_GREEDY, saturating. -/
  greedy : U32 := 0
  /-- TRK_ROUNDS_MAX. -/
  roundsMax : BitVec 13 := 0
  /-- TRK_STARTED, wrapping. -/
  started : U32 := 0
  /-- TRK_ENDED, wrapping. -/
  ended : U32 := 0
  /-- TRK_UNTRACKED, saturating. -/
  untracked : U32 := 0
  /-- TRK_OMITTED, saturating. -/
  omitted : U32 := 0
  /-- TRK_STOPS, saturating. -/
  trkStops : U32 := 0
  /-- Reference vector due at the SSU, at TRK (R578). -/
  ssuDue : Option Nat := none
  /-- Reference vector due at TRK. -/
  trkDue : Option Nat := none
  /-- The frame whose SELECT the SSU runs, and since when (R444). -/
  ssuRun : Option (Nat × U32) := none
  /-- Clock at which it began. -/
  ssuAt : Nat := 0
  /-- Turns at SELECT and TRACK so far, of all slots (R297). -/
  turns : Nat := 0
  /-- A reference vector waits at or runs on the SSU. -/
  ssuVec : Bool := false
  /-- A reference vector waits at or runs on TRK. -/
  trkVec : Bool := false
  deriving DecidableEq, Repr

/-- The stream slots and the units of the frame path. -/
structure Streams where
  /-- Slots. -/
  slot : Vector Slot 64 := Vector.replicate 64 {}
  /-- Frames of all slots that have completed INGEST, in the order of R35. -/
  ends : Nat := 0
  /-- Views. -/
  view : Vector View 4 := Vector.replicate 4 {}
  /-- Pictures waiting at the VEE as (view, frame), in the order in which they became ready, at most 2 of a view. -/
  veeQ : List (Nat × U32) := []
  /-- The VEE encodes (view, frame) now. -/
  encoding : Option (Nat × U32) := none
  /-- Decoders. -/
  vde : Vector Vde 4 := Vector.replicate 4 {}
  /-- Pre-processing engines. -/
  ppe : Vector Ppe 2 := Vector.replicate 2 {}
  /-- Towers. -/
  tower : Vector Tower 8 := Vector.replicate 8 {}
  /-- VPUs. -/
  vpu : Vector Vpu 16 := Vector.replicate 16 {}
  /-- The Feature Store. -/
  fs : FeatStore := {}
  /-- SSU and TRK. -/
  st : SsuTrk := {}
  deriving DecidableEq, Repr

end Sys2Proof.Machine
end

