-- ==== Sys2Proof/Machine/Event.lean ====
section
/-!
DEFINITION. Operands of commands and events: what the outside world supplies with a row of the table (a host
buffer's bytes, a received packet, a sensor's reading, what a decoder found in a bitstream).
-/
namespace Sys2Proof.Machine
open Sys2Proof

/-- The end of a block of a droop stretch, as DROOP_BLOCK_END reports it (R46, R48). -/
structure DroopEnd where
  /-- A detector is still tripped: another block begins. -/
  again : Bool
  /-- CLK_CORE cycles of the block spent at /12 because of droop; only looked at when a throttle or AVS request began or
  ended inside the block. -/
  cycles : Nat
  deriving DecidableEq, Repr

/-- What a read of host memory that the command makes returns. -/
inductive HostRead where
  /-- The command reads nothing of the host. -/
  | none
  /-- The read fails (R145, R178). -/
  | failed
  /-- The read meets an uncorrectable ECC error on the device (R206). -/
  | ue
  /-- The bytes read. -/
  | data (bytes : List Byte)
  deriving DecidableEq, Repr

/-- A command message as a mailbox holds it, but for its OPCODE (R126). -/
structure HostCmd where
  /-- Mailbox it came through. -/
  mbx : Fin 16
  /-- SEQ. -/
  seq : BitVec 16
  /-- FLAGS. -/
  flags : Byte
  /-- LEN. -/
  len : Byte
  /-- CTX. -/
  ctx : BitVec 16
  /-- Message bytes 8–63. -/
  payload : List Byte
  /-- Host bytes that the command reads. -/
  host : HostRead := .none
  deriving DecidableEq, Repr

/-- A register write (R10). -/
inductive RegWrite where
  /-- A BAR0 write of 4 or 8 bytes; the host may send it poisoned (R148). -/
  | bar0 (offset : Nat) (bytes : Nat) (value : Nat) (poisoned : Bool)
  /-- Firmware's write of 4 or 8 bytes in control space. -/
  | control (addr : Nat) (bytes : Nat) (value : Nat)
  /-- MSI-X Enable of the capability. -/
  | msixEnable (on : Bool)
  /-- Function Mask of the capability. -/
  | funcMask (on : Bool)
  /-- PTM Enable of the capability. -/
  | ptmEnable (on : Bool)
  /-- The completion timeout of Device Control 2, in µs (R148). -/
  | completionTimeout (us : Nat)
  deriving DecidableEq, Repr

/-- What an AVS evaluation reads (R50). -/
structure AvsRead where
  /-- The worst code of the slack monitors. -/
  worst : Nat
  deriving DecidableEq, Repr

/-- Outcome of a boot stage's work that the part cannot compute from its own state (03). -/
structure StageResult where
  /-- The index of an OTP field that fails its check (stage 0x01). -/
  otpBad : Option Nat := none
  /-- DRAM channels that fail initialisation (stage 0x09). -/
  dramFail : List Nat := []
  /-- For each byte lane: which taps passed in the read sweep and in the write sweep (R98). -/
  sweeps : List (List Bool × List Bool) := []
  /-- Channels that fail the ECC initialisation (stage 0x0B). -/
  eccFail : List Nat := []
  /-- Units that fail their self-test (R101). -/
  bistFail : List Nat := []
  /-- Channels whose forwarding logic fails its self-test (R228). -/
  fwdFail : List Nat := []
  /-- A flash read of the image fails (R89). -/
  readFail : Bool := false
  /-- The flash read of image A's header fails at the selection (R89, R90). -/
  headFailA : Bool := false
  /-- The flash read of image B's header fails at the selection (R89, R90). -/
  headFailB : Bool := false
  /-- The march test of the pip store or of the scheduler's queues fails (R101). -/
  tableFail : Bool := false
  /-- For each byte lane: the oscillator counts of its read and write side at training, and the counts per tap (stage 0x0A,
  R233). -/
  osc : List (Int × Int × Nat) := []
  deriving DecidableEq, Repr

/-- Who issues a DRAM request (07, Hints by requester). -/
inductive Requester where
  | csiIngest | ethIngest | vde | ppeRead | weightLoad
  | resultDma | trk | bpmRing | eccLine | scrub
  | firmware | bar2 | walk | vee | vpu | ckpt
  /-- One that the table does not list: its hint is a free value. -/
  | unlisted
  deriving DecidableEq, Repr

/-- A D-PHY packet header as received. -/
inductive CsiHdr where
  /-- Header passes, or was corrected by, its ECC. -/
  | good (corrected : Bool)
  /-- Uncorrectable. -/
  | bad
  deriving DecidableEq, Repr

/-- A PTP event (R329). -/
inductive PtpMsg where
  /-- Sync; the port stamps its arrival. -/
  | sync
  /-- Follow_Up: the master's time of sending the Sync. -/
  | followUp (master : Int)
  /-- Delay_Resp: the master's time of receiving the Delay_Req. -/
  | delayResp (master : Int)
  /-- Any other message. -/
  | other
  deriving DecidableEq, Repr

/-- A PTP message as it arrives (R329). -/
structure PtpIn where
  /-- TRANSPORT as ETH_PTP numbers it. -/
  transport : Nat
  /-- The message. -/
  msg : PtpMsg
  deriving DecidableEq, Repr

/-- Profiles as a sequence parameter set declares them (R357, R358). -/
inductive Profile where
  | constrainedBaseline | main264 | high | extended | high10 | high422 | high444
  | main265 | main10 | mainStill
  /-- Any other. -/
  | other
  deriving DecidableEq, Repr

/-- The VUI of a parameter set, as far as the descriptor takes it (R365). -/
structure Vui where
  /-- matrix_coefficients; none without a colour description. -/
  matrix : Option Nat := none
  /-- video_full_range_flag; none when absent. -/
  full : Option Bool := none
  /-- The sample aspect ratio of aspect_ratio_info; none when absent. -/
  sar : Option (Nat × Nat) := none
  deriving DecidableEq, Repr

/-- What the active sequence parameter set and the slices declare and use, beside the picture format (R357, R358). -/
structure SeqDecl where
  /-- Profile. -/
  profile : Profile
  /-- Level, in tenths. -/
  level : Nat
  /-- frame_mbs_only_flag 1, or field_seq_flag 0. -/
  progressive : Bool := true
  /-- VUI. -/
  vui : Vui := {}
  /-- max_num_reorder_frames, or sps_max_num_reorder_pics. -/
  reorder : Nat := 0
  /-- H.264: FMO or ASO. -/
  fmoAso : Bool := false
  /-- H.264: SP or SI slices. -/
  spSi : Bool := false
  /-- H.264: data partitioning. -/
  partitioned : Bool := false
  deriving DecidableEq, Repr

/-- What the VDE finds in an access unit (R357–R368). -/
structure Picture where
  /-- Instantaneous random access point. -/
  irap : Bool
  /-- What its parameter set and slices declare and use. -/
  decl : SeqDecl
  /-- A bitstream error other than those the device's own state decides. -/
  error : Bool := false
  /-- Marked as a reference picture. -/
  ref : Bool := true
  /-- The first slice header arrived (damaged units). -/
  firstSlice : Bool := true
  /-- Every reference it uses is still held. -/
  refsHeld : Bool := true
  /-- Activates a parameter set that differs from the active one. -/
  newSps : Bool := false
  /-- Recovery point SEI count. -/
  recovery : Option Nat := none
  /-- Picture order count. -/
  poc : Int := 0
  /-- Ends with an end-of-sequence NAL unit. -/
  eos : Bool := false
  /-- Reference buffers released by its marking process, by position from the oldest. -/
  release : List Nat := []
  /-- Format in its parameter sets; matrix, range and SAR are those of the VUI. -/
  fmt : Fmt
  /-- The decoded picture's bytes, as laid out by R362 (they follow from the standard alone). -/
  bytes : List Byte := []
  /-- An uncorrectable line was read from a reference buffer (R384). -/
  refUe : Bool := false
  deriving DecidableEq, Repr

/-- How a work item ends. -/
inductive ItemEnd where
  /-- With its results written: bytes it wrote in the Feature Store or memory (device addresses); for the last step of
  a detector plan, the offset of the candidate list in the partition; for the last step of an embedder plan, the
  embeddings by SSU output index (log entry 9). -/
  | ok (writes : List (Nat × List Byte)) (candAt : Nat) (emb : List (Nat × List U32))
  /-- A Feature Store access at this offset lies outside its bounds (R425). -/
  | bound (offset : Nat)
  /-- It read a poisoned word or line (R427, R238). -/
  | poisoned
  /-- Plan error (R407, R410). -/
  | plan
  /-- The item goes on: an uncorrectable error in a Weight Buffer or codebook word of this model's image (R438). -/
  | wbUe (model : Nat)
  /-- An uncorrectable error in a VPU's register file or local memory (R434, R552). -/
  | vpuUe
  deriving DecidableEq, Repr

/-- Who sends a pip signal (R274, R281, R291). -/
inductive PipBy where
  /-- A unit, under the epoch it carries. -/
  | unit (unit : Nat) (epoch : BitVec 8)
  /-- Firmware. -/
  | firmware
  deriving DecidableEq, Repr

/-- A wait as it reaches the pip store (R275, R291, R292, R296). -/
structure WaitReq where
  /-- Who sends it. -/
  by_ : PipBy
  /-- The waiter. -/
  waiter : Waiter
  /-- The plan step that the wait guards, for a waiter of an item: its identity is the waiter's. -/
  item : Option Item := none
  /-- An error found in the pip's entry. -/
  err : Option EccErr := none
  deriving DecidableEq, Repr

/-- A free as a unit sends it (R256). -/
structure FreeReq where
  /-- The handle. -/
  handle : U32
  /-- Context of the freeing work. -/
  ctx : Nat
  deriving DecidableEq, Repr

/-- A request of an engine or of firmware to a remote window (R487, R500). -/
inductive RemoteReq where
  /-- Write these bytes at an offset of a device's window, with an optional fence pip. -/
  | write (dst : Nat) (offset : Nat) (bytes : List Byte) (fence : Option Nat) (ctx : Nat)
  /-- Read. -/
  | read (dst : Nat) (offset : Nat) (len : Nat) (ctx : Nat)
  /-- Signal a pip. -/
  | signal (dst : Nat) (pip : Nat) (op : Nat) (value : U32) (fence : Option Nat) (ctx : Nat)
  deriving DecidableEq, Repr

/-- What a sweep finds for a ring (R516). -/
structure SweepFound where
  /-- Heater code at the target. -/
  d : BitVec 14
  /-- S, signed 16.16. -/
  slope : U32
  /-- Codes to the next line's resonance. -/
  codes : Nat
  /-- Y in units of 2^-16. -/
  y : Int
  deriving DecidableEq, Repr

/-- The link buffer in which an uncorrectable error is found (R498). -/
inductive LinkBuf where
  /-- The VC buffer that takes the flit. -/
  | vc
  /-- The replay buffer. -/
  | replay
  deriving DecidableEq, Repr

/-- Which read of the host got no completion (R148). -/
inductive PcieRead where
  /-- A command entry of a mailbox. -/
  | command (m : Fin 16)
  /-- A descriptor or named buffer of the command at a mailbox's head. -/
  | desc (m : Fin 16) (entry : List Byte)
  /-- A host ring of a slot. -/
  | ring (s : Fin 64)
  /-- The Remote Error Ring's CONSUMER. -/
  | rer
  deriving DecidableEq, Repr

/-- What the VEE meets while it encodes (R384). -/
inductive VeeErr where
  /-- An uncorrectable error in the frame being encoded. -/
  | frame
  /-- An uncorrectable error in the reference picture. -/
  | reference
  deriving DecidableEq, Repr

end Sys2Proof.Machine
end

