-- ==== Sys2Proof/Syntax.lean ====
section
/-!
DEFINITION. The commands and events of the part: one constructor per row of the table of operations and events.
-/
namespace Sys2Proof
open Machine

/-- The commands: host commands (mailbox), register and BAR accesses, and every event of the table. -/
inductive Instr where
  /-- DEVICE_NOP (R154). Command that returns its inline payload unchanged with status OK and no side effect. -/
  | deviceNop (c : HostCmd)
  /-- DEVICE_INFO (R153). Command that returns device identity, power state and free resource counts. -/
  | deviceInfo (c : HostCmd)
  /-- DEVICE_POWER (R155). Command that moves the device between ACTIVE, LOW, STANDBY and OFF. -/
  | devicePower (c : HostCmd)
  /-- CTX_CREATE (R156). Command that creates an empty context with a class limit and a DRAM quota. -/
  | ctxCreate (c : HostCmd)
  /-- CTX_DESTROY (R157). Command that tears a context down: stops streams, aborts jobs, releases objects and frees memory. -/
  | ctxDestroy (c : HostCmd)
  /-- MBX_BIND (R158). Command that binds a disabled mailbox to a context or releases it. -/
  | mbxBind (c : HostCmd)
  /-- MEM_ALLOC (R159). Command that takes contiguous DRAM, zero-fills it and maps it into the context. -/
  | memAlloc (c : HostCmd)
  /-- MEM_FREE (R160). Command that unmaps and frees a region unless it is still in use. -/
  | memFree (c : HostCmd)
  /-- BAR2_WINDOW (R115). Command that moves the base of the BAR2 window. -/
  | bar2Window (c : HostCmd)
  /-- MODEL_LOAD (R161). Command that checks a package in place, hashes it and write-protects it as a loaded model. -/
  | modelLoad (c : HostCmd)
  /-- MODEL_UNLOAD (R163). Command that unloads a model with no instances and clears its write protection. -/
  | modelUnload (c : HostCmd)
  /-- INSTANCE_CREATE (R424). Command that admits an instance into a free run of Feature Store granules. -/
  | instanceCreate (c : HostCmd)
  /-- INSTANCE_DESTROY (R163). Command that destroys an unused instance and frees its partition. -/
  | instanceDestroy (c : HostCmd)
  /-- MODEL_QUERY (R152). Command that returns header bytes 48 to 103 of a loaded package. -/
  | modelQuery (c : HostCmd)
  /-- PIP_ALLOC (R164). Command that allocates the lowest free block of general pips. -/
  | pipAlloc (c : HostCmd)
  /-- PIP_FREE (R164). Command that frees a pip block with no waiters or users. -/
  | pipFree (c : HostCmd)
  /-- PIP_SIGNAL (R274). Command that applies ADD, SET, POISON or CLEAR_ERR to a pip and reports its state. -/
  | pipSignal (c : HostCmd)
  /-- PIP_READ (R280). Command that returns a pip's value, error state and waiter count. -/
  | pipRead (c : HostCmd)
  /-- PIP_WAIT (R166). Asynchronous command that registers a waiter on a pip with a timeout. -/
  | pipWait (c : HostCmd)
  /-- POOL_CREATE (R167). Command that creates and enables a pool with every buffer free. -/
  | poolCreate (c : HostCmd)
  /-- POOL_DESTROY (R168). Command that disables a pool with no buffer allocated. -/
  | poolDestroy (c : HostCmd)
  /-- POOL_ALLOC (R168). Command that requests a buffer from a pool at the allocation sequencer. -/
  | poolAlloc (c : HostCmd)
  /-- POOL_FREE (R256). Command that frees a buffer by handle after the free checks. -/
  | poolFree (c : HostCmd)
  /-- POOL_QUERY (R167). Command that reads a pool's free count, minimum, failures and Buoy-2, then clears its statistics. -/
  | poolQuery (c : HostCmd)
  /-- POOL_BUOYS (R264). Command that sets new buoy levels for a pool. -/
  | poolBuoys (c : HostCmd)
  /-- DIAG_FAULT_LOG (R169). Command that copies firmware fault-log entries to host memory. -/
  | diagFaultLog (c : HostCmd)
  /-- DIAG_PROBE (R170). Command that runs one known-answer probe on a Tower. -/
  | diagProbe (c : HostCmd)
  /-- DIAG_UNIT (R170). Command that reports a unit's power, fence state, epoch and stale drops. -/
  | diagUnit (c : HostCmd)
  /-- FLASH_READ (R171). Command that copies a flash range to host memory. -/
  | flashRead (c : HostCmd)
  /-- FLASH_WRITE (R172). Command that erases and programs a flash range within one region. -/
  | flashWrite (c : HostCmd)
  /-- FW_SWITCH (R174). Asynchronous command that verifies an image and switches firmware without stopping the data plane. -/
  | fwSwitch (c : HostCmd)
  /-- FUSE_SECVER (R175). Command that blows fuses to raise SECVER_MIN. -/
  | fuseSecver (c : HostCmd)
  /-- FUSE_KEY (R175). Command that programs a key hash into an empty fuse slot. -/
  | fuseKey (c : HostCmd)
  /-- FUSE_REVOKE (R175). Command that sets a key slot's revoke fuse. -/
  | fuseRevoke (c : HostCmd)
  /-- STREAM_SOURCE (R183). Command that binds a source to a stream slot. -/
  | streamSource (c : HostCmd)
  /-- STREAM_ANALYTICS (R184). Command that sets a slot's class, instances, pools, crop limit and retention. -/
  | streamAnalytics (c : HostCmd)
  /-- STREAM_RESULT (R185). Command that sets a slot's result ring or UDP flow. -/
  | streamResult (c : HostCmd)
  /-- STREAM_START (R185). Command that admits a stream, resets its stage pips, starts supervision and opens its source. -/
  | streamStart (c : HostCmd)
  /-- STREAM_STOP (R186). Command that stops a stream's source and completes after its last record is posted. -/
  | streamStop (c : HostCmd)
  /-- STREAM_STATUS (R182). Command that reports a slot's state, queue, sequence and stage pips. -/
  | streamStatus (c : HostCmd)
  /-- STREAM_REPROCESS (R189). Command that re-issues retained frames into the ingest queue with new sequence numbers. -/
  | streamReprocess (c : HostCmd)
  /-- STREAM_CLEAR (R186). Command that frees a slot and discards its tracks, galleries and checkpoint configuration. -/
  | streamClear (c : HostCmd)
  /-- STREAM_TRACK (R187). Command that sets a slot's selection and tracking parameters. -/
  | streamTrack (c : HostCmd)
  /-- STREAM_VIEW (R188). Command that enables or disables an encoder view of a slot. -/
  | streamView (c : HostCmd)
  /-- JOB_SUBMIT (R190). Command that queues a job running one entry plan of an instance. -/
  | jobSubmit (c : HostCmd)
  /-- JOB_CANCEL (R192). Command that completes a queued or waiting job with ABORTED_RESET. -/
  | jobCancel (c : HostCmd)
  /-- JOB_QUERY (R191). Command that reports a job's state, result and run time. -/
  | jobQuery (c : HostCmd)
  /-- CKPT_WINDOW (R193). Command that defines or deletes a checkpoint window from a descriptor. -/
  | ckptWindow (c : HostCmd)
  /-- CKPT_CONFIG (R528). Command that sets a slot's checkpoint window, trigger and shards. -/
  | ckptConfig (c : HostCmd)
  /-- CKPT_NOW (R195). Command that takes a checkpoint of a slot at once. -/
  | ckptNow (c : HostCmd)
  /-- CKPT_RESTORE (R537). Asynchronous command that verifies and loads a checkpoint into a slot. -/
  | ckptRestore (c : HostCmd)
  /-- CKPT_QUERY (R194). Command that reports a slot's last checkpoint and trigger counts. -/
  | ckptQuery (c : HostCmd)
  /-- SAFETY_ARM (R196). Command that permits or forbids the release of SAFE_N. -/
  | safetyArm (c : HostCmd)
  /-- SAFETY_LOCK (R196). Command that locks the safety configuration under a code. -/
  | safetyLock (c : HostCmd)
  /-- SAFETY_UNLOCK (R196). Command that unlocks the safety configuration with the matching code. -/
  | safetyUnlock (c : HostCmd)
  /-- SAFETY_CLEAR (R197). Command that clears latched Keeper faults whose cause is gone. -/
  | safetyClear (c : HostCmd)
  /-- SAFETY_INJECT (R585). Command that injects a fault into a safety mechanism. -/
  | safetyInject (c : HostCmd)
  /-- RESET_UNIT (R549). Command that resets one unit through its gate, epoch and tombstones. -/
  | resetUnit (c : HostCmd)
  /-- POWER_UNIT (R550). Command that powers a gateable unit off or on. -/
  | powerUnit (c : HostCmd)
  /-- UNIT_FENCE (R552). Command that fences a unit, or unfences it after a passing self-test. -/
  | unitFence (c : HostCmd)
  /-- LINK_ID (R200). Command that sets the device's Lofin device ID. -/
  | linkId (c : HostCmd)
  /-- LINK_PORT (R477). Command that queries, brings up or takes down a Lofin port. -/
  | linkPort (c : HostCmd)
  /-- LINK_ROUTE (R200). Command that writes route entries for a range of device IDs. -/
  | linkRoute (c : HostCmd)
  /-- LINK_EXPORT (R201). Command that opens, replaces or closes the export window for a peer. -/
  | linkExport (c : HostCmd)
  /-- LINK_FLUSH (R202). Asynchronous command that flushes posted writes to a peer and reports failures. -/
  | linkFlush (c : HostCmd)
  /-- LINK_ERR_RING (R202). Command that sets the Remote Error Ring. -/
  | linkErrRing (c : HostCmd)
  /-- ETH_PORT (R204). Command that sets an Ethernet port's speed, frame size and MAC. -/
  | ethPort (c : HostCmd)
  /-- ETH_NEIGHBOUR (R204). Command that sets or removes a next-hop neighbour entry. -/
  | ethNeighbour (c : HostCmd)
  /-- ETH_SESSION (R204). Command that sets or removes an RTP receive session. -/
  | ethSession (c : HostCmd)
  /-- ETH_FLOW (R204). Command that sets an egress UDP flow. -/
  | ethFlow (c : HostCmd)
  /-- ETH_PTP (R204). Command that enables PTP on a port with domain and transport. -/
  | ethPtp (c : HostCmd)
  /-- ETH_STATS (R204). Command that reads and optionally clears a port's counters. -/
  | ethStats (c : HostCmd)
  /-- COMMAND_CONSUME (R132). Firmware takes the next command of a served mailbox in turn, checks its header and executes it. -/
  | commandConsume (entry : Option (List Byte)) (host : HostRead)
  /-- ASYNC_FINAL_RESPONSE (R130). An accepted asynchronous command completes and posts its final response. -/
  | asyncFinalResponse (m : Fin 16) (seq : BitVec 16)
  /-- MBX_CMD_TAIL_WRITE (R122). Host write of a mailbox command tail announcing commands. -/
  | mbxCmdTailWrite (m : Fin 16) (value : U32)
  /-- MBX_RSP_HEAD_WRITE (R136). Host write of a mailbox response head that re-arms the mailbox interrupt. -/
  | mbxRspHeadWrite (m : Fin 16) (value : U32)
  /-- MBX_ENABLE (R120). Host write of MBX_CTRL.EN = 1 enabling a bound mailbox. -/
  | mbxEnable (m : Fin 16)
  /-- MBX_DISABLE (R143). Host write of MBX_CTRL.EN = 0; the executing command completes and ENABLED falls. -/
  | mbxDisable (m : Fin 16)
  /-- MBX_INDEX_RESET (R142). Host write of MBX_CTRL.RESET that zeroes the ring indices. -/
  | mbxIndexReset (m : Fin 16)
  /-- MBX_IRQ_EN_WRITE (R136). Host write of MBX_CTRL.IRQ_EN enabling or disabling response interrupts. -/
  | mbxIrqEnWrite (m : Fin 16) (on : Bool)
  /-- RRG_READ_WRITE (R467). Host write of a result ring's read offset that re-arms its interrupt. -/
  | rrgReadWrite (s : Fin 64) (value : U32)
  /-- RRG_IRQ_WRITE (R137). Host write of a result ring's interrupt count, timeout and vector. -/
  | rrgIrqWrite (s : Fin 64) (value : U32)
  /-- RRG_IRQ_TIMEOUT (R137). A result ring's interrupt timer expires and a message is requested. -/
  | rrgIrqTimeout (s : Fin 64)
  /-- INT_STATUS_WRITE (R135). Host W1C write of INT_STATUS that may resend the vector-0 message. -/
  | intStatusWrite (value : U32)
  /-- INT_ENABLE_WRITE (R135). Host write of INT_ENABLE that may send the vector-0 message. -/
  | intEnableWrite (value : U32)
  /-- MSIX_UNMASK (R149). Host unmasks an MSI-X vector and its pending message is sent. -/
  | msixUnmask (v : Fin 64)
  /-- BAR0_BAD_ACCESS (R113). A BAR0 access of wrong size or alignment is discarded and recorded. -/
  | bar0BadAccess (offset : BitVec 24) (bytes : Nat) (write : Bool)
  /-- BAR2_READ (R116). Host read through the BAR2 window, or of the staging area before READY. -/
  | bar2Read (offset : Nat) (len : Nat)
  /-- BAR2_WRITE (R117). Host posted write through the BAR2 window, in arrival order. -/
  | bar2Write (offset : Nat) (bytes : List Byte) (poisoned : Bool)
  /-- BAR4_DOORBELL_WRITE (R279). Host 64-bit doorbell write that applies one signal operation to a pip. -/
  | bar4DoorbellWrite (offset : Nat) (bytes : List Byte) (poisoned : Bool)
  /-- BOOT_HOST_GO (R92). Host write of BOOT_HOST_CTRL.GO that checks the staged host image. -/
  | bootHostGo
  /-- SUP_AVS_ENABLE (R97). Write of SUP_AVS_CTRL.EN enabling the AVS controller. -/
  | supAvsEnable (on : Bool)
  /-- SUP_AVS_CLEAR_FAULT (R73). Host write of SUP_AVS_CTRL.CLEAR_FAULT that clears AVS_FAULT and restarts AVS. -/
  | supAvsClearFault
  /-- LTN_RANGE_WRITE (R512). Firmware write of a Lantern chain range, applied at the next dither boundary. -/
  | ltnRangeWrite (t : Fin 2) (tx : BitVec 2) (rx : BitVec 2)
  /-- MMU_INVAL_WRITE (R217). Firmware write that invalidates cached translations of a context or page. -/
  | mmuInvalWrite (value : U64)
  /-- KPR_WDOG_KICK (R577). Firmware kick of the Hyldo watchdog with the next token. -/
  | kprWdogKick (token : Byte)
  /-- REGISTER_WRITE (R10). Write to any register field without behaviour of its own, under its access type. -/
  | registerWrite (w : RegWrite)
  /-- PM_D3HOT_ENTRY (R111). Host places the function in D3hot; the device enters STANDBY or holds its requests. -/
  | pmD3hotEntry
  /-- PM_D0_RETURN (R111). Host returns the function to D0; held requests and responses resume. -/
  | pmD0Return
  /-- BUS_MASTER_ENABLE_CHANGE (R147). Host sets or clears Bus Master Enable, stopping or resuming device requests. -/
  | busMasterEnableChange (on : Bool)
  /-- POR_N_ASSERT (R75). POR_N falls and every domain is reset. -/
  | porNAssert
  /-- POR_N_RELEASE (R75). POR_N rises and boot restarts from stage 0x00. -/
  | porNRelease (bootSel : BitVec 2)
  /-- PERST_N_ASSERT (R75). PERST_N falls and every domain except AON is reset. -/
  | perstNAssert
  /-- PERST_N_RELEASE (R75). PERST_N rises and boot restarts from stage 0x00. -/
  | perstNRelease (bootSel : BitVec 2)
  /-- HOT_RESET (R75). A PCIe Hot Reset, treated as PERST_N. -/
  | hotReset (bootSel : BitVec 2)
  /-- LINK_DOWN_RESET (R75). A PCIe link-down reset, treated as PERST_N. -/
  | linkDownReset (bootSel : BitVec 2)
  /-- BOOT_STAGE_COMPLETE (R78). A boot stage finishes its work and the next stage begins. -/
  | bootStageComplete (r : StageResult)
  /-- BOOT_STAGE_TIMEOUT (R104). A boot stage runs past its maximum and boot stops with STAGE_TIMEOUT. -/
  | bootStageTimeout
  /-- PLL_NO_LOCK (R106). The PLL fails to lock within 1 ms and boot stops at stage 0x02. -/
  | pllNoLock
  /-- FLASH_NO_RESPONSE (R105). The flash gives no valid identification within 1 ms and boot stops. -/
  | flashNoResponse
  /-- UNIT_INIT_FAIL (R103). A unit does not report ready within 1 ms of power-on and boot stops. -/
  | unitInitFail (unit : Nat)
  /-- LOCKSTEP_FAIL (R95). The lockstep comparator reports a mismatch in the first 1 ms and boot stops. -/
  | lockstepFail
  /-- SUPPLY_GUARD_ACTIVATE (R64). VDD_3V3 sag or PWR_WARN_N low activates the supply guard. -/
  | supplyGuardActivate (sag : Bool) (warn : Bool)
  /-- SUPPLY_GUARD_RELEASE (R64). The guard is released after 10 ms of good supply and a suspended erase resumes. -/
  | supplyGuardRelease
  /-- GUARD_WAIT_TIMEOUT (R69). A flash or fuse command waiting on the guard completes with SUPPLY_INHIBIT after 100 ms. -/
  | guardWaitTimeout
  /-- FLASH_OP_COMPLETE (R66). A flash page program, erase or OTP program finishes. -/
  | flashOpComplete (ok : Bool)
  /-- DROOP_TRIP (R46). A droop detector trips and CLK_CORE is stretched to /12. -/
  | droopTrip
  /-- DROOP_BLOCK_END (R46). A 64-cycle stretch block ends and the divider returns to /10 or another block begins. -/
  | droopBlockEnd (e : Machine.DroopEnd)
  /-- AVS_EVALUATION (R50). The AVS controller reads the slack monitors and requests a voltage change or holds. -/
  | avsEvaluation (worst : Nat)
  /-- AVS_LOWER_TIMER (R50). Slack held above 16 for 1 ms triggers a one-step lowering. -/
  | avsLowerTimer
  /-- AVS_SETTLE_WAIT_END (R51). The 20 µs wait after an AVS request ends and evaluation resumes. -/
  | avsSettleWaitEnd
  /-- AVS_DROOP_HOLDOFF_END (R50). The 10 ms ban on lowering after a droop ends. -/
  | avsDroopHoldoffEnd
  /-- AVSBUS_FRAME_DONE (R73). An AVSBus frame completes; failures are retried and after three sets AVS_FAULT. -/
  | avsbusFrameDone (ok : Bool) (measMv : BitVec 16)
  /-- TEMP_SENSOR_READ (R55). The junction sensors are read and throttle level and HOT bits updated. -/
  | tempSensorRead (temps : Vector (BitVec 16) 12) (valid : Vector Bool 12)
  /-- THROTTLE_DWELL_EXPIRY (R55). Tmax held at threshold for 10 ms at level 1 raises throttle to level 2. -/
  | throttleDwellExpiry
  /-- THROTTLE_RELEASE_EXPIRY (R55). Tmax below threshold less hysteresis for 100 ms lowers throttle one level. -/
  | throttleReleaseExpiry
  /-- SENSOR_STUCK_TIMEOUT (R72). A sensor whose reading does not change for 1 s is marked invalid. -/
  | sensorStuckTimeout (n : Fin 12)
  /-- POWER_SWITCH_ON_STEP (R61). The next pending power switch is turned on 5 µs after the previous one. -/
  | powerSwitchOnStep
  /-- KEEPER_CLOCK_WINDOW (R44). A 100 µs window ends and each clock count is compared with its expected value. -/
  | keeperClockWindow (counts : Vector Nat 5)
  /-- KEEPER_SUPPLY_FAULT (R63). A supply outside its window past the 5 µs deglitch is latched as a supply fault. -/
  | keeperSupplyFault (supply : Nat) (mv : U32)
  /-- KEEPER_SELF_TEST (R570). The 100 ms self-test feeds each monitor test stimuli. -/
  | keeperSelfTest (pass : Bool)
  /-- KEEPER_SM_MISMATCH (R570). The duplicated Keeper state machines disagree and a KEEPER fault latches. -/
  | keeperSmMismatch
  /-- WATCHDOG_TIMEOUT (R577). No accepted kick by 20 ms latches a WATCHDOG fault. -/
  | watchdogTimeout
  /-- HYL_LOCKSTEP_MISMATCH (R576). A Hyldo lockstep mismatch after READY latches LOCKSTEP and a device fault. -/
  | hylLockstepMismatch
  /-- DEVICE_FAULT_REPORT (R576). A unit's hardware report line or monitor signals a device fault to the Keeper. -/
  | deviceFaultReport (unit : Byte) (detail : Byte) (value : U32)
  /-- SOURCE_WATCH_EXPIRY (R572). No source arrival for 2 periods latches a SOURCE stream fault. -/
  | sourceWatchExpiry (s : Fin 64)
  /-- DEADLINE_WATCH_EXPIRY (R572). A frame's POST not reached 33 ms after arrival latches DEADLINE. -/
  | deadlineWatchExpiry (s : Fin 64)
  /-- NO_RESULT_WATCH_EXPIRY (R572). No OK record for 2 periods latches NO_RESULT. -/
  | noResultWatchExpiry (s : Fin 64)
  /-- START_WATCH_EXPIRY (R572). No OK record within 2 s of supervision start latches START. -/
  | startWatchExpiry (s : Fin 64)
  /-- SAFE_N_RELEASE (R580). At a tick where all release conditions hold, SAFE_N is released and BEACON starts. -/
  | safeNRelease
  /-- BEACON_TOGGLE (R582). BEACON changes level every 25,000 Keeper oscillator cycles while SAFE_N is released. -/
  | beaconToggle
  /-- CSI_HS_BURST_START (R333). A high-speed burst starts and the receiver learns or checks its lane count. -/
  | csiHsBurstStart (n : Fin 6) (lanes : List Nat)
  /-- CSI_FRAME_START (R334). A Frame Start packet opens a frame and requests a source buffer. -/
  | csiFrameStart (n : Fin 6) (vc : Nat) (hdr : CsiHdr)
  /-- CSI_LONG_PACKET (R335). A long packet of a line is checked and written at its line offset. -/
  | csiLongPacket (n : Fin 6) (vc : Nat) (dt : Nat) (hdr : CsiHdr) (data : List Byte) (crcOk : Bool)
  /-- CSI_FRAME_END (R334). A Frame End packet closes the frame as whole or damaged. -/
  | csiFrameEnd (n : Fin 6) (vc : Nat) (hdr : CsiHdr)
  /-- CSI_LANE_FAULT (R348). The lane-state monitor reports a fault and bound slots lose their source. -/
  | csiLaneFault (n : Fin 6)
  /-- LINE_TIMER_EXPIRY (R346). The line timer expires and the slot loses its source. -/
  | lineTimerExpiry (s : Fin 64)
  /-- FRAME_TIMER_EXPIRY (R346). The frame timer expires and the slot loses its source. -/
  | frameTimerExpiry (s : Fin 64)
  /-- ETH_FRAME_RECEIVE (R337). An Ethernet frame is received, filtered and matched to a session. -/
  | ethFrameReceive (e : Fin 2) (bytes : List Byte)
  /-- RTP_GAP_TIMER (R340). A missing sequence number is declared a gap 1 ms after the next packet. -/
  | rtpGapTimer (session : Fin 64)
  /-- ASSEMBLY_TIMER_EXPIRY (R346). An open access unit's assembly timer expires and it completes damaged. -/
  | assemblyTimerExpiry (s : Fin 64)
  /-- HOST_RING_POLL (R345). The device reads a host ring's PRODUCER. -/
  | hostRingPoll (s : Fin 64) (host : HostRead)
  /-- HOST_RING_ENTRY_COPY (R345). A host ring entry is copied into a source buffer and CONSUMER advanced. -/
  | hostRingEntryCopy (s : Fin 64) (host : HostRead)
  /-- HOST_RING_HALT (R354). A bad length or host read failure halts the ring and the slot loses its source. -/
  | hostRingHalt (s : Fin 64)
  /-- STALE_RECORD_DUE (R350). At a due time of a STALE slot a stale record enters the ingest queue. -/
  | staleRecordDue (s : Fin 64)
  /-- PTP_MESSAGE_RECEIVE (R329). A PTP message is timestamped and fed to the time-base servo. -/
  | ptpMessageReceive (e : Fin 2) (domain : Nat) (msg : PtpIn)
  /-- PTM_REQUEST (R329). The device issues a PTM request every 10 ms. -/
  | ptmRequest
  /-- PTM_DIALOGUE_DONE (R329). A PTM dialogue completes and the servo is updated. -/
  | ptmDialogueDone (ok : Bool) (offset : Int)
  /-- PPS_EDGE (R328). A rising edge on PTP_PPS_IN qualifies PPS or steers the servo. -/
  | ppsEdge
  /-- PPS_TIMEOUT (R328). No PPS edge within 1,500 ms and PPS is lost. -/
  | ppsTimeout
  /-- DISCIPLINE_SOURCE_LOSS (R330). The source in use expires; holdover is set and the next source chosen. -/
  | disciplineSourceLoss
  /-- TBS_LOCK_TIMER (R329). The offset held within 1 µs for 10 s sets LOCKED. -/
  | tbsLockTimer
  /-- PPS_OUT_PULSE (R330). PTP_PPS_OUT rises at each whole second of device time and falls 1 ms later. -/
  | ppsOutPulse (rise : Bool)
  /-- WORK_ITEM_ELIGIBLE (R296). A work item's guarding waits release and the dispatcher places it. -/
  | workItemEligible (item : Item)
  /-- SAVE_RESTORE_DONE (R307). A save and restore complete and the incoming or resumed item starts. -/
  | saveRestoreDone (e : Fin 32) (err : Bool)
  /-- UNIT_YIELD (R310). A PPE pipe or VDE yields at a band or row end to a level-0 item. -/
  | unitYield (e : Fin 32)
  /-- ENGINE_ITEM_COMPLETE (R297). A Tower or VPU item completes, signals its pip and the engine takes its next item. -/
  | engineItemComplete (e : Fin 32) (r : ItemEnd)
  /-- WEIGHT_IMAGE_LOAD_DONE (R413). A weight image and its codebooks finish loading into a Weight Buffer. -/
  | weightImageLoadDone (t : Fin 8) (ok : Bool) (books : List (List Byte))
  /-- VPU_LOCAL_LOAD_DONE (R434). A model's VPU local bytes finish loading. -/
  | vpuLocalLoadDone (v : Fin 16) (ok : Bool)
  /-- TILE_RUN_COMPLETE (R428). A tile-run ends and its checksum row and column are compared. -/
  | tileRunComplete (t : Fin 8) (r : TileRun) (faults : List (TileSite × U32))
  /-- TILE_RUN_RETRY_DONE (R431). A retried tile-run completes; a second failure discards the item and places a probe. -/
  | tileRunRetryDone (t : Fin 8) (faults : List (TileSite × U32))
  /-- RUN_LIMIT_EXCEEDED (R299). An item running 400,000 cycles is stopped and discarded. -/
  | runLimitExceeded (e : Fin 32)
  /-- PROBE_DUE (R311). A Tower's 10 ms known-answer probe falls due and is placed at level 0. -/
  | probeDue (t : Fin 8)
  /-- PROBE_COMPLETE (R432). A known-answer probe completes; a failure fences the Tower. -/
  | probeComplete (t : Fin 8) (passes : Vector Bool 4)
  /-- REFERENCE_VECTOR_DUE (R578). A unit's 20 ms reference vector falls due and is placed at level 0. -/
  | referenceVectorDue (e : Fin 34)
  /-- REFERENCE_VECTOR_COMPLETE (R578). A reference vector completes; a failure fences the unit. -/
  | referenceVectorComplete (e : Fin 34) (pass : Bool)
  /-- LEVEL3_PROMOTION (R300). A level-3 item waiting 50 ms is promoted ahead of level 2. -/
  | level3Promotion (e : Fin 32) (id : Nat)
  /-- QUANTUM_END (R302). A time-slice quantum ends and level-2 ownership passes on. -/
  | quantumEnd (vpu : Bool)
  /-- ADMISSION_REEVALUATE (R317). Capacity is recomputed and Q-class streams shed or restored. -/
  | admissionReevaluate
  /-- FS_SCRUB_ACCESS (R427). The Feature Store scrubber reads a word and corrects or poisons it. -/
  | fsScrubAccess (err : Option EccErr)
  /-- DECODE_COMPLETE (R360). A VDE finishes an access unit and writes its picture or a GAP. -/
  | decodeComplete (v : Fin 4) (pic : Picture)
  /-- DECODE_STOP_TIMEOUT (R383). A picture decoding too long is stopped and the VDE reset. -/
  | decodeStopTimeout (v : Fin 4)
  /-- VEE_ENCODE_COMPLETE (R374). The VEE finishes encoding a picture and takes the next. -/
  | veeEncodeComplete (err : Option VeeErr)
  /-- VEE_SLICE_SEND (R379). A coded slice is packetised and sent as RTP. -/
  | veeSliceSend (v : Fin 4) (nals : List (List Byte)) (lastSlice : Bool)
  /-- PREP_COMPLETE (R405). The scan pipe finishes a frame's detector input tensor. -/
  | prepComplete (p : Fin 2) (ue : Bool)
  /-- CROP_COMPLETE (R404). The region pipe finishes a frame's crops. -/
  | cropComplete (p : Fin 2) (ue : Bool)
  /-- PPE_STOP_TIMEOUT (R408). A PREP or CROP item running too long is stopped and the PPE reset. -/
  | ppeStopTimeout (p : Fin 2) (region : Bool)
  /-- SELECT_COMPLETE (R444). The SSU finishes sorting, suppression and mapping of a frame's candidates. -/
  | selectComplete (s : Fin 64) (poisoned : Bool)
  /-- TRACK_COMPLETE (R457). TRK predicts, associates, updates and commits a frame's tracks and builds its record. -/
  | trackComplete (s : Fin 64) (ue : Bool)
  /-- SSU_TRK_STOP_TIMEOUT (R472). An SSU or TRK item running too long is stopped and the unit reset. -/
  | ssuTrkStopTimeout (trk : Bool)
  /-- RESULT_POST (R465). The result DMA writes a record to its ring or queues its datagrams. -/
  | resultPost (s : Fin 64)
  /-- RESULT_RING_FULL_TIMEOUT (R466). A record waiting 1 ms for ring room is dropped and counted. -/
  | resultRingFullTimeout (s : Fin 64)
  /-- UDP_DATAGRAM_SEND (R471). An Ethernet port sends the next datagram by priority. -/
  | udpDatagramSend (e : Fin 2)
  /-- BPM_ALLOC_DECISION (R253). A pool sequencer decides one waiting allocation request. -/
  | bpmAllocDecision (p : Fin 16)
  /-- BPM_FREE (R256). A pool sequencer applies one free after its checks. -/
  | bpmFree (unit : Nat) (epoch : BitVec 8) (free : FreeReq)
  /-- BPM_CACHE_REFILL (R249). A RING pool's cache is refilled from its DRAM ring. -/
  | bpmCacheRefill (p : Fin 16)
  /-- BPM_CACHE_SPILL (R249). A RING pool's cache spills handles to its DRAM ring. -/
  | bpmCacheSpill (p : Fin 16)
  /-- BPM_REBUILD_DONE (R267). A pool's free store rebuild completes and allocations resume. -/
  | bpmRebuildDone (p : Fin 16)
  /-- ADAPTIVE_WINDOW_END (R263). A 1 ms window ends and RATE and B2 are updated. -/
  | adaptiveWindowEnd (p : Fin 16)
  /-- PIP_SIGNAL_APPLY (R274). A signal operation from a unit, doorbell, command or peer is applied to a pip. -/
  | pipSignalApply (by_ : PipBy) (pip : Nat) (op : Nat) (value : U32) (err : Option EccErr)
  /-- PIP_WAIT_REGISTER (R275). A wait reaches the pip store and is registered or released at once. -/
  | pipWaitRegister (w : WaitReq)
  /-- PIP_OVERFLOW_POLL (R288). A waiter held outside the full watch table is tested every 256 cycles. -/
  | pipOverflowPoll
  /-- PIP_WAIT_TIMEOUT (R289). A PIP_WAIT timeout passes and it completes with BUSY. -/
  | pipWaitTimeout (m : Fin 16) (seq : BitVec 16)
  /-- DMC_READ_REQUEST (R225). A read reaches a DMC and is ordered against queued writes. -/
  | dmcReadRequest (n : Fin 4) (line : Nat) (mask : BitVec 64) (req : Requester)
  /-- DMC_WRITE_REQUEST (R236). A write reaches a DMC and is queued, merged or read-modify-written. -/
  | dmcWriteRequest (n : Fin 4) (line : Nat) (mask : BitVec 64) (data : List Byte) (req : Requester)
  /-- PAGE_IDLE_CLOSE (R224). A NONE-hinted row idle for PAGE_IDLE cycles is precharged. -/
  | pageIdleClose (n : Fin 4) (bank : Nat)
  /-- DRAM_REFRESH (R229). A per-bank refresh falls due at tREFIpb. -/
  | dramRefresh (n : Fin 4) (issued : Bool)
  /-- MR4_POLL (R230). A DMC reads MR4 and sets its refresh rate or raises a thermal fault. -/
  | mr4Poll (n : Fin 4) (code : Option (BitVec 5)) (req : Mr4Req)
  /-- DRIFT_UPDATE (R233). A DMC measures interval-oscillator drift and moves lane delays. -/
  | driftUpdate (n : Fin 4) (lane : Fin 4) (rd : Int) (wr : Int)
  /-- PATROL_SCRUB_STEP (R240). The patrol scrub reads a line and corrects or reports it. -/
  | patrolScrubStep (n : Fin 4) (err : Option EccErr)
  /-- DMC_UNANSWERED_TIMEOUT (R243). A DMC request unanswered for 10 µs is a device fault. -/
  | dmcUnansweredTimeout (n : Fin 4)
  /-- MMU_TRANSLATE (R214). A context request is translated by cache or table walk. -/
  | mmuTranslate (ctx : Nat) (unit : Nat) (addr : Nat) (len : Nat) (write : Bool) (walkUe : Bool)
  /-- TEARDOWN_DRAIN_DONE (R241). A destroyed context's in-flight requests drain and its memory is freed. -/
  | teardownDrainDone (ctx : Fin 64)
  /-- STALE_EPOCH_DROP (R547). A message carrying a stale epoch reaches the fabric and is dropped. -/
  | staleEpochDrop (unit : Nat) (epoch : BitVec 8)
  /-- UNIT_RESET_COMPLETE (R549). A reset unit's epoch drain ends and its gate reopens. -/
  | unitResetComplete (unit : Nat)
  /-- UNIT_POWER_ON_DONE (R550). A powered-on unit is initialised and its gate reopens. -/
  | unitPowerOnDone (unit : Nat)
  /-- EPOCH_DRAIN_TIMEOUT (R562). An epoch count still non-zero 200 µs after closure is a device fault. -/
  | epochDrainTimeout (unit : Nat)
  /-- FW_IMAGE_CHECK_DONE (R174). FW_SWITCH finishes checking the named image and begins DRAIN or fails. -/
  | fwImageCheckDone
  /-- FW_SWITCH_DRAIN_DONE (R139). DRAIN completes and HANDOVER begins. -/
  | fwSwitchDrainDone
  /-- FW_SWITCH_DRAIN_TIMEOUT (R141). DRAIN exceeds 100 ms and the switch is abandoned. -/
  | fwSwitchDrainTimeout
  /-- FW_SWITCH_HANDOVER_DONE (R558). HANDOVER completes and the new image enters RUN. -/
  | fwSwitchHandoverDone
  /-- FW_SWITCH_REVERT (R561). A failing new image is reverted and FW_SWITCH completes with INTERNAL. -/
  | fwSwitchRevert
  /-- CKPT_TIMER_TRIGGER (R530). A timer checkpoint trigger fires. -/
  | ckptTimerTrigger (s : Fin 64)
  /-- CKPT_SNAPSHOT (R532). A checkpoint takes granules and starts copying the slot at a TRACK boundary. -/
  | ckptSnapshot (s : Fin 64)
  /-- CKPT_COPY_DONE (R532). The snapshot copy ends and the slot's next TRACK may run. -/
  | ckptCopyDone (s : Fin 64) (ue : Bool)
  /-- CKPT_REDUCTION_DONE (R533). Reduction and digests finish and the writer sends the checkpoint bytes. -/
  | ckptReductionDone (s : Fin 64) (ue : Bool)
  /-- LINK_TRAINING_DONE (R477). A Lofin port reaches up and sends HELLO. -/
  | linkTrainingDone (p : Fin 4) (lanes : List Nat)
  /-- LINK_TRAINING_TIMEOUT (R477). A training attempt times out and is repeated, or the port fails. -/
  | linkTrainingTimeout (p : Fin 4)
  /-- FLIT_RECEIVE (R479). A flit is received, checked and acknowledged or rejected with NAK. -/
  | flitReceive (p : Fin 4) (flit : List Byte) (ue : Option LinkBuf)
  /-- LINK_CONTROL_FLIT_SEND (R478). A receiver sends a link-control flit with ACK and credits. -/
  | linkControlFlitSend (p : Fin 4)
  /-- RETRAIN_TIMEOUT (R479). A retrain not complete in 200 µs takes the link down. -/
  | retrainTimeout (p : Fin 4)
  /-- LFN_LOSS_OF_LOCK (R499). A receiver loses lock for 2 µs and the link goes down. -/
  | lfnLossOfLock (p : Fin 4)
  /-- LFN_PACKET_FORWARD (R485). A packet for another device is forwarded on its route. -/
  | lfnPacketForward (p : Fin 4) (pkt : Packet)
  /-- CREDIT_WAIT_TIMEOUT (R485). A packet waiting 25 µs for credits is discarded with CONGESTION. -/
  | creditWaitTimeout (p : Fin 4)
  /-- WRITE_POSTED_ARRIVE (R490). A posted write arrives, is checked against the window and performed. -/
  | writePostedArrive (p : Fin 4) (pkt : Packet)
  /-- READ_REQ_ARRIVE (R491). A read request arrives and waits for its write count. -/
  | readReqArrive (p : Fin 4) (pkt : Packet)
  /-- PIP_SIGNAL_PACKET_ARRIVE (R281). A peer PIP_SIGNAL packet arrives and waits for its write count. -/
  | pipSignalPacketArrive (p : Fin 4) (pkt : Packet)
  /-- FLUSH_ARRIVE (R494). A FLUSH arrives and waits for its write count. -/
  | flushArrive (p : Fin 4) (pkt : Packet)
  /-- WCOUNT_SERVE (R493). A waiting read, signal or flush is served when its writes are accounted or after 1 ms. -/
  | wcountServe (pkt : Packet)
  /-- READ_RSP_ARRIVE (R491). A read response arrives and completes or fails the remote read. -/
  | readRspArrive (p : Fin 4) (pkt : Packet)
  /-- READ_TIMEOUT (R491). A remote read with no response in 3 ms fails with UNREACHABLE. -/
  | readTimeout (tag : BitVec 16)
  /-- FLUSH_ACK_ARRIVE (R494). A FLUSH_ACK arrives and reports failed writes. -/
  | flushAckArrive (p : Fin 4) (pkt : Packet)
  /-- FLUSH_ACK_TIMEOUT (R494). A FLUSH with no ack in 3 ms completes with UNREACHABLE. -/
  | flushAckTimeout (dst : Nat)
  /-- ERR_NOTICE_ARRIVE (R496). An error notice arrives, is logged and poisons its fence pip. -/
  | errNoticeArrive (p : Fin 4) (pkt : Packet)
  /-- ERR_NOTICE_SEND (R495). A device sends an error notice for a failed VC0 packet. -/
  | errNoticeSend
  /-- HELLO_ARRIVE (R484). A HELLO arrives and records the peer's ID. -/
  | helloArrive (p : Fin 4) (pkt : Packet)
  /-- WINDOW_ARRIVE (R489). A WINDOW message arrives and updates the peer's window and epoch. -/
  | windowArrive (p : Fin 4) (pkt : Packet)
  /-- WINDOW_QUERY_ARRIVE (R489). A WINDOW_QUERY arrives and is answered with WINDOW. -/
  | windowQueryArrive (p : Fin 4) (pkt : Packet)
  /-- WINDOW_QUERY_TIMEOUT (R488). Requests held 100 µs for a WINDOW are released. -/
  | windowQueryTimeout (dst : Nat)
  /-- REMOTE_REQUEST_ISSUE (R500). An engine or firmware issues a request to a remote window. -/
  | remoteRequestIssue (by_ : RemoteBy) (req : RemoteReq)
  /-- RER_CONSUMER_POLL (R497). The device reads the Remote Error Ring CONSUMER every 100 µs. -/
  | rerConsumerPoll (consumer : Option U32)
  /-- LTN_CAL_DONE (R515). Range ratios are calibrated and the port enters ACQUIRE. -/
  | ltnCalDone (t : Fin 2) (ratios : Vector U32 6)
  /-- LTN_LIGHT_QUALIFIED (R516). A chain's light stays above qualification for 100 µs and acquisition starts. -/
  | ltnLightQualified (t : Fin 2) (rx : Bool)
  /-- LTN_SWEEP_DWELL_END (R516). A sweep dwell ends and the heater steps on. -/
  | ltnSweepDwellEnd (t : Fin 2) (rx : Bool) (raw : Nat) (found : Option SweepFound)
  /-- LTN_INTEGRATION_END (R508). An integration interval ends and each ring's loop updates its heater code. -/
  | ltnIntegrationEnd (t : Fin 2) (rx : Bool) (y : Vector Int 8) (peak : Nat) (overload : Bool)
  /-- LTN_DITHER_BOUNDARY (R513). At a dither-period boundary a requested range change is applied and integrators freeze. -/
  | ltnDitherBoundary (t : Fin 2) (rx : Bool) (peak : Nat)
  /-- LTN_BLANKING_END (R513). 64 µs blanking ends and samples are rescaled to the new range. -/
  | ltnBlankingEnd (t : Fin 2) (rx : Bool)
  /-- LTN_ACQUIRE_TIMEOUT (R517). A chain not locked in 75 ms sends the port to FAULT. -/
  | ltnAcquireTimeout (t : Fin 2)
  /-- LTN_RELOCK_TIMEOUT (R518). A ring not relocked in 100 ms sends the port to FAULT. -/
  | ltnRelockTimeout (t : Fin 2) (r : Fin 16)
  /-- LTN_LOCK_DEADLINE (R519). A Lantern port not LOCKED 1 s after LINK_PORT up returns to OFF. -/
  | ltnLockDeadline (t : Fin 2)
  /-- LTN_LIGHT_LOSS (R520). A chain below threshold for 8 µs goes dark and the port enters DARK. -/
  | ltnLightLoss (t : Fin 2) (rx : Bool)
  /-- LTN_WARM_RELOCK_START (R522). Light back for 100 µs starts a warm relock. -/
  | ltnWarmRelockStart (t : Fin 2)
  /-- LTN_WARM_RELOCK_TIMEOUT (R522). A warm relock not complete in 20 ms falls back to CAL. -/
  | ltnWarmRelockTimeout (t : Fin 2)
  /-- LTN_HEATER_FAULT (R523). A heater current wrong for 1 ms marks it faulty and drops its line. -/
  | ltnHeaterFault (t : Fin 2) (r : Fin 16)
  /-- LTN_MONITOR_FAULT (R524). A stuck ADC or bad calibration sends the port to FAULT. -/
  | ltnMonitorFault (t : Fin 2) (rx : Bool)
  /-- PCIE_COMPLETION_TIMEOUT (R148). A read that the device issued to the host gets no completion within the Device Control 2 timeout and fails. -/
  | pcieCompletionTimeout (by_ : PcieRead)
  /-- PCIE_TLP_ERROR (R148). A receiver error, bad TLP or DLLP, replay, malformed TLP, poisoned TLP or request outside the BARs is logged through AER. -/
  | pcieTlpError (kind : AerKind)
  /-- FLUSH_SPACING_END (R494). The 10 µs after a FLUSH_ACK from a target passes, and a waiting FLUSH to that target is sent. -/
  | flushSpacingEnd (dst : Nat)
  /-- UNIT_INTERNAL_FAULT (R355). A CSI receiver, an Ethernet port or the Lantern control logic reports an internal fault and is fenced. -/
  | unitInternalFault (unit : Nat)
  /-- UNIT_READY_TIMEOUT (R566). A unit in reset or power-on does not report ready in time and is fenced; its command completes with DISCARDED_FAULT. -/
  | unitReadyTimeout (unit : Nat)
  /-- VDD_IO18_LOSS (R613). VDD_IO18 leaves its window; the Keeper stops, SAFE_N loses its pull-up and the Keeper log and counters are lost. -/
  | vddIo18Loss
  /-- PTP_DELAY_REQ_SEND (R329). As a PTP slave, the device sends a timestamped Delay_Req of the delay request-response mechanism. -/
  | ptpDelayReqSend (e : Fin 2)
  /-- ETH_PCS_LOCK_CHANGE (R469). An Ethernet port's PCS gains or loses lock, so the port comes up or goes down and its datagrams are sent or dropped. -/
  | ethPcsLockChange (e : Fin 2) (up : Bool)
  deriving DecidableEq, Repr

end Sys2Proof
end

