-- ==== Sys2Proof/Machine/Crypto.lean ====
section
/-!
DEFINITION. SHA-256, SHA-384 and ECDSA P-384 verification, as FIPS 180-4 and FIPS 186-5 define them (03 R86, R88, R89;
05 model and image digests).
-/

namespace Sys2Proof.Machine
open Sys2Proof

/-- Round constants of SHA-256, part 0. -/
def sha256K_0 : List U32 :=
  [0x428A2F98, 0x71374491, 0xB5C0FBCF, 0xE9B5DBA5, 0x3956C25B, 0x59F111F1,
   0x923F82A4, 0xAB1C5ED5, 0xD807AA98, 0x12835B01, 0x243185BE, 0x550C7DC3,
   0x72BE5D74, 0x80DEB1FE, 0x9BDC06A7, 0xC19BF174]

/-- Round constants of SHA-256, part 1. -/
def sha256K_1 : List U32 :=
  [0xE49B69C1, 0xEFBE4786, 0x0FC19DC6, 0x240CA1CC, 0x2DE92C6F, 0x4A7484AA,
   0x5CB0A9DC, 0x76F988DA, 0x983E5152, 0xA831C66D, 0xB00327C8, 0xBF597FC7,
   0xC6E00BF3, 0xD5A79147, 0x06CA6351, 0x14292967]

/-- Round constants of SHA-256, part 2. -/
def sha256K_2 : List U32 :=
  [0x27B70A85, 0x2E1B2138, 0x4D2C6DFC, 0x53380D13, 0x650A7354, 0x766A0ABB,
   0x81C2C92E, 0x92722C85, 0xA2BFE8A1, 0xA81A664B, 0xC24B8B70, 0xC76C51A3,
   0xD192E819, 0xD6990624, 0xF40E3585, 0x106AA070]

/-- Round constants of SHA-256, part 3. -/
def sha256K_3 : List U32 :=
  [0x19A4C116, 0x1E376C08, 0x2748774C, 0x34B0BCB5, 0x391C0CB3, 0x4ED8AA4A,
   0x5B9CCA4F, 0x682E6FF3, 0x748F82EE, 0x78A5636F, 0x84C87814, 0x8CC70208,
   0x90BEFFFA, 0xA4506CEB, 0xBEF9A3F7, 0xC67178F2]

/-- Round constants of SHA-256. -/
def sha256K : List U32 := sha256K_0 ++ sha256K_1 ++ sha256K_2 ++ sha256K_3

/-- Initial value of SHA-256. -/
def sha256H : List U32 :=
  [0x6A09E667, 0xBB67AE85, 0x3C6EF372, 0xA54FF53A,
   0x510E527F, 0x9B05688C, 0x1F83D9AB, 0x5BE0CD19]

/-- Round constants of SHA-384, part 0. -/
def sha512K_0 : List U64 :=
  [0x428A2F98D728AE22, 0x7137449123EF65CD, 0xB5C0FBCFEC4D3B2F, 0xE9B5DBA58189DBBC,
   0x3956C25BF348B538, 0x59F111F1B605D019, 0x923F82A4AF194F9B, 0xAB1C5ED5DA6D8118,
   0xD807AA98A3030242, 0x12835B0145706FBE, 0x243185BE4EE4B28C, 0x550C7DC3D5FFB4E2,
   0x72BE5D74F27B896F, 0x80DEB1FE3B1696B1, 0x9BDC06A725C71235, 0xC19BF174CF692694]

/-- Round constants of SHA-384, part 1. -/
def sha512K_1 : List U64 :=
  [0xE49B69C19EF14AD2, 0xEFBE4786384F25E3, 0x0FC19DC68B8CD5B5, 0x240CA1CC77AC9C65,
   0x2DE92C6F592B0275, 0x4A7484AA6EA6E483, 0x5CB0A9DCBD41FBD4, 0x76F988DA831153B5,
   0x983E5152EE66DFAB, 0xA831C66D2DB43210, 0xB00327C898FB213F, 0xBF597FC7BEEF0EE4,
   0xC6E00BF33DA88FC2, 0xD5A79147930AA725, 0x06CA6351E003826F, 0x142929670A0E6E70]

/-- Round constants of SHA-384, part 2. -/
def sha512K_2 : List U64 :=
  [0x27B70A8546D22FFC, 0x2E1B21385C26C926, 0x4D2C6DFC5AC42AED, 0x53380D139D95B3DF,
   0x650A73548BAF63DE, 0x766A0ABB3C77B2A8, 0x81C2C92E47EDAEE6, 0x92722C851482353B,
   0xA2BFE8A14CF10364, 0xA81A664BBC423001, 0xC24B8B70D0F89791, 0xC76C51A30654BE30,
   0xD192E819D6EF5218, 0xD69906245565A910, 0xF40E35855771202A, 0x106AA07032BBD1B8]

/-- Round constants of SHA-384, part 3. -/
def sha512K_3 : List U64 :=
  [0x19A4C116B8D2D0C8, 0x1E376C085141AB53, 0x2748774CDF8EEB99, 0x34B0BCB5E19B48A8,
   0x391C0CB3C5C95A63, 0x4ED8AA4AE3418ACB, 0x5B9CCA4F7763E373, 0x682E6FF3D6B2B8A3,
   0x748F82EE5DEFB2FC, 0x78A5636F43172F60, 0x84C87814A1F0AB72, 0x8CC702081A6439EC,
   0x90BEFFFA23631E28, 0xA4506CEBDE82BDE9, 0xBEF9A3F7B2C67915, 0xC67178F2E372532B]

/-- Round constants of SHA-384, part 4. -/
def sha512K_4 : List U64 :=
  [0xCA273ECEEA26619C, 0xD186B8C721C0C207, 0xEADA7DD6CDE0EB1E, 0xF57D4F7FEE6ED178,
   0x06F067AA72176FBA, 0x0A637DC5A2C898A6, 0x113F9804BEF90DAE, 0x1B710B35131C471B,
   0x28DB77F523047D84, 0x32CAAB7B40C72493, 0x3C9EBE0A15C9BEBC, 0x431D67C49C100D4C,
   0x4CC5D4BECB3E42B6, 0x597F299CFC657E2A, 0x5FCB6FAB3AD6FAEC, 0x6C44198C4A475817]

/-- Round constants of SHA-384. -/
def sha512K : List U64 := sha512K_0 ++ sha512K_1 ++ sha512K_2 ++ sha512K_3 ++ sha512K_4

/-- Initial value of SHA-384. -/
def sha384H : List U64 :=
  [0xCBBB9D5DC1059ED8, 0x629A292A367CD507, 0x9159015A3070DD17, 0x152FECD8F70E5939,
   0x67332667FFC00B31, 0x8EB44A8768581511, 0xDB0C2E0D64F98FA7, 0x47B5481DBEFA4FA4]

/-- Cut bytes into blocks of `n`. -/
def blocks (n : Nat) : Nat → List Byte → List (List Byte)
  | 0, _ => []
  | _ + 1, [] => []
  | k + 1, bs => bs.take n :: blocks n k (bs.drop n)

/-- Padding to blocks of `b` bytes with an `l`-byte length. -/
def shaPad (b l : Nat) (m : List Byte) : List Byte :=
  let z := (2 * b - 1 - l - m.length % b) % b
  m ++ [0x80] ++ zeros z ++ beBytes l (8 * m.length)

/-- The message schedule: words in reverse order, extended to `n` words. -/
def shaExtend {w : Nat} (s0 s1 : BitVec w → BitVec w) : Nat → List (BitVec w) → List (BitVec w)
  | 0, ws => ws
  | n + 1, ws => shaExtend s0 s1 n ((s1 (ws.getD 1 0) + ws.getD 6 0 + s0 (ws.getD 14 0) + ws.getD 15 0) :: ws)

/-- One round. -/
def shaRound {w : Nat} (b0 b1 : BitVec w → BitVec w) (v : List (BitVec w)) (kw : BitVec w × BitVec w) : List (BitVec w) :=
  match v with
  | [a, b, c, d, e, f, g, h] =>
    let t1 := h + b1 e + ((e &&& f) ^^^ (~~~e &&& g)) + kw.1 + kw.2
    let t2 := b0 a + ((a &&& b) ^^^ (a &&& c) ^^^ (b &&& c))
    [t1 + t2, a, b, c, d + t1, e, f, g]
  | _ => v

/-- SHA-256 of bytes. -/
def sha256 (m : List Byte) : List Byte :=
  let s0 := fun (x : U32) => x.rotateRight 7 ^^^ x.rotateRight 18 ^^^ (x >>> 3)
  let s1 := fun (x : U32) => x.rotateRight 17 ^^^ x.rotateRight 19 ^^^ (x >>> 10)
  let b0 := fun (x : U32) => x.rotateRight 2 ^^^ x.rotateRight 13 ^^^ x.rotateRight 22
  let b1 := fun (x : U32) => x.rotateRight 6 ^^^ x.rotateRight 11 ^^^ x.rotateRight 25
  let p := shaPad 64 8 m
  let h := (blocks 64 p.length p).foldl (fun h blk =>
    let ws := (blocks 4 16 blk).map (fun w => (BitVec.ofNat 32 (beNat w) : U32))
    let sched := (shaExtend s0 s1 48 ws.reverse).reverse
    let v := (sha256K.zip sched).foldl (shaRound b0 b1) h
    (h.zip v).map (fun x => x.1 + x.2)) sha256H
  h.flatMap (fun x => beBytes 4 x.toNat)

/-- SHA-384 of bytes. -/
def sha384 (m : List Byte) : List Byte :=
  let s0 := fun (x : U64) => x.rotateRight 1 ^^^ x.rotateRight 8 ^^^ (x >>> 7)
  let s1 := fun (x : U64) => x.rotateRight 19 ^^^ x.rotateRight 61 ^^^ (x >>> 6)
  let b0 := fun (x : U64) => x.rotateRight 28 ^^^ x.rotateRight 34 ^^^ x.rotateRight 39
  let b1 := fun (x : U64) => x.rotateRight 14 ^^^ x.rotateRight 18 ^^^ x.rotateRight 41
  let p := shaPad 128 16 m
  let h := (blocks 128 p.length p).foldl (fun h blk =>
    let ws := (blocks 8 16 blk).map (fun w => (BitVec.ofNat 64 (beNat w) : U64))
    let sched := (shaExtend s0 s1 64 ws.reverse).reverse
    let v := (sha512K.zip sched).foldl (shaRound b0 b1) h
    (h.zip v).map (fun x => x.1 + x.2)) sha384H
  (h.take 6).flatMap (fun x => beBytes 8 x.toNat)

/-! ### ECDSA over P-384 -/

/-- The field prime of P-384. -/
def p384 : Nat := 2 ^ 384 - 2 ^ 128 - 2 ^ 96 + 2 ^ 32 - 1
/-- The order of the base point. -/
def n384 : Nat := 0xffffffffffffffffffffffffffffffffffffffffffffffffc7634d81f4372ddf581a0db248b0a77aecec196accc52973
/-- The curve's b. -/
def b384 : Nat := 0xb3312fa7e23ee7e4988e056be3f82d19181d9c6efe8141120314088f5013875ac656398d8a2ed19d2a85c8edd3ec2aef
/-- The base point. -/
def g384 : Nat × Nat :=
  (0xaa87ca22be8b05378eb1c71ef320ad746e1d3b628ba79b9859f741e082542a385502f25dbf55296c3a545e3872760ab7,
   0x3617de4a96262c6f5d9e98bf9292dc29f8f41dbd289a147ce9da3113b5f0b8c00a60b1ce1d7e819d7a431d7c90ea0e5f)

/-- `b ^ e mod m` over the low `k` bits of `e`. -/
def powMod (m : Nat) : Nat → Nat → Nat → Nat
  | 0, _, _ => 1 % m
  | k + 1, b, e => (if e % 2 = 1 then b else 1) * powMod m k (b * b % m) (e / 2) % m

/-- The inverse modulo a prime of 384 bits. -/
def invMod (m a : Nat) : Nat := powMod m 384 (a % m) (m - 2)

/-- A point (X / Z², Y / Z³) of the curve doubled; Z = 0 is the point at infinity. -/
def ecDouble (p : Nat × Nat × Nat) : Nat × Nat × Nat :=
  let (x, y, z) := p
  let d := z * z % p384
  let g := y * y % p384
  let b := x * g % p384
  let a := 3 * ((x + p384 - d) * (x + d)) % p384
  let x3 := (a * a + 8 * (p384 - b)) % p384
  (x3, (a * (4 * b + p384 - x3) + 8 * (p384 - g * g % p384)) % p384, 2 * y * z % p384)

/-- The sum of two points of the curve. -/
def ecAdd (p q : Nat × Nat × Nat) : Nat × Nat × Nat :=
  let (x1, y1, z1) := p
  let (x2, y2, z2) := q
  if z1 = 0 then q
  else if z2 = 0 then p
  else
    let v1 := z1 * z1 % p384
    let v2 := z2 * z2 % p384
    let u1 := x1 * v2 % p384
    let u2 := x2 * v1 % p384
    let s1 := y1 * z2 % p384 * v2 % p384
    let s2 := y2 * z1 % p384 * v1 % p384
    if u1 = u2 then (if s1 = s2 then ecDouble p else (1, 1, 0))
    else
      let h := (u2 + p384 - u1) % p384
      let r := (s2 + p384 - s1) % p384
      let h2 := h * h % p384
      let h3 := h2 * h % p384
      let w := u1 * h2 % p384
      let x3 := (r * r + (p384 - h3) + 2 * (p384 - w)) % p384
      (x3, (r * (w + p384 - x3) + (p384 - s1) * h3) % p384, h * z1 % p384 * z2 % p384)

/-- `e` times a point, over the low `k` bits of `e`. -/
def ecMul : Nat → Nat × Nat × Nat → Nat → Nat × Nat × Nat
  | 0, _, _ => (1, 1, 0)
  | k + 1, p, e => ecAdd (if e % 2 = 1 then p else (1, 1, 0)) (ecMul k (ecDouble p) (e / 2))

/-- An ECDSA P-384 signature (r, s) over a SHA-384 digest verifies under a public key. -/
def ecdsaOk (x y r s : Nat) (digest : List Byte) : Bool :=
  let on := decide (x < p384) && decide (y < p384) && (y * y) % p384 == (x * x * x + (p384 - 3) * x + b384) % p384
  if !on || r = 0 || n384 ≤ r || s = 0 || n384 ≤ s then false
  else
    let w := invMod n384 s
    let z := beNat digest
    let q := ecAdd (ecMul 384 (g384.1, g384.2, 1) (z * w % n384)) (ecMul 384 (x, y, 1) (r * w % n384))
    q.2.2 != 0 && q.1 * invMod p384 (q.2.2 * q.2.2) % p384 % n384 == r

end Sys2Proof.Machine
end

