-- ==== Sys2Proof/Config.lean ====
section
/-!
DEFINITION. Values the spec leaves open: nothing constrains them. Each is applied to the counter `State.free`, which
the step that draws a value advances, so that no two draws are tied together (log entry 4).
-/
namespace Sys2Proof.Config

/-- Which one of several equally allowed choices is made (R249, R159). -/
opaque freeNat : Nat → Nat

/-- A 32-bit value the spec does not define. -/
opaque freeWord : Nat → BitVec 32

/-- A byte the spec does not define. -/
opaque freeByte : Nat → BitVec 8

/-- The cycles that the plan serving a stream's frames certifies, for its Towers (false) or its VPUs (true). The plan lies
in the package body, which is opaque to the spec (10, Admission); the 128 header bytes hold its digest. -/
opaque planCycles : List (BitVec 8) → Bool → Nat

/-- The Hyldo code in a firmware image's body, whose layout the spec does not give (R95). -/
opaque hyldoCode : List (BitVec 8) → List (BitVec 8)

/-- The parts of a firmware image's body that are not Hyldo code (R100). -/
opaque firmwareParts : List (BitVec 8) → List (BitVec 8)

/-- The 10 check bits of the Hsiao code over 32 data bytes and a line address; the spec names the code, not its matrix
(R235). -/
opaque hsiao : List (BitVec 8) → Nat → BitVec 10

/-- How the detail of a drift-limit entry gives the lane and the wanted offset of its write (true) or read side (R234). -/
opaque driftDetail : Bool → Nat → Int → BitVec 32

end Sys2Proof.Config
end

