-- ==== Sys2Proof/Machine/State.lean ====
section
/-!
DEFINITION. The state of the part, its faults and refusals, and its reset value.
-/
namespace Sys2Proof.Machine
open Sys2Proof

/-- Why a step ends in a fault. -/
inductive Fault where
  /-- No command of this part ends in a fault: an access the spec does not describe has an effect the spec gives
  (a discarded access, a poisoned read). The constructor keeps the type inhabited; nothing raises it. Safe. -/
  | none
  deriving DecidableEq, Repr

/-- Why a step is refused. -/
inductive Refusal where
  /-- The row has no meaning yet. Raised by the arms of `exec` alone. Safe. -/
  | notModelled (mnemonic : String)
  deriving DecidableEq, Repr

/-- The state of the part. Every field's default is its value right after the release of POR_N (R13, R75). -/
structure State where
  /-- The model's clock: µs since reset, advanced by an idle step. Not the spec's; log entry 3. -/
  clock : Nat := 0
  /-- The model's counter of free values. Not the spec's; log entry 4. -/
  free : Nat := 0
  /-- Commands waiting, first in, first out. -/
  pending : List Instr := []
  /-- What the part has sent out, newest first. Not the spec's; log entry 5. -/
  out : List Out := []
  /-- Host interface (04). -/
  host : HostIf := {}
  /-- Clocks, supplies, flash, fuses (02, 03). -/
  sup : Supply := {}
  /-- Boot (03). -/
  boot : Boot := {}
  /-- Pins (21). -/
  pins : Pins := {}
  /-- Memory, contexts, models, jobs (05, 07). -/
  mem : MemSys := {}
  /-- Buffer pools (08). -/
  bpm : Bpm := {}
  /-- Pips (09). -/
  pip : PipStore := {}
  /-- Gates of units 0x00–0x37 (19). -/
  gate : Vector UnitGate 56 := Vector.replicate 56 {}
  /-- Commands in progress. -/
  running : List Running := []
  /-- Firmware switch and flash commands. -/
  fw : Fw := {}
  /-- Keeper (20). -/
  kpr : Keeper := {}
  /-- Sources and the time base (11). -/
  io : Io := {}
  /-- Scheduler (10). -/
  sched : Sched := {}
  /-- Streams and the frame path (12–15). -/
  str : Streams := {}
  /-- Lofin Link (16). -/
  lfn : Lofin := {}
  /-- Lantern ports (17). -/
  ltn : Vector Ltn 2 := Vector.replicate 2 {}
  /-- Checkpoints (18). -/
  ckpt : Ckpt := {}
  deriving DecidableEq, Repr

/-- The part right after reset: POR_N has just been released. -/
def State.reset : State := {}

/-- The outcome of one command. -/
abbrev Res := Host.Outcome State Fault Refusal

end Sys2Proof.Machine
end

