-- ==== Sys2Proof/Machine/Ops.lean ====
section
/-!
DEFINITION. Shared operations over memory, outputs, device time, gates, logs, interrupts and the Keeper's latches.
-/
namespace Sys2Proof.Machine
open Sys2Proof

/-! ### Stable sorting -/

/-- Merge two sorted lists, the first list's entry first among equals; `n` is at least the number of entries. -/
def mergeBy {α : Type} (le : α → α → Bool) : Nat → List α → List α → List α
  | 0, xs, ys => xs ++ ys
  | _ + 1, [], ys => ys
  | _ + 1, xs, [] => xs
  | n + 1, x :: xs, y :: ys => if le x y then x :: mergeBy le n xs (y :: ys) else y :: mergeBy le n (x :: xs) ys

/-- Merge neighbours. -/
def mergePairs {α : Type} (le : α → α → Bool) : List (List α) → List (List α)
  | xs :: ys :: ls => mergeBy le (xs.length + ys.length) xs ys :: mergePairs le ls
  | ls => ls

/-- Merge neighbours until one list is left. -/
def mergeAll {α : Type} (le : α → α → Bool) : Nat → List (List α) → List α
  | 0, ls => ls.flatten
  | n + 1, ls => match ls with
    | [] => []
    | [xs] => xs
    | xs :: ys :: rest => mergeAll le n (mergePairs le (xs :: ys :: rest))

/-- A list in the order of `le`, entries that `le` does not tell apart in their old order. -/
def sortBy {α : Type} (le : α → α → Bool) (l : List α) : List α := mergeAll le l.length (l.map (fun x => [x]))

/-! ### Memory: sorted cells, zero bytes not listed -/

/-- The byte at `a`; an unlisted address reads 0. -/
def cellGet : List Host.Cell → Nat → Byte
  | [], _ => 0
  | c :: cs, a => if c.1 = a then c.2 else cellGet cs a

/-- Write byte `b` at `a`, keeping the canonical form. -/
def cellSet : List Host.Cell → Nat → Byte → List Host.Cell
  | [], a, b => if b = 0 then [] else [(a, b)]
  | c :: cs, a, b =>
    if a < c.1 then (if b = 0 then c :: cs else (a, b) :: c :: cs)
    else if a = c.1 then (if b = 0 then cs else (a, b) :: cs)
    else c :: cellSet cs a b

/-- Write bytes from `a` upwards. -/
def cellsWrite (m : List Host.Cell) : Nat → List Byte → List Host.Cell
  | _, [] => m
  | a, b :: bs => cellsWrite (cellSet m a b) (a + 1) bs

/-- Zero `n` bytes from `a`. -/
def cellsClear (m : List Host.Cell) (a n : Nat) : List Host.Cell :=
  m.filter (fun c => c.1 < a || a + n ≤ c.1)

/-- Read `n` bytes from `a`. -/
def cellsRead (m : List Host.Cell) (a n : Nat) : List Byte :=
  let w := m.filter (fun c => a ≤ c.1 && c.1 < a + n)
  (List.range n).map (fun i => cellGet w (a + i))

/-- The canonical form: addresses strictly rising, no zero byte listed. -/
def cellsWf : List Host.Cell → Bool
  | [] => true
  | [c] => c.2 != 0
  | c :: d :: cs => c.2 != 0 && c.1 < d.1 && cellsWf (d :: cs)

/-- Memory's canonical form (log entry 6). -/
abbrev Memory.wf (s : State) : Prop := cellsWf s.mem.cells = true

/-- Read device memory. -/
def State.memRead (s : State) (a n : Nat) : List Byte := cellsRead s.mem.cells a n

/-- Read a little-endian number of `n` bytes from device memory (R8). -/
def State.memNat (s : State) (a n : Nat) : Nat := leNat (s.memRead a n)

/-- The bytes `[a, a + n)` cover line or word `k` of `w` bytes, counted from `base`, in part. -/
def touchesUnit (base w a n k : Nat) : Bool := base + w * k < a + n && a < base + w * k + w

/-- They cover it whole. -/
def coversUnit (base w a n k : Nat) : Bool := a ≤ base + w * k && base + w * k + w ≤ a + n

/-- Write device memory. A line written whole, or merged after a correction, has valid ECC; a part of an uncorrectable
line is not written (R236, R238, R239); a Feature Store word written whole is no longer poisoned (R427). -/
def State.memWrite (s : State) (a : Nat) (bs : List Byte) : State :=
  let n := bs.length
  let bad := (s.mem.ecc.filter (fun e => e.2 == .uncorrectable && touchesUnit 0 64 a n e.1 && !coversUnit 0 64 a n e.1)).map Prod.fst
  let cells := if bad.isEmpty then cellsWrite s.mem.cells a bs
    else bs.zipIdx.foldl (fun m b => if bad.contains ((a + b.2) / 64) then m else cellSet m (a + b.2) b.1) s.mem.cells
  { s with
    mem := { s.mem with cells := cells, ecc := s.mem.ecc.filter (fun e => bad.contains e.1 || !touchesUnit 0 64 a n e.1) }
    str := { s.str with fs := { s.str.fs with
      poison := s.str.fs.poison.filter (fun w => !coversUnit 0x010000000000 8 a n w) } } }

/-- Zero a range of device memory. -/
def State.memClear (s : State) (a n : Nat) : State :=
  { s with
    mem := { s.mem with cells := cellsClear s.mem.cells a n, ecc := s.mem.ecc.filter (fun e => !touchesUnit 0 64 a n e.1) }
    str := { s.str with fs := { s.str.fs with
      poison := s.str.fs.poison.filter (fun w => !coversUnit 0x010000000000 8 a n w) } } }

/-! ### Tables held as sorted association lists -/

/-- Look up a key. -/
def lookupN {α : Type} : List (Nat × α) → Nat → Option α
  | [], _ => none
  | c :: cs, k => if c.1 = k then some c.2 else lookupN cs k

/-- Set a key, keeping ascending order. -/
def insertN {α : Type} : List (Nat × α) → Nat → α → List (Nat × α)
  | [], k, v => [(k, v)]
  | c :: cs, k, v =>
    if k < c.1 then (k, v) :: c :: cs else if k = c.1 then (k, v) :: cs else c :: insertN cs k v

/-- Remove a key. -/
def eraseN {α : Type} (l : List (Nat × α)) (k : Nat) : List (Nat × α) := l.filter (fun c => c.1 != k)

/-- The lowest number below `n` that is not a key. -/
def lowestFree {α : Type} (l : List (Nat × α)) (n : Nat) : Option Nat :=
  (List.range n).find? (fun i => (lookupN l i).isNone)

/-! ### Parts of the state -/

/-- Change mailbox `m`. -/
def State.updMbx (s : State) (m : Fin 16) (f : Mbx → Mbx) : State :=
  { s with host := { s.host with mbx := updAt s.host.mbx m f } }

/-- Change result ring `r`. -/
def State.updRrg (s : State) (r : Fin 64) (f : Rrg → Rrg) : State :=
  { s with host := { s.host with rrg := updAt s.host.rrg r f } }

/-- Change the interrupt block. -/
def State.updInt (s : State) (f : IntBlk → IntBlk) : State :=
  { s with host := { s.host with int := f s.host.int } }

/-- Change the PCIe function. -/
def State.updPcie (s : State) (f : Pcie → Pcie) : State :=
  { s with host := { s.host with pcie := f s.host.pcie } }

/-- Change context `c`. -/
def State.updCtx (s : State) (c : Fin 64) (f : Ctx → Ctx) : State :=
  { s with mem := { s.mem with ctx := updAt s.mem.ctx c f } }

/-- Change DRAM controller `n`. -/
def State.updDmc (s : State) (n : Fin 4) (f : Dmc → Dmc) : State :=
  { s with mem := { s.mem with dmc := updAt s.mem.dmc n f } }

/-- Change pool `p`. -/
def State.updPool (s : State) (p : Fin 16) (f : Pool → Pool) : State :=
  { s with bpm := { s.bpm with pool := updAt s.bpm.pool p f } }

/-- Change slot `n`. -/
def State.updSlot (s : State) (n : Fin 64) (f : Slot → Slot) : State :=
  { s with str := { s.str with slot := updAt s.str.slot n f } }

/-- Change engine `e`. -/
def State.updEng (s : State) (e : Fin 32) (f : Engine → Engine) : State :=
  { s with sched := { s.sched with eng := updAt s.sched.eng e f } }

/-- Change Tower `t`. -/
def State.updTower (s : State) (t : Fin 8) (f : Tower → Tower) : State :=
  { s with str := { s.str with tower := updAt s.str.tower t f } }

/-- Change Lofin port `p`. -/
def State.updLfn (s : State) (p : Fin 4) (f : LfnPort → LfnPort) : State :=
  { s with lfn := { s.lfn with port := updAt s.lfn.port p f } }

/-- Change Lantern port `t`. -/
def State.updLtn (s : State) (t : Fin 2) (f : Ltn → Ltn) : State :=
  { s with ltn := updAt s.ltn t f }

/-- Change the Keeper. -/
def State.updKpr (s : State) (f : Keeper → Keeper) : State := { s with kpr := f s.kpr }

/-- Change the Keeper's slot `n`. -/
def State.updKslot (s : State) (n : Fin 64) (f : KprSlot → KprSlot) : State :=
  s.updKpr (fun k => { k with slot := updAt k.slot n f })

/-- Change Ethernet port `e`. -/
def State.updEth (s : State) (e : Fin 2) (f : Eth → Eth) : State :=
  { s with io := { s.io with eth := updAt s.io.eth e f } }

/-- One of the six ETH_STATS counters counts. -/
def Eth.count (e : Eth) (k : Fin 6) (by_ : Nat) : Eth := { e with stat := updAt e.stat k (· + BitVec.ofNat 64 by_) }

/-- Change the time base. -/
def State.updTbs (s : State) (f : Tbs → Tbs) : State :=
  { s with io := { s.io with tbs := f s.io.tbs } }

/-- Change the supply block. -/
def State.updSup (s : State) (f : Supply → Supply) : State := { s with sup := f s.sup }

/-- Change the boot block. -/
def State.updBoot (s : State) (f : Boot → Boot) : State := { s with boot := f s.boot }

/-- Change CSI receiver `n`. -/
def State.updCsi (s : State) (n : Fin 6) (f : Csi → Csi) : State :=
  { s with io := { s.io with csi := updAt s.io.csi n f } }

/-- Slot `n` when `n` names one; a free slot otherwise. -/
def State.slotN (s : State) (n : Nat) : Slot := s.str.slot.toList.getD n {}

/-- Change slot `n` when `n` names one. -/
def State.updSlotN (s : State) (n : Nat) (f : Slot → Slot) : State :=
  if h : n < 64 then s.updSlot ⟨n, h⟩ f else s

/-- The gate of unit `u`; a closed gate for no unit. -/
def State.gateN (s : State) (u : Nat) : UnitGate := s.gate.toList.getD u { closed := true }

/-- Change the gate of unit `u`. -/
def State.updGate (s : State) (u : Nat) (f : UnitGate → UnitGate) : State :=
  if h : u < 56 then { s with gate := updAt s.gate ⟨u, h⟩ f } else s

/-- Pool `p` when `p` names one. -/
def State.poolN (s : State) (p : Nat) : Pool := s.bpm.pool.toList.getD p {}

/-- Change pool `p` when `p` names one. -/
def State.updPoolN (s : State) (p : Nat) (f : Pool → Pool) : State :=
  if h : p < 16 then s.updPool ⟨p, h⟩ f else s

/-- Something leaves the part. -/
def State.emit (s : State) (o : Out) : State := { s with out := o :: s.out }

/-- The next free value's number; the counter advances (log entry 4). -/
def State.takeFree (s : State) : Nat × State := (s.free, { s with free := s.free + 1 })

/-! ### Units (22_catalogue, Unit IDs) -/

/-- The unit of the Z64-L alone is absent on the Z64-S (R2). -/
def State.unitAbsent (s : State) (u : Nat) : Bool := (u == 0x32 || u == 0x33) && !s.sup.fuses.variantL

/-- Gateable units (R60): those whose domain is not TOP or AON. -/
def unitGateable (u : Nat) : Bool :=
  u ≤ 0x20 || (0x26 ≤ u && u ≤ 0x33)

/-- A unit is in service: powered, gate open, not fenced (R313). -/
def State.unitLive (s : State) (u : Nat) : Bool :=
  let g := s.gateN u
  g.powered && !g.closed && !g.fenced && !s.unitAbsent u

/-- READY has been reached and no device-fault stop is in force: the data plane and firmware run (R83, R563). -/
def State.live (s : State) : Bool := s.boot.stage == 0xF && !s.kpr.stopped && s.sup.power != .off

/-- The BARs are served in full: READY, in D0, no device-fault stop (R82, R111, R563). -/
def State.barUp (s : State) : Bool := s.live && s.host.pcie.dstate == .d0

/-- A host access that is served only at READY; before it, a write is discarded (R82). -/
def whenBar (s : State) (f : State → State) : Res := .next (if s.barUp then f s else s)

/-- An event of the running part: no effect before READY or after a device-fault stop (R563). -/
def whenLive (s : State) (f : State → State) : Res := .next (if s.live then f s else s)

/-! ### Device time and logs -/

/-- Device time (R326); 0 while it does not run. -/
def State.devTime (s : State) : U64 := if s.io.tbs.running then s.io.tbs.now else 0

/-- Firmware writes a fault-log entry (R169). -/
def State.faultLog (s : State) (unit status : Nat) (detail : U32) : State :=
  let e : FaultEntry := { time := s.devTime, unit := unit, epoch := (s.gateN unit).epoch,
                          status := status, detail := detail }
  { s with mem := { s.mem with log := (e :: s.mem.log).take 4096, logNext := s.mem.logNext + 1 } }

/-- A fault-log entry whose status the rule does not state: a free value. -/
def State.faultLogDetail (s : State) (unit : Nat) (detail : U32) : State :=
  let f := s.takeFree
  f.2.faultLog unit (Config.freeNat f.1 % 65536) detail

/-- A fault-log entry whose status and detail the rule does not state: both are free values. -/
def State.faultLogOpen (s : State) (unit : Nat) : State :=
  let f := s.takeFree
  let g := f.2.takeFree
  g.2.faultLog unit (Config.freeNat f.1 % 65536) (Config.freeWord g.1)

/-! ### Interrupts (R134–R137) -/

/-- INT_STATUS (04, Interrupt block). -/
def State.intStatus (s : State) : BitVec 10 :=
  BitVec.ofNat 10
    (b2n s.host.int.boot + 2 * b2n (s.sup.event &&& s.sup.eventEn != 0)
      + 4 * b2n (s.kpr.event &&& s.kpr.eventEn != 0) + 8 * b2n s.host.int.fwSwitch
      + 16 * b2n s.host.int.bar2Miss + 32 * b2n s.host.int.dbDrop + 64 * b2n s.host.int.badAccess
      + 128 * b2n s.lfn.remoteErr + 256 * b2n s.host.int.mbxErr + 512 * b2n s.host.int.unit)

/-- INT_STATUS AND INT_ENABLE is non-zero. -/
def State.intActive (s : State) : Bool := s.intStatus &&& s.host.int.enable != 0

/-- The device may issue memory requests to the host (R110, R111, R147, R563). -/
def State.canRequest (s : State) : Bool :=
  s.host.pcie.busMaster && !s.host.pcie.held && s.host.pcie.dstate == .d0 && !s.kpr.stopped

/-- A message that is requested on vector `v` now is sent, or kept as pending: a masked vector's is, whatever MSI-X Enable
reads; one of an unmasked vector is lost while MSI-X Enable is clear (R134, R149). -/
def State.msixTakes (s : State) (v : Fin 64) : Bool := s.host.pcie.msixEnable || s.host.msix[v].mask

/-- A source requests a message on vector `v` (R134, R149; log entry 7 for Bus Master Enable). -/
def State.sendMsix (s : State) (v : Fin 64) : State :=
  let e := s.host.msix[v]
  if !s.msixTakes v then s
  else if !s.host.pcie.msixEnable || s.host.pcie.funcMask || e.mask || !s.canRequest then
    { s with host := { s.host with msix := updAt s.host.msix v (fun e => { e with pend := true }) } }
  else s.emit (.msix v.val e.addr e.data)

/-- Send the pending messages that may now be sent, in vector order (R149). -/
def State.flushMsix (s : State) : State :=
  (List.finRange 64).foldl (fun s v =>
    let e := s.host.msix[v]
    if e.pend && s.host.pcie.msixEnable && !s.host.pcie.funcMask && !e.mask && s.canRequest then
      ({ s with host := { s.host with
          msix := updAt s.host.msix v (fun e => { e with pend := false }) } } : State).emit
        (.msix v.val e.addr e.data)
    else s) s

/-- A change of a source of vector 0: a message when the enabled status becomes non-zero (R135). -/
def State.raising (s : State) (f : State → State) : State :=
  let s' := f s
  if !s.intActive && s'.intActive then s'.sendMsix 0 else s'

/-- INT_STATUS.UNIT is set (R552). -/
def State.raiseUnit (s : State) : State := s.raising (·.updInt (fun i => { i with unit := true }))

/-- A mailbox records an error: MBX_STATUS.ERR_CODE holds the first since ERR was cleared. -/
def State.mbxError (s : State) (m : Fin 16) (e : MbxErr) : State :=
  if s.host.mbx[m].err then s
  else s.raising (fun s => (s.updMbx m (fun x => { x with err := true, errCode := e })).updInt
    (fun i => { i with mbxErr := true }))

/-- SUP_EVENT bits are set (02). -/
def State.supEvent (s : State) (bits : BitVec 7) : State :=
  s.raising (·.updSup (fun p => { p with event := p.event ||| bits }))

/-- KPR_EVENT bits are set (20). -/
def State.kprEvent (s : State) (bits : BitVec 4) : State :=
  s.raising (·.updKpr (fun k => { k with event := k.event ||| bits }))

/-- An error is reported through AER (R148). -/
def State.aerReport (s : State) (k : AerKind) : State :=
  s.updPcie (fun p => { p with aer := if p.aer.contains k then p.aer else p.aer ++ [k] })

/-! ### The Keeper's log, latches and outputs (R576–R592) -/

/-- KPR_FAULT bit indexes. -/
inductive KprBit where
  | stream | device | clock | refclk | supply | thermal | watchdog | lockstep | keeper | boot
  deriving DecidableEq, Repr

/-- The index of a KPR_FAULT bit. -/
def KprBit.idx : KprBit → Nat
  | .stream => 0 | .device => 1 | .clock => 2 | .refclk => 3 | .supply => 4 | .thermal => 5
  | .watchdog => 6 | .lockstep => 7 | .keeper => 8 | .boot => 9

/-- The bits that a fault of this class latches: DEVICE beside each device-class fault (R576). -/
def KprBit.bits (b : KprBit) : BitVec 11 :=
  (match b with
   | .clock | .refclk | .supply | .watchdog | .lockstep | .keeper => 2#11
   | _ => 0#11) ||| (1#11 <<< b.idx)

/-- FAULT_N is driven low while any of DEVICE, THERMAL or BOOT is latched (R583). -/
def State.faultNLow (s : State) : Bool := s.kpr.fault &&& 0x222#11 != 0

/-- The Keeper writes a fault-log entry in its own memory (R592). -/
def State.kprLog (s : State) (cls cause who : Nat) (flags : Byte) (value : U32) : State :=
  let e : KprEntry := { ktick := s.kpr.tick, boots := s.kpr.boots, devTime := s.devTime,
                        cls := BitVec.ofNat 8 cls, cause := BitVec.ofNat 8 cause,
                        who := BitVec.ofNat 8 who, flags := flags, value := value }
  let i : Fin 64 := ⟨s.kpr.logCount.toNat % 64, Nat.mod_lt _ (by decide)⟩
  (s.updKpr (fun k => { k with log := k.log.set i e, logCount := k.logCount + 1 })).kprEvent 8

/-- SAFE_N is driven low and BEACON held low (R581, R582). -/
def State.safeDrop (s : State) : State :=
  if s.kpr.safe then (s.updKpr (fun k => { k with safe := false, beacon := false })).kprEvent 2 else s

/-- The Keeper runs while POR_N is high and VDD_IO18 is within its window (20, The Keeper; R613). -/
def State.kprRuns (s : State) : Bool := s.boot.porN && s.pins.io18

/-- The gate of a unit closes: its epoch advances (R546). -/
def State.gateClose (s : State) (u : Nat) : State :=
  s.updGate u (fun g => if g.closed then g else { g with epoch := g.epoch + 1, closed := true })

/-- The device-fault stop: every gate closes and every engine halts (R563). -/
def State.deviceStop (s : State) : State :=
  if s.kpr.stopped then s else
    let s := (List.range 56).foldl (fun s u => if unitGateable u then s.gateClose u else s) s
    s.updKpr (fun k => { k with stopped := true })

/-- The Keeper latches a fault: the log entry first, then SAFE_N, FAULT_N and the reaction (R576, R581, R583, R592).
`off` says that the device is placed in OFF. -/
def State.latch (s : State) (b : KprBit) (cause who : Nat) (value : U32) : State :=
  let bits := b.bits ||| (if s.kpr.injecting then 0x400#11 else 0)
  let flags := b2n s.kpr.injecting + 2 * b2n s.kpr.safe
    + 4 * b2n (b.bits &&& 0x222#11 != 0) + 8 * b2n (b == .thermal)
  let s := s.kprLog b.idx cause who (BitVec.ofNat 8 flags) value
  let s := s.updKpr (fun k => { k with fault := k.fault ||| bits, live := k.live ||| b.bits,
                                       injecting := false })
  let s := (s.kprEvent 1).safeDrop
  if b.bits &&& 2#11 != 0 then s.deviceStop
  else if b = .thermal then s.updSup (fun p => { p with power := .off })
  else s

/-- A device fault without a bit of its own: DEVICE alone is latched (R576). -/
def State.deviceFault (s : State) (unit cause : Nat) (value : U32) : State :=
  if s.kpr.stopped then s else s.latch .device cause unit value

end Sys2Proof.Machine
end

