-- ==== Sys2Proof/Machine/Resp.lean ====
section
/-!
DEFINITION. Responses and commands in progress (04_host_interface: R123, R124, R130, R131, R136, R143).
-/
namespace Sys2Proof.Machine
open Sys2Proof

/-- Entries of a ring of size field `n`. -/
def ringLen (n : BitVec 4) : Nat := 2 ^ n.toNat

/-- MBX_STATUS.ASYNC_OUT. -/
def State.asyncOut (s : State) (m : Fin 16) : Nat :=
  (s.running.filter (fun r => r.mbx == m && r.async)).length

/-- A command without ASYNC executes in the mailbox (R131). -/
def State.executing (s : State) (m : Fin 16) : Bool := s.running.any (fun r => r.mbx == m && !r.async)

/-- MBX_STATUS.UPDATING (R139). -/
def State.updating (s : State) : Bool := s.fw.phase == .drain || s.fw.phase == .handover

/-- Free entries of the response ring. -/
def State.rspRoom (s : State) (m : Fin 16) : Nat :=
  ringLen s.host.mbx[m].rspSize - 1 - s.host.mbx[m].unread.length

/-- A response message (04, Response message). -/
def rspBytes (op : Nat) (seq : BitVec 16) (st : Status) (data : List Byte) : List Byte :=
  leBytes 2 op ++ leBytes 2 seq.toNat ++ leBytes 2 st.code ++ zeros 2 ++ padTo 56 data

/-- A response is written, MBX_RSP_TAIL advances and the mailbox's vector may send; a message that is sent or kept as
pending disarms the mailbox (R123, R136, R149). -/
def State.respond (s : State) (m : Fin 16) (op : Nat) (seq : BitVec 16) (noIrq : Bool) (st : Status)
    (data : List Byte) : State :=
  let x := s.host.mbx[m]
  let s := s.emit (.hostWrite (x.rspBase.toNat + 64 * x.rspTail.toNat) (rspBytes op seq st data))
  let send := x.irqEn && x.armed && !noIrq
  let taken := s.msixTakes ⟨m.val + 1, by omega⟩
  let s := s.updMbx m (fun x => { x with
    rspTail := BitVec.ofNat 12 ((x.rspTail.toNat + 1) % ringLen x.rspSize)
    unread := x.unread ++ [!noIrq], armed := x.armed && !(send && taken) })
  if send then s.sendMsix ⟨m.val + 1, by omega⟩ else s

/-- A disabled mailbox that executes nothing reads ENABLED 0; one whose context is gone becomes unbound
(R143, R129). -/
def State.settleMbx (s : State) (m : Fin 16) : State :=
  if !s.host.mbx[m].en && !s.executing m then
    s.updMbx m (fun x => { x with enabled := false, rspStall := false,
                                  bound := x.bound && !(x.ctxGone && m != 0),
                                  context := if x.ctxGone then 0 else x.context, ctxGone := false })
  else s

/-- Whether two waits are the same. -/
def Running.waitsFor (r : Running) (w : WaitFor) : Bool := r.wait == w && r.done.isNone

/-- The final response of a completed command leaves; the command is no longer in progress. -/
def State.postFinal (s : State) (r : Running) : State :=
  match r.done with
  | none => s
  | some (st, data) =>
    let s := { s with running := s.running.erase r }
    (s.respond r.mbx r.op r.seq r.noIrq st data).settleMbx r.mbx

/-- Completed commands without ASYNC post their response as soon as requests are allowed (R131, R147). -/
def State.postReady (s : State) : State :=
  if s.canRequest then
    (s.running.filter (fun r => r.done.isSome && !r.async)).foldl State.postFinal s
  else s

/-- Every command waiting for `w` completes with this status and data. -/
def State.finish (s : State) (w : WaitFor) (st : Status) (data : List Byte) : State :=
  ({ s with running := s.running.map (fun r =>
      if r.waitsFor w then { r with done := some (st, data) } else r) } : State).postReady

/-- The first command that satisfies `p` has completed with this result. -/
def markFirst (p : Running → Bool) (x : Status × List Byte) : List Running → List Running
  | [] => []
  | r :: rs => if p r then { r with done := some x } :: rs else r :: markFirst p x rs

/-- The oldest command of mailbox `m` with this SEQ that waits for `w` completes. -/
def State.finishOne (s : State) (m : Fin 16) (seq : BitVec 16) (w : WaitFor) (st : Status)
    (data : List Byte) : State :=
  ({ s with running := markFirst (fun r => r.waitsFor w && r.mbx == m && r.seq == seq) (st, data) s.running } : State).postReady

end Sys2Proof.Machine
end

