-- ==== Sys2Proof/Machine/Ecc.lean ====
section
/-!
DEFINITION. The channel interleave and the reports of uncorrectable DRAM lines (07 R220, R237–R239).
-/
namespace Sys2Proof.Machine
open Sys2Proof

/-- The region holds the device address. -/
def MemRegion.maps (r : MemRegion) (a : Nat) : Bool :=
  r.en && r.base.toNat ≤ a && a < r.base.toNat + r.size.toNat

/-- Channels of a region. -/
def MemRegion.wayCount (r : MemRegion) : Nat := 2 ^ r.ways.toNat

/-- Channel and channel-local address of a device address in the region (R220). -/
def MemRegion.locate (r : MemRegion) (a : Nat) : Nat × Nat :=
  let o := a - r.base.toNat
  let u := o / 2 ^ r.grain.toNat
  (r.chFirst.toNat + u % r.wayCount,
   r.chOffset.toNat + u / r.wayCount * 2 ^ r.grain.toNat + o % 2 ^ r.grain.toNat)

/-- Channel and channel-local address of a DRAM address (R220). -/
def State.locate (s : State) (a : Nat) : Option (Nat × Nat) :=
  (s.mem.region.toList.find? (fun r => r.maps a)).map (fun r => r.locate a)

/-- The device address of a channel-local address: the inverse of R220. -/
def MemRegion.address (r : MemRegion) (ch local_ : Nat) : Nat :=
  let g := 2 ^ r.grain.toNat
  let x := local_ - r.chOffset.toNat
  r.base.toNat + (x / g * r.wayCount + (ch - r.chFirst.toNat)) * g + x % g

/-- The device address of channel `ch`'s local address, where a region maps it. -/
def State.deviceAddr (s : State) (ch local_ : Nat) : Option Nat :=
  (s.mem.region.toList.find? (fun r =>
    r.en && r.chFirst.toNat ≤ ch && ch < r.chFirst.toNat + r.wayCount && r.chOffset.toNat ≤ local_
      && local_ < r.chOffset.toNat + r.size.toNat / r.wayCount)).map (fun r => r.address ch local_)

/-- An uncorrectable error lies in the bytes at a device address (R238, R427). -/
def State.readUe (s : State) (a n : Nat) : Bool :=
  s.mem.ecc.any (fun e => e.2 == .uncorrectable && a / 64 ≤ e.1 && e.1 ≤ (a + n - 1) / 64) ||
  s.str.fs.poison.any (fun w => 0x010000000000 ≤ a && (a - 0x010000000000) / 8 ≤ w
    && w ≤ (a + n - 1 - 0x010000000000) / 8)

/-- One uncorrectable line (device address / 64) is met: counted, recorded, logged; in firmware's region it is a device
fault (R238; 07, Memory faults). -/
def State.ueLine (s : State) (line : Nat) : State :=
  match s.locate (64 * line) with
  | none => s
  | some (ch, a) =>
    let c : Fin 4 := ⟨ch % 4, Nat.mod_lt _ (by decide)⟩
    let s := s.updDmc c (fun d => { d with
      eccUe := satInc d.eccUe, ueLine := if d.ueValid then d.ueLine else BitVec.ofNat 27 (a / 64), ueValid := true })
    let s := s.faultLog (0x22 + c.val) Status.internal.code (BitVec.ofNat 32 line)
    if 64 * line < 0x10000000 then s.deviceFault (0x22 + c.val) 0 (BitVec.ofNat 32 line) else s

/-- An uncorrectable Feature Store word is met: it is poisoned, counted and recorded; more than 16 distinct words of a
bank within 1 s are a device fault (R427, R439). -/
def State.fsUe (s : State) (w : Nat) : State :=
  let fs := s.str.fs
  let now := s.clock
  let seen := (w, now) :: fs.ueSeen.filter (fun x => x.1 != w && now ≤ x.2 + 1000000)
  let s : State := { s with str := { s.str with fs := { fs with
    poison := if fs.poison.contains w then fs.poison else fs.poison ++ [w]
    eccUe := satInc fs.eccUe, ueSeen := seen, ueValid := true
    ueWord := if fs.ueValid then fs.ueWord else BitVec.ofNat 24 w } } }
  if 16 < (seen.filter (fun x => x.1 / 262144 == w / 262144)).length then s.deviceFault 0x37 0 (BitVec.ofNat 32 (w / 262144)) else s

/-- Channel-local address of the check bytes of the line at `a`, in a channel of `2 ^ l` bytes (R223). -/
def eccAt (l a : Nat) : Nat := 2 ^ l / 16 * 15 + a / 64 * 4

end Sys2Proof.Machine
end

