-- ==== Sys2Proof/Machine/Mmu.lean ====
section
/-!
DEFINITION. The device address map, banks and rows, inline ECC as reads and writes meet it, page tables and translation
(07 R208–R219, R222–R224, R235–R241).
-/
namespace Sys2Proof.Machine
open Sys2Proof

/-! ### The device address map (R208, R209) -/

/-- The DRAM data size D (R209). -/
def State.dramSize (s : State) : Nat := s.boot.chGib * 4 * 2 ^ 30 / 16 * 15

/-- Device address ranges outside DRAM (R208). -/
def fsBase : Nat := 0x010000000000
/-- Base of the Weight Buffers. -/
def wbBase : Nat := 0x011000000000
/-- Base of the VPU local memories. -/
def vpuBase : Nat := 0x012000000000

/-- Device address of the save area (R312). -/
def saveBase : Nat := 0x010007800000

/-- The unit whose memory holds the address, for a device address outside DRAM (R208). -/
def memUnit (a : Nat) : Option Nat :=
  if fsBase ≤ a && a < fsBase + 0x8000000 then some 0x37
  else if wbBase ≤ a && a < wbBase + 0x1000000 then some ((a - wbBase) / 0x200000)
  else if vpuBase ≤ a && a < vpuBase + 0x400000 then some (8 + (a - vpuBase) / 0x40000)
  else none

/-- Context `n` exists and is not being destroyed. -/
def State.ctxLive (s : State) (n : Nat) : Bool :=
  match s.mem.ctx.toList[n]? with
  | some x => x.exists_ && x.teardown == .none
  | none => false

/-- Context `n`, an empty one when there is none. -/
def State.ctxN (s : State) (n : Nat) : Ctx := s.mem.ctx.toList.getD n {}

/-! ### Banks, rows and page policy (R222, R224) -/

/-- log2 of a channel's bytes. -/
def State.chLog2 (s : State) : Nat := 30 + Nat.log2 (max 1 s.boot.chGib)

/-- Rank, bank group and bank as one number, and the row, of a channel-local address (R222). -/
def State.bankRow (s : State) (a : Nat) : Nat × Nat :=
  let l := s.chLog2
  let bg := bitsOf a 12 2 ^^^ bitsOf a 16 2
  let ba := bitsOf a 14 2 ^^^ bitsOf a 18 2
  if s.boot.ranks = 2 then (16 * bitsOf a (l - 1) 1 + 4 * bg + ba, bitsOf a 16 (l - 17))
  else (4 * bg + ba, bitsOf a 16 (l - 16))

/-- After an access with a hint, the bank's row stays open, closes later, or closes now unless a queued write hits it
(R224). -/
def rowsAfter (rows : List OpenRow) (bank row : Nat) (h : Hint) (again : Bool) : List OpenRow :=
  let rest := rows.filter (fun r => r.bank != bank)
  match h with
  | .open_ => rest ++ [{ bank := bank, row := row, idleClose := false }]
  | .none => rest ++ [{ bank := bank, row := row, idleClose := true }]
  | .close => if again then rest ++ [{ bank := bank, row := row, idleClose := false }] else rest

/-- A command reaches the DRAM: the row of its bank changes. -/
def State.dramAccess (s : State) (n : Fin 4) (line : Nat) (h : Hint) : State :=
  let br := s.bankRow (64 * line)
  let again := s.mem.dmc[n].wq.any (fun e => s.bankRow (64 * e.line) == br)
  s.updDmc n (fun d => { d with rows := rowsAfter d.rows br.1 br.2 h again })

/-- The lines of DRAM that `n` bytes from a device address touch are accessed with a hint (R224). -/
def State.touchLines (s : State) (a n : Nat) (h : Hint) : State :=
  if n = 0 then s
  else (List.range ((a + n - 1) / 64 - a / 64 + 1)).foldl (fun s i =>
    match s.locate (64 * (a / 64 + i)) with
    | some (ch, x) => s.dramAccess ⟨ch % 4, Nat.mod_lt _ (by decide)⟩ (x / 64) h
    | none => s) s

/-! ### Inline ECC as reads and writes meet it (R235–R239, R427) -/

/-- The 16-bit check field over 32 data bytes of the line at channel-local address `a`, in a channel of `2 ^ l` bytes: a
Hsiao code over them and `a[l − 1:6]` in bits [9:0], zero above. The spec names the code and not its matrix (R235). -/
def checkField (data : List Byte) (l a : Nat) : U16 := (Config.hsiao data (bitsOf a 6 (l - 6))).setWidth 16

/-- The four check bytes of a line: bytes 0–1 for data bytes 0–31, bytes 2–3 for data bytes 32–63 (R235). -/
def checkBytes (line : List Byte) (l a : Nat) : List Byte :=
  leBytes 2 (checkField (line.take 32) l a).toNat ++ leBytes 2 (checkField (line.drop 32) l a).toNat

/-- The check bytes that the ECC area holds at `eccAt` for the data line at channel-local address `a` while it is clean
(R223, R235). -/
def State.eccArea (s : State) (ch a : Nat) : List Byte :=
  match s.deviceAddr ch a with
  | some d => checkBytes (s.memRead d 64) s.chLog2 a
  | none => []

/-- A read meets a line that is not clean: a single-bit error in either half is corrected, written back and counted, an
uncorrectable one reported (R237, R238). -/
def State.lineMet (s : State) (line : Nat) (e : EccErr) : State :=
  match e with
  | .correctable =>
    let s : State := { s with mem := { s.mem with ecc := eraseN s.mem.ecc line } }
    match s.locate (64 * line) with
    | some (ch, _) => s.updDmc ⟨ch % 4, Nat.mod_lt _ (by decide)⟩ (fun d => { d with eccCe := satInc d.eccCe })
    | none => s
  | .uncorrectable => s.ueLine line

/-- Every line in a range of device memory that is read is corrected or reported (R237, R238). -/
def State.readSense (s : State) (a n : Nat) : State :=
  if n = 0 then s
  else (s.mem.ecc.filter (fun e => a / 64 ≤ e.1 && e.1 ≤ (a + n - 1) / 64)).foldl (fun s e => s.lineMet e.1 e.2) s

/-- A write of an engine, of firmware, of the host or of a peer: a line written in part is read for the merge, and left as
it was where that read is uncorrectable; `false` when some line was not written (R236, R239). -/
def State.memPut (s : State) (a : Nat) (bs : List Byte) : State × Bool :=
  let n := bs.length
  let part := s.mem.ecc.filter (fun e => touchesUnit 0 64 a n e.1 && !coversUnit 0 64 a n e.1)
  let ok := part.all (fun e => e.2 == .correctable)
  ((part.foldl (fun s e => s.lineMet e.1 e.2) s).memWrite a bs, ok)

/-- A read of these bytes finds an error it cannot correct: which line, or which word of the Feature Store, is a free
value (R238, R427). -/
def State.strike (s : State) (a n : Nat) : State :=
  let f := s.takeFree
  let k := Config.freeNat f.1
  if n = 0 then s
  else if fsBase ≤ a && a < fsBase + 0x8000000 then
    let w := (a - fsBase) / 8
    f.2.fsUe (w + k % ((a + n - 1 - fsBase) / 8 - w + 1))
  else
    let l := a / 64 + k % ((a + n - 1) / 64 - a / 64 + 1)
    { f.2 with mem := { f.2.mem with ecc := insertN f.2.mem.ecc l .uncorrectable } }

/-! ### Page tables and the walk (R213–R216) -/

/-- A page-table entry: V, LEAF, W, WP, C64 and PA (07, Page-table entry). -/
def pteOf (leaf w wp c64 : Bool) (pa : Nat) : Nat :=
  1 + 2 * b2n leaf + 4 * b2n w + 8 * b2n wp + 16 * b2n c64 + pa / 4096 % 2 ^ 36 * 4096

/-- The reserved bits of an entry are zero. -/
def pteReservedOk (e : Nat) : Bool := bitsOf e 5 7 == 0 && bitsOf e 48 16 == 0

/-- PA[47:12] as an address. -/
def ptePa (e : Nat) : Nat := bitsOf e 12 36 * 4096

/-- An entry that points to a table in firmware's reserved region. -/
def validTable (e : Nat) : Bool := bitOf e 0 && !bitOf e 1 && pteReservedOk e && ptePa e < 0x10000000

/-- The 16 entries of a 64 KiB group agree (R214). -/
def groupOk (s : State) (table va : Nat) : Bool :=
  let first := bitsOf va 16 5 * 16
  let es := (List.range 16).map (fun i => s.memNat (table + 8 * (first + i)) 8)
  es.zipIdx.all (fun x =>
    bitOf x.1 0 && bitOf x.1 4 && bitsOf x.1 12 4 == x.2 && bitsOf x.1 16 32 == bitsOf (es.headD 0) 16 32
      && bitsOf x.1 2 2 == bitsOf (es.headD 0) 2 2)

/-- The walk: the page that maps `va`, with its size, W and WP; none on a fault (R214). -/
def State.walk (s : State) (root va : Nat) : Option (Nat × Nat × Bool × Bool) :=
  let e1 := s.memNat (root + 8 * bitsOf va 30 9) 8
  if !validTable e1 then none
  else
    let e2 := s.memNat (ptePa e1 + 8 * bitsOf va 21 9) 8
    if bitOf e2 0 && bitOf e2 1 then
      (if pteReservedOk e2 && bitsOf e2 12 9 = 0 then some (ptePa e2, 0x200000, bitOf e2 2, bitOf e2 3) else none)
    else if !validTable e2 then none
    else
      let t := ptePa e2
      let e3 := s.memNat (t + 8 * bitsOf va 12 9) 8
      if !bitOf e3 0 || !bitOf e3 1 || !pteReservedOk e3 then none
      else if bitOf e3 4 then
        (if groupOk s t va then some (ptePa e3 / 0x10000 * 0x10000, 0x10000, bitOf e3 2, bitOf e3 3) else none)
      else some (ptePa e3, 0x1000, bitOf e3 2, bitOf e3 3)

/-- Device addresses of the entries that a walk reads: at most three (R214, R216). -/
def State.walkReads (s : State) (root va : Nat) : List Nat :=
  let a1 := root + 8 * bitsOf va 30 9
  let e1 := s.memNat a1 8
  if !validTable e1 then [a1]
  else
    let a2 := ptePa e1 + 8 * bitsOf va 21 9
    let e2 := s.memNat a2 8
    if !validTable e2 then [a1, a2] else [a1, a2, ptePa e2 + 8 * bitsOf va 12 9]

/-! ### Translation (R208–R219, R241) -/

/-- A device address that is not implemented, or a remote window that cannot be reached: the status of the refusal
(R208, R211). -/
def State.deviceRefusal (s : State) (a : Nat) : Option Status :=
  if a < s.dramSize || (memUnit a).isSome || (0x013000000000 ≤ a && a < 0x013001000000)
      || (0x020000000000 ≤ a && a < 0x030000000000) then none
  else if 0x040000000000 ≤ a && a < 0x048000000000 then
    let d := (a - 0x040000000000) / 0x100000000
    if s.lfn.devId = 0x7F then some .unreachable else if d = s.lfn.devId.toNat then some .notFound else none
  else some .notFound

/-- The context's translation is closed: its teardown has passed the streams and jobs (R241). -/
def State.ctxClosed (s : State) (ctx : Nat) : Bool :=
  let c := s.ctxN ctx
  c.teardown == .draining || (c.teardown == .streams &&
    s.str.slot.toList.all (fun x => x.ctx != ctx || x.state == .free || x.state == .configured)
      && s.mem.jobs.all (fun j => j.ctx != ctx))

/-- The context's addresses still translate: it exists, and its teardown has not closed them (R241). -/
def State.ctxServes (s : State) (ctx : Nat) : Bool := (s.ctxN ctx).exists_ && !s.ctxClosed ctx

/-- A cached translation, most recently used first, at most 2,048 (R216). -/
def State.cacheIn (s : State) (t : Tlb) : State :=
  { s with mem := { s.mem with tlb := (t :: s.mem.tlb.erase t).take 2048 } }

/-- A translation: the state with the cache updated, and the status of the refusal, if any (R212–R215). -/
def State.translate (s : State) (ctx a : Nat) (write : Bool) : State × Option Status :=
  if ctx = 0 then (s, s.deviceRefusal a)
  else
    let r := s.mem.root.toList.getD ctx {}
    if s.ctxClosed ctx then (s, some .abortedReset)
    else if !r.en || 2 ^ 39 ≤ a || a < 0x40000000 then (s, some .notFound)
    else
      let hit := s.mem.tlb.find? (fun t => t.ctx == ctx && t.va ≤ a && a < t.va + t.size)
      let s := if hit.isSome then s
        else (s.walkReads (r.root.toNat * 4096) a).foldl (fun s x => (s.touchLines x 8 .none).readSense x 8) s
      let t := match hit with
        | some t => some t
        | none => (s.walk (r.root.toNat * 4096) a).map (fun w =>
            { ctx := ctx, va := a / w.2.1 * w.2.1, size := w.2.1, pa := w.1, w := w.2.2.1, wp := w.2.2.2 })
      match t with
      | none => (s, some .notFound)
      | some t =>
        let s := s.cacheIn t
        if write && (!t.w || t.wp) then (s, some .denied) else (s, s.deviceRefusal (t.pa + (a - t.va)))


/-! ### What engines, firmware and peers do with the memory of a context (R212, R219, R238, R239) -/

/-- `n` bytes from `a` of a context are translated page by page; where one page is refused, the status and the address.
The number bounds the pages. -/
def State.translateSpan : Nat → State → Nat → Nat → Nat → Bool → State × Option (Status × Nat)
  | 0, s, _, _, _, _ => (s, none)
  | k + 1, s, ctx, a, n, w =>
    if n = 0 then (s, none)
    else
      let r := s.translate ctx a w
      match r.2 with
      | some st => (r.1, some (st, a))
      | none =>
        let m := 4096 - a % 4096
        State.translateSpan k r.1 ctx (a + m) (n - m) w

/-- A requester's request for `n` bytes from `a` of a context: where a page is refused, the fault-log entry of R219 and the
status. -/
def State.reach (s : State) (unit ctx a n : Nat) (write : Bool) : State × Option Status :=
  let r := State.translateSpan (n / 4096 + 2) s ctx a n write
  match r.2 with
  | none => (r.1, none)
  | some (st, x) => (r.1.faultLog unit st.code (BitVec.ofNat 32 (bitsOf x 12 27)), some st)

/-- Device address of a context address: its page as the walk or the cache gives it. -/
def State.physOf (s : State) (ctx a : Nat) : Nat :=
  if ctx = 0 then a
  else match s.mem.tlb.find? (fun t => t.ctx == ctx && t.va ≤ a && a < t.va + t.size) with
    | some t => t.pa + (a - t.va)
    | none => match s.walk ((s.mem.root.toList.getD ctx {}).root.toNat * 4096) a with
      | some w => w.1 + a % w.2.1
      | none => a

/-- A translated range in pieces that lie on one page each: device address, first byte, length. The number bounds them. -/
def State.spans : Nat → State → Nat → Nat → Nat → Nat → List (Nat × Nat × Nat)
  | 0, _, _, _, _, _ => []
  | k + 1, s, ctx, a, i, n =>
    if n = 0 then []
    else
      let m := min n (4096 - a % 4096)
      (s.physOf ctx a, i, m) :: State.spans k s ctx (a + m) (i + m) (n - m)

/-- The pieces of `n` bytes from `a` of a context. -/
def State.spansOf (s : State) (ctx a n : Nat) : List (Nat × Nat × Nat) := State.spans (n / 4096 + 2) s ctx a 0 n

/-- A requester reads `n` bytes from `a` of a context: the bytes, or the status that ends its work (R212, R219, R238). -/
def State.ctxGet (s : State) (unit ctx a n : Nat) : State × Except Status (List Byte) :=
  let r := s.reach unit ctx a n false
  match r.2 with
  | some st => (r.1, .error st)
  | none =>
    let p := r.1.spansOf ctx a n
    let t := p.foldl (fun s x => s.readSense x.1 x.2.2) r.1
    if p.any (fun x => r.1.readUe x.1 x.2.2) then (t, .error .discardedFault)
    else (t, .ok (p.flatMap (fun x => t.memRead x.1 x.2.2)))

/-- A requester writes bytes at `a` of a context: done, or the status that ends its work; none of the bytes is written
where a page is refused (R212, R215, R219, R239). -/
def State.ctxPut (s : State) (unit ctx a : Nat) (bs : List Byte) : State × Option Status :=
  let r := s.reach unit ctx a bs.length true
  match r.2 with
  | some st => (r.1, some st)
  | none =>
    let w := (r.1.spansOf ctx a bs.length).foldl (fun x p =>
      let q := x.1.memPut p.1 ((bs.drop p.2.1).take p.2.2)
      (q.1, x.2 && q.2)) (r.1, true)
    (w.1, if w.2 then none else some .discardedFault)

end Sys2Proof.Machine
end

