-- ==== Sys2Proof/Machine/Pips.lean ====
section
/-!
DEFINITION. The pip store: operations, waits, poison, doorbells (09_pips), and the completion of jobs (R191).
-/
namespace Sys2Proof.Machine
open Sys2Proof

/-- Every status, in the catalogue's order. -/
def allStatus : List Status :=
  [.ok, .pending, .invalidOpcode, .invalidField, .reservedNonzero, .noResource, .poolEmpty, .doubleFree,
   .notFound, .staleHandle, .denied, .busy, .discardedFault, .abortedReset, .epochMismatch, .unreachable,
   .updating, .supplyInhibit, .digestMismatch, .remoteError, .safetyLocked, .internal]

/-- The status a code names. -/
def statusOf (c : Nat) : Option Status := allStatus.find? (fun s => s.code == c)

/-- Operation codes (R273). -/
inductive PipOp where
  | add | set | waitGe | waitEq | poison | clearErr
  deriving DecidableEq, Repr

/-- The operation a code names. -/
def pipOpOf : Nat → Option PipOp
  | 1 => some .add | 2 => some .set | 3 => some .waitGe | 4 => some .waitEq
  | 5 => some .poison | 6 => some .clearErr | _ => none

/-- The operand is in the range of R273. -/
def pipOperandOk (op : PipOp) (v : Nat) : Bool :=
  match op with
  | .poison => match statusOf v with
    | some .ok | some .pending | some .epochMismatch | none => false
    | some _ => true
  | .clearErr => v == 0
  | _ => true

/-- A signal operation. -/
def PipOp.signal : PipOp → Bool
  | .add | .set | .poison | .clearErr => true
  | _ => false

/-- Kinds of pip (R271). -/
inductive PipKind where
  | plan | general | stage | outside
  deriving DecidableEq, Repr

/-- The kind of a pip ID. -/
def pipKind (p : Nat) : PipKind :=
  if p < 4096 then .plan else if p < 130496 then .general else if p < 131072 then .stage else .outside

/-- Stage pip `k` of slot `n` (R271; log entry 8 for the order within the range). -/
def stagePip (n k : Nat) : Nat := 130496 + 9 * n + k

/-- The block of a general pip. -/
def State.pipBlock (s : State) (p : Nat) : Option PipBlock :=
  s.pip.blocks.find? (fun b => b.first ≤ p && p < b.first + b.count)

/-- The pip is allocated: its instance or block exists; stage pips always do (R271, R275). -/
def State.pipAllocated (s : State) (p : Nat) : Bool :=
  match pipKind p with
  | .plan => (lookupN s.mem.insts (p / 16)).isSome
  | .general => (s.pipBlock p).isSome
  | .stage => true
  | .outside => false

/-- The pip's OPEN bit (R271). -/
def State.pipOpen (s : State) (p : Nat) : Bool :=
  match pipKind p with
  | .general => match s.pipBlock p with | some b => b.open_ | none => false
  | _ => false

/-- A pip's value and error. -/
def State.pipGet (s : State) (p : Nat) : Pip := (lookupN s.pip.pips p).getD {}

/-- Set a pip; a clear pip with value 0 is not listed. -/
def State.pipSet (s : State) (p : Nat) (v : Pip) : State :=
  { s with pip := { s.pip with
      pips := if v = {} then eraseN s.pip.pips p else insertN s.pip.pips p v } }

/-- What one signal operation makes of a pip (R274). -/
def pipStep (op : PipOp) (v : U32) (x : Pip) : Pip :=
  match op with
  | .add => { x with value := x.value + v }
  | .set => { x with value := v }
  | .poison => if x.err = 0 then { x with err := BitVec.ofNat 16 v.toNat } else x
  | .clearErr => { x with err := 0 }
  | _ => x

/-- The status a wait is released with, if it is released (R275). -/
def waitResult (w : Waiter) (x : Pip) : Option Nat :=
  if x.err ≠ 0 then some x.err.toNat
  else if (if w.eq then x.value == w.x else (x.value - w.x).toNat < 2 ^ 31) then some 0
  else none

/-- Milliseconds, microseconds: the model's clock counts µs. -/
def jobRunUs (s : State) (j : Job) : Nat :=
  match j.startedAt with | none => 0 | some t => s.clock - t

/-- A job leaves the queue with a result: it is kept among the completed jobs, and the final response of an
asynchronous JOB_SUBMIT is ready (R191). -/
def State.jobClose (s : State) (j : Job) (r : Status) : State :=
  let run := jobRunUs s j
  let j' := { j with state := .done, result := r, runUs := run }
  let s : State := { s with mem := { s.mem with
    jobs := s.mem.jobs.filter (fun x => x.id != j.id), doneJobs := (j' :: s.mem.doneJobs).take 1024 } }
  s.finish (.job j.id) r (leBytes 4 j.id.toNat ++ leBytes 4 run)

/-- The waiters of a guarded item. -/
def Waiter.ofItem (w : Waiter) (id : Nat) : Bool := w.by_ == .item id

/-- One waiter is released with a status code: a command completes, a job may be taken or completes, an item that no other
wait guards may become eligible, or one released from a poisoned pip is discarded (R277, R285). The pip to poison in turn:
the DONE_PIP of a job that ends, the completion pip of a discarded item. -/
def State.releaseOne (s : State) (w : Waiter) (code : Nat) (value : U32) : State × Option (Nat × Nat) :=
  match w.by_ with
  | .command m seq _ =>
    (s.finishOne m seq (.pip w.pip) ((statusOf code).getD .internal)
      (if code = 0 then leBytes 4 value.toNat else []), none)
  | .job id =>
    match s.mem.jobs.find? (fun j => j.id == id) with
    | none => (s, none)
    | some j =>
      if code = 0 then
        ({ s with mem := { s.mem with jobs := s.mem.jobs.map (fun x =>
            if x.id == id then { x with state := .queued } else x) } }, none)
      else (s.jobClose j ((statusOf code).getD .internal), j.donePip.map (fun p => (p, code)))
  | .item id =>
    match s.sched.guarded.find? (fun i => i.id == id) with
    | none => (s, none)
    | some i =>
      if code = 0 then (s, none)
      else
        ({ s with
            pip := { s.pip with
              watch := s.pip.watch.filter (fun w => !w.ofItem id), overflow := s.pip.overflow.filter (fun w => !w.ofItem id) }
            sched := { s.sched with guarded := s.sched.guarded.erase i, cut := s.sched.cut ++ [(i, code)] } },
         i.pip.map (fun p => (p, code)))

/-- An operation that is not applied: its pip lies outside the store, or it is a POISON aimed at a stage pip (R271, R286). -/
def pipRefused (p : Nat) (op : PipOp) : Bool := pipKind p == .outside || (op == .poison && pipKind p == .stage)

/-- Apply one signal operation and release the waiters it releases, in registration order; a job or item that ends with
a poison poisons its pip in turn (R274, R275, R277, R285). The number bounds the chain of jobs and items. -/
def State.pipApplyN : Nat → State → Nat → PipOp → U32 → State
  | 0, s, p, op, v => if pipRefused p op then s else s.pipSet p (pipStep op v (s.pipGet p))
  | n + 1, s, p, op, v =>
    if pipRefused p op then s else
    let x := s.pipGet p
    let x' := pipStep op v x
    let s := s.pipSet p x'
    let s := if op = .poison && x.err == 0 && x'.err != 0 then
      { s with pip := { s.pip with poisons := s.pip.poisons + 1 } } else s
    if op = .clearErr then s else
      let hit := s.pip.watch.filter (fun w => w.pip == p && (waitResult w x').isSome)
      let s : State := { s with pip := { s.pip with
        watch := s.pip.watch.filter (fun w => !(w.pip == p && (waitResult w x').isSome)) } }
      hit.foldl (fun s w =>
        let r := s.releaseOne w ((waitResult w x').getD 0) x'.value
        match r.2 with
        | none => r.1
        | some (q, code) => State.pipApplyN n r.1 q .poison (BitVec.ofNat 32 code)) s

/-- Entries of the watch table have become free: the oldest waiters held outside it are entered; one that already meets
its release case waits for the next test outside it (R288; log entry 127). -/
def State.watchFill (s : State) : State :=
  let inn := (s.pip.overflow.filter (fun w => (waitResult w (s.pipGet w.pip)).isNone)).take (16384 - s.pip.watch.length)
  if inn = [] then s
  else
    let watch := s.pip.watch ++ inn
    { s with pip := { s.pip with
      watch := watch, overflow := inn.foldl List.erase s.pip.overflow
      peak := if s.pip.peak.toNat < watch.length then BitVec.ofNat 15 watch.length else s.pip.peak } }

/-- Apply a signal operation to a pip (R274, R277). -/
def State.pipApply (s : State) (p : Nat) (op : PipOp) (v : U32) : State :=
  (s.pipApplyN (s.mem.jobs.length + s.sched.guarded.length + 1) p op v).watchFill

/-- A job completes: DONE_PIP receives ADD 1, or is poisoned with the status (R191); one whose context is being
destroyed with ABORTED_RESET (R157). -/
def State.jobDone (s : State) (j : Job) (r : Status) : State :=
  let r := if j.abort then .abortedReset else r
  let s := s.jobClose j r
  match j.donePip with
  | none => s
  | some p => if r = .ok then s.pipApply p .add 1 else s.pipApply p .poison (BitVec.ofNat 32 r.code)

/-- The job with this ID completes, when it has not yet. -/
def State.jobDoneId (s : State) (id : U32) (r : Status) : State :=
  match s.mem.jobs.find? (fun j => j.id == id) with
  | none => s
  | some j => s.jobDone j r

/-- Enter a waiter: into the table, or outside it while the table is full (R288). -/
def State.watchEnter (s : State) (w : Waiter) : State :=
  if s.pip.watch.length < 16384 then
    let watch := s.pip.watch ++ [w]
    { s with pip := { s.pip with
      watch := watch, peak := if s.pip.peak.toNat < watch.length then BitVec.ofNat 15 watch.length else s.pip.peak } }
  else
    { s with pip := { s.pip with overflow := s.pip.overflow ++ [w], watchFull := satInc s.pip.watchFull } }

/-- A released waiter's own consequences outside a signal operation. -/
def State.releaseNow (s : State) (w : Waiter) (code : Nat) (value : U32) : State :=
  let r := s.releaseOne w code value
  match r.2 with
  | none => r.1
  | some (q, c) => r.1.pipApply q .poison (BitVec.ofNat 32 c)

/-- A wait reaches the pip store (R275). -/
def State.pipWait (s : State) (w : Waiter) : State :=
  if !s.pipAllocated w.pip then s.releaseNow w Status.abortedReset.code 0
  else match waitResult w (s.pipGet w.pip) with
    | some c => s.releaseNow w c (s.pipGet w.pip).value
    | none => s.watchEnter w

/-- Waiters held outside the table are tested, released or entered (R288). -/
def State.pipPoll (s : State) : State :=
  let held := s.pip.overflow
  held.foldl (fun s w =>
    match waitResult w (s.pipGet w.pip) with
    | some c =>
      ({ s with pip := { s.pip with overflow := s.pip.overflow.erase w } } : State).releaseNow w c
        (s.pipGet w.pip).value
    | none =>
      if s.pip.watch.length < 16384 then
        ({ s with pip := { s.pip with overflow := s.pip.overflow.erase w } } : State).watchEnter w
      else s) s

/-- Release every waiter of pips `a` to `a + n − 1` with a status (R157, R166). -/
def State.releaseRange (s : State) (a n : Nat) (st : Status) : State :=
  let mine := fun (w : Waiter) => a ≤ w.pip && w.pip < a + n
  let hit := s.pip.watch.filter mine ++ s.pip.overflow.filter mine
  let s : State := { s with pip := { s.pip with
    watch := s.pip.watch.filter (!mine ·), overflow := s.pip.overflow.filter (!mine ·) } }
  (hit.foldl (fun s w => s.releaseNow w st.code 0) s).watchFill

/-- Set pips `a` to `a + n − 1` to value 0 and a clear error. -/
def State.pipsZero (s : State) (a n : Nat) : State :=
  { s with pip := { s.pip with pips := s.pip.pips.filter (fun c => c.1 < a || a + n ≤ c.1) } }

/-- Poison the plan pips of an instance (R285). -/
def State.poisonPlan (s : State) (inst : Nat) (st : Status) : State :=
  (List.range 16).foldl (fun s k => s.pipApply (16 * inst + k) .poison (BitVec.ofNat 32 st.code)) s

/-- CLEAR_ERR and SET 0 on the plan pips of an instance (R287). -/
def State.clearPlan (s : State) (inst : Nat) : State :=
  (List.range 16).foldl (fun s k => (s.pipApply (16 * inst + k) .clearErr 0).pipApply (16 * inst + k) .set 0) s

/-- The owning unit applies ADD 1 to the stage-k pip of a slot (R27). -/
def State.stageAdd (s : State) (slot k : Nat) : State := s.pipApply (stagePip slot k) .add 1

/-- An uncorrectable error in a pip's entry (R292). -/
def State.pipUncorrectable (s : State) (p : Nat) : State :=
  let x : Pip := { value := 0, err := BitVec.ofNat 16 Status.internal.code }
  let s := s.pipSet p x
  let s : State := { s with pip := { s.pip with eccUe := satInc s.pip.eccUe } }
  (s.releaseRange p 1 .internal).faultLog 0xFF Status.internal.code (BitVec.ofNat 32 p)

/-- An error found in a pip's entry: corrected and counted, or the value is lost; whether the access goes on (R292). -/
def State.pipMeet (s : State) (p : Nat) : Option EccErr → State × Bool
  | none => (s, true)
  | some .correctable => ({ s with pip := { s.pip with eccCe := satInc s.pip.eccCe } }, true)
  | some .uncorrectable => (s.pipUncorrectable p, false)

/-- The sender's epoch is still its unit's; firmware carries none (R291). -/
def State.pipFresh (s : State) : PipBy → Bool
  | .unit u e => (s.gateN u).epoch == e
  | .firmware => true

/-- An operation or wait under a stale epoch is dropped and counted (R291, R547). -/
def State.pipStale (s : State) : PipBy → State
  | .unit u _ => ({ s with pip := { s.pip with staleDrop := satInc s.pip.staleDrop } } : State).updGate u
      (fun g => { g with staleDrops := satInc g.staleDrops })
  | .firmware => s

/-- PIP_OVERFLOW_POLL: waiters outside the full table are tested (R288). -/
def execPipOverflowPoll (s : State) : Res := whenLive s State.pipPoll

/-- The waiter of a PIP_WAIT. -/
def Waiter.ofCommand (w : Waiter) (m : Fin 16) (seq : BitVec 16) : Bool :=
  match w.by_ with
  | .command m' q _ => m' == m && q == seq
  | _ => false

/-- The timeout of a PIP_WAIT's waiter has passed. -/
def Waiter.expired (w : Waiter) (now : Nat) : Bool :=
  match w.by_ with
  | .command _ _ (some d) => d ≤ now
  | _ => false

/-- PIP_WAIT_TIMEOUT: the wait is removed and completes with BUSY once TIMEOUT_US has passed (R166, R289). -/
def execPipWaitTimeout (m : Fin 16) (seq : BitVec 16) (s : State) : Res :=
  whenLive s fun s =>
    let mine := fun (w : Waiter) => w.ofCommand m seq && w.expired s.clock
    match (s.pip.watch ++ s.pip.overflow).find? mine with
    | none => s
    | some w =>
      ({ s with pip := { s.pip with
          watch := s.pip.watch.erase w
          overflow := if s.pip.watch.contains w then s.pip.overflow else s.pip.overflow.erase w } } : State).watchFill.finishOne
        m seq (.pip w.pip) .busy []

/-- A doorbell write is dropped and counted (R118). -/
def State.doorbellDrop (s : State) : State :=
  s.raising (·.updInt (fun i => { i with dbDrop := true, dbDropCount := satInc i.dbDropCount }))

/-- One doorbell entry is written: one signal operation on a pip open to host signalling (R118, R279). -/
def State.doorbell (s : State) (p v : Nat) : State :=
  if 131072 ≤ p || bitsOf v 36 28 ≠ 0 then s.doorbellDrop
  else match pipOpOf (bitsOf v 32 4) with
    | none => s.doorbellDrop
    | some o =>
      if o.signal && pipOperandOk o (bitsOf v 0 32) && s.pipOpen p then
        s.pipApply p o (BitVec.ofNat 32 v)
      else s.doorbellDrop

/-- The entries that an aligned write covers, in ascending address order (R118). -/
def State.doorbells (s : State) (p : Nat) (bytes : List Byte) : Nat → State
  | 0 => s
  | k + 1 => (s.doorbell p (leAt bytes 0 8)).doorbells (p + 1) (bytes.drop 8) k

/-- BAR4_DOORBELL_WRITE: each aligned 64-bit entry covered is acted on; any other size or alignment is dropped and
counted; a poisoned write is discarded and reported (R118, R148, R279). A write of whole entries and a part of another is
dropped whole and counted once (DESIGN CHOICE: log entry 124). A write that arrives before READY, in STANDBY or after a
device-fault stop is dropped without being counted (R82, R563; 02, Power states). -/
def execBar4DoorbellWrite (offset : Nat) (bytes : List Byte) (poisoned : Bool) (s : State) : Res :=
  .next (if poisoned then s.aerReport .poisonedTlp
    else if !s.barUp || s.sup.power == .standby then s
    else if bytes.length = 0 || bytes.length % 8 ≠ 0 || offset % 8 ≠ 0 then s.doorbellDrop
    else s.doorbells (offset / 8) bytes (bytes.length / 8))

/-- A read of BAR4 returns zero (R118). -/
def bar4Read (bytes : Nat) : List Byte := zeros bytes

end Sys2Proof.Machine
end

