-- ==== Sys2Proof/Machine/Bpm.lean ====
section
/-!
DEFINITION. Buffer pools: handles, free stores, decisions, frees, buoys, rebuild (08_buffer_pools).
-/
namespace Sys2Proof.Machine
open Sys2Proof

/-- The handle of a buffer (R245). -/
def handleOf (pool index gen : Nat) : U32 := BitVec.ofNat 32 (pool * 2 ^ 28 + index % 2 ^ 20 * 2 ^ 8 + gen % 256)

/-- POOL of a handle. -/
def handlePool (h : U32) : Nat := bitsOf h.toNat 28 4
/-- INDEX of a handle. -/
def handleIndex (h : U32) : Nat := bitsOf h.toNat 8 20
/-- GEN of a handle. -/
def handleGen (h : U32) : Nat := bitsOf h.toNat 0 8

/-- A buffer's state-table entry; gen 0 and free at POOL_CREATE (R246, R247). -/
def Pool.buf (p : Pool) (i : Nat) : Buf := (lookupN p.bufs i).getD {}

/-- Set a state-table entry. -/
def Pool.setBuf (p : Pool) (i : Nat) (b : Buf) : Pool :=
  { p with bufs := if b = {} then eraseN p.bufs i else insertN p.bufs i b }

/-- Device address of buffer `i` (R244). -/
def Pool.addr (p : Pool) (i : Nat) : Nat := p.base.toNat + i * p.bufBytes.toNat

/-- Device address of the buffer a handle names. -/
def State.bufAddr (s : State) (h : U32) : Nat := (s.poolN (handlePool h)).addr (handleIndex h)

/-- Context address of the buffer a handle names. -/
def State.bufVa (s : State) (h : U32) : Nat :=
  (s.poolN (handlePool h)).va + handleIndex h * (s.poolN (handlePool h)).bufBytes.toNat

/-- A unit reads `n` bytes of a buffer under the tag of the pool's context: the status that ends its work, if any. A pool
in the Feature Store lies outside the page tables (R212, R213, R238). -/
def State.bufGet (s : State) (unit : Nat) (h : U32) (n : Nat) : State × Option Status :=
  let p := s.poolN (handlePool h)
  let r := if p.inFs then (s, none) else s.reach unit p.ctx.toNat (s.bufVa h) n false
  match r.2 with
  | some st => (r.1, some st)
  | none => (r.1.readSense (r.1.bufAddr h) n, if r.1.readUe (r.1.bufAddr h) n then some .discardedFault else none)

/-- A unit writes bytes at an offset of a buffer under the tag of the pool's context: the status that ends its work, if any
(R212, R215, R239). -/
def State.bufPut (s : State) (unit : Nat) (h : U32) (off : Nat) (bs : List Byte) : State × Option Status :=
  let p := s.poolN (handlePool h)
  let r := if p.inFs then (s, none) else s.reach unit p.ctx.toNat (s.bufVa h + off) bs.length true
  match r.2 with
  | some st => (r.1, some st)
  | none =>
    let w := r.1.memPut (r.1.bufAddr h + off) bs
    (w.1, if w.2 then none else some .discardedFault)

/-- HYST (R259). -/
def Pool.hyst (p : Pool) : Nat := max 1 (p.count.toNat / 64)

/-- The Q-pause level (08, Buoy levels). -/
def Pool.qp (p : Pool) : Nat := p.buoy3.toNat + (p.b2.toNat - p.buoy3.toNat) / 2

/-- A level with hysteresis: entered when FREE falls to `l` or below, so never while every buffer is free; left at or
above `l + h` (R259; 08, At the edges). -/
def levelNext (now : Bool) (free count l h : Nat) : Bool :=
  if free ≤ l && free < count then true else if l + h ≤ free then false else now

/-- The levels after a sequencer cycle; entries into Buoy-1 and Buoy-3 are reported (R259, R260). -/
def State.poolLevels (s : State) (n : Nat) : State :=
  let p := s.poolN n
  if !p.en then s else
    let f := p.free.toNat
    let q := { p with
      atBuoy1 := levelNext p.atBuoy1 f p.count.toNat p.buoy1.toNat p.hyst
      pauseB := levelNext p.pauseB f p.count.toNat p.b2.toNat p.hyst
      pauseQ := levelNext p.pauseQ f p.count.toNat p.qp p.hyst
      atBuoy3 := levelNext p.atBuoy3 f p.count.toNat p.buoy3.toNat p.hyst }
    let report := fun (s : State) (lvl : Nat) =>
      ({ s with bpm := { s.bpm with event := s.bpm.event ||| (1#16 <<< n) } } : State).faultLog 0x21
        Status.noResource.code (BitVec.ofNat 32 (n + 16 * lvl + 256 * f))
    let s := s.updPoolN n (fun _ => q)
    let s := if q.atBuoy1 && !p.atBuoy1 then report s 1 else s
    if q.atBuoy3 && !p.atBuoy3 then report s 3 else s

/-- B2 from the rate in force (R263). -/
def Pool.b2Of (p : Pool) : BitVec 21 :=
  if p.adapt then
    BitVec.ofNat 21 (min p.buoy1.toNat (max p.buoy2.toNat (p.buoy3.toNat + ceilDiv p.rate.toNat 4)))
  else p.buoy2

/-- Handles in the DRAM ring. -/
def Pool.inRing (p : Pool) : Nat := p.free.toNat - p.cache.length

/-- A handle read back from the ring is consistent with the state table (R267). -/
def Pool.handleOk (p : Pool) (n : Nat) (h : U32) : Bool :=
  handlePool h == n && handleIndex h < p.count.toNat &&
    !(p.buf (handleIndex h)).alloc && (p.buf (handleIndex h)).gen.toNat == handleGen h

/-- Corruption is detected: a rebuild starts (R267). -/
def State.poolCorrupt (s : State) (n : Nat) : State :=
  (s.updPoolN n (fun p => { p with rebuild := true, corrupt := satInc p.corrupt })).faultLog 0x21
    Status.internal.code (BitVec.ofNat 32 n)

/-- Read up to `k` handles from the DRAM ring into the cache (R249). -/
def State.poolRefill (s : State) (n : Nat) : Nat → State
  | 0 => s
  | k + 1 =>
    let p := s.poolN n
    if p.inRing = 0 || p.rebuild then s else
      let a := p.ring.toNat + 4 * p.ringHead.toNat
      let h : U32 := BitVec.ofNat 32 (s.memNat a 4)
      let s := s.readSense a 4
      if s.readUe a 4 || !p.handleOk n h then s.poolCorrupt n
      else
        (s.updPoolN n (fun p => { p with
          cache := p.cache ++ [h], ringHead := BitVec.ofNat 20 ((p.ringHead.toNat + 1) % p.count.toNat) })).poolRefill n k

/-- Write `k` handles from the cache to the DRAM ring (R249). -/
def State.poolSpill (s : State) (n : Nat) : Nat → State
  | 0 => s
  | k + 1 =>
    let p := s.poolN n
    match p.cache with
    | [] => s
    | h :: hs =>
      ((s.memPut (p.ring.toNat + 4 * p.ringTail.toNat) (leBytes 4 h.toNat)).1.updPoolN n (fun p => { p with
        cache := hs, ringTail := BitVec.ofNat 20 ((p.ringTail.toNat + 1) % p.count.toNat) })).poolSpill n k

/-- The link word of a free LIST buffer (R250). -/
def linkWord (n next : Nat) (last : Bool) (gen : Nat) : List Byte :=
  leBytes 4 (next % 2 ^ 20 + (if last then 2 ^ 31 else 0)) ++ leBytes 4 (gen + n * 256 + 0x4650 * 2 ^ 16)

/-- A link word read back is consistent (R267). -/
def Pool.linkOk (p : Pool) (n i w0 w1 : Nat) : Bool :=
  bitsOf w1 16 16 == 0x4650 && bitsOf w1 8 4 == n && bitsOf w1 12 4 == 0 &&
    bitsOf w1 0 8 == (p.buf i).gen.toNat && bitsOf w0 20 11 == 0 &&
    (bitOf w0 31 || bitsOf w0 0 20 < p.count.toNat) && !(p.buf i).alloc

/-- Hand buffer `i` out (R246). -/
def State.handOut (s : State) (n i : Nat) (host : Bool) : U32 × State :=
  let p := s.poolN n
  let g := (p.buf i).gen + 1
  let f := p.free - 1
  (handleOf n i g.toNat,
   s.updPoolN n (fun p => { p.setBuf i { gen := g, alloc := true, host := host } with
     free := f, minFree := if f.toNat < p.minFree.toNat then f else p.minFree, grants := p.grants + 1 }))

/-- Take one free buffer of a pool; none while its store is being rebuilt. Which buffer of a RING pool is not
defined (R249): a free value chooses among the cached handles. -/
def State.poolTake (s : State) (n : Nat) (host : Bool) : Option U32 × State :=
  let p := s.poolN n
  if p.rebuild then (none, s)
  else if p.list then
    let i := p.listHead.toNat
    let w0 := s.memNat (p.addr i) 4
    let w1 := s.memNat (p.addr i + 4) 4
    let s := s.readSense (p.addr i) 8
    if p.listEmpty || s.readUe (p.addr i) 8 || !p.linkOk n i w0 w1 then (none, s.poolCorrupt n)
    else
      let s := s.updPoolN n (fun p => { p with
        listHead := BitVec.ofNat 20 w0, listEmpty := bitOf w0 31 })
      let r := s.handOut n i host
      (some r.1, r.2)
  else
    let s := if p.cache.isEmpty then s.poolRefill n 32 else s
    let p := s.poolN n
    if p.rebuild || p.cache.isEmpty then (none, s) else
      let d := s.takeFree
      let k := Config.freeNat d.1 % p.cache.length
      let h := p.cache.getD k 0
      let s := d.2.updPoolN n (fun p => { p with cache := p.cache.eraseIdx k })
      let r := s.handOut n (handleIndex h) host
      (some r.1, r.2)

/-- A freed buffer joins the pool's free store (R249, R250). During a rebuild the state table alone changes; the
rebuild adds the buffer (R267). -/
def State.poolGive (s : State) (n i : Nat) : State :=
  let p := s.poolN n
  let b := p.buf i
  let s := s.updPoolN n (fun p => { p.setBuf i { gen := b.gen, alloc := false, host := false } with free := p.free + 1 })
  if p.rebuild then s
  else if p.list then
    (s.memPut (p.addr i) (linkWord n (if p.listEmpty then 0 else p.listHead.toNat) p.listEmpty b.gen.toNat)).1.updPoolN n
      (fun p => { p with listHead := BitVec.ofNat 20 i, listEmpty := false })
  else
    let s := s.updPoolN n (fun p => { p with cache := p.cache ++ [handleOf n i b.gen.toNat] })
    if 64 < (s.poolN n).cache.length then s.poolSpill n 32 else s

/-- The checks of a free, in order (R256). -/
def State.freeCheck (s : State) (h : U32) (ctx : Nat) : Option FreeErr :=
  let p := s.poolN (handlePool h)
  if !p.en || p.ctx.toNat ≠ ctx then some .notFound
  else if p.count.toNat ≤ handleIndex h then some .notFound
  else if (p.buf (handleIndex h)).gen.toNat ≠ handleGen h then some .staleHandle
  else if !(p.buf (handleIndex h)).alloc then some .doubleFree
  else none

/-- The status of a failed free. -/
def FreeErr.status : FreeErr → Status
  | .notFound => .notFound | .staleHandle => .staleHandle | .doubleFree => .doubleFree

/-- A failed free is reported (R257). -/
def State.freeFailed (s : State) (h : U32) (port unit : Nat) (e : FreeErr) : State :=
  let s : State := { s with bpm := { s.bpm with
    freeErr := s.bpm.freeErr ||| (1#16 <<< handlePool h), freeErrCount := satInc s.bpm.freeErrCount,
    freeErrLast := match s.bpm.freeErrLast with | some x => some x | none => some (h, port, e) } }
  s.faultLog unit e.status.code h

/-- Free one handle on behalf of a context (R256, R257). -/
def State.bufFree (s : State) (h : U32) (ctx port unit : Nat) : State × Option FreeErr :=
  match s.freeCheck h ctx with
  | some e => (s.freeFailed h port unit e, some e)
  | none => ((s.poolGive (handlePool h) (handleIndex h)).poolLevels (handlePool h), none)

/-- Frees of several handles, in ascending handle order (R544). -/
def State.bufFrees (s : State) (hs : List U32) (ctx port unit : Nat) : State :=
  (sortBy (fun a b => decide (a.toNat ≤ b.toNat)) hs).foldl (fun s h => (s.bufFree h ctx port unit).1) s

/-- The home pool of a request: the start pool, or the first pool of its chain that is large enough (R252). -/
def State.homePool (s : State) : Nat → Nat → Nat → Option Nat
  | 0, _, _ => none
  | k + 1, n, bytes =>
    let p := s.poolN n
    if bytes ≤ p.bufBytes.toNat then some n
    else if p.chain then match p.next with
      | some q => s.homePool k q.toNat bytes
      | none => none
    else none

/-- FAILS of a pool counts one POOL_EMPTY outcome. -/
def State.poolFail (s : State) (n : Nat) : State := s.updPoolN n (fun p => { p with fails := satInc p.fails })

/-- The request that the sequencer decides next (R265): highest class, then the first port at or after the
round-robin pointer. -/
def Pool.winner (p : Pool) : Option BufReq :=
  let key := fun (r : BufReq) => r.cls.code * 32 + (r.port + 17 - p.rr.toNat) % 17
  p.waiting.foldl (fun best r => match best with
    | none => some r
    | some b => if key r < key b then some r else some b) none

/-- What became of a decided request. -/
inductive BufOut where
  /-- Still waiting, here or at another pool. -/
  | wait
  /-- Granted. -/
  | grant (use : BufFor) (h : U32)
  /-- POOL_EMPTY. -/
  | empty (use : BufFor)
  deriving DecidableEq, Repr

/-- Put a request at a pool's sequencer. -/
def State.poolEnqueue (s : State) (n : Nat) (r : BufReq) : State :=
  s.updPoolN n (fun p => { p with waiting := p.waiting ++ [{ r with pool := n }] })

/-- One allocation decision at pool `n` (R253, R254, R265). -/
def State.allocDecide (s : State) (n : Nat) : State × BufOut :=
  let p := s.poolN n
  if p.rebuild then (s, .wait) else
  match p.winner with
  | none => (s, .wait)
  | some r =>
    let s := s.updPoolN n (fun p => { p with
      waiting := p.waiting.erase r, rr := BitVec.ofNat 5 ((r.port + 1) % 17) })
    let host := match r.use with | .command _ _ => true | _ => false
    let grant := fun (s : State) =>
      let t := s.poolTake n host
      match t.1 with
      | none => ((t.2.updPoolN n (fun p => { p with waiting := r :: p.waiting })), BufOut.wait)
      | some h => (t.2.poolLevels n, .grant r.use h)
    let empty := fun (s : State) => (s.poolFail r.home, BufOut.empty r.use)
    match r.reserve with
    | none =>
      if p.buoy3.toNat < p.free.toNat then grant s
      else match p.fallback, p.next with
        | true, some q => (s.poolEnqueue q.toNat { r with reached := r.reached ++ [q.toNat] }, .wait)
        | _, _ =>
          if r.cls = .s then
            match r.reached with
            | [] => empty s
            | q :: qs => (s.poolEnqueue q { r with reserve := some qs }, .wait)
          else empty s
    | some rest =>
      if 1 ≤ p.free.toNat then grant s
      else match rest with
        | [] => empty s
        | q :: qs => (s.poolEnqueue q { r with reserve := some qs }, .wait)

/-- A request reaches the BPM (R252): it waits at its home pool, or fits no pool and is counted at the start pool. -/
def State.bufRequest (s : State) (start bytes : Nat) (cls : Cls) (port : Nat) (use : BufFor) : State × BufOut :=
  match s.homePool 16 start bytes with
  | none => (s.poolFail start, .empty use)
  | some n =>
    (s.poolEnqueue n { port := port, cls := cls, pool := n, home := n, reached := [n], reserve := none, use := use }, .wait)

/-- The free store as the state table gives it (R267). -/
def State.poolRebuild (s : State) (n : Nat) : State :=
  let p := s.poolN n
  let frees := (List.range p.count.toNat).filter (fun i => !(p.buf i).alloc)
  let s := s.updPoolN n (fun p => { p with rebuild := false, cache := [], free := BitVec.ofNat 21 frees.length })
  if p.list then
    let s := (frees.zip (frees.drop 1 ++ [0])).zipIdx.foldl (fun s x =>
      (s.memPut (p.addr x.1.1) (linkWord n x.1.2 (x.2 + 1 == frees.length) (p.buf x.1.1).gen.toNat)).1) s
    s.updPoolN n (fun p => { p with
      listHead := BitVec.ofNat 20 (frees.headD 0), listEmpty := frees.isEmpty })
  else
    let bytes := frees.flatMap (fun i => leBytes 4 (handleOf n i (p.buf i).gen.toNat).toNat)
    (s.memPut p.ring.toNat bytes).1.updPoolN n (fun p => { p with
      ringHead := 0, ringTail := BitVec.ofNat 20 (frees.length % max 1 p.count.toNat) })

/-- The free store of a new pool: every buffer free, RING entries in order or LIST links in order (R249, R250). -/
def State.poolFill (s : State) (n : Nat) : State :=
  let p := s.poolN n
  let c := p.count.toNat
  let now := s.clock
  let s := s.updPoolN n (fun p => { p with
    windowEnd := now + 1000, free := p.count, minFree := p.count, ringHead := 0, ringTail := 0, listHead := 0, listEmpty := !p.list,
    cache := [], bufs := [], rate := 0, fails := 0, grants := 0, rebuild := false, atBuoy1 := false, pauseB := false, pauseQ := false,
    atBuoy3 := false, waiting := [] })
  if p.list then
    (List.range c).foldl (fun s i => (s.memPut (p.addr i) (linkWord n (if i + 1 = c then 0 else i + 1) (i + 1 == c) 0)).1) s
  else (s.memPut p.ring.toNat ((List.range c).flatMap (fun i => leBytes 4 (handleOf n i 0).toNat))).1

/-- BPM_CACHE_REFILL: a RING pool's cache below 16 handles reads up to 32 from the ring (R249). -/
def execBpmCacheRefill (p : Fin 16) (s : State) : Res :=
  whenLive s fun s =>
    let x := s.bpm.pool[p]
    if x.en && !x.list && !x.rebuild && x.cache.length < 16 then s.poolRefill p.val 32 else s

/-- BPM_CACHE_SPILL: a RING pool's cache above 48 handles writes 32 to the ring (R249). -/
def execBpmCacheSpill (p : Fin 16) (s : State) : Res :=
  whenLive s fun s =>
    let x := s.bpm.pool[p]
    if x.en && !x.list && !x.rebuild && 48 < x.cache.length then s.poolSpill p.val 32 else s

/-- BPM_REBUILD_DONE: the rebuild of a pool's free store ends (R267). -/
def execBpmRebuildDone (p : Fin 16) (s : State) : Res :=
  whenLive s fun s =>
    if s.bpm.pool[p].rebuild then (s.poolRebuild p.val).poolLevels p.val else s

/-- ADAPTIVE_WINDOW_END: 1 ms after the window began, RATE and B2 are updated; the next window follows without a gap (R263). -/
def execAdaptiveWindowEnd (p : Fin 16) (s : State) : Res :=
  whenLive s fun s =>
    let x := s.bpm.pool[p]
    if x.en && x.windowEnd ≤ s.clock then
      if !x.adapt then s.updPool p (fun x => { x with grants := 0, windowEnd := x.windowEnd + 1000 }) else
      let r : Int := x.rate.toNat + ((16 * x.grants : Int) - x.rate.toNat).fdiv 8
      let rate := BitVec.ofNat 20 (min 0xFFFFF r.toNat)
      (s.updPool p (fun x => { x with rate := rate, grants := 0, windowEnd := x.windowEnd + 1000, b2 := ({ x with rate := rate } : Pool).b2Of })).poolLevels p.val
    else s

end Sys2Proof.Machine
end

