-- ==== Sys2Proof/Machine/Sched.lean ====
section
/-!
DEFINITION. The scheduler: placement, queues, pre-emption, sharing, admission (10_scheduling).
-/
namespace Sys2Proof.Machine
open Sys2Proof

/-- `a` comes before `b`, difference by difference. -/
def lexLt : List Int → List Int → Bool
  | [], [] => false
  | [], _ => true
  | _, [] => false
  | x :: xs, y :: ys => if x < y then true else if y < x then false else lexLt xs ys

/-- The first element with the least key. -/
def argMin {α : Type} (key : α → List Int) : List α → Option α
  | [] => none
  | x :: xs => match argMin key xs with
    | none => some x
    | some y => if lexLt (key y) (key x) then some y else some x

/-- The CLK_CORE divider in use (R45): the largest one requested. -/
def State.coreDiv (s : State) : Nat :=
  max (if s.sup.droop || s.sup.avsLimit || s.sup.avsFault then 12 else 10)
    (if s.sup.throttle = 0 then 10 else if s.sup.throttle = 1 then 12 else 16)

/-- CLK_CORE in Hz with divider `d`: 12.8 GHz / d. -/
def coreHz (d : Nat) : Nat := 12800000000 / d

/-- The group of an engine index. -/
def groupOf (e : Nat) : Group :=
  if e < 8 then .tower else if e < 24 then .vpu else if e < 26 then .scan else if e < 28 then .region else .vde

/-- The unit ID of an engine index. -/
def unitOfEng (e : Nat) : Nat :=
  if e < 24 then e else if e < 26 then 0x1D + (e - 24) else if e < 28 then 0x1D + (e - 26) else 0x18 + (e - 28)

/-- Engine `e` when `e` names one. -/
def State.engN (s : State) (e : Nat) : Engine := s.sched.eng.toList.getD e {}

/-- Change engine `e` when `e` names one. -/
def State.updEngN (s : State) (e : Nat) (f : Engine → Engine) : State :=
  if h : e < 32 then s.updEng ⟨e, h⟩ f else s

/-- The engines of a group. -/
def Group.engines (g : Group) : List Nat := (List.range g.size).map (g.base + ·)

/-- Items queued at a level. -/
def Engine.at (e : Engine) (l : Fin 4) : List Item := e.queue[l]

/-- The engine runs nothing and nothing is queued or saved (R303). -/
def Engine.idle (e : Engine) : Bool :=
  e.running.isNone && e.incoming.isNone && e.saved.isNone && e.queue.toList.all List.isEmpty

/-- Certified cycles queued at a level and above; a saved item keeps its place in the queue (R303, R306). -/
def Engine.load (e : Engine) (l : Fin 4) : Nat :=
  ((List.finRange 4).filter (· ≤ l)).foldl (fun n k =>
    n + ((e.at k ++ e.saved.toList.filter (fun i => i.level == k)).map Item.cycles).sum) 0

/-- The Tower holds the item's weights (R413). -/
def State.holds (s : State) (t : Nat) (i : Item) : Bool :=
  match i.model with
  | none => true
  | some m => ((s.str.tower.toList.getD t {}).images.any (·.model == m)) 

/-- The Tower's HOT bit (R59). -/
def State.hotT (s : State) (t : Nat) : Bool := s.sup.hot.getLsbD t

/-- The Tower's last delivered reading (R59). -/
def State.readT (s : State) (t : Nat) : Int := (s.sup.towerTemp.toList.getD t 0).toInt

/-- The bit as a comparison key: the preferred value first. -/
def keyNot (b : Bool) : Int := if b then 0 else 1

/-- Bytes of live state of an item that an engine would stop now (R307, R308, R433): of a Tower item whose run has results
in the accumulators, the decoded tile, half a KiB for each of them and 4 KiB of control. -/
def Item.liveNow (i : Item) : Nat :=
  if i.group == .tower && i.acc != [] then 32768 + ceilDiv i.acc.length 2 * 1024 + 4096 else i.live

/-- Where an item goes. -/
inductive Place where
  /-- Starts at once on an idle engine. -/
  | start (e : Nat)
  /-- Pre-empts the item running there. -/
  | preempt (e : Nat)
  /-- Joins the engine's queue. -/
  | queue (e : Nat)
  /-- Joins the queue and asks the unit to yield (R310). -/
  | yieldAt (e : Nat)
  /-- Waits in the dispatcher. -/
  | wait
  deriving DecidableEq, Repr

/-- The level an engine is running at. -/
def Engine.level (e : Engine) : Nat := match e.running with | some i => i.level.val | none => 4

/-- Placement of a Tower or VPU item (R303, R304). -/
def State.placeCore (s : State) (i : Item) : Place :=
  let live := (i.group.engines.filter (fun e => s.unitLive (unitOfEng e))).filter
    (fun e => match i.only with | some o => o == e | none => true)
  let tw := i.group == .tower
  let hold := fun e => if tw then keyNot (s.holds e i) else 0
  let heat := fun e => if tw then [if s.hotT e then 1 else 0, s.readT e] else []
  let idle := live.filter (fun e => (s.engN e).idle)
  let held := idle.filter (fun e => !tw || s.holds e i)
  match argMin (fun e => heat e ++ [(e : Int)]) held with
  | some e => .start e
  | none =>
    match argMin (fun e => heat e ++ [(e : Int)]) idle with
    | some e => .start e
    | none =>
      let pre := if i.level = 0 then live.filter (fun e =>
          let x := s.engN e
          1 ≤ x.level && x.level ≤ 3 && x.saved.isNone && x.incoming.isNone) else []
      match argMin (fun e =>
          let x := s.engN e
          ([3 - (x.level : Int), hold e, ((x.running.map Item.liveNow).getD 0 : Int)] : List Int) ++ heat e ++ [(e : Int)]) pre with
      | some e => .preempt e
      | none =>
        let room := live.filter (fun e => ((s.engN e).at i.level).length < 32)
        match argMin (fun e => ([((s.engN e).load i.level : Int), hold e] : List Int) ++ heat e ++ [(e : Int)]) room with
        | some e => .queue e
        | none => .wait

/-- Placement of a PREP, CROP or decode item (R304, R305, R310). -/
def State.placePipe (s : State) (i : Item) : Place :=
  let live := (i.group.engines.filter (fun e => s.unitLive (unitOfEng e))).filter
    (fun e => match i.only with | some o => o == e | none => true)
  match live.find? (fun e => (s.engN e).idle) with
  | some e => .start e
  | none =>
    let pre := if i.level = 0 then live.filter (fun e =>
        let x := s.engN e
        1 ≤ x.level && x.level ≤ 3 && x.saved.isNone && (x.at 0).length < 32) else []
    match argMin (fun e => ([3 - ((s.engN e).level : Int), (e : Int)] : List Int)) pre with
    | some e => .yieldAt e
    | none =>
      let room := live.filter (fun e => ((s.engN e).at i.level).length < 32)
      match argMin (fun e => ([((s.engN e).load i.level : Int), (e : Int)] : List Int)) room with
      | some e => .queue e
      | none => .wait

/-- Placement by group. -/
def State.place (s : State) (i : Item) : Place :=
  match i.group with
  | .tower | .vpu => s.placeCore i
  | _ => s.placePipe i

/-- Change VPU `v`. -/
def State.updVpu (s : State) (v : Fin 16) (f : Vpu → Vpu) : State :=
  { s with str := { s.str with vpu := updAt s.str.vpu v f } }

/-- An engine starts an item: a Tower or VPU that does not hold the item's image begins to load it (R413, R434);
the job it serves starts. -/
def State.startItem (s : State) (e : Nat) (i : Item) : State :=
  let s := s.updEngN e (fun x => { x with running := some { i with saved := false }, incoming := none })
  let s := match i.origin with
    | .job id =>
      let start := fun (j : Job) => ({ j with state := .running, startedAt := some (j.startedAt.getD s.clock) } : Job)
      { s with mem := { s.mem with jobs := s.mem.jobs.map (fun j => if j.id == id then start j else j) } }
    | _ => s
  if h : e < 8 then
    if s.holds e i then
      s.updTower ⟨e, h⟩ (fun t => { t with images :=
        (t.images.filter (fun m => some m.model == i.model)) ++ t.images.filter (fun m => some m.model != i.model) })
    else s.updTower ⟨e, h⟩ (fun t => { t with loading := true })
  else if h : 8 ≤ e ∧ e < 24 then
    let v : Fin 16 := ⟨e - 8, by omega⟩
    match i.model with
    | none => s
    | some m =>
      s.updVpu v (fun x =>
        if x.images.any (·.model == m) then
          { x with images := x.images.filter (·.model == m) ++ x.images.filter (·.model != m) }
        else { x with loading := true })
  else s

/-- Contexts with level-2 items placed or waiting in a group (R301). -/
def State.l2ctx (s : State) (g : Group) : List Nat :=
  let placed := g.engines.flatMap (fun e => (s.engN e).at 2 ++
    ((s.engN e).saved.toList.filter (fun i => i.level == 2)))
  let waiting := s.sched.waiting.filter (fun i => i.group == g && i.level == 2)
  sortBy (fun a b => decide (a ≤ b)) ((placed ++ waiting).map Item.ctx).dedup

/-- The sharing state of a group. -/
def State.shareOf (s : State) (vpu : Bool) : Share := if vpu then s.sched.vpuShare else s.sched.towerShare

/-- Set the sharing state of a group. -/
def State.setShare (s : State) (vpu : Bool) (x : Share) : State :=
  if vpu then { s with sched := { s.sched with vpuShare := x } }
  else { s with sched := { s.sched with towerShare := x } }

/-- The group with a sharing mode. -/
def shareGroup (vpu : Bool) : Group := if vpu then .vpu else .tower

/-- The next owner in ascending context number with wrap (R302). -/
def nextOwner (cs : List Nat) (last : Nat) : Option Nat :=
  match cs.find? (fun c => last < c) with
  | some c => some c
  | none => cs.head?

/-- Quantum in µs with `n` contexts (R302). -/
def quantumUs (n : Nat) : Nat := min 20000 (max 500 (40000 / n))

/-- Give level 2 to the next context: its quantum, less its deduction. Running level-2 items of the last owner are
completed; their time past the end is deducted later (R302). -/
def State.passOwner (s : State) (vpu : Bool) : State :=
  let x := s.shareOf vpu
  let cs := s.l2ctx (shareGroup vpu)
  let s := if x.owner.isSome then (shareGroup vpu).engines.foldl (fun s e => s.updEngN e (fun y => { y with
    running := y.running.map (fun i => if i.level == 2 && some i.ctx == x.owner && i.overAt.isNone then
      { i with overAt := some s.clock } else i) })) s else s
  match nextOwner cs x.lastOwner with
  | none => s.setShare vpu { x with owner := none }
  | some c =>
    let d := (lookupN x.deduct c).getD 0
    s.setShare vpu { x with owner := some c, lastOwner := c, quantumEnd := s.clock + (quantumUs cs.length - d),
                            deduct := eraseN x.deduct c }

/-- The mode of level 2 at an item boundary: interleaved or time-sliced (R301). -/
def State.reshare (s : State) (vpu : Bool) : State :=
  let x := s.shareOf vpu
  let cs := s.l2ctx (shareGroup vpu)
  if cs.length < 2 then s.setShare vpu { x with sliced := false, owner := none }
  else if x.sliced && x.owner.isSome then s
  else (s.setShare vpu { x with sliced := true }).passOwner vpu

/-- May this level-2 item be taken now (R302)? -/
def State.mayTake (s : State) (i : Item) : Bool :=
  if i.level != 2 then true
  else match i.group with
    | .tower => !s.sched.towerShare.sliced || s.sched.towerShare.owner == some i.ctx
    | .vpu => !s.sched.vpuShare.sliced || s.sched.vpuShare.owner == some i.ctx
    | _ => true

/-- The running time past the end of its context's quantum is deducted (R302). -/
def State.deductOver (s : State) (i : Item) : State :=
  match i.overAt with
  | none => s
  | some t =>
    let vpu := i.group == .vpu
    let x := s.shareOf vpu
    s.setShare vpu { x with deduct := insertN x.deduct i.ctx ((lookupN x.deduct i.ctx).getD 0 + (s.clock - t)) }

/-- What an engine takes next (R297, R300, R306): by level, a saved item ahead of the others of its level; a
promoted level-3 item ahead of level 2. `true` marks the saved item. -/
def State.pick (s : State) (e : Nat) : Option (Bool × Item) :=
  let x := s.engN e
  let sav := fun (l : Fin 4) => (x.saved.toList.filter (fun i => i.level == l && s.mayTake i)).map (fun i => (true, i))
  let q := fun (l : Fin 4) => ((x.at l).filter s.mayTake).map (fun i => (false, i))
  let pro := (x.saved.toList.filter (fun i => i.level == 3 && i.promoted)).map (fun i => (true, i)) ++
    ((x.at 3).filter Item.promoted).map (fun i => (false, i))
  (sav 0 ++ q 0 ++ sav 1 ++ q 1 ++ pro ++ sav 2 ++ q 2 ++ sav 3 ++ q 3).head?

/-- The pick is a level-2 item. -/
def isL2 (x : Option (Bool × Item)) : Bool := x.any (fun y => y.2.level == 2)

/-- The engine belongs to a group with a sharing mode: the Towers (`false`) or the VPUs (`true`). -/
def shareOfEng (e : Nat) : Option Bool :=
  match groupOf e with
  | .tower => some false
  | .vpu => some true
  | _ => none

/-- The mode of level 2 changes at an item boundary of that level: an item of it is about to be taken (R301). -/
def State.atBoundary (s : State) (e : Nat) : State :=
  match shareOfEng e with
  | none => s
  | some v => if isL2 (s.pick e) || isL2 ((s.reshare v).pick e) then s.reshare v else s

/-- An engine without an item takes its next item. A saved item of a Tower or VPU is restored first. -/
def State.takeOne (s : State) (e : Nat) : State :=
  if !(s.engN e).running.isNone || !(s.engN e).incoming.isNone || !s.unitLive (unitOfEng e) then s else
  let s := s.atBoundary e
  match s.pick e with
  | none => s
  | some (true, i) =>
    if e < 24 then s.updEngN e (fun x => { x with incoming := some i, saved := none, dir := none })
    else (s.updEngN e (fun x => { x with saved := none })).startItem e i
  | some (false, i) =>
    (s.updEngN e (fun x => { x with queue := updAt x.queue i.level (List.filter (fun y => y.id != i.id)) })).startItem e i

/-- A quantum ends early when its owner has no level-2 item placed or waiting; free engines of the group then take
items of the next owner (R302). -/
def State.settleShare : Nat → Bool → State → State
  | 0, _, s => s
  | k + 1, vpu, s =>
    let x := s.shareOf vpu
    match x.owner with
    | none => s
    | some c =>
      if x.sliced && !(s.l2ctx (shareGroup vpu)).contains c then
        State.settleShare k vpu ((shareGroup vpu).engines.foldl State.takeOne (s.passOwner vpu))
      else s

/-- An engine without an item takes its next item; the quantum of an owner left without level-2 items ends. -/
def State.takeNext (s : State) (e : Nat) : State :=
  match shareOfEng e with
  | none => s.takeOne e
  | some v => State.settleShare 64 v (s.takeOne e)

/-- The save directory's entry for the item that engine `e` stops (R312): its sizes, identity, context, epoch and a CRC. -/
def State.saveEntry (s : State) (e : Nat) (i : Item) : SaveEntry × State :=
  let f := s.takeFree
  ({ bytes := i.liveNow, item := i.id, ctx := i.ctx, epoch := (s.gateN (unitOfEng e)).epoch
     crc := BitVec.ofNat 32 (Config.freeNat f.1) }, f.2)

/-- An item pre-empts the one that a Tower or VPU runs: the running item's state goes to the save slot, with its entry in the
save directory, and the item starts when the transfer ends (R306, R312). The time past the end of its context's quantum
is deducted (14, When things fall together). -/
def State.preempt (s : State) (e : Nat) (i : Item) : State :=
  let s := match (s.engN e).running with
    | some r =>
      let d := (s.deductOver r).saveEntry e r
      d.2.updEngN e (fun x => { x with saved := some { r with saved := true, overAt := none }, dir := some d.1 })
    | none => s
  let s := s.updEngN e (fun x => { x with running := none, incoming := some i })
  if h : e < 8 then s.updTower ⟨e, h⟩ (fun t => { t with preempt := t.preempt + 1, loading := false })
  else if h : 8 ≤ e ∧ e < 24 then
    s.updVpu ⟨e - 8, by omega⟩ (fun x => { x with preempt := x.preempt + 1, loading := false })
  else s

/-- An item joins an engine's queue at its level. -/
def State.enqueue (s : State) (e : Nat) (i : Item) : State :=
  s.updEngN e (fun x => { x with queue := updAt x.queue i.level (· ++ [i]) })

/-- Carry a placement out. An engine that runs nothing takes its next item at once: the item placed on it, unless another
context owns level 2 (R297, R302). -/
def State.carry (s : State) (i : Item) (p : Place) : State :=
  let i := { i with placedAt := s.clock }
  match p with
  | .start e | .queue e => (s.enqueue e i).takeNext e
  | .preempt e => s.preempt e i
  | .yieldAt e => (s.enqueue e i).updEngN e (fun x => { x with yield_ := true })
  | .wait => { s with sched := { s.sched with waiting := s.sched.waiting ++ [i] } }

/-- Waiting items are placed as entries free, in eligibility order (R296). -/
def State.dispatch (s : State) : State :=
  let held := s.sched.waiting
  let s : State := { s with sched := { s.sched with waiting := [] } }
  held.foldl (fun s i => s.carry i (s.place i)) s

/-- Items have left queues or the dispatcher: engines that run nothing take their next item, a quantum whose owner has no
level-2 item left ends, and waiting items are placed (R296, R297, R302). -/
def State.refill (s : State) : State :=
  let free := (List.range 32).filter (fun e => (s.engN e).running.isNone && (s.engN e).incoming.isNone)
  (State.settleShare 64 true (State.settleShare 64 false (free.foldl State.takeOne s))).dispatch

/-- The running item of an engine leaves it; the engine takes its next item and waiting items are placed. -/
def State.engineDone (s : State) (e : Nat) : State :=
  let s := match (s.engN e).running with | some i => s.deductOver i | none => s
  let s := s.updEngN e (fun x => { x with running := none, yield_ := false })
  ((s.takeNext e).dispatch)

/-- The item serves this frame. -/
def Item.ofFrame (i : Item) (slot : Nat) (seq : U32) : Bool := i.origin == .frame slot seq

/-! ### Admission (R313–R319) -/

/-- Units in the design, reserved units, burst budget in µs (R313, R314). -/
def groupFigures : Group → Nat × Nat × Nat
  | .tower => (8, 2, 14000) | .vpu => (16, 2, 2000) | .scan => (2, 1, 4000) | .region => (2, 1, 4000)
  | .vde => (4, 1, 8000)

/-- Live units of a group (R313), with `f` saying which units count as live. -/
def liveCount (f : Nat → Bool) (g : Group) : Nat := (g.engines.filter (fun e => f (unitOfEng e))).length

/-- Units of cost in one nanosecond: every charge of R361, R406 and R314 is a whole number of them at each divider. -/
def costUnits : Nat := 2112

/-- A stream's cost per frame in the group, in units of 1/2112 ns, at CLK_CORE divider `d` (12.8 GHz / d). -/
def Demand.cost (x : Demand) (g : Group) (d : Nat) : Nat :=
  match g with
  | .tower => x.tower * d * 165
  | .vpu => x.vpu * d * 165
  | .scan => x.scanC
  | .region => x.regionC
  | .vde => x.vdeC

/-- Demand in units of the group: cost / period. -/
def Demand.rate (x : Demand) (g : Group) (d : Nat) : ℚ :=
  (x.cost g d : ℚ) / (max 1 x.periodUs * 1000 * costUnits : ℕ)

/-- The burst term: frames in 33 ms times the cost. -/
def Demand.burst (x : Demand) (g : Group) : Nat := ceilDiv 33000 x.periodUs * x.cost g 16

/-- A budget in µs as cost. -/
def budget (us : Nat) : Nat := us * 1000 * costUnits

/-- The decode load bound to one VDE by S-class streams stays within 8 ms. -/
def vdeBurstOk (ds : List Demand) (v : Nat) : Bool :=
  ((ds.filter (fun x => x.cls == .s && x.vde == some v)).map (·.burst .vde)).sum ≤ budget 8000

/-- Load bound to a VDE, for comparison. -/
def vdeLoad (ds : List Demand) (v : Nat) : ℚ := ((ds.filter (fun x => x.vde == some v)).map (·.rate .vde 10)).sum

/-- The live VDE with the least bound load among candidates; ties to the lower number (R305). -/
def leastVde (ds : List Demand) (vs : List Nat) : Option Nat :=
  vs.foldl (fun best v => match best with
    | none => some v
    | some b => if vdeLoad ds v < vdeLoad ds b then some v else some b) none

/-- Bind one decoded stream (R305): for an S-class stream only a VDE that keeps its 8 ms. -/
def bindOne (ds : List Demand) (vs : List Nat) (x : Demand) : Option Nat :=
  let c := if x.cls == .s then vs.filter (fun v => vdeBurstOk ({ x with vde := some v } :: ds) v) else vs
  leastVde ds c

/-- Rebind streams one at a time, S-class first, each group in slot order; an S-class stream without a candidate
goes to the least loaded live VDE (R305). -/
def rebind (ds : List Demand) (lost : List Demand) (vs : List Nat) : List Demand :=
  let order := sortBy (fun a b => decide (a.slot ≤ b.slot)) (lost.filter (·.cls == .s)) ++
    sortBy (fun a b => decide (a.slot ≤ b.slot)) (lost.filter (·.cls != .s))
  order.foldl (fun ds x =>
    let v := match bindOne ds vs x with | some v => some v | none => leastVde ds vs
    ds ++ [{ x with vde := v }]) ds

/-- R314 in the groups but VDE: rate and burst. -/
def sOkGroup (f : Nat → Bool) (ds : List Demand) (g : Group) : Bool :=
  let (n, r, b) := groupFigures g
  let k := min (liveCount f g) (n - r)
  let s := ds.filter (·.cls == .s)
  decide ((s.map (·.rate g 16)).sum ≤ (k : ℚ) / 2) &&
    (if g = .vde then true else decide ((s.map (·.burst g)).sum ≤ budget (k * b)))

/-- R314 for the VDE group: rate, burst on each live VDE; with `probe`, also after the loss of any one VDE. -/
def sOkVde (f : Nat → Bool) (ds : List Demand) (probe : Bool) : Bool :=
  let vs := (List.range 4).filter (fun v => f (0x18 + v))
  sOkGroup f ds .vde && vs.all (vdeBurstOk ds) &&
    (!probe || vs.all (fun v =>
      let rest := vs.filter (· != v)
      rest.all (vdeBurstOk (rebind (ds.filter (fun x => x.vde != some v)) (ds.filter (fun x => x.vde == some v)) rest))))

/-- The S-class load limit (R314). -/
def sOk (f : Nat → Bool) (ds : List Demand) (probe : Bool) : Bool :=
  sOkGroup f ds .tower && sOkGroup f ds .vpu && sOkGroup f ds .scan && sOkGroup f ds .region && sOkVde f ds probe

/-- The Q-class condition (R315), at CLK_CORE divider `d`; `ds` are the streams counted. -/
def qOk (f : Nat → Bool) (ds : List Demand) (d : Nat) : Bool :=
  let c := ds.filter (·.cls != .b)
  let at_ := fun (g : Group) (k : ℚ) => decide ((c.map (·.rate g d)).sum ≤ k * (liveCount f g : ℚ))
  at_ .tower (9 / 10) && at_ .vpu (9 / 10) && at_ .scan 1 && at_ .region 1 &&
    (List.range 4).all (fun v => decide (vdeLoad c v ≤ 1))

/-- The slots that are shed. -/
def State.isShed (s : State) (n : Nat) : Bool := (s.slotN n).ing.shed

/-- Shed one Q-class stream at a time until R315 holds: lowest rank first, highest slot first (R317). -/
def State.shedSome : Nat → State → State
  | 0, s => s
  | k + 1, s =>
    let on := s.sched.demand.filter (fun x => !s.isShed x.slot)
    if qOk s.unitLive on s.coreDiv then s
    else match argMin (fun (x : Demand) => ([(x.rank : Int), -(x.slot : Int)] : List Int)) (on.filter (·.cls == .q)) with
      | none => s
      | some x => State.shedSome k (s.updSlotN x.slot (fun z => { z with ing := { z.ing with shed := true } }))

/-- Restore shed streams that fit: highest rank first, lowest slot first; one that does not fit is skipped (R317). -/
def State.restoreSome (s : State) : State :=
  let off := s.sched.demand.filter (fun x => s.isShed x.slot)
  let order := sortBy (fun a b => b.rank < a.rank || (a.rank == b.rank && a.slot ≤ b.slot)) off
  order.foldl (fun s x =>
    let on := s.sched.demand.filter (fun y => !s.isShed y.slot || y.slot == x.slot)
    if qOk s.unitLive on s.coreDiv then
      s.updSlotN x.slot (fun z => { z with ing := { z.ing with shed := false } })
    else s) s

/-- Which groups break R314 now: bit 0 Towers … bit 4 VDEs (R319). -/
def State.degradedNow (s : State) : BitVec 5 :=
  let d := s.sched.demand
  let f := s.unitLive
  BitVec.ofNat 5 (b2n (!sOkGroup f d .tower) + 2 * b2n (!sOkGroup f d .vpu) + 4 * b2n (!sOkGroup f d .scan)
    + 8 * b2n (!sOkGroup f d .region) + 16 * b2n (!sOkVde f d false))

/-- A group enters or leaves DEGRADED: firmware logs it (R319). -/
def State.degradedLog (s : State) : State :=
  let now := s.degradedNow
  let old := s.sched.degraded
  let s : State := { s with sched := { s.sched with degraded := now } }
  (List.range 5).foldl (fun s g =>
    if now.getLsbD g && !old.getLsbD g then s.faultLog 0x34 Status.noResource.code (BitVec.ofNat 32 (g + 256))
    else if !now.getLsbD g && old.getLsbD g then s.faultLog 0x34 Status.noResource.code (BitVec.ofNat 32 g)
    else s) s

/-- Capacity is recomputed (R317, R319). -/
def State.reevaluate (s : State) : State :=
  ((s.shedSome 64).restoreSome).degradedLog

/-- ADMISSION_REEVALUATE: firmware re-evaluates capacity (R317). -/
def execAdmissionReevaluate (s : State) : Res := whenLive s State.reevaluate

/-- LEVEL3_PROMOTION: an item of level 3, queued or saved, that has waited 50 ms since it was placed is promoted (R300, R301). -/
def execLevel3Promotion (e : Fin 32) (id : Nat) (s : State) : Res :=
  whenLive s fun s =>
    let up := fun (i : Item) => if i.id == id && i.placedAt + 50000 ≤ s.clock then { i with promoted := true } else i
    s.updEng e (fun x => { x with
      queue := updAt x.queue 3 (List.map up), saved := x.saved.map (fun i => if i.level = 3 then up i else i) })

/-- QUANTUM_END: level 2 of the group passes to the next context; running level-2 items of the owner are completed
and their time past the end is deducted (R302). -/
def execQuantumEnd (vpu : Bool) (s : State) : Res :=
  whenLive s fun s =>
    let x := s.shareOf vpu
    if x.sliced && x.owner.isSome && x.quantumEnd ≤ s.clock then
      (State.settleShare 64 vpu ((shareGroup vpu).engines.foldl State.takeOne (s.passOwner vpu))).dispatch
    else s

/-- The incoming or resumed item starts; an item whose transfer meets an uncorrectable error or a
directory mismatch is discarded by the item's own end (R306, R307, R321). -/
def State.restoreDone (s : State) (e : Nat) : State :=
  match (s.engN e).incoming with
  | none => s
  | some i => s.startItem e i

/-- UNIT_YIELD: a PPE pipe or VDE yields its item at a band or row end; the level-0 item starts (R310). -/
def execUnitYield (e : Fin 32) (s : State) : Res :=
  whenLive s fun s =>
    let x := s.sched.eng[e]
    if 24 ≤ e.val && x.yield_ && x.saved.isNone then
      (s.updEng e (fun x => { x with saved := x.running.map (fun i => { i with saved := true }),
                                     running := none, yield_ := false })).takeNext e.val |>.dispatch
    else s

end Sys2Proof.Machine
end

