-- ==== Sys2Proof/Machine/CkptOps.lean ====
section
/-!
DEFINITION. When checkpoints fire, wait and start (18 R530, R531; 06 R194).
-/

namespace Sys2Proof.Machine
open Sys2Proof

/-- Change a slot's checkpoint configuration and history. -/
def State.updCk (s : State) (n : Nat) (f : CkptSlot → CkptSlot) : State :=
  if h : n < 64 then { s with ckpt := { s.ckpt with slot := updAt s.ckpt.slot ⟨n, h⟩ f } } else s

/-- A slot's checkpoint configuration and history. -/
def State.ckN (s : State) (n : Nat) : CkptSlot := s.ckpt.slot.toList.getD n {}

/-- A checkpoint of the slot is in progress or waits (R531). -/
def State.ckBusy (s : State) (n : Nat) : Bool := s.ckpt.run.any (fun r => r.slot == n)

/-- Waiting checkpoints start, in the order in which they fired, while fewer than 4 run (R531). -/
def ckAdmit : Nat → List CkptRun → List CkptRun
  | _, [] => []
  | k, r :: rs =>
    if r.phase == .waiting then
      if k < 4 then { r with phase := .snapshot } :: ckAdmit (k + 1) rs else r :: ckAdmit k rs
    else r :: ckAdmit k rs

/-- Waiting checkpoints that may start do. -/
def State.ckStart (s : State) : State :=
  let k := (s.ckpt.run.filter (fun r => r.phase != .waiting)).length
  { s with ckpt := { s.ckpt with run := ckAdmit k s.ckpt.run } }

/-- The values that a slot's last CKPT_CONFIG gave. -/
def CkptSlot.cfg (c : CkptSlot) : CkCfg := { win := c.win, trigger := c.trigger, period := c.period, shards := c.shards }

/-- A checkpoint joins those that wait, in the order in which they fired, ties in ascending slot number (R531). -/
def ckInsert (r : CkptRun) : List CkptRun → List CkptRun
  | [] => [r]
  | x :: xs => if x.phase == .waiting && x.firedAt == r.firedAt && r.slot < x.slot then r :: x :: xs else x :: ckInsert r xs

/-- The slot's checkpoint awaits its snapshot: it is taken before the slot's next TRACK begins (R532). -/
def State.ckHolds (s : State) (n : Nat) : Bool := s.ckpt.run.any (fun r => r.slot == n && r.phase == .snapshot)

/-- A trigger or CKPT_NOW fires, under these values, for a slot that has none in progress (R531). -/
def State.ckFire (s : State) (n : Nat) (now : Bool) (cfg : CkCfg) : State :=
  match cfg.win with
  | none => s
  | some w =>
    let r : CkptRun := { slot := n, now := now, phase := .waiting, ctx := (s.slotN n).ctx,
                         win := w, shards := cfg.shards, firedAt := s.clock }
    ({ s with ckpt := { s.ckpt with run := ckInsert r s.ckpt.run } } : State).ckStart

/-- The window that a slot's configuration names. -/
def State.ckWin (s : State) (n : Nat) (cfg : CkCfg) : Option CkptWin :=
  cfg.win.bind (fun w => lookupN s.ckpt.win (16 * (s.slotN n).ctx + w))

/-- A trigger fires while the slot runs: skipped and counted while a checkpoint of the slot is in progress, and while the
slot stops (R194, R530; 06, When things fall together). A trigger whose window was deleted does nothing. -/
def State.ckTrigger (s : State) (n : Nat) (cfg : CkCfg) : State :=
  let st := (s.slotN n).state
  if st == .stopping || ((st == .running || st == .stale) && s.ckBusy n) then
    s.updCk n (fun c => { c with skipped := c.skipped + 1 })
  else if (st == .running || st == .stale) && (s.ckWin n cfg).isSome then s.ckFire n false cfg
  else s

/-- A frame of the slot has completed TRACK: the frame-count trigger, under the values it captured at INGEST (R187, R530; log
entry 14). -/
def State.ckFrame (s : State) (n : Nat) (cfg : CkCfg) : State :=
  let s := s.updCk n (fun c => { c with frames := c.frames + 1 })
  if cfg.trigger = 2 && (s.ckN n).frames % max 1 cfg.period = 0 then s.ckTrigger n cfg else s

end Sys2Proof.Machine
end

