-- ==== Sys2Proof/Machine/Crc.lean ====
section
/-!
DEFINITION. Cyclic checks: CRC-32C (R462), CRC-24 and CRC-16 users give their own polynomial.
-/
namespace Sys2Proof.Machine
open Sys2Proof

/-- One reflected CRC step on the register. -/
def crcStep (poly : U32) (c : U32) : U32 :=
  if c &&& 1 = 1 then (c >>> 1) ^^^ poly else c >>> 1

/-- One byte of a reflected 32-bit CRC. -/
def crcByte (poly : U32) (c : U32) (b : Byte) : U32 :=
  (List.range 8).foldl (fun c _ => crcStep poly c) (c ^^^ b.setWidth 32)

/-- CRC-32C of bytes: polynomial 0x1EDC6F41 reflected, initial value and final XOR all ones (R462). -/
def crc32c (bs : List Byte) : U32 :=
  (bs.foldl (crcByte 0x82F63B78) 0xFFFFFFFF) ^^^ 0xFFFFFFFF

/-- The frame check sequence of IEEE 802.3: polynomial 0x04C11DB7 reflected, initial value and final XOR all ones. -/
def crc32 (bs : List Byte) : U32 :=
  (bs.foldl (crcByte 0xEDB88320) 0xFFFFFFFF) ^^^ 0xFFFFFFFF

/-- One step of a non-reflected 16-bit CRC. -/
def crc16Step (poly : U16) (c : U16) : U16 :=
  if c.getLsbD 15 then (c <<< 1) ^^^ poly else c <<< 1

/-- One byte of a non-reflected 16-bit CRC, most significant bit first. -/
def crc16Byte (poly : U16) (c : U16) (b : Byte) : U16 :=
  (List.range 8).foldl (fun c _ => crc16Step poly c) (c ^^^ (b.setWidth 16 <<< 8))

/-- CRC-16 with polynomial 0x1021 and initial value 0xFFFF, as Lofin flits use it. -/
def crc16 (bs : List Byte) : U16 := bs.foldl (crc16Byte 0x1021) 0xFFFF

end Sys2Proof.Machine
end

