-- ==== Sys2Proof/Machine/KeeperOps.lean ====
section
/-!
DEFINITION. What the Keeper does at arrivals and posts: supervision, the record checks, the health stamp
(20_safety R571–R575, R585).
-/
namespace Sys2Proof.Machine
open Sys2Proof

/-- A slot is supervised (R571). -/
def KprSlot.supervised (k : KprSlot) : Bool := k.state != .idle

/-- The CAUSE bit of a stream cause. -/
def StreamCause.bit (c : StreamCause) : BitVec 5 := 1#5 <<< (c.code - 1)

/-- A stream watch trips: the fault is latched with that cause (R572). -/
def State.streamFault (s : State) (n : Fin 64) (c : StreamCause) (value : U32) (injected : Bool) : State :=
  let s := s.updKpr (fun k => { k with injecting := injected })
  let s := s.latch .stream c.code n.val value
  s.updKslot n (fun k => { k with state := .fault, cause := k.cause ||| c.bit, okSince := false })

/-- A whole frame of a supervised slot is reported to the Keeper (R351, R572); injections 0x01 and 0x02 act here
(R585). -/
def State.kprArrival (s : State) (n : Fin 64) (seq : U32) : State :=
  let k := s.kpr.slot[n]
  if !k.supervised then s
  else if k.ignoreUntil.any (s.clock < ·) then s
  else
    let ign := s.kpr.inject == some (2, n.val) && !(k.armed.any (·.ignored))
    let tick := s.kpr.tick
    let now := s.clock
    s.updKslot n (fun k => { k with
      lastArrival := tick, lastArrivalAt := some now, sourceTripped := false,
      armed := k.armed ++ [{ seq := seq, at_ := now, ignored := ign }] })

/-- Bytes 48–55 of a record (R575), given record bytes 3–11. -/
def healthBytes (k : Keeper) (pre : List Byte) (slotFault late : Bool) (latency : Nat) : List Byte :=
  let flags := b2n k.armed + 2 * b2n k.safe + 4 * b2n slotFault + 8 * b2n late
  let h7 := leBytes 4 k.tick.toNat ++ leBytes 1 flags ++ leBytes 1 latency ++ leBytes 1 (k.fault.toNat % 256)
  h7 ++ leBytes 1 ((crc32c (pre ++ h7)).toNat % 256)

/-- Replace bytes of a list from an offset. -/
def putAt (bs : List Byte) (off : Nat) (new : List Byte) : List Byte :=
  bs.take off ++ new ++ bs.drop (off + new.length)

/-- The Keeper's part of a POST (R573, R574, R575): checks, SAFETY_SEQ and HEALTH, the count, OK records.
`written` says that the record is written and not dropped for want of room (R466). -/
def State.kprStamp (s : State) (n : Fin 64) (hdr : List Byte) (written : Bool) : State × List Byte :=
  let k := s.kpr.slot[n]
  if !k.supervised then (s, hdr) else
    let seq : U32 := BitVec.ofNat 32 (leAt hdr 4 4)
    let inj := s.kpr.inject == some (3, n.val)
    let want := if inj then k.safetySeq + 1 else k.safetySeq
    let good := byteAt hdr 3 == BitVec.ofNat 8 n.val && seq == want && (s.pipGet (stagePip n.val 8)).value == seq
    let arr := k.armed.find? (fun a => a.seq == seq)
    let late := arr.any (fun a => a.tripped || a.at_ + 33000 < s.clock)
    let latency := match arr with
      | none => 255
      | some a => min 254 (ceilDiv (s.clock - a.at_) 500)
    let s := if inj then s.updKpr (fun x => { x with inject := none }) else s
    let s := if good then s else s.streamFault n .sequence seq inj
    let fault := s.kpr.slot[n].state == .fault || !good
    let hdr := putAt hdr 8 (leBytes 4 k.safetySeq.toNat)
    let hdr := putAt hdr 48 (healthBytes s.kpr ((hdr.drop 3).take 9) fault late latency)
    let ok := written && good && !late && arr.isSome && !bitOf (leAt hdr 12 2) 0
    let s := s.updKslot n (fun x => { x with
      safetySeq := x.safetySeq + 1
      armed := x.armed.filter (fun a => a.seq != seq || (a.ignored && !a.tripped))
      state := if ok && x.state == .starting then .ok else x.state
      okSince := x.okSince || ok
      lastOkAt := if ok then arr.map Arrival.at_ else x.lastOkAt })
    (s, hdr)

/-- Supervision of a slot ends (R571). -/
def State.kprEnd (s : State) (n : Fin 64) : State := s.updKslot n KprSlot.ended

/-- Supervision of an S-class slot starts; a slot whose stream fault is still latched is in FAULT (R185, R571). -/
def State.kprStart (s : State) (n : Fin 64) (periodUs : Nat) : State :=
  let now := s.clock
  s.updKslot n (fun k => {
    periodUs := BitVec.ofNat 32 periodUs, startAt := now, cause := k.cause, okSince := k.cause != 0
    state := if k.cause = 0 then .starting else .fault })

end Sys2Proof.Machine
end

