-- ==== Sys2Proof/Machine/Frames.lean ====
section
/-!
DEFINITION. The frame path: frames of a slot, stage turns, discards, buffers, the ingest queue, retention
(01_frame_journey R23–R37, 19 R544, R555–R557, 08 R252–R262).
-/
namespace Sys2Proof.Machine
open Sys2Proof

/-- The frame of a slot with this sequence number. -/
def Slot.frame? (sl : Slot) (seq : U32) : Option Frame := sl.frames.find? (fun f => f.seq == seq)

/-- Change one frame. -/
def State.updFrame (s : State) (n : Nat) (seq : U32) (g : Frame → Frame) : State :=
  s.updSlotN n (fun sl => { sl with frames := sl.frames.map (fun f => if f.seq == seq then g f else f) })

/-- The value of a slot's stage-k pip. -/
def State.stageVal (s : State) (n k : Nat) : U32 := (s.pipGet (stagePip n k)).value

/-- Stage `k` of frame `seq` may begin: the wait on the stage before is released and every earlier frame of the stream
has passed stage `k` (R27, R34). R34 states that order for TRACK, POST and RETURN; that every stage keeps it is the
model's inference from R27, whose waits count completions and so name the frame only while frames pass in order (log
entry 113). -/
def State.stageTurn (s : State) (n k : Nat) (seq : U32) : Bool :=
  (s.stageVal n (k - 1) - (seq + 1)).toNat < 2 ^ 31 && s.stageVal n k == seq

/-- The slot's source is decoded by a VDE. -/
def Slot.decoded (sl : Slot) : Bool :=
  match sl.src with | some c => c.type != .csi | none => false

/-- The slot's class. -/
def Slot.cls (sl : Slot) : Cls := match sl.ana with | some a => a.cls | none => .b

/-- The queue level of a class's frames (R295). -/
def Cls.level : Cls → Fin 4
  | .s => 0 | .q => 1 | .b => 2

/-- PERIOD_US of the slot. -/
def Slot.periodUs (sl : Slot) : Nat := match sl.src with | some c => c.periodUs | none => 0

/-- The bound VDE of a decoded stream (R305). -/
def State.vdeOf (s : State) (n : Nat) : Option Nat :=
  match s.sched.demand.find? (fun d => d.slot == n) with
  | some d => d.vde
  | none => none

/-- Pools named by the slot (R261). -/
def Slot.pools (sl : Slot) : List Nat :=
  match sl.ana with
  | none => []
  | some a => [a.srcPool] ++ a.framePool.toList ++ a.cropPool.toList ++ [a.recPool]

/-- The stream is paused (R261). -/
def State.paused (s : State) (n : Nat) : Bool :=
  let sl := s.slotN n
  match sl.cls with
  | .s => false
  | .q => sl.pools.any (fun p => (s.poolN p).pauseQ)
  | .b => sl.pools.any (fun p => (s.poolN p).pauseB)

/-! ### Buffers -/

/-- The slot still retains this buffer (R555). -/
def Slot.keeps (sl : Slot) (h : U32) : Bool := sl.kept.any (fun k => k.buf == h)

/-- A frame of the slot holds this buffer (R556). -/
def Slot.holds (sl : Slot) (h : U32) : Bool := sl.frames.any (fun f => f.src == some h || f.pic == some h)

/-- Return a source buffer unless it is retained or another frame holds it (R555, R557). -/
def State.srcBack (s : State) (n : Nat) (h : U32) (port unit : Nat) : State :=
  let sl := s.slotN n
  if sl.keeps h || sl.holds h then s else (s.bufFree h sl.ctx port unit).1

/-- A frame holds no buffer: its RETURN completes (R28). A retained source buffer is held until it leaves the window. -/
def Slot.returned (sl : Slot) (f : Frame) : Bool :=
  f.stage = 9 && f.src.isNone && f.pic.isNone && f.crop = [] && f.rec_.isNone && f.views = [] && !sl.kept.any (fun k => k.seq == f.seq)

/-- RETURN of a slot's frames, in sequence order: a re-issued frame that no view reads gives its source buffer back (R557),
and each frame past POST that holds no buffer is done. A frame that still holds one delays its own RETURN alone (R28, R34;
log entry 114). -/
def State.returnFrames (s : State) (n : Nat) : State :=
  let done := (s.slotN n).frames.filter (fun f => f.stage = 9 && f.reissued && f.views = [] && f.src.isSome)
  let s := done.foldl (fun s f => match f.src with
    | some h => (s.updFrame n f.seq (fun f => { f with src := none })).srcBack n h 16 0x21
    | none => s) s
  s.updSlotN n (fun sl => { sl with frames := sl.frames.filter (fun f => !sl.returned f) })

/-- Return buffers that no rule retains, in ascending handle order (R544). -/
def State.bufsBack (s : State) (n : Nat) (hs : List U32) (port unit : Nat) : State :=
  s.bufFrees hs (s.slotN n).ctx port unit

/-- The oldest retained buffer of a pool that no frame holds, with its slot (R556). -/
def State.releasable (s : State) (p : Nat) : Option (Nat × Kept) :=
  let all := (List.range 64).flatMap (fun n =>
    let sl := s.slotN n
    (sl.kept.filter (fun k => handlePool k.buf == p && !sl.holds k.buf)).map (fun k => (n, k)))
  argMin (fun (x : Nat × Kept) => ([(x.2.capture.toNat : Int), (x.1 : Int)] : List Int)) all

/-- Retained buffers are released early while their pool is at or below B2 (R556). -/
def State.keptRelieve : Nat → State → Nat → State
  | 0, s, _ => s
  | k + 1, s, p =>
    let x := s.poolN p
    if !x.en || x.b2.toNat < x.free.toNat then s
    else match s.releasable p with
      | none => s
      | some (n, e) =>
        let s := s.updSlotN n (fun sl => { sl with kept := sl.kept.filter (fun y => y.buf != e.buf) })
        State.keptRelieve k ((s.bufFree e.buf (s.slotN n).ctx 16 0x21).1.returnFrames n) p

/-- VEE_SKIP of a view counts one picture. -/
def State.veeSkip (s : State) (v : Nat) : State :=
  if h : v < 4 then
    { s with str := { s.str with view := updAt s.str.view ⟨v, h⟩ (fun x => { x with skip := satInc x.skip }) } }
  else s

/-- View `v` when `v` names one. -/
def State.viewN (s : State) (v : Nat) : View := s.str.view.toList.getD v {}

/-- The picture of a frame is no longer needed: CROP has completed and no view reads it (01, Buffers along the path). -/
def State.picBack (s : State) (n : Nat) (seq : U32) : State :=
  match (s.slotN n).frame? seq with
  | none => s
  | some f =>
    if f.views != [] || (f.stage ≤ 5 && f.gap.isNone) then s
    else
      let s := match f.pic with
        | none => s
        | some h => s.bufsBack n [h] 16 0x21
      let s := s.updFrame n seq (fun f => { f with pic := none })
      if (s.slotN n).decoded || f.reissued then s
      else match f.src with
        | none => s
        | some h => (s.updFrame n seq (fun f => { f with src := none })).srcBack n h 16 0x21

/-- A view no longer reads a frame (R28). -/
def State.viewDone (s : State) (v : Nat) (seq : U32) : State :=
  let n := (s.viewN v).slot
  ((s.updFrame n seq (fun f => { f with views := f.views.filter (· != v) })).picBack n seq).returnFrames n

/-- A view skips every picture it has waiting: their frame buffers are released (12, When things fall together). -/
def State.veeSkipAll (s : State) (v : Nat) : State :=
  let mine := s.str.veeQ.filter (fun x => x.1 == v)
  let s : State := { s with str := { s.str with veeQ := s.str.veeQ.filter (fun x => x.1 != v) } }
  mine.foldl (fun s x => (s.veeSkip v).viewDone v x.2) s

/-- What a pool at or below B2 takes back: pictures that views of its slots have waiting, and retained buffers. -/
def State.relieve (s : State) (p : Nat) : State :=
  let x := s.poolN p
  if !x.en || x.b2.toNat < x.free.toNat then s
  else
    let s := (List.range 4).foldl (fun s v =>
      let w := s.viewN v
      let a := (s.slotN w.slot).ana
      let fp := if (s.slotN w.slot).decoded then a.bind AnaCfg.framePool else a.map AnaCfg.srcPool
      if w.en && fp == some p then s.veeSkipAll v else s) s
    State.keptRelieve 64 s p

/-! ### Discards and stages -/

/-- Items of a frame or job that no engine runs leave the queues, and the waits of its steps the pip store; each poisons the
pip it would have signalled. Running ones end by themselves (R285, R543). -/
def State.dropQueued (s : State) (p : Item → Bool) (st : Status) : State :=
  let guards := s.sched.guarded.filter p
  let gone := guards ++ s.sched.waiting.filter p ++
    (List.range 32).flatMap (fun e =>
      let x := s.engN e
      (x.queue.toList.flatten ++ x.saved.toList ++ x.incoming.toList).filter p)
  if gone = [] then s else
  let ours := fun (w : Waiter) => guards.any (fun i => w.ofItem i.id)
  let s : State := { s with
    pip := { s.pip with watch := s.pip.watch.filter (!ours ·), overflow := s.pip.overflow.filter (!ours ·) }
    sched := { s.sched with
      guarded := s.sched.guarded.filter (fun i => !p i)
      waiting := s.sched.waiting.filter (fun i => !p i)
      eng := s.sched.eng.map (fun x => { x with
        queue := x.queue.map (List.filter (fun i => !p i))
        saved := x.saved.filter (fun i => !p i)
        dir := if x.saved.any p then none else x.dir
        incoming := x.incoming.filter (fun i => !p i) }) } }
  ((gone.filterMap Item.pip).foldl (fun s q => s.pipApply q .poison (BitVec.ofNat 32 st.code)) s.watchFill).refill

/-- What an item serves, as an instance names it (R35). -/
def Origin.who : Origin → Option (Nat × U32)
  | .frame n seq => some (n, seq)
  | .job id => some (64, id)
  | _ => none

/-- An engine holds an item of this frame or job. -/
def State.engineHas (s : State) (who : Nat × U32) : Bool :=
  s.sched.eng.toList.any (fun x => (x.running.toList ++ x.saved.toList ++ x.incoming.toList).any (fun i => i.origin.who == some who))

/-- Change the instances. -/
def State.updInsts (s : State) (f : Nat → Inst → Inst) : State :=
  { s with mem := { s.mem with insts := s.mem.insts.map (fun x => (x.1, f x.1 x.2)) } }

/-- Instances whose frame or job was discarded, once no engine holds a step of it: their plan pips are cleared and they are
free (R287). -/
def State.instSettle (s : State) : State :=
  let idle := (s.mem.insts.filter (fun x => x.2.cut && !(x.2.serving.any s.engineHas))).map Prod.fst
  idle.foldl (fun s k => (s.clearPlan k).updInsts (fun j i => if j = k then { i with serving := none, cut := false } else i)) s

/-- The instance that serves a frame or job is free again (R35). -/
def State.instDone (s : State) (who : Nat × U32) : State :=
  s.updInsts (fun _ i => if i.serving == some who then { i with serving := none } else i)

/-- The frame or job that an instance serves is discarded: the pips of the plan cut short are cleared before the instance takes
its next, when the last of its steps has ended (R287). -/
def State.instCut (s : State) (who : Nat × U32) : State :=
  (s.updInsts (fun _ i => if i.serving == some who then { i with cut := true } else i)).instSettle

/-- A frame is discarded (R37, R544): the first cause is kept, every buffer that no view reads returns, its queued
items leave. -/
def State.discard (s : State) (n : Nat) (seq : U32) (r : GapReason) : State :=
  match (s.slotN n).frame? seq with
  | none => s
  | some f =>
    let dec := (s.slotN n).decoded
    let src := if dec && !f.reissued then f.src else none
    let s := s.dropQueued (·.ofFrame n seq) .discardedFault
    let s := s.updFrame n seq (fun f => { f with
      gap := some (f.gap.getD r), busy := false, surv := [], crops := [], emb := []
      src := if dec && !f.reissued then none else f.src, crop := [], rec_ := none })
    let s := match src with | some h => s.srcBack n h 16 0x21 | none => s
    let s := s.bufsBack n (f.crop ++ f.rec_.toList) 16 0x21
    (s.instCut (n, seq)).picBack n seq

/-- A stage of a frame has completed: the owning unit signals its pip (R27). -/
def State.passStage (s : State) (n : Nat) (seq : U32) : State :=
  match (s.slotN n).frame? seq with
  | none => s
  | some f =>
    let s := (s.stageAdd n f.stage).updFrame n seq (fun f => { f with stage := f.stage + 1, busy := false })
    if f.stage = 7 then
      (s.updSlotN n (fun sl => { sl with lastTracked := some (seq, f.capture) })).ckFrame n f.ck
    else s

/-- A decoded slot enters RESYNC (R366); the count is its VDE's. -/
def State.enterResync (s : State) (n : Nat) : State :=
  if !(s.slotN n).dec.sync then s.updSlotN n (fun sl => { sl with dec := { sl.dec with recovery := none } })
  else
    let s := s.updSlotN n (fun sl => { sl with dec := { sl.dec with sync := false, recovery := none } })
    match s.vdeOf n with
    | some v =>
      if h : v < 4 then
        { s with str := { s.str with vde := updAt s.str.vde ⟨v, h⟩ (fun x => { x with resync := satInc x.resync }) } }
      else s
    | none => s

/-- The display aspect ratio changes by more than 1 %, or a window offset by more than 0.01 (R372). -/
def viewChange (a b : Fmt) : Bool :=
  let x := b.w * b.sarW * (a.h * a.sarH)
  let y := a.w * a.sarW * (b.h * b.sarH)
  let d := if x ≤ y then y - x else x - y
  decide (y < 100 * d) ||
    (a.conf.zip b.conf).any (fun p => decide (65535 < 100 * (if p.1 ≤ p.2 then p.2 - p.1 else p.1 - p.2)))

/-- The values of view `v` that a frame is encoded with: those it captured at INGEST; those in force when the view was enabled
since (R187, R373; log entry 128). -/
def State.frameView (s : State) (v n : Nat) (seq : U32) : ViewCfg :=
  let now := (s.viewN v).cfg
  match (s.slotN n).frame? seq with
  | some f => (lookupN f.viewCfg v).getD now
  | none => now

/-- A picture becomes ready for the views of its slot (R373, R375). -/
def State.veeReady (s : State) (n : Nat) (seq : U32) (f : Fmt) : State :=
  (List.range 4).foldl (fun s v =>
    let x := s.viewN v
    let w := s.frameView v n seq
    if !x.en || x.slot != n || !s.unitLive 0x1C then s
    else if f.w > 8 * w.width || 2 * f.w < w.width || f.h > 8 * w.height || 2 * f.h < w.height then s.veeSkip v
    else
      let s := s.updFrame n seq (fun f => { f with views := f.views ++ [v] })
      let s : State := { s with str := { s.str with veeQ := s.str.veeQ ++ [(v, seq)] } }
      let mine := s.str.veeQ.filter (fun x => x.1 == v)
      if 2 < mine.length then
        match mine with
        | x :: _ =>
          (({ s with str := { s.str with veeQ := s.str.veeQ.erase x } } : State).veeSkip v).viewDone v x.2
        | [] => s
      else s) s

/-- The VEE takes the next waiting picture when it is idle (R375). -/
def State.veeNext (s : State) : State :=
  if s.str.encoding.isSome || !s.unitLive 0x1C then s
  else match s.str.veeQ with
    | [] => s
    | x :: xs =>
      let n := (s.viewN x.1).slot
      let cap := match (s.slotN n).frame? x.2 with | some f => f.capture | none => 0
      let cfg := s.frameView x.1 n x.2
      { s with str := { s.str with
        veeQ := xs, encoding := some x
        view := if h : x.1 < 4 then updAt s.str.view ⟨x.1, h⟩ (fun v => { v with caps := v.caps ++ [(cap, cfg)] }) else s.str.view } }

/-- A frame completes DECODE with a picture: it is ready for the views of its slot (R373). -/
def State.analyse (s : State) (n : Nat) (seq : U32) : State :=
  let sl := s.slotN n
  match sl.frame? seq with
  | none => s
  | some f =>
    match f.fmt with
    | none => s
    | some fm =>
      (s.veeReady n seq fm).veeNext

/-- The stage has nothing to do for the frame (R24, R305). -/
def State.trivial (s : State) (n : Nat) (f : Frame) : Bool :=
  let sl := s.slotN n
  match f.stage with
  | 1 => !f.waitBuf && (f.src.isNone || !sl.decoded || (s.vdeOf n).isNone)
  | 2 | 3 => f.gap.isSome
  | 4 => f.gap.isSome || !s.unitLive 0x1F
  | 5 | 6 => f.gap.isSome || f.crops.isEmpty
  | 7 => (!s.unitLive 0x1F || !s.unitLive 0x20) && !sl.copying
  | _ => false

/-- Passing DECODE with nothing to decode: a lost access unit starts RESYNC (R366); a stream bound to no VDE loses the
frame (R305); a CSI frame is analysed. -/
def State.passDecode (s : State) (n : Nat) (f : Frame) : State :=
  let sl := s.slotN n
  if !sl.decoded then
    let s := if f.gap.isSome then s.discard n f.seq .fault else s.analyse n f.seq
    s.passStage n f.seq
  else if f.src.isSome then ((s.discard n f.seq .fault).passStage n f.seq)
  else
    let lost := f.gap == some .noBuffer || f.gap == some .overrun || f.gap == some .shed
    (if lost then s.enterResync n else s).passStage n f.seq

/-- A GAP record header as the result DMA builds it (R473, R474). POST fills in the rest. -/
def gapHeader (n : Nat) (cls : Cls) (f : Frame) (r : GapReason) (deg : Bool) (tracks : Nat) : List Byte :=
  leBytes 2 0x5A52 ++ leBytes 1 1 ++ leBytes 1 n ++ leBytes 4 f.seq.toNat ++ zeros 4 ++
  leBytes 2 (1 + 2 * b2n f.stale + 16 * b2n deg) ++ leBytes 1 r.code ++ leBytes 1 cls.code ++
  leBytes 8 f.capture.toNat ++ zeros 8 ++ zeros 8 ++ leBytes 2 tracks ++ zeros 22

/-- Records of the slot carry DEGRADED (R319). -/
def State.deg (s : State) (n : Nat) : Bool := s.sched.degraded != 0 && (s.slotN n).cls == .s

/-- The record of a frame that cannot pass TRACK is built by the result DMA in the slot's gap-record area, with reason
FAULT, or the reason of the first cause where the frame was discarded before (R37, R473; log entry 90). -/
def State.dmaRecord (s : State) (n : Nat) (f : Frame) : State :=
  let s := s.discard n f.seq .fault
  let sl := s.slotN n
  (s.updFrame n f.seq (fun f => { f with entryCrc := crc32c []
                                         record := gapHeader n sl.cls f (f.gap.getD .fault) (s.deg n) sl.tracks.length })).passStage n f.seq

/-- One frame of the slot passes one stage that has nothing to do for it. -/
def State.advanceOne (s : State) (n : Nat) : Option State :=
  match (s.slotN n).frames.find? (fun f => !f.queued && !f.busy && s.trivial n f && s.stageTurn n f.stage f.seq) with
  | none => none
  | some f =>
    if f.stage = 1 then some (s.passDecode n f)
    else if f.stage = 7 then some (s.dmaRecord n f)
    else if f.stage = 4 && f.gap.isNone then some ((s.discard n f.seq .fault).passStage n f.seq)
    else if f.stage = 5 then some ((s.passStage n f.seq).picBack n f.seq)
    else some (s.passStage n f.seq)

/-- Frames pass the stages that have nothing to do for them. -/
def State.advanceN : Nat → State → Nat → State
  | 0, s, _ => s
  | k + 1, s, n => match s.advanceOne n with
    | none => s
    | some s' => State.advanceN k s' n

/-- The frame of a slot whose turn it is at stage `k`. -/
def State.frameTurn (s : State) (n k : Nat) : Option Frame :=
  (s.slotN n).frames.find? (fun f => !f.queued && f.stage == k && s.stageTurn n k f.seq)

/-- A frame that the unit of stage 4 or 7 can take up now or has taken up: a discarded frame passes SELECT without it
(R24); no TRACK begins while a checkpoint of the slot awaits its snapshot or copies (R532). -/
def State.unitTurn (s : State) (n k : Nat) : Option Frame :=
  (s.frameTurn n k).filter (fun f =>
    if k = 4 then f.gap.isNone else f.turn.stage == k || !((s.slotN n).copying || s.ckHolds n))

/-- TRK runs a TRACK of the slot, which its commit ends (R457, R532). -/
def State.tracking (s : State) (n : Nat) : Bool :=
  s.unitLive 0x20 && s.unitLive 0x1F && (s.frameTurn n 7).any (fun f => f.turn.stage == 7)

/-- The turns of a slot's frames at SELECT and TRACK that have come are noted in their order (R296, R297). -/
def State.noteTurns (s : State) (n : Nat) : State :=
  [4, 7].foldl (fun s k => match s.unitTurn n k with
    | some f =>
      if f.turn.stage = k then s
      else
        let t : Turn := { stage := k, at_ := s.clock, no := s.str.st.turns }
        let s := s.updFrame n f.seq (fun f => { f with turn := t })
        { s with str := { s.str with st := { s.str.st with turns := s.str.st.turns + 1 } } }
    | none => s) s

/-- The SSU, when it is idle, takes the next frame: by level, then in the order of their turns (R297, R444). -/
def State.ssuNext (s : State) : State :=
  let mine := (List.range 64).filterMap (fun n => (s.unitTurn n 4).map (fun f => (n, f)))
  let next := if !s.unitLive 0x1F then none
    else match s.str.st.ssuRun with
      | some r => if mine.any (fun x => (x.1, x.2.seq) == r) then some r
        else (argMin (fun (x : Nat × Frame) => ([((s.slotN x.1).cls.level : Nat), x.2.turn.no] : List Nat).map Int.ofNat) mine).map
          (fun x => (x.1, x.2.seq))
      | none => (argMin (fun (x : Nat × Frame) => ([((s.slotN x.1).cls.level : Nat), x.2.turn.no] : List Nat).map Int.ofNat) mine).map
          (fun x => (x.1, x.2.seq))
  if next = s.str.st.ssuRun then s
  else { s with str := { s.str with st := { s.str.st with ssuRun := next, ssuAt := s.clock } } }

/-- Frames of a slot pass every stage that has nothing to do for them (R24); the SSU takes up what has become its next
(R297). -/
def State.advance (s : State) (n : Nat) : State := ((s.advanceN 72 n).noteTurns n).ssuNext

/-- Frames in flight: past INGEST, not queued, not past POST; an overrun frame takes no place (R33). -/
def Slot.inFlight (sl : Slot) : Nat :=
  (sl.frames.filter (fun f => !f.queued && f.stage ≤ 8 && !f.pushed)).length

/-- Queued frames enter the four places in order (R33). -/
def State.unqueueN : Nat → State → Nat → State
  | 0, s, _ => s
  | k + 1, s, n =>
    let sl := s.slotN n
    match sl.frames.find? (·.queued) with
    | none => s
    | some f =>
      if sl.inFlight < 4 then State.unqueueN k (s.updFrame n f.seq (fun f => { f with queued := false })) n else s

/-- The values of the views enabled for a slot. -/
def State.viewsOf (s : State) (n : Nat) : List (Nat × ViewCfg) :=
  (List.range 4).filterMap (fun v =>
    let w := s.viewN v
    if w.en && w.slot == n then some (v, w.cfg) else none)

/-- A frame enters the ingest queue of its slot (R33): it is in flight, or queued, or pushes the oldest queued frame
out with OVERRUN. It captures the values of STREAM_VIEW and CKPT_CONFIG (R187); a re-issued frame and a stale record do so
too. -/
def State.enqueueFrame (s : State) (n : Nat) (f : Frame) : State :=
  let s : State := { s with str := { s.str with ends := s.str.ends + 1 } }
  let f := { f with order := s.str.ends, viewCfg := s.viewsOf n, ck := (s.ckN n).cfg }
  let sl := s.slotN n
  let q := sl.frames.filter (·.queued)
  if sl.inFlight < 4 && q.isEmpty then
    (s.updSlotN n (fun sl => { sl with frames := sl.frames ++ [{ f with queued := false }] })).advance n
  else
    let s := if q.length < 4 then s else match q with
      | [] => s
      | o :: _ =>
        let sl := s.slotN n
        let s := s.updFrame n o.seq (fun f => { f with queued := false, pushed := true, gap := some (f.gap.getD .overrun), src := none,
                                                        waitBuf := false, held := [] })
        match o.src with | some h => if sl.keeps h then s else s.srcBack n h 16 0x21 | none => s
    (s.updSlotN n (fun sl => { sl with frames := sl.frames ++ [{ f with queued := true }] })).advance n

/-- A whole captured frame enters the retention window; frames past RETAIN leave it (R555). -/
def State.retain (s : State) (n : Nat) (f : Frame) : State :=
  let sl := s.slotN n
  let r := match sl.ana with | some a => a.retain | none => 0
  let aged := sl.kept.map (fun k => { k with age := k.age + 1 })
  let gone := aged.filter (fun k => r ≤ k.age)
  let new : List Kept := match f.src with
    | some h => if r = 0 then [] else
        [{ seq := f.seq, buf := h, capture := f.capture, age := 0, fmt := f.fmt, pitch := f.pitch, auBytes := f.auBytes }]
    | none => []
  let s := s.updSlotN n (fun sl => { sl with kept := aged.filter (fun k => k.age < r) ++ new })
  (gone.foldl (fun s k => s.srcBack n k.buf 16 0x21) s).returnFrames n

/-- All retained buffers of a slot are released (R556). -/
def State.releaseKept (s : State) (n : Nat) : State :=
  let ks := (s.slotN n).kept
  let s := s.updSlotN n (fun sl => { sl with kept := [] })
  (ks.foldl (fun s k => s.srcBack n k.buf 16 0x21) s).returnFrames n

/-- A frame takes the next sequence number of its stream, stage pip 0 advances (R25, R27). -/
def State.number (s : State) (n : Nat) : U32 × State :=
  let seq := (s.slotN n).nextSeq
  (seq, (s.updSlotN n (fun sl => { sl with nextSeq := sl.nextSeq + 1 })).stageAdd n 0)

/-- The requester port that returns a source buffer at the end of INGEST. -/
def Slot.ingPort (sl : Slot) : Nat := match sl.src with | some c => (if c.type == .csi then c.port else 16) | none => 16

/-- A frame completes INGEST (R324): number, arrival, retention, return to RUNNING of a slot whose frame is not damaged,
queue. The buffer of a damaged CSI frame returns here, where the frame is discarded (R37). -/
def State.ingestDone (s : State) (n : Nat) (f : Frame) : State :=
  let whole := f.gap.isNone
  let r := s.number n
  let sl := r.2.slotN n
  let f := { f with seq := r.1, stage := 1, par := sl.par }
  let s := r.2.updSlotN n (fun sl => { sl with
    state := if !f.damaged && sl.state == .stale then .running else sl.state
    ing := { sl.ing with lastEnd := f.endTime, k := 0 } })
  let s := if whole && sl.cls == .s then (if h : n < 64 then s.kprArrival ⟨n, h⟩ f.seq else s) else s
  let s := if whole && f.src.isSome then s.retain n f else s
  if whole || sl.decoded then s.enqueueFrame n f
  else
    let s := match f.src with | some h => s.srcBack n h sl.ingPort 0x21 | none => s
    s.enqueueFrame n { f with src := none }

/-- The unit that ingests a slot's frames: its receiver, its session's Ethernet port, or the PCIe endpoint. -/
def State.ingUnit (s : State) (n : Nat) : Nat :=
  match (s.slotN n).src with
  | some c => match c.type with
    | .csi => 0x28 + c.port
    | .rtp => 0x26 + (((s.io.sess.toList.getD c.session {}).cfg).map SessCfg.port).getD 0
    | .host => 0x36
  | none => 0x36

/-- Received bytes are written into a source buffer of a slot; `false` where a write was refused or not performed, so that
the frame is discarded with FAULT (R219, R239, R335, R339). -/
def State.bufWrites (s : State) (n : Nat) (h : U32) (ws : List (Nat × List Byte)) : State × Bool :=
  ws.foldl (fun x w =>
    let r := x.1.bufPut (s.ingUnit n) h w.1 w.2
    (r.1, x.2 && r.2.isNone)) (s, true)

/-- A POOL_ALLOC of a mailbox completes (R168). -/
def State.poolAllocDone (s : State) (m : Fin 16) (seq : BitVec 16) (st : Status) (data : List Byte) : State :=
  match s.running.find? (fun r => r.mbx == m && r.seq == seq && r.done.isNone &&
      (match r.wait with | .poolAlloc _ => true | _ => false)) with
  | none => s
  | some r => s.finishOne m seq r.wait st data

/-- What an allocation decision leads to (R253, R255, R325). -/
def State.applyBuf (s : State) : BufOut → State
  | .wait => s
  | .grant (.source n) h =>
    match (s.slotN n).ing.open_ with
    | none => (s.bufFree h (s.slotN n).ctx 16 0x21).1
    | some o =>
      let w := s.bufWrites n h o.held
      w.1.updSlotN n (fun sl => { sl with ing := { sl.ing with
        open_ := some { o with buf := some h, held := [], refused := o.refused || !w.2 } } })
  | .empty (.source n) =>
    s.updSlotN n (fun sl => { sl with ing := { sl.ing with
      open_ := sl.ing.open_.map (fun o => { o with lost := true, held := [] }) } })
  | .grant (.late n seq) h =>
    match (s.slotN n).frame? seq with
    | none => (s.bufFree h (s.slotN n).ctx 16 0x21).1
    | some f =>
      if !f.waitBuf then (s.bufFree h (s.slotN n).ctx 16 0x21).1 else
      let w := s.bufWrites n h f.held
      let s := w.1.updFrame n seq (fun f => { f with src := some h, waitBuf := false, held := [] })
      if w.2 then (if f.gap.isNone then s.retain n { f with src := some h } else s).advance n
      else (s.discard n seq .fault).advance n
  | .empty (.late n seq) =>
    (s.updFrame n seq (fun f => { f with gap := some (f.gap.getD .noBuffer), waitBuf := false, held := [] })).advance n
  | .grant (.command m seq) h =>
    s.poolAllocDone m seq .ok (leBytes 4 h.toNat ++ zeros 4 ++ leBytes 8 (s.bufVa h))
  | .empty (.command m seq) => s.poolAllocDone m seq .poolEmpty []
  | .grant _ h => (s.bufFree h 0 16 0x21).1
  | .empty _ => s

/-- What an outcome is for. -/
def BufOut.use? : BufOut → Option BufFor
  | .wait => none
  | .grant u _ => some u
  | .empty u => some u

/-- Decisions are made, pool by pool in ascending number, until the one asked for is made; no outcome when its pool is
being rebuilt, which a decision may have found to be needed (R267). -/
def State.decideFor : Nat → State → BufFor → State × Option BufOut
  | 0, s, _ => (s, none)
  | k + 1, s, use =>
    match (List.range 16).find? (fun p => !(s.poolN p).rebuild && (s.poolN p).waiting != []) with
    | none => (s, none)
    | some p =>
      let d := s.allocDecide p
      if d.2.use? == some use then (d.1.relieve p, some d.2)
      else State.decideFor k ((d.1.applyBuf d.2).relieve p) use

/-- A request, decided at once unless its pool is being rebuilt, when it waits (R252, R253, R267). -/
def State.bufNow (s : State) (start bytes : Nat) (cls : Cls) (port : Nat) (use : BufFor) : State × Option BufOut :=
  let r := s.bufRequest start bytes cls port use
  match r.2 with
  | .wait => State.decideFor 1024 r.1 use
  | o => (r.1, some o)

/-- The requests made for this use are withdrawn. -/
def State.withdrawUse (s : State) (use : BufFor) : State :=
  { s with bpm := { s.bpm with pool := s.bpm.pool.map (fun p => { p with
      waiting := p.waiting.filter (fun r => r.use != use) }) } }

/-- A request of an engine's work, which asks again later while the pool is being rebuilt (R267). -/
def State.bufTry (s : State) (start bytes : Nat) (cls : Cls) (port : Nat) (use : BufFor) : State × Option BufOut :=
  let r := s.bufNow start bytes cls port use
  match r.2 with
  | none => (r.1.withdrawUse use, none)
  | o => (r.1, o)

/-- The requester port of the slot's ingest unit (08, Requester ports). -/
def Slot.port (sl : Slot) (sessPort : Nat) : Nat :=
  match sl.src with
  | some c => match c.type with | .csi => c.port | .rtp => 6 + sessPort | .host => 8
  | none => 16

/-- The start of a frame requests its source buffer (R325, R262): none while the stream is paused or shed. `size` is the
size wanted, 0 for the start pool's own. -/
def State.sourceRequest (s : State) (n port size : Nat) : State :=
  let sl := s.slotN n
  match sl.ana with
  | none => s
  | some a =>
    if s.paused n || sl.ing.shed then s.applyBuf (.empty (.source n))
    else
      match s.bufNow a.srcPool size a.cls port (.source n) with
      | (s, some o) => s.applyBuf o
      | (s, none) => s

/-- The requests of an open frame that is given up are withdrawn. -/
def State.withdraw (s : State) (n : Nat) : State := s.withdrawUse (.source n)

/-- The open frame of a slot is discarded without a number and its buffer returned (R334, R349). -/
def State.dropOpen (s : State) (n : Nat) : State :=
  match (s.slotN n).ing.open_ with
  | none => s
  | some o =>
    let s := (s.withdraw n).updSlotN n (fun sl => { sl with ing := { sl.ing with open_ := none } })
    match o.buf with
    | some h => (s.bufFree h (s.slotN n).ctx 16 0x21).1
    | none => s

/-- STREAM_STOP's last step: when the last record has been posted, the slot is CONFIGURED and the stop completes
(R36, R186); a checkpoint of the slot completes first. Reference buffers go back (log entry 15). -/
def State.stopDone (s : State) (n : Nat) : State :=
  let sl := s.slotN n
  if sl.state == .stopping && sl.frames.all (fun f => 8 < f.stage) && !s.ckBusy n then
    let refs := sl.dec.refs
    let s := (s.bufsBack n refs 16 0x21).updSlotN n (fun sl => { sl with
      state := .configured, gapArea := false, dec := {} })
    let s : State := { s with sched := { s.sched with demand := s.sched.demand.filter (fun d => d.slot != n) } }
    let s := if h : n < 64 then (s.kprEnd ⟨n, h⟩).updRrg ⟨n, h⟩ (fun r => { r with en := false }) else s
    let last : U32 := sl.lastPosted.getD 0xFFFFFFFF
    ((s.releaseKept n).finish (.streamStop n) .ok (leBytes 1 n ++ zeros 3 ++ leBytes 4 last.toNat)).reevaluate
  else s

/-- A frame leaves POST: the next queued frame enters, RETURN runs, a stop may complete. -/
def State.posted (s : State) (n : Nat) : State :=
  (((s.unqueueN 8 n).advance n).returnFrames n).stopDone n

/-- BPM_ALLOC_DECISION: the pool's sequencer decides one waiting request (R253, R265). -/
def execBpmAllocDecision (p : Fin 16) (s : State) : Res :=
  whenLive s fun s =>
    let d := s.allocDecide p.val
    (d.1.applyBuf d.2).relieve p.val

/-- The requester port of a unit; units without one free through HYL's (08, Requester ports). -/
def unitPort (u : Nat) : Nat :=
  if 0x28 ≤ u && u ≤ 0x2D then u - 0x28
  else if 0x26 ≤ u && u ≤ 0x27 then u - 0x20
  else if u == 0x36 then 8
  else if 0x18 ≤ u && u ≤ 0x1B then u - 0xF
  else if 0x1D ≤ u && u ≤ 0x1E then u - 0x10
  else if u == 0x20 then 15
  else 16

/-- BPM_FREE: a unit's free reaches the BPM under the epoch it carries and for the context of its work; a stale one is dropped
(R256, R547). -/
def execBpmFree (unit : Nat) (epoch : BitVec 8) (free : FreeReq) (s : State) : Res :=
  whenLive s fun s =>
    if (s.gateN unit).epoch != epoch then s.updGate unit (fun g => { g with staleDrops := satInc g.staleDrops })
    else (s.bufFree free.handle free.ctx (unitPort unit) unit).1

end Sys2Proof.Machine
end

