-- ==== Sys2Proof/Machine/Net.lean ====
section
/-!
DEFINITION. Ethernet egress: datagrams, checksums, record segments, RTP packets of views (15 R469–R471, 12 R380).
-/
namespace Sys2Proof.Machine
open Sys2Proof

/-- The 16-bit words of bytes, most significant byte first, zero-padded at the end. -/
def beWords : List Byte → Nat
  | [] => 0
  | [a] => a.toNat * 256
  | a :: b :: rest => a.toNat * 256 + b.toNat + beWords rest

/-- Fold carries of a one's complement sum. -/
def foldSum (n : Nat) : Nat :=
  let a := n / 65536 + n % 65536
  let b := a / 65536 + a % 65536
  b / 65536 + b % 65536

/-- The Internet checksum of bytes. -/
def inetSum (bs : List Byte) : Nat := 65535 - foldSum (beWords bs)

/-- An address is IPv4-mapped. -/
def isV4 (a : Nat) : Bool := a / 2 ^ 32 == 0xFFFF

/-- Pseudo-header bytes and the UDP length for the checksum. -/
def pseudo (v4 : Bool) (src dst len : Nat) : List Byte :=
  if v4 then beBytes 4 src ++ beBytes 4 dst ++ [0, 17] ++ beBytes 2 len
  else beBytes 16 src ++ beBytes 16 dst ++ beBytes 4 len ++ [0, 0, 0, 17]

/-- A UDP datagram's header and payload; the checksum is always computed (R469). -/
def udpBytes (v4 : Bool) (f : Flow) (payload : List Byte) : List Byte :=
  let len := 8 + payload.length
  let head := beBytes 2 f.sport ++ beBytes 2 f.dport ++ beBytes 2 len
  let c := inetSum (pseudo v4 f.src f.dst len ++ head ++ [0, 0] ++ payload)
  head ++ beBytes 2 (if c = 0 then 65535 else c) ++ payload

/-- An IPv4 or IPv6 packet of a flow (R469). -/
def ipBytes (f : Flow) (udp : List Byte) : List Byte :=
  if isV4 f.dst then
    let h := fun (c : Nat) => [BitVec.ofNat 8 0x45, BitVec.ofNat 8 (f.dscp * 4)] ++ beBytes 2 (20 + udp.length) ++
      beBytes 2 f.ident.toNat ++ [0x40, 0, 64, 17] ++ beBytes 2 c ++ beBytes 4 f.src ++ beBytes 4 f.dst
    h (inetSum (h 0)) ++ udp
  else
    beBytes 4 (0x60000000 + f.dscp * 4 * 2 ^ 20) ++ beBytes 2 udp.length ++ [17, 64] ++ beBytes 16 f.src ++ beBytes 16 f.dst ++ udp

/-- The Ethernet frame, without its frame check sequence. -/
def etherBytes (e : Eth) (n : Neigh) (v4 : Bool) (ip : List Byte) : List Byte :=
  beBytes 6 n.mac.toNat ++ beBytes 6 e.mac.toNat ++
    (if n.vlan = 0xFFFF then [] else [0x81, 0] ++ beBytes 2 n.vlan) ++ (if v4 then [8, 0] else [0x86, 0xDD]) ++ ip

/-- A datagram of a flow is built and queued at its port, or dropped and counted (R469, R471). -/
def State.sendFlow (s : State) (flow prio : Nat) (payload : List Byte) : State :=
  match lookupN s.io.flow flow with
  | none => s
  | some f =>
    if h : f.port < 2 then
      let p : Fin 2 := ⟨f.port, h⟩
      let e := s.io.eth[p]
      match lookupN s.io.neigh f.neigh with
      | none => s.updEth p (·.count 5 1)
      | some n =>
        if isV4 f.src != isV4 f.dst || !e.up || !s.unitLive (0x26 + f.port) then s.updEth p (·.count 5 1)
        else
          let v4 := isV4 f.dst
          let bytes := etherBytes e n v4 (ipBytes f (udpBytes v4 f payload))
          let s : State := { s with io := { s.io with flow := insertN s.io.flow flow { f with ident := f.ident + 1 } } }
          s.updEth p (fun e => { e with queue := e.queue ++ [{ prio := prio, bytes := bytes }] })
    else s

/-- The port's MAX_FRAME for a flow, and whether the flow is IPv4. -/
def State.flowFrame (s : State) (flow : Nat) : Nat × Bool :=
  match lookupN s.io.flow flow with
  | none => (64, true)
  | some f => ((s.io.eth.toList.getD f.port {}).maxFrame, isV4 f.dst)

/-- Cut bytes into chunks of `n` (at least 1). -/
def chunks (n : Nat) : Nat → List Byte → List (List Byte)
  | 0, _ => []
  | _ + 1, [] => []
  | k + 1, bs => bs.take (max 1 n) :: chunks n k (bs.drop (max 1 n))

/-- A record's segments leave in order (R470). -/
def State.sendRecord (s : State) (flow prio n : Nat) (rec_ : List Byte) : State :=
  let m := s.flowFrame flow
  let l := (m.1 - (if m.2 then 66 else 86)) / 64 * 64
  let cs := chunks l rec_.length rec_
  let seq := (rec_.drop 4).take 4
  cs.zipIdx.foldl (fun s c =>
    s.sendFlow flow prio (leBytes 2 0x5A53 ++ leBytes 1 n ++ leBytes 1 1 ++ leBytes 2 c.2 ++ leBytes 2 cs.length ++ seq ++
      leBytes 4 (c.2 * l) ++ c.1)) s

/-- The port of a flow sends the next datagram: lowest priority number first, in build order (R471). -/
def State.sendNext (s : State) (p : Fin 2) : State :=
  let e := s.io.eth[p]
  match argMin (fun (d : Datagram) => ([(d.prio : Int)] : List Int)) e.queue with
  | none => s
  | some d =>
    let s := s.updEth p (fun e => ({ e with queue := e.queue.erase d } : Eth).count 4 1)
    s.emit (.ethSend p.val d.prio d.bytes)

/-- UDP_DATAGRAM_SEND: the port sends the next queued datagram (R471). -/
def execUdpDatagramSend (e : Fin 2) (s : State) : Res :=
  whenLive s fun s =>
    if s.io.eth[e].up && s.unitLive (0x26 + e.val) then s.sendNext e else s

/-! ### RTP of views (R380) -/

/-- The NAL unit type. -/
def nalType (c : Codec) (nal : List Byte) : Nat :=
  match c with
  | .h264 => bitsOf (byteAt nal 0).toNat 0 5
  | .h265 => bitsOf (byteAt nal 0).toNat 1 6

/-- A parameter set. -/
def isParam (c : Codec) (nal : List Byte) : Bool :=
  match c with
  | .h264 => nalType c nal == 7 || nalType c nal == 8
  | .h265 => nalType c nal == 32 || nalType c nal == 33 || nalType c nal == 34

/-- A STAP-A or AP packet of parameter sets. -/
def aggregate (c : Codec) (ps : List (List Byte)) : List Byte :=
  let body := ps.flatMap (fun n => beBytes 2 n.length ++ n)
  match c with
  | .h264 => leBytes 1 ((ps.map (fun n => bitsOf (byteAt n 0).toNat 5 2)).foldl max 0 * 32 + 24) ++ body
  | .h265 => [0x60, BitVec.ofNat 8 ((ps.map (fun n => bitsOf (byteAt n 1).toNat 0 3)).foldl min 7)] ++ body

/-- One NAL unit as packets: whole, or in fragments (FU-A, FU) of at most `lim` bytes. -/
def fragment (c : Codec) (lim : Nat) (nal : List Byte) : List (List Byte) :=
  if nal.length ≤ lim then [nal]
  else
    match c with
    | .h264 =>
      let t := nalType c nal
      let cs := chunks (lim - 2) nal.length (nal.drop 1)
      cs.zipIdx.map (fun x =>
        leBytes 1 ((byteAt nal 0).toNat / 32 * 32 + 28) ++
        leBytes 1 (t + (if x.2 = 0 then 128 else 0) + (if x.2 + 1 = cs.length then 64 else 0)) ++ x.1)
    | .h265 =>
      let t := nalType c nal
      let cs := chunks (lim - 3) nal.length (nal.drop 2)
      cs.zipIdx.map (fun x =>
        leBytes 1 ((byteAt nal 0).toNat / 128 * 128 + 98 + (byteAt nal 0).toNat % 2) ++ [byteAt nal 1] ++
        leBytes 1 (t + (if x.2 = 0 then 128 else 0) + (if x.2 + 1 = cs.length then 64 else 0)) ++ x.1)

/-- The RTP payloads of a slice's NAL units: parameter sets together first. -/
def rtpPayloads (c : Codec) (lim : Nat) (nals : List (List Byte)) : List (List Byte) :=
  let ps := nals.filter (isParam c)
  (if ps = [] then [] else [aggregate c ps]) ++ (nals.filter (fun n => !isParam c n)).flatMap (fragment c lim)

/-- VEE_SLICE_SEND: a coded slice of the view's oldest unsent picture is packetised and queued on the view's flow; the
last packet of a picture carries the marker (R379, R380). -/
def execVeeSliceSend (v : Fin 4) (nals : List (List Byte)) (lastSlice : Bool) (s : State) : Res :=
  whenLive s fun s =>
    let w := s.str.view[v]
    match w.caps with
    | [] => s
    | (cap, cfg) :: rest =>
      let m := s.flowFrame cfg.flow
      let ps := rtpPayloads cfg.codec (m.1 - (if m.2 then 62 else 82)) nals
      let ts := cap.toNat * 9 / 100000
      let ssrc := s.sup.fuses.serial.toNat / 256 * 256 % 2 ^ 32 + v.val
      let pt := match cfg.codec with | .h264 => 96 | .h265 => 97
      let s := ps.zipIdx.foldl (fun s x =>
        let mark := lastSlice && x.2 + 1 == ps.length
        let seq := (w.rtpSeq.toNat + x.2) % 65536
        s.sendFlow cfg.flow 3 ([0x80, BitVec.ofNat 8 (pt + (if mark then 128 else 0))] ++ beBytes 2 seq ++ beBytes 4 ts ++
          beBytes 4 ssrc ++ x.1)) s
      let sent := (ps.map List.length).sum
      { s with str := { s.str with view := updAt s.str.view v (fun w => { w with
        rtpSeq := w.rtpSeq + BitVec.ofNat 16 ps.length, bytes := w.bytes + BitVec.ofNat 32 sent
        caps := if lastSlice then rest else w.caps }) } }

end Sys2Proof.Machine
end

