-- ==== Sys2Proof/Machine/Banks.lean ====
section
/-!
DEFINITION. The coefficient banks of the polyphase filter: 64 phases of 6 taps each, by the rule of 13 R401.
-/
namespace Sys2Proof.Machine

/-- Bank B0, phases 0 to 7 (R401). -/
def bank0_0 : List (List Int) :=
  [[0, 0, 256, 0, 0, 0],
   [1, -3, 256, 3, -1, 0],
   [2, -6, 255, 7, -2, 0],
   [2, -9, 255, 11, -3, 0],
   [3, -12, 255, 14, -4, 0],
   [4, -15, 254, 18, -5, 0],
   [4, -17, 253, 22, -6, 0],
   [5, -20, 251, 27, -7, 0]]

/-- Bank B0, phases 8 to 15 (R401). -/
def bank0_1 : List (List Int) :=
  [[5, -22, 250, 31, -8, 0],
   [6, -24, 247, 35, -9, 1],
   [6, -26, 245, 40, -10, 1],
   [6, -27, 242, 45, -11, 1],
   [7, -29, 240, 49, -12, 1],
   [7, -31, 239, 54, -14, 1],
   [7, -32, 236, 59, -15, 1],
   [8, -33, 231, 64, -16, 2]]

/-- Bank B0, phases 16 to 23 (R401). -/
def bank0_2 : List (List Int) :=
  [[8, -34, 228, 69, -17, 2],
   [8, -35, 225, 75, -19, 2],
   [8, -36, 222, 80, -20, 2],
   [8, -36, 217, 85, -21, 3],
   [8, -37, 213, 91, -22, 3],
   [8, -37, 210, 96, -24, 3],
   [8, -38, 206, 102, -25, 3],
   [8, -38, 201, 107, -26, 4]]

/-- Bank B0, phases 24 to 31 (R401). -/
def bank0_3 : List (List Int) :=
  [[8, -38, 196, 113, -27, 4],
   [8, -38, 192, 118, -28, 4],
   [8, -38, 186, 124, -29, 5],
   [7, -37, 182, 129, -30, 5],
   [7, -37, 177, 135, -31, 5],
   [7, -37, 173, 140, -32, 5],
   [7, -36, 166, 146, -33, 6],
   [7, -35, 161, 151, -34, 6]]

/-- Bank B0, phases 32 to 39 (R401). -/
def bank0_4 : List (List Int) :=
  [[6, -35, 157, 157, -35, 6],
   [6, -34, 151, 161, -35, 7],
   [6, -33, 146, 166, -36, 7],
   [5, -32, 140, 173, -37, 7],
   [5, -31, 135, 177, -37, 7],
   [5, -30, 129, 182, -37, 7],
   [5, -29, 124, 186, -38, 8],
   [4, -28, 118, 192, -38, 8]]

/-- Bank B0, phases 40 to 47 (R401). -/
def bank0_5 : List (List Int) :=
  [[4, -27, 113, 196, -38, 8],
   [4, -26, 107, 201, -38, 8],
   [3, -25, 102, 206, -38, 8],
   [3, -24, 96, 210, -37, 8],
   [3, -22, 91, 213, -37, 8],
   [3, -21, 85, 217, -36, 8],
   [2, -20, 80, 222, -36, 8],
   [2, -19, 75, 225, -35, 8]]

/-- Bank B0, phases 48 to 55 (R401). -/
def bank0_6 : List (List Int) :=
  [[2, -17, 69, 228, -34, 8],
   [2, -16, 64, 231, -33, 8],
   [1, -15, 59, 236, -32, 7],
   [1, -14, 54, 239, -31, 7],
   [1, -12, 49, 240, -29, 7],
   [1, -11, 45, 242, -27, 6],
   [1, -10, 40, 245, -26, 6],
   [1, -9, 35, 247, -24, 6]]

/-- Bank B0, phases 56 to 63 (R401). -/
def bank0_7 : List (List Int) :=
  [[0, -8, 31, 250, -22, 5],
   [0, -7, 27, 251, -20, 5],
   [0, -6, 22, 253, -17, 4],
   [0, -5, 18, 254, -15, 4],
   [0, -4, 14, 255, -12, 3],
   [0, -3, 11, 255, -9, 2],
   [0, -2, 7, 255, -6, 2],
   [0, -1, 3, 256, -3, 1]]

/-- Bank B0 (R401). -/
def bank0 : List (List Int) := bank0_0 ++ bank0_1 ++ bank0_2 ++ bank0_3 ++ bank0_4 ++ bank0_5 ++ bank0_6 ++ bank0_7

/-- Bank B1, phases 0 to 7 (R401). -/
def bank1_0 : List (List Int) :=
  [[-3, 19, 224, 19, -3, 0],
   [-3, 17, 224, 22, -4, 0],
   [-2, 14, 223, 25, -4, 0],
   [-2, 11, 223, 28, -4, 0],
   [-2, 9, 222, 32, -5, 0],
   [-1, 6, 221, 35, -5, 0],
   [-1, 4, 221, 38, -6, 0],
   [-1, 2, 220, 42, -7, 0]]

/-- Bank B1, phases 8 to 15 (R401). -/
def bank1_1 : List (List Int) :=
  [[-1, 0, 219, 45, -7, 0],
   [-1, -2, 218, 49, -8, 0],
   [0, -4, 215, 53, -8, 0],
   [0, -5, 213, 57, -9, 0],
   [0, -7, 211, 61, -9, 0],
   [0, -9, 210, 65, -10, 0],
   [0, -10, 208, 69, -11, 0],
   [0, -11, 205, 73, -11, 0]]

/-- Bank B1, phases 16 to 23 (R401). -/
def bank1_2 : List (List Int) :=
  [[0, -12, 203, 77, -12, 0],
   [0, -14, 202, 81, -13, 0],
   [0, -15, 198, 86, -13, 0],
   [0, -15, 195, 90, -14, 0],
   [0, -16, 192, 94, -14, 0],
   [0, -17, 189, 99, -15, 0],
   [0, -18, 187, 103, -16, 0],
   [0, -18, 182, 108, -16, 0]]

/-- Bank B1, phases 24 to 31 (R401). -/
def bank1_3 : List (List Int) :=
  [[0, -19, 180, 112, -17, 0],
   [0, -19, 175, 117, -17, 0],
   [0, -19, 172, 121, -18, 0],
   [0, -19, 167, 126, -18, 0],
   [0, -20, 164, 130, -18, 0],
   [0, -20, 161, 134, -19, 0],
   [0, -20, 156, 139, -19, 0],
   [0, -20, 152, 143, -19, 0]]

/-- Bank B1, phases 32 to 39 (R401). -/
def bank1_4 : List (List Int) :=
  [[0, -19, 147, 147, -19, 0],
   [0, -19, 143, 152, -20, 0],
   [0, -19, 139, 156, -20, 0],
   [0, -19, 134, 161, -20, 0],
   [0, -18, 130, 164, -20, 0],
   [0, -18, 126, 167, -19, 0],
   [0, -18, 121, 172, -19, 0],
   [0, -17, 117, 175, -19, 0]]

/-- Bank B1, phases 40 to 47 (R401). -/
def bank1_5 : List (List Int) :=
  [[0, -17, 112, 180, -19, 0],
   [0, -16, 108, 182, -18, 0],
   [0, -16, 103, 187, -18, 0],
   [0, -15, 99, 189, -17, 0],
   [0, -14, 94, 192, -16, 0],
   [0, -14, 90, 195, -15, 0],
   [0, -13, 86, 198, -15, 0],
   [0, -13, 81, 202, -14, 0]]

/-- Bank B1, phases 48 to 55 (R401). -/
def bank1_6 : List (List Int) :=
  [[0, -12, 77, 203, -12, 0],
   [0, -11, 73, 205, -11, 0],
   [0, -11, 69, 208, -10, 0],
   [0, -10, 65, 210, -9, 0],
   [0, -9, 61, 211, -7, 0],
   [0, -9, 57, 213, -5, 0],
   [0, -8, 53, 215, -4, 0],
   [0, -8, 49, 218, -2, -1]]

/-- Bank B1, phases 56 to 63 (R401). -/
def bank1_7 : List (List Int) :=
  [[0, -7, 45, 219, 0, -1],
   [0, -7, 42, 220, 2, -1],
   [0, -6, 38, 221, 4, -1],
   [0, -5, 35, 221, 6, -1],
   [0, -5, 32, 222, 9, -2],
   [0, -4, 28, 223, 11, -2],
   [0, -4, 25, 223, 14, -2],
   [0, -4, 22, 224, 17, -3]]

/-- Bank B1 (R401). -/
def bank1 : List (List Int) := bank1_0 ++ bank1_1 ++ bank1_2 ++ bank1_3 ++ bank1_4 ++ bank1_5 ++ bank1_6 ++ bank1_7

/-- Bank B2, phases 0 to 7 (R401). -/
def bank2_0 : List (List Int) :=
  [[-9, 36, 202, 36, -9, 0],
   [-8, 33, 201, 39, -9, 0],
   [-8, 30, 202, 42, -10, 0],
   [-7, 28, 200, 45, -10, 0],
   [-7, 25, 201, 48, -11, 0],
   [-7, 23, 200, 51, -11, 0],
   [-6, 20, 200, 54, -12, 0],
   [-6, 18, 199, 57, -12, 0]]

/-- Bank B2, phases 8 to 15 (R401). -/
def bank2_1 : List (List Int) :=
  [[-5, 15, 199, 60, -13, 0],
   [-5, 13, 197, 64, -13, 0],
   [-4, 11, 196, 67, -14, 0],
   [-4, 9, 195, 70, -14, 0],
   [-4, 7, 194, 74, -15, 0],
   [-3, 5, 192, 77, -15, 0],
   [-3, 3, 190, 81, -15, 0],
   [-3, 2, 189, 84, -16, 0]]

/-- Bank B2, phases 16 to 23 (R401). -/
def bank2_2 : List (List Int) :=
  [[-2, 0, 186, 88, -16, 0],
   [-2, -2, 185, 91, -16, 0],
   [-2, -3, 183, 95, -17, 0],
   [-2, -4, 180, 99, -17, 0],
   [-1, -6, 178, 102, -17, 0],
   [-1, -7, 175, 106, -17, 0],
   [-1, -8, 173, 109, -17, 0],
   [-1, -9, 171, 113, -18, 0]]

/-- Bank B2, phases 24 to 31 (R401). -/
def bank2_3 : List (List Int) :=
  [[-1, -10, 169, 116, -18, 0],
   [0, -11, 165, 120, -18, 0],
   [0, -12, 161, 124, -17, 0],
   [0, -13, 159, 127, -17, 0],
   [0, -14, 156, 131, -17, 0],
   [0, -14, 153, 134, -17, 0],
   [0, -15, 151, 137, -17, 0],
   [0, -16, 147, 141, -16, 0]]

/-- Bank B2, phases 32 to 39 (R401). -/
def bank2_4 : List (List Int) :=
  [[0, -16, 144, 144, -16, 0],
   [0, -16, 141, 147, -16, 0],
   [0, -17, 137, 151, -15, 0],
   [0, -17, 134, 153, -14, 0],
   [0, -17, 131, 156, -14, 0],
   [0, -17, 127, 159, -13, 0],
   [0, -17, 124, 161, -12, 0],
   [0, -18, 120, 165, -11, 0]]

/-- Bank B2, phases 40 to 47 (R401). -/
def bank2_5 : List (List Int) :=
  [[0, -18, 116, 169, -10, -1],
   [0, -18, 113, 171, -9, -1],
   [0, -17, 109, 173, -8, -1],
   [0, -17, 106, 175, -7, -1],
   [0, -17, 102, 178, -6, -1],
   [0, -17, 99, 180, -4, -2],
   [0, -17, 95, 183, -3, -2],
   [0, -16, 91, 185, -2, -2]]

/-- Bank B2, phases 48 to 55 (R401). -/
def bank2_6 : List (List Int) :=
  [[0, -16, 88, 186, 0, -2],
   [0, -16, 84, 189, 2, -3],
   [0, -15, 81, 190, 3, -3],
   [0, -15, 77, 192, 5, -3],
   [0, -15, 74, 194, 7, -4],
   [0, -14, 70, 195, 9, -4],
   [0, -14, 67, 196, 11, -4],
   [0, -13, 64, 197, 13, -5]]

/-- Bank B2, phases 56 to 63 (R401). -/
def bank2_7 : List (List Int) :=
  [[0, -13, 60, 199, 15, -5],
   [0, -12, 57, 199, 18, -6],
   [0, -12, 54, 200, 20, -6],
   [0, -11, 51, 200, 23, -7],
   [0, -11, 48, 201, 25, -7],
   [0, -10, 45, 200, 28, -7],
   [0, -10, 42, 202, 30, -8],
   [0, -9, 39, 201, 33, -8]]

/-- Bank B2 (R401). -/
def bank2 : List (List Int) := bank2_0 ++ bank2_1 ++ bank2_2 ++ bank2_3 ++ bank2_4 ++ bank2_5 ++ bank2_6 ++ bank2_7

/-- Bank B3, phases 0 to 7 (R401). -/
def bank3_0 : List (List Int) :=
  [[-13, 49, 184, 49, -13, 0],
   [-13, 46, 186, 51, -14, 0],
   [-13, 44, 185, 54, -14, 0],
   [-12, 41, 184, 57, -14, 0],
   [-12, 39, 184, 60, -15, 0],
   [-11, 36, 184, 62, -15, 0],
   [-11, 34, 183, 65, -15, 0],
   [-11, 31, 183, 68, -15, 0]]

/-- Bank B3, phases 8 to 15 (R401). -/
def bank3_1 : List (List Int) :=
  [[-10, 29, 181, 71, -15, 0],
   [-10, 27, 181, 74, -16, 0],
   [-9, 25, 179, 77, -16, 0],
   [-9, 22, 180, 79, -16, 0],
   [-9, 20, 179, 82, -16, 0],
   [-8, 18, 177, 85, -16, 0],
   [-8, 16, 176, 88, -16, 0],
   [-7, 14, 174, 91, -16, 0]]

/-- Bank B3, phases 16 to 23 (R401). -/
def bank3_2 : List (List Int) :=
  [[-7, 13, 172, 94, -16, 0],
   [-6, 11, 170, 97, -16, 0],
   [-6, 9, 169, 100, -16, 0],
   [-6, 7, 167, 103, -15, 0],
   [-5, 6, 164, 106, -15, 0],
   [-5, 4, 164, 108, -15, 0],
   [-5, 3, 162, 111, -15, 0],
   [-4, 1, 159, 114, -14, 0]]

/-- Bank B3, phases 24 to 31 (R401). -/
def bank3_3 : List (List Int) :=
  [[-4, 0, 157, 117, -14, 0],
   [-4, -1, 155, 120, -13, -1],
   [-3, -3, 154, 122, -13, -1],
   [-3, -4, 151, 125, -12, -1],
   [-3, -5, 149, 128, -12, -1],
   [-2, -6, 145, 131, -11, -1],
   [-2, -7, 143, 133, -10, -1],
   [-2, -8, 142, 136, -10, -2]]

/-- Bank B3, phases 32 to 39 (R401). -/
def bank3_4 : List (List Int) :=
  [[-2, -9, 138, 140, -9, -2],
   [-2, -10, 136, 142, -8, -2],
   [-1, -10, 133, 143, -7, -2],
   [-1, -11, 131, 145, -6, -2],
   [-1, -12, 128, 149, -5, -3],
   [-1, -12, 125, 151, -4, -3],
   [-1, -13, 122, 154, -3, -3],
   [-1, -13, 120, 155, -1, -4]]

/-- Bank B3, phases 40 to 47 (R401). -/
def bank3_5 : List (List Int) :=
  [[0, -14, 117, 157, 0, -4],
   [0, -14, 114, 159, 1, -4],
   [0, -15, 111, 162, 3, -5],
   [0, -15, 108, 164, 4, -5],
   [0, -15, 106, 164, 6, -5],
   [0, -15, 103, 167, 7, -6],
   [0, -16, 100, 169, 9, -6],
   [0, -16, 97, 170, 11, -6]]

/-- Bank B3, phases 48 to 55 (R401). -/
def bank3_6 : List (List Int) :=
  [[0, -16, 94, 172, 13, -7],
   [0, -16, 91, 174, 14, -7],
   [0, -16, 88, 176, 16, -8],
   [0, -16, 85, 177, 18, -8],
   [0, -16, 82, 179, 20, -9],
   [0, -16, 79, 180, 22, -9],
   [0, -16, 77, 179, 25, -9],
   [0, -16, 74, 181, 27, -10]]

/-- Bank B3, phases 56 to 63 (R401). -/
def bank3_7 : List (List Int) :=
  [[0, -15, 71, 181, 29, -10],
   [0, -15, 68, 183, 31, -11],
   [0, -15, 65, 183, 34, -11],
   [0, -15, 62, 184, 36, -11],
   [0, -15, 60, 184, 39, -12],
   [0, -14, 57, 184, 41, -12],
   [0, -14, 54, 185, 44, -13],
   [0, -14, 51, 186, 46, -13]]

/-- Bank B3 (R401). -/
def bank3 : List (List Int) := bank3_0 ++ bank3_1 ++ bank3_2 ++ bank3_3 ++ bank3_4 ++ bank3_5 ++ bank3_6 ++ bank3_7

/-- Bank B4, phases 0 to 7 (R401). -/
def bank4_0 : List (List Int) :=
  [[-14, 58, 168, 58, -14, 0],
   [-14, 56, 169, 60, -15, 0],
   [-14, 53, 169, 63, -15, 0],
   [-14, 51, 169, 65, -15, 0],
   [-14, 49, 169, 67, -15, 0],
   [-14, 46, 169, 70, -15, 0],
   [-14, 44, 169, 72, -15, 0],
   [-13, 42, 166, 75, -14, 0]]

/-- Bank B4, phases 8 to 15 (R401). -/
def bank4_1 : List (List Int) :=
  [[-13, 40, 166, 77, -14, 0],
   [-13, 38, 165, 80, -14, 0],
   [-13, 36, 165, 82, -14, 0],
   [-12, 34, 164, 85, -14, -1],
   [-12, 32, 164, 87, -14, -1],
   [-12, 30, 162, 90, -13, -1],
   [-11, 28, 161, 92, -13, -1],
   [-11, 26, 161, 94, -13, -1]]

/-- Bank B4, phases 16 to 23 (R401). -/
def bank4_2 : List (List Int) :=
  [[-11, 24, 159, 97, -12, -1],
   [-10, 22, 158, 99, -12, -1],
   [-10, 20, 157, 102, -11, -2],
   [-10, 18, 157, 104, -11, -2],
   [-9, 17, 153, 107, -10, -2],
   [-9, 15, 153, 109, -10, -2],
   [-9, 14, 152, 111, -9, -3],
   [-8, 12, 149, 114, -8, -3]]

/-- Bank B4, phases 24 to 31 (R401). -/
def bank4_3 : List (List Int) :=
  [[-8, 10, 148, 116, -7, -3],
   [-8, 9, 147, 118, -7, -3],
   [-7, 8, 145, 120, -6, -4],
   [-7, 6, 143, 123, -5, -4],
   [-7, 5, 141, 125, -4, -4],
   [-6, 4, 138, 127, -3, -4],
   [-6, 2, 138, 129, -2, -5],
   [-6, 1, 136, 131, -1, -5]]

/-- Bank B4, phases 32 to 39 (R401). -/
def bank4_4 : List (List Int) :=
  [[-5, 0, 133, 133, 0, -5],
   [-5, -1, 131, 136, 1, -6],
   [-5, -2, 129, 138, 2, -6],
   [-4, -3, 127, 138, 4, -6],
   [-4, -4, 125, 141, 5, -7],
   [-4, -5, 123, 143, 6, -7],
   [-4, -6, 120, 145, 8, -7],
   [-3, -7, 118, 147, 9, -8]]

/-- Bank B4, phases 40 to 47 (R401). -/
def bank4_5 : List (List Int) :=
  [[-3, -7, 116, 148, 10, -8],
   [-3, -8, 114, 149, 12, -8],
   [-3, -9, 111, 152, 14, -9],
   [-2, -10, 109, 153, 15, -9],
   [-2, -10, 107, 153, 17, -9],
   [-2, -11, 104, 157, 18, -10],
   [-2, -11, 102, 157, 20, -10],
   [-1, -12, 99, 158, 22, -10]]

/-- Bank B4, phases 48 to 55 (R401). -/
def bank4_6 : List (List Int) :=
  [[-1, -12, 97, 159, 24, -11],
   [-1, -13, 94, 161, 26, -11],
   [-1, -13, 92, 161, 28, -11],
   [-1, -13, 90, 162, 30, -12],
   [-1, -14, 87, 164, 32, -12],
   [-1, -14, 85, 164, 34, -12],
   [0, -14, 82, 165, 36, -13],
   [0, -14, 80, 165, 38, -13]]

/-- Bank B4, phases 56 to 63 (R401). -/
def bank4_7 : List (List Int) :=
  [[0, -14, 77, 166, 40, -13],
   [0, -14, 75, 166, 42, -13],
   [0, -15, 72, 169, 44, -14],
   [0, -15, 70, 169, 46, -14],
   [0, -15, 67, 169, 49, -14],
   [0, -15, 65, 169, 51, -14],
   [0, -15, 63, 169, 53, -14],
   [0, -15, 60, 169, 56, -14]]

/-- Bank B4 (R401). -/
def bank4 : List (List Int) := bank4_0 ++ bank4_1 ++ bank4_2 ++ bank4_3 ++ bank4_4 ++ bank4_5 ++ bank4_6 ++ bank4_7

/-- The coefficients of a bank at a phase. -/
def bankRow (b phase : Nat) : List Int :=
  ([bank0, bank1, bank2, bank3, bank4].getD b bank4).getD phase []

end Sys2Proof.Machine
end

