-- ==== Sys2Proof/Machine/Float.lean ====
section
/-!
DEFINITION. IEEE 754 binary32 arithmetic on bit patterns, rounding to nearest with ties to even, subnormals kept, and
the conversions to FP16 and BF16 (13 R386, R387; 15, the motion model's arithmetic).
-/
namespace Sys2Proof.Machine
open Sys2Proof

/-- The canonical quiet NaN of FP32 (R387). -/
def fNaN : U32 := 0x7FC00000
/-- +∞. -/
def fInf : U32 := 0x7F800000

/-- Exponent field. -/
def fExp (x : U32) : Nat := bitsOf x.toNat 23 8
/-- Fraction field. -/
def fFrac (x : U32) : Nat := bitsOf x.toNat 0 23
/-- Sign bit. -/
def fNeg (x : U32) : Bool := x.getLsbD 31
/-- NaN. -/
def fIsNaN (x : U32) : Bool := fExp x == 255 && fFrac x != 0
/-- ±∞. -/
def fIsInf (x : U32) : Bool := fExp x == 255 && fFrac x == 0

/-- The magnitude of a finite value in units of 2^−149, exactly. -/
def fMag (x : U32) : Nat :=
  if fExp x = 0 then fFrac x else (fFrac x + 2 ^ 23) * 2 ^ (fExp x - 1)

/-- A finite value in units of 2^−149, exactly. -/
def fInt (x : U32) : Int := if fNeg x then -(fMag x : Int) else fMag x

/-- `n / d` rounded to the nearest integer, ties to even. -/
def divEven (n d : Nat) : Nat :=
  let q := n / d
  let r := n % d
  if 2 * r < d then q else if d < 2 * r then q + 1 else if q % 2 = 0 then q else q + 1

/-- The FP32 magnitude pattern of `n / d`, rounded to nearest even; overflow gives infinity. -/
def fRoundMag (n d : Nat) : Nat :=
  let num := n * 2 ^ 149
  let t := num / d
  let k := if t < 2 ^ 24 then 0 else Nat.log2 t - 23
  let m := divEven num (d * 2 ^ k)
  let k' := if m = 2 ^ 24 then k + 1 else k
  let m' := if m = 2 ^ 24 then 2 ^ 23 else m
  if m' < 2 ^ 23 then m'
  else if 254 ≤ k' then 0x7F800000
  else (k' + 1) * 2 ^ 23 + (m' - 2 ^ 23)

/-- A pattern with sign. -/
def fSigned (neg : Bool) (mag : Nat) : U32 := BitVec.ofNat 32 (mag + (if neg then 2 ^ 31 else 0))

/-- FP32(i / d): the nearest FP32 value; zero is +0. -/
def fOfRatio (i : Int) (d : Nat) : U32 := fSigned (decide (i < 0)) (fRoundMag i.natAbs d)

/-- FP32(i). -/
def fOfInt (i : Int) : U32 := fOfRatio i 1

/-- −x. -/
def fNegate (x : U32) : U32 := x ^^^ 0x80000000

/-- Addition. -/
def fAdd (x y : U32) : U32 :=
  if fIsNaN x || fIsNaN y then fNaN
  else if fIsInf x then (if fIsInf y && fNeg x != fNeg y then fNaN else x)
  else if fIsInf y then y
  else
    let s := fInt x + fInt y
    if s = 0 then (if fNeg x && fNeg y then 0x80000000 else 0)
    else fSigned (decide (s < 0)) (fRoundMag s.natAbs (2 ^ 149))

/-- Subtraction. -/
def fSub (x y : U32) : U32 := if fIsNaN y then fNaN else fAdd x (fNegate y)

/-- Multiplication. -/
def fMul (x y : U32) : U32 :=
  let neg := fNeg x != fNeg y
  if fIsNaN x || fIsNaN y then fNaN
  else if fIsInf x || fIsInf y then
    (if (!fIsInf x && fMag x == 0) || (!fIsInf y && fMag y == 0) then fNaN else fSigned neg 0x7F800000)
  else fSigned neg (fRoundMag (fMag x * fMag y) (2 ^ 298))

/-- Division. -/
def fDiv (x y : U32) : U32 :=
  let neg := fNeg x != fNeg y
  if fIsNaN x || fIsNaN y then fNaN
  else if fIsInf x then (if fIsInf y then fNaN else fSigned neg 0x7F800000)
  else if fIsInf y then fSigned neg 0
  else if fMag y = 0 then (if fMag x = 0 then fNaN else fSigned neg 0x7F800000)
  else fSigned neg (fRoundMag (fMag x) (fMag y))

/-- The integer square root, bit by bit from `2 ^ k`. -/
def isqrtN (n : Nat) : Nat → Nat → Nat
  | 0, r => if (r + 1) * (r + 1) ≤ n then r + 1 else r
  | k + 1, r =>
    let r' := r + 2 ^ (k + 1)
    isqrtN n k (if r' * r' ≤ n then r' else r)

/-- The integer square root. -/
def isqrt (n : Nat) : Nat := isqrtN n (Nat.log2 n / 2 + 1) 0

/-- Square root, correctly rounded. -/
def fSqrt (x : U32) : U32 :=
  if fIsNaN x then fNaN
  else if !fIsInf x && fMag x = 0 then x
  else if fNeg x then fNaN
  else if fIsInf x then x
  else
    let n := fMag x * 2 ^ 349
    let s := isqrt n
    let st := if s * s = n then 0 else 1
    fSigned false (fRoundMag (2 * s + st) (2 ^ 250))

/-- `x < y` on values; false with a NaN. -/
def fLt (x y : U32) : Bool :=
  if fIsNaN x || fIsNaN y then false
  else if fIsInf x then fNeg x && !(fIsInf y && fNeg y)
  else if fIsInf y then !fNeg y
  else decide (fInt x < fInt y)

/-- `x ≤ y` on values; false with a NaN. -/
def fLe (x y : U32) : Bool := if fIsNaN x || fIsNaN y then false else !fLt y x

/-- An FP32 subnormal reads as zero with its sign (R387, Towers and PPE). -/
def fFlush (x : U32) : U32 := if fExp x = 0 then x &&& 0x80000000 else x

/-- The FP32 value of an FP16 pattern, exact. -/
def fOfHalf (h : U16) : U32 :=
  let e := bitsOf h.toNat 10 5
  let f := bitsOf h.toNat 0 10
  let neg := h.getLsbD 15
  if e = 31 then (if f = 0 then fSigned neg 0x7F800000 else fNaN)
  else if e = 0 then fSigned neg (fRoundMag f (2 ^ 24))
  else fSigned neg (fRoundMag ((f + 2 ^ 10) * 2 ^ e) (2 ^ 25))

/-- The FP32 value of a BF16 pattern, subnormals as zero (R387). -/
def fOfBf (b : U16) : U32 := fFlush (b.setWidth 32 <<< 16)

/-- Conversion to FP16: nearest even, saturating finite values, canonical NaN (R387). -/
def halfOf (x : U32) : U16 :=
  if fIsNaN x then 0x7E00
  else
    let s : Nat := if fNeg x then 2 ^ 15 else 0
    if fIsInf x then BitVec.ofNat 16 (s + 0x7C00)
    else
      let num := fMag x
      let t := num / 2 ^ 125
      let k := if t < 2 ^ 11 then 0 else Nat.log2 t - 10
      let m := divEven num (2 ^ (125 + k))
      let k' := if m = 2 ^ 11 then k + 1 else k
      let m' := if m = 2 ^ 11 then 2 ^ 10 else m
      if m' < 2 ^ 10 then BitVec.ofNat 16 (s + m')
      else if 30 ≤ k' then BitVec.ofNat 16 (s + 0x7BFF)
      else BitVec.ofNat 16 (s + (k' + 1) * 2 ^ 10 + (m' - 2 ^ 10))

/-- Conversion to BF16: nearest even, saturating finite values, subnormals to zero, canonical NaN (R387). -/
def bfOf (x : U32) : U16 :=
  if fIsNaN x then 0x7FC0
  else
    let s : Nat := if fNeg x then 2 ^ 15 else 0
    if fIsInf x then BitVec.ofNat 16 (s + 0x7F80)
    else
      let m := divEven (x.toNat % 2 ^ 31) (2 ^ 16)
      if m < 0x80 then BitVec.ofNat 16 s
      else if 0x7F80 ≤ m then BitVec.ofNat 16 (s + 0x7F7F)
      else BitVec.ofNat 16 (s + m)

/-- Round half up of `n / d` (d > 0). -/
def roundHalfUp (n : Int) (d : Nat) : Int := (2 * n + d).fdiv (2 * d)

/-- The sum of FP32 values in order, from +0, with subnormals flushed after each step (R411). -/
def fSumFlush (xs : List U32) : U32 := xs.foldl (fun a x => fFlush (fAdd a (fFlush x))) 0

/-- The FP16 path's dot product (R411): exact FP32 products, summed in order. -/
def dotHalf (x y : List U16) : U32 :=
  fSumFlush ((x.zip y).map (fun p => fMul (fOfHalf p.1) (fOfHalf p.2)))

end Sys2Proof.Machine
end

