-- ==== Sys2Proof/Machine/Tower.lean ====
section
/-!
DEFINITION. What a Tower computes: codebook expansion, the window walker, the array on its three paths, the checksum row
and column, post-ops, pooling (13 R387–R393; 14 R410–R421, R428–R430).
-/
namespace Sys2Proof.Machine
open Sys2Proof

/-! ### Numbers -/

/-- A 16-bit pattern as a signed integer. -/
def int16 (x : Nat) : Int := (BitVec.ofNat 16 x).toInt

/-- Limit to INT16 (R391). -/
def satInt16 (x : Int) : Int := clampInt (-32768) 32767 x

/-- The INT16 pattern of a value. -/
def patInt16 (x : Int) : U16 := BitVec.ofInt 16 x

/-- Integer rescale: floor((acc × M + 2^(s−1)) / 2^s) + zp, saturated (R391). -/
def rescale (acc m : Int) (s : Nat) (zp : Int) : Int :=
  satInt16 ((acc * m + (if s = 0 then 0 else 2 ^ (s - 1))).fdiv (2 ^ s) + zp)

/-- FP32 addition of a Tower: subnormals as zero (R387). -/
def tAdd (x y : U32) : U32 := fFlush (fAdd (fFlush x) (fFlush y))

/-- FP32 multiplication of a Tower. -/
def tMul (x y : U32) : U32 := fFlush (fMul (fFlush x) (fFlush y))

/-- FP32 subtraction of a Tower. -/
def tSub (x y : U32) : U32 := fFlush (fSub (fFlush x) (fFlush y))

/-- The sum of values in order, from +0 (R411). -/
def tSum (xs : List U32) : U32 := xs.foldl tAdd 0

/-- |x| of an FP32 pattern. -/
def fAbs (x : U32) : U32 := x &&& 0x7FFFFFFF

/-- An activation or weight pattern of a format as FP32; U8 and INT16 exactly (R410). -/
def fpOf (fmt x : Nat) : U32 :=
  if fmt = 1 then fOfHalf (BitVec.ofNat 16 x) else if fmt = 2 then fOfBf (BitVec.ofNat 16 x)
  else if fmt = 5 then fOfInt x else fOfInt (int16 x)

/-- An activation or weight pattern of an integer format; U8 is zero-extended (R410). -/
def intOf (fmt x : Nat) : Int := if fmt = 5 then x else int16 x

/-- Conversion of a float path's result to its 16-bit format (R387). -/
def outOf (p : TPath) (x : U32) : U16 := if p = .bf then bfOf x else halfOf x

/-- The FP32 value of a float path's 16-bit result. -/
def inOf (p : TPath) (x : U16) : U32 := if p = .bf then fOfBf x else fOfHalf x

/-! ### Codebooks (R388, R390) -/

/-- Index `i` of packed weights. -/
def packIndex (k : WPack) (bs : List Byte) (i : Nat) : Nat :=
  match k with
  | .cb4 _ => bitsOf (byteAt bs (i / 2)).toNat (4 * (i % 2)) 4
  | .cb8 _ => (byteAt bs i).toNat
  | .wide => leAt bs (2 * i) 2

/-- Bytes of `n` packed weights (R388). -/
def packBytes (k : WPack) (n : Nat) : Nat :=
  match k with | .cb4 _ => (n + 1) / 2 | .cb8 _ => n | .wide => 2 * n

/-- Weight `i` of a tile after expansion: the stored entry, bit for bit (R390). -/
def expand (cb : List (Nat × List Byte)) (k : WPack) (bs : List Byte) (i : Nat) : Nat :=
  match k with
  | .wide => packIndex k bs i
  | .cb4 slot | .cb8 slot =>
    let book := match cb.find? (fun c => c.1 == slot) with | some c => c.2 | none => []
    leAt book (2 * packIndex k bs i) 2

/-! ### Tensors and the walker (R392, R393, R416, R417) -/

/-- Channels of a block. -/
def blockOf (c32 : Bool) : Nat := if c32 then 32 else 16

/-- Row pitch P. -/
def rowPitch (b w e : Nat) : Nat := ceilDiv (w * b * e) 64 * 64

/-- Byte offset of element (0, c, h, w) of a tensor with `hh` × `ww` positions (R392). -/
def tensorOff (b hh ww e c h w : Nat) : Nat := (c / b * hh + h) * rowPitch b ww e + (w * b + c % b) * e

/-- Bytes of a tensor with `cc` channels (R392). -/
def tensorBytes (b cc hh ww e : Nat) : Nat := ceilDiv cc b * hh * rowPitch b ww e

/-- Bytes of an element. -/
def actBytes (fmt : Nat) : Nat := if fmt = 5 then 1 else 2

/-- Input channels of a group. -/
def Conv.cg (c : Conv) : Nat := c.cin / max 1 c.groups

/-- Output channels of a group. -/
def Conv.ng (c : Conv) : Nat := c.cout / max 1 c.groups

/-- Length of the reduction of a group. -/
def Conv.depth (c : Conv) : Nat := c.kh * c.kw * c.cg

/-- Output height. -/
def Conv.oh (c : Conv) : Nat := (c.h + c.padT + c.padB - (c.dy * (c.kh - 1) + 1)) / max 1 c.sy + 1

/-- Output width. -/
def Conv.ow (c : Conv) : Nat := (c.w + c.padL + c.padR - (c.dx * (c.kw - 1) + 1)) / max 1 c.sx + 1

/-- The parameters keep R416. -/
def Conv.ok (c : Conv) : Bool :=
  1 ≤ c.kh && c.kh ≤ 15 && 1 ≤ c.kw && c.kw ≤ 15 && 1 ≤ c.sy && c.sy ≤ 8 && 1 ≤ c.sx && c.sx ≤ 8 &&
  1 ≤ c.dy && c.dy ≤ 16 && 1 ≤ c.dx && c.dx ≤ 16 &&
  c.padT ≤ 15 && c.padB ≤ 15 && c.padL ≤ 15 && c.padR ≤ 15 &&
  c.padT < c.dy * (c.kh - 1) + 1 && c.padB < c.dy * (c.kh - 1) + 1 &&
  c.padL < c.dx * (c.kw - 1) + 1 && c.padR < c.dx * (c.kw - 1) + 1 &&
  c.dy * (c.kh - 1) + 1 ≤ c.h + c.padT + c.padB && c.dx * (c.kw - 1) + 1 ≤ c.w + c.padL + c.padR &&
  1 ≤ c.groups && c.groups ≤ 4096 && 1 ≤ c.cin && 1 ≤ c.cout && c.cin % c.groups == 0 && c.cout % c.groups == 0 &&
  (c.groups == 1 || (c.cg % blockOf c.c32 == 0 && c.ng % blockOf c.c32 == 0)) &&
  1 ≤ c.h && c.h ≤ 4096 && 1 ≤ c.w && c.w ≤ 4096

/-- The device address of the element that reduction index `k` of a group reads at output position (`oy`, `ox`); none
where the tap lies outside the input (R416, R417). -/
def Conv.source (c : Conv) (g k oy ox : Nat) : Option Nat :=
  let ch := g * c.cg + k % max 1 c.cg
  let tap := k / max 1 c.cg
  let iy : Int := (oy * c.sy : Nat) - (c.padT : Int) + (tap / max 1 c.kw * c.dy : Nat)
  let ix : Int := (ox * c.sx : Nat) - (c.padL : Int) + (tap % max 1 c.kw * c.dx : Nat)
  if iy < 0 || (c.h : Int) ≤ iy || ix < 0 || (c.w : Int) ≤ ix then none
  else some (c.inAt + tensorOff (blockOf c.c32) c.h c.w (actBytes c.fmt) ch iy.toNat ix.toNat)

/-- Reduction length of the tile: 128, or what remains of the group (R416). -/
def TileRun.k (r : TileRun) : Nat := min 128 (r.conv.depth - 128 * r.tile)

/-- The pairing of R410. -/
def pathOk (p : TPath) (act w : Nat) : Bool :=
  match p with
  | .int => (act == 4 || act == 5) && w == 4
  | .half => (act == 1 || act == 5) && w == 1
  | .bf => act == 2 && w == 2

/-- Pooling keeps R421, and every window lies in the run. -/
def PoolOp.ok (p : PoolOp) : Bool :=
  (p.size == 2 || p.size == 3) && 1 ≤ p.sy && p.sy ≤ 3 && 1 ≤ p.sx && p.sx ≤ 3 && p.py ≤ 1 && p.px ≤ 1

/-- Positions of a pooling window inside the map, in row-major order (R421). -/
def PoolOp.window (p : PoolOp) (h w y x : Nat) : List (Nat × Nat) :=
  (List.range p.size).flatMap (fun i => (List.range p.size).filterMap (fun j =>
    let a : Int := (y * p.sy + i : Nat) - (p.py : Int)
    let b : Int := (x * p.sx + j : Nat) - (p.px : Int)
    if a < 0 || (h : Int) ≤ a || b < 0 || (w : Int) ≤ b then none else some (a.toNat, b.toNat)))

/-- A step's post-op parameters fit its path and its run (R419, R421). -/
def TileRun.postOk (r : TileRun) (p : Post) : Bool :=
  (match p.scale with
   | some l => l.length == r.cols && l.all (fun x => match x with | .int _ _ _ => r.path == .int | .float _ => r.path != .int)
   | none => p.act == .none && p.pool.isNone) &&
  (match p.act with
   | .lutInt t => r.path == .int && t.length == 257
   | .lutFloat _ _ t => r.path != .int && t.length == 257
   | _ => true) &&
  (match p.pool with
   | some q => q.ok && q.out.all (fun o => o.1 < q.oh && o.2 < q.ow && (q.window r.conv.oh r.conv.ow o.1 o.2).all (r.run.contains ·))
   | none => true)

/-- The walker streams this tile-run next: the first tile of a run, or the tile after the one before, of the same layer and
run; the run is complete with the last tile of its group (R416, R418). -/
def TileRun.follows (r : TileRun) (prev : Option TileRun) : Bool :=
  (r.last.isSome == decide (r.conv.depth ≤ 128 * (r.tile + 1))) &&
    match prev with
    | none => r.tile == 0
    | some q => r.tile == q.tile + 1 && q.conv == r.conv && q.path == r.path && q.group == r.group && q.n0 == r.n0 &&
        q.cols == r.cols && q.run == r.run

/-- The step is no plan error (R410, R416, R421). -/
def TileRun.ok (r : TileRun) : Bool :=
  r.conv.ok && pathOk r.path r.conv.fmt r.wfmt && r.group < r.conv.groups && 1 ≤ r.cols && r.cols ≤ 128 &&
  r.n0 + r.cols ≤ r.conv.ng && 128 * r.tile < r.conv.depth && 1 ≤ r.run.length && r.run.length ≤ 512 &&
  r.run.all (fun p => p.1 < r.conv.oh && p.2 < r.conv.ow) && r.weights.length == packBytes r.pack (r.k * r.cols) &&
  (match r.last with | some p => r.postOk p | none => true)

/-- The device addresses of the elements the tile-run reads. -/
def TileRun.reads (r : TileRun) : List Nat :=
  r.run.flatMap (fun p => (List.range r.k).filterMap (fun k => r.conv.source r.group (128 * r.tile + k) p.1 p.2))

/-- Activation patterns by position and reduction row; `rd` reads an element (R417). -/
def TileRun.vectors (r : TileRun) (rd : Nat → Nat) : List (List Nat) :=
  r.run.map (fun p => (List.range r.k).map (fun k =>
    match r.conv.source r.group (128 * r.tile + k) p.1 p.2 with
    | some a => rd a
    | none => r.conv.pad.toNat % 2 ^ (8 * actBytes r.conv.fmt)))

/-- Weight patterns by reduction row and column. -/
def TileRun.tileW (r : TileRun) (cb : List (Nat × List Byte)) : List (List Nat) :=
  (List.range r.k).map (fun k => (List.range r.cols).map (fun n => expand cb r.pack r.weights (k * r.cols + n)))

/-! ### The array and its checksums (R411, R412, R428–R430) -/

/-- Column `n` of a list of rows. -/
def column {α : Type} (z : α) (rows : List (List α)) (n : Nat) : List α := rows.map (fun r => r.getD n z)

/-- Partial results and check values of a tile-run as the array delivers them. -/
structure TileOut where
  /-- Partial results by position and column. -/
  s : List (List U32)
  /-- Check column by position. -/
  col : List U32
  /-- Check row by column. -/
  row : List U32
  deriving DecidableEq, Repr

/-- The dot product of integers, modulo 2^32 (R412). -/
def dotInt (x w : List Int) : U32 := BitVec.ofInt 32 ((x.zip w).map (fun p => p.1 * p.2)).sum

/-- The ordered dot product of a float path (R411). -/
def dotFloat (x w : List U32) : U32 := tSum ((x.zip w).map (fun p => fFlush (fMul p.1 p.2)))

/-- What a sound array delivers. -/
def TileRun.sound (r : TileRun) (x w : List (List Nat)) : TileOut :=
  let cols := List.range r.cols
  if r.path = .int then
    let xi := x.map (List.map (intOf r.conv.fmt))
    let wi := w.map (List.map (intOf r.wfmt))
    let wsum := wi.map List.sum
    let xsum := (List.range r.k).map (fun k => (column 0 xi k).sum)
    { s := xi.map (fun v => cols.map (fun n => dotInt v (column 0 wi n)))
      col := xi.map (fun v => dotInt v wsum)
      row := cols.map (fun n => dotInt xsum (column 0 wi n)) }
  else
    let xf := x.map (List.map (fpOf r.conv.fmt))
    let wf := w.map (List.map (fpOf r.wfmt))
    let wsum := wf.map tSum
    let xsum := (List.range r.k).map (fun k => tSum (column 0 xf k))
    { s := xf.map (fun v => cols.map (fun n => dotFloat v (column 0 wf n)))
      col := xf.map (fun v => dotFloat v wsum)
      row := cols.map (fun n => dotFloat xsum (column 0 wf n)) }

/-- Change element `i` of a list. -/
def modAt {α : Type} (l : List α) (i : Nat) (f : α → α) : List α := l.zipIdx.map (fun x => if x.2 = i then f x.1 else x.1)

/-- One wrong value of the array. -/
def TileOut.fault (o : TileOut) (f : TileSite × U32) : TileOut :=
  match f.1 with
  | .cell m n => { o with s := modAt o.s m (fun v => modAt v n (· ^^^ f.2)) }
  | .col m => { o with col := modAt o.col m (· ^^^ f.2) }
  | .row n => { o with row := modAt o.row n (· ^^^ f.2) }

/-- One float comparison of R430: check, sum, Σ|terms| and K. -/
def floatCheck (chk sum terms : U32) (k : Nat) : Bool :=
  if fIsNaN chk || fIsNaN sum then fIsNaN chk && fIsNaN sum
  else if fIsInf chk || fIsInf sum then chk == sum
  else if fExp terms == 255 then !fIsNaN terms
  else decide ((fInt chk - fInt sum).natAbs * 1024 ≤ (k + 2) * fMag terms)

/-- The comparisons of R428 on what the array delivered: exact modulo 2^32 on the integer path (R429), within the bound
of R430 on the float paths. -/
def TileRun.pass (r : TileRun) (x w : List (List Nat)) (o : TileOut) : Bool :=
  if r.path = .int then
    (o.col.zip o.s).all (fun p => p.1 == p.2.foldl (· + ·) 0) &&
      o.row.zipIdx.all (fun p => p.1 == (column 0 o.s p.2).foldl (· + ·) 0)
  else
    let xa := x.map (List.map (fun v => fAbs (fpOf r.conv.fmt v)))
    let wa := w.map (List.map (fun v => fAbs (fpOf r.wfmt v)))
    let prod := fun (v : List U32) (n : Nat) => (v.zip (column 0 wa n)).map (fun p => tMul p.1 p.2)
    (o.col.zip (o.s.zip xa)).all (fun p =>
      floatCheck p.1 (tSum p.2.1) (tSum ((List.range r.cols).flatMap (prod p.2.2))) r.k) &&
      o.row.zipIdx.all (fun p => floatCheck p.1 (tSum (column 0 o.s p.2)) (tSum (xa.flatMap (fun v => prod v p.2))) r.k)

/-- The accumulators after a tile: its partial results for the first, else added in (R411, R412, R418). -/
def TileRun.accumulate (r : TileRun) (acc : List (List U32)) (s : List (List U32)) : List (List U32) :=
  let add := if r.path = .int then (fun (a b : U32) => a + b) else tAdd
  if r.tile = 0 then s.map (List.map (fun v => if r.path = .int then v else tAdd 0 v))
  else (acc.zip s).map (fun p => (p.1.zip p.2).map (fun q => add q.1 q.2))

/-! ### Post-ops (R419–R421) -/

/-- The table of R420 on the integer path. -/
def lutInt (t : List Int) (y : Int) : Int :=
  let i := ((y + 32768).fdiv 256).toNat
  let f := y.fmod 256
  let a := t.getD i 0
  satInt16 (a + ((t.getD (i + 1) 0 - a) * f + 128).fdiv 256)

/-- The table of R420 on the float paths, in FP32; a NaN gives the canonical NaN (R419). -/
def lutFloat (lo inv : U32) (t : List U32) (y : U32) : U32 :=
  if fIsNaN y then fNaN
  else
    let v := tMul (tSub y lo) inv
    let top : U32 := fOfInt 256
    let u := if fLt v 0 then 0 else if fLt top v then top else v
    let i : Nat := min 255 (fMag u / 2 ^ 149)
    let f := tSub u (fOfInt i)
    let a := t.getD i 0
    tAdd a (tMul (tSub (t.getD (i + 1) 0) a) f)

/-- One result of the post-op unit before pooling: bias, rescale, activation (R419). -/
def Post.value (p : Post) (path : TPath) (n : Nat) (acc : U32) : U32 :=
  let b := match p.bias with | some l => (if path = .int then acc + l.getD n 0 else tAdd acc (l.getD n 0)) | none => acc
  let sc : Option Scale := p.scale.map (fun l => l.getD n (.float 0))
  match sc with
  | none => b
  | some (.int m s zp) =>
    let y := rescale b.toInt m s zp
    let z := match p.act with | .relu => max y zp | .lutInt t => lutInt t y | _ => y
    (patInt16 z).setWidth 32
  | some (.float x) =>
    let y := inOf path (outOf path (tMul b x))
    let z := match p.act with
      | .relu => if fIsNaN y then fNaN else if fLt 0 y then y else 0
      | .lutFloat lo inv t => lutFloat lo inv t y
      | _ => y
    (outOf path z).setWidth 32

/-- The largest of 16-bit results, as a 16-bit result (R421). -/
def poolMax (path : TPath) (vs : List U32) : U32 :=
  if path = .int then
    (patInt16 ((vs.map (fun v => int16 v.toNat)).foldl max (-32768))).setWidth 32
  else
    let xs := vs.map (fun v => inOf path (v.setWidth 16))
    let m := if xs.any fIsNaN then fNaN else match xs with
      | [] => 0
      | y :: ys => ys.foldl (fun a b => if fLt a b then b else a) y
    (outOf path m).setWidth 32

/-- The average of 16-bit results over the positions in the window (R421). -/
def poolAvg (path : TPath) (vs : List U32) : U32 :=
  let n := vs.length
  if path = .int then
    (patInt16 (((vs.map (fun v => int16 v.toNat)).sum + (n / 2 : Nat)).fdiv (max 1 n))).setWidth 32
  else
    (outOf path (tMul (tSum (vs.map (fun v => inOf path (v.setWidth 16)))) (fOfRatio 1 (max 1 n)))).setWidth 32

/-- The results of a completed run by position: post-ops, then pooling (R419, R421). -/
def TileRun.results (r : TileRun) (p : Post) (acc : List (List U32)) : List ((Nat × Nat) × List U32) :=
  let vals := (r.run.zip acc).map (fun x => (x.1, x.2.zipIdx.map (fun y => p.value r.path y.2 y.1)))
  match p.pool with
  | none => vals
  | some q => q.out.map (fun o =>
      let win := (q.window r.conv.oh r.conv.ow o.1 o.2).filterMap (fun w => (vals.find? (fun v => v.1 == w)).map Prod.snd)
      (o, (List.range r.cols).map (fun n =>
        let vs := win.map (fun v => v.getD n 0)
        if q.max then poolMax r.path vs else poolAvg r.path vs)))

/-- What the post-op unit writes: the results at the offsets of R392, and zeros in the channel padding that follows the
last channel and in the row padding that follows the last position (R393, R419). -/
def TileRun.writes (r : TileRun) (p : Post) (acc : List (List U32)) : List (Nat × List Byte) :=
  let b := blockOf p.c32
  let e := if p.scale.isNone then 4 else 2
  let hh := match p.pool with | some q => q.oh | none => r.conv.oh
  let ww := match p.pool with | some q => q.ow | none => r.conv.ow
  let c0 := r.group * r.conv.ng + r.n0
  let off := fun c y x => p.outAt + tensorOff b hh ww e c y x
  (r.results p acc).flatMap (fun o =>
    let vals := o.2.zipIdx.map (fun v => (off (c0 + v.2) o.1.1 o.1.2, leBytes e v.1.toNat))
    let padC := if c0 + r.cols = r.conv.cout ∧ r.conv.cout % b ≠ 0 then
        [(off r.conv.cout o.1.1 o.1.2, zeros ((b - r.conv.cout % b) * e))] else []
    let pitch := rowPitch b ww e
    let padR := if o.1.2 + 1 = ww ∧ ww * b * e < pitch then
        ((List.range r.cols).map (fun n => (c0 + n) / b)).dedup.map (fun blk =>
          (p.outAt + (blk * hh + o.1.1) * pitch + ww * b * e, zeros (pitch - ww * b * e))) else []
    vals ++ padC ++ padR)

end Sys2Proof.Machine
end

