-- ==== Sys2Proof/Machine/LinkOps.lean ====
section
/-!
DEFINITION. Lofin packets, routes, output queues, notices and the loss of a link (16_lofin_link); how a port of Lofin
or Lantern closes and returns to service (17, 19 R549).
-/
namespace Sys2Proof.Machine
open Sys2Proof

/-! ### Packets (R481–R483) -/

/-- A field of a header, little-endian. -/
def Packet.f (k : Packet) (off n : Nat) : Nat := leAt k.hdr off n
/-- TYPE. -/
def Packet.type (k : Packet) : Nat := k.f 0 1
/-- FLAGS.FENCE_VALID. -/
def Packet.fenceValid (k : Packet) : Bool := bitOf (k.f 1 1) 0
/-- DST. -/
def Packet.dst (k : Packet) : Nat := k.f 2 1
/-- SRC. -/
def Packet.src (k : Packet) : Nat := k.f 3 1
/-- HOPS. -/
def Packet.hops (k : Packet) : Nat := k.f 4 1
/-- WEPOCH. -/
def Packet.wepoch (k : Packet) : Nat := k.f 5 1
/-- FGEN. -/
def Packet.fgen (k : Packet) : BitVec 8 := byteAt k.hdr 6
/-- CTX. -/
def Packet.ctx (k : Packet) : Nat := k.f 7 1
/-- TAG. -/
def Packet.tag (k : Packet) : BitVec 16 := BitVec.ofNat 16 (k.f 8 2)
/-- LENGTH. -/
def Packet.len (k : Packet) : Nat := k.f 10 2
/-- OFFSET of WRITE_POSTED and READ_REQ. -/
def Packet.offset (k : Packet) : Nat := k.f 12 4
/-- WCOUNT of READ_REQ, PIP_SIGNAL and FLUSH. -/
def Packet.wcount (k : Packet) : Nat := k.f 16 4
/-- FENCE of WRITE_POSTED and PIP_SIGNAL, none without FENCE_VALID. -/
def Packet.fence (k : Packet) : Option Nat :=
  if k.fenceValid && (k.type == 1 || k.type == 4) then some (k.f 20 4) else none

/-- The virtual channel of a type (R480, R481). -/
def vcOf (type : Nat) : Nat := if type = 8 then 2 else if type = 3 ∨ type = 6 ∨ type = 7 then 1 else 0

/-- Data flits for `n` bytes from OFFSET `o` (R481). -/
def dataFlits (o n : Nat) : Nat := (o % 32 + n + 31) / 32

/-- Data flits laid out: the bytes from OFFSET mod 32 of the first, the rest zero (R481). -/
def flitData (o : Nat) (bs : List Byte) : List Byte := padTo (32 * dataFlits o bs.length) (zeros (o % 32) ++ bs)

/-- The data of a packet whose OFFSET is `o`. -/
def Packet.payload (k : Packet) (o : Nat) : List Byte := padTo k.len (k.data.drop (o % 32))

/-- Flits of a packet. -/
def Packet.flits (k : Packet) : Nat := 1 + k.data.length / 32

/-- The bits that header bytes 12–31 may have set, by type and subtype; none for a reserved one (R482). -/
def hdrMask (type sub : Nat) : Option (List Nat) :=
  let z := List.replicate 32 0
  let word := List.replicate 4 255
  let fence := [255, 255, 1, 0]
  match type with
  | 1 => some ((word ++ z.take 4 ++ fence ++ z).take 20)
  | 2 => some ((word ++ word ++ z).take 20)
  | 3 => some ((z.take 12 ++ [255] ++ z).take 20)
  | 4 => some ((word ++ word ++ fence ++ [255, 255, 1, 15] ++ z).take 20)
  | 5 | 6 => some ((z.take 4 ++ word ++ z).take 20)
  | 7 => some ((word ++ word ++ fence ++ [255, 255, 255] ++ z).take 20)
  | 8 =>
    match sub with
    | 1 => some (([255, 255, 255, 0] ++ word ++ word ++ z).take 20)
    | 2 => some (([255, 255, 0, 0] ++ word ++ word ++ [255, 255] ++ z).take 20)
    | 3 => some (([255] ++ z).take 20)
    | _ => none
  | _ => none

/-- WEPOCH may be other than 0: WRITE_POSTED, READ_REQ, PIP_SIGNAL and MGMT WINDOW (R482). -/
def wepochUsed (type sub : Nat) : Bool := type == 1 || type == 2 || type == 4 || (type == 8 && sub == 2)

/-- A bad packet (R483). -/
def Packet.bad (k : Packet) : Bool :=
  match hdrMask k.type (k.f 12 1) with
  | none => true
  | some m =>
    let sized := k.type == 1 || k.type == 2 || k.type == 3
    k.hdr.length != 32 || 4 ≤ k.f 1 1 || 128 ≤ k.dst || 128 ≤ k.src || 64 ≤ k.ctx
      || (!wepochUsed k.type (k.f 12 1) && k.wepoch != 0)
      || (m.zipIdx.any (fun b => k.f (12 + b.2) 1 &&& (255 - b.1) != 0))
      || (if sized then k.len = 0 || 256 < k.len else k.len != 0)
      || ((k.type == 1 || k.type == 2) && 256 < k.offset % 256 + k.len)

/-- A header: its first twelve bytes and the rest, zero-filled. -/
def mkHdr (type flags dst src wepoch : Nat) (fgen : BitVec 8) (ctx tag len : Nat) (rest : List Byte) : List Byte :=
  padTo 32 (leBytes 1 type ++ leBytes 1 flags ++ leBytes 1 dst ++ leBytes 1 src ++ leBytes 1 32 ++ leBytes 1 wepoch
    ++ [fgen] ++ leBytes 1 ctx ++ leBytes 2 tag ++ leBytes 2 len ++ rest)

/-- Replace header bytes from `off`. -/
def hdrPut (h : List Byte) (off : Nat) (bs : List Byte) : List Byte := h.take off ++ bs ++ h.drop (off + bs.length)

/-! ### Routes (R484, R485, R500) -/

/-- A port is up. -/
def State.lfnUp (s : State) (p : Nat) : Bool := s.lfn.port.toList[p]?.any (fun x => x.state == .up)

/-- The lowest-numbered port of the route entry that is up, without port `ex` (R485). -/
def State.routePort (s : State) (d : Nat) (ex : Option Nat) : Option (Fin 4) :=
  let m := s.lfn.route.toList.getD d 0
  (List.finRange 4).find? (fun p => m.getLsbD p.val && s.lfnUp p.val && ex != some p.val)

/-- The route to a device is up; the entry of the device's own ID is ignored (R200). -/
def State.routeUp (s : State) (d : Nat) : Bool := d != s.lfn.devId.toNat && (s.routePort d none).isSome

/-- Change the device-wide link state. -/
def State.updLofin (s : State) (f : Lofin → Lofin) : State := { s with lfn := f s.lfn }

/-! ### Output queues and credits (R479, R480) -/

/-- The queue of a virtual channel. -/
def LfnPort.queue (x : LfnPort) (vc : Nat) : List OutPkt := if vc = 0 then x.q0 else if vc = 1 then x.q1 else x.q2

/-- Change the queue of a virtual channel. -/
def LfnPort.setQueue (x : LfnPort) (vc : Nat) (q : List OutPkt) : LfnPort :=
  if vc = 0 then { x with q0 := q } else if vc = 1 then { x with q1 := q } else { x with q2 := q }

/-- The packet at the head of a queue may be sent: credits for all its flits, room in the replay buffer. -/
def LfnPort.ready (x : LfnPort) (vc : Nat) : Bool :=
  match x.queue vc with
  | [] => false
  | o :: _ => o.pkt.flits ≤ x.credits.getD vc 0 && x.replay.length + o.pkt.flits ≤ 1024

/-- The flits of a packet as the replay buffer keeps them. -/
def replayOf (o : OutPkt) (fseq : BitVec 12) : List ReplayFlit :=
  { fseq := fseq, content := o.pkt.hdr, header := true, pkt := o } ::
    (List.range (o.pkt.data.length / 32)).map (fun i =>
      { fseq := fseq + 1 + BitVec.ofNat 12 i, content := (o.pkt.data.drop (32 * i)).take 32, header := false, pkt := o })

/-- Send the packet at the head of a queue. -/
def State.sendHead (s : State) (p : Fin 4) (vc : Nat) : State :=
  let x := s.lfn.port[p]
  match x.queue vc with
  | [] => s
  | o :: rest =>
    let n := o.pkt.flits
    let s := s.updLfn p (fun x =>
      { x.setQueue vc rest with
        credits := x.credits.set vc (x.credits.getD vc 0 - n)
        replay := x.replay ++ replayOf o x.nextSeq, nextSeq := x.nextSeq + BitVec.ofNat 12 n, tx := x.tx + BitVec.ofNat 32 n })
    s.emit (.packet p.val vc (o.pkt.hdr ++ o.pkt.data))

/-- Packets leave a port while they may, VC2 before VC1 before VC0 (R480); none during a retrain (R479). -/
def State.pumpN : Nat → State → Fin 4 → State
  | 0, s, _ => s
  | k + 1, s, p =>
    let x := s.lfn.port[p]
    if x.state != .up || x.retraining then s
    else match [2, 1, 0].find? (fun vc => x.ready vc) with
      | none => s
      | some vc => State.pumpN k (s.sendHead p vc) p

/-- Packets leave a port while they may. -/
def State.pump (s : State) (p : Fin 4) : State :=
  let x := s.lfn.port[p]
  s.pumpN (x.q0.length + x.q1.length + x.q2.length) p

/-- A packet enters the output queue of its virtual channel. -/
def State.queueOut (s : State) (p : Fin 4) (k : Packet) (from_ : Option Nat) : State :=
  let o : OutPkt := { pkt := k, from_ := from_, at_ := s.clock }
  (s.updLfn p (fun x => x.setQueue (vcOf k.type) (x.queue (vcOf k.type) ++ [o]))).pump p

/-! ### Notices and the Remote Error Ring (R495–R497) -/

/-- An entry of the Remote Error Ring. -/
structure RerEntry where
  /-- REPORTER. -/
  reporter : Nat
  /-- TARGET. -/
  target : Nat
  /-- CAUSE. -/
  cause : Nat
  /-- TYPE. -/
  type : Nat
  /-- TAG. -/
  tag : Nat
  /-- CTX. -/
  ctx : Nat
  /-- LOCAL. -/
  local_ : Bool
  /-- Fence pip. -/
  fence : Option Nat
  /-- COUNT. -/
  count : Nat
  /-- OFFSET of the first failing byte in the target's window. -/
  offset : Nat
  deriving DecidableEq, Repr

/-- The 32 bytes of an entry (16, Remote Error Ring entry). -/
def RerEntry.bytes (e : RerEntry) (time : U64) : List Byte :=
  leBytes 8 time.toNat ++ leBytes 1 e.reporter ++ leBytes 1 e.target ++ leBytes 1 e.cause ++ leBytes 1 e.type
    ++ leBytes 2 e.tag ++ leBytes 1 e.ctx ++ leBytes 1 (b2n e.local_ + 2 * b2n e.fence.isSome)
    ++ leBytes 4 (e.fence.getD 0) ++ leBytes 4 e.count
    ++ leBytes 8 (0x040000000000 + e.target * 0x100000000 + e.offset)

/-- The ring has no room for another entry, by CONSUMER as last read (R497). -/
def Lofin.rerFull (l : Lofin) : Bool :=
  match l.rer with
  | some (_, log2) => (l.producer.toNat + 1) % 2 ^ log2 == l.consumer.toNat
  | none => false

/-- The 32 bytes are written at the producer's place, then PRODUCER is advanced (R497). -/
def State.rerPut (s : State) (bytes : List Byte) : State :=
  match s.lfn.rer with
  | none => s
  | some (base, log2) =>
    let next := (s.lfn.producer.toNat + 1) % 2 ^ log2
    let s := s.emit (.hostWrite (base.toNat + 64 + 32 * s.lfn.producer.toNat) bytes)
    let s := s.updLofin (fun l => { l with producer := BitVec.ofNat 32 next })
    s.emit (.hostWrite base.toNat (leBytes 4 next))

/-- An entry found the ring full after CONSUMER was read: dropped and counted (R497). -/
def State.rerDrop (s : State) : State :=
  match s.lfn.rer with
  | none => s
  | some (base, _) =>
    let s := s.updLofin (fun l => { l with dropped := satInc l.dropped })
    s.emit (.hostWrite (base.toNat + 8) (leBytes 4 s.lfn.dropped.toNat))

/-- An entry is written if the ring has room; one that would find it full, or that no request to the host may carry now,
waits for CONSUMER to be read; without a ring it is counted in LFN_ERR_DROPPED (R496, R497). -/
def State.rerWrite (s : State) (e : RerEntry) : State :=
  if s.lfn.rer.isNone then s.updLofin (fun l => { l with errDropped := satInc l.errDropped })
  else if s.lfn.rerFull || !s.lfn.rerHeld.isEmpty || !s.canRequest then
    s.updLofin (fun l => { l with rerHeld := l.rerHeld ++ [e.bytes s.devTime] })
  else s.rerPut (e.bytes s.devTime)

/-- The entries that waited, after CONSUMER was read: the first is written, or dropped if the ring is full still; the
following ones are written while there is room, and the rest wait for the next read (R497). -/
def State.rerDrain (s : State) : List (List Byte) → Bool → State
  | [], _ => s.updLofin (fun l => { l with rerHeld := [] })
  | b :: rest, first =>
    if !s.lfn.rerFull then (s.rerPut b).rerDrain rest false
    else if first then s.rerDrop.rerDrain rest false
    else s.updLofin (fun l => { l with rerHeld := b :: rest })

/-- A notice takes effect at the initiator: ring entry, REMOTE_ERR, fence pip (R496). -/
def State.noticed (s : State) (e : RerEntry) : State :=
  let due := s.clock + 100
  let s := (s.rerWrite e).raising (·.updLofin (fun l => { l with remoteErr := true, rerDue := some (l.rerDue.getD due) }))
  match e.fence with
  | some p => s.pipApply p .poison (BitVec.ofNat 32 Status.remoteError.code)
  | none => s

/-- OFFSET as a notice carries it: of a write or read, else 0. -/
def Packet.noticeOffset (k : Packet) : Nat := if k.type = 1 ∨ k.type = 2 then k.offset else 0

/-- This device raises a notice about its own packets: `k` the first, `count` in all (R495, R496). -/
def State.localNotice (s : State) (k : Packet) (cause count : Nat) : State :=
  s.noticed { reporter := s.lfn.devId.toNat, target := k.dst, cause := cause, type := k.type, tag := k.tag.toNat, ctx := k.ctx,
              local_ := true, fence := k.fence, count := count, offset := k.noticeOffset }

/-- A notice to another device waits to be sent; failures of one source, TAG and cause are counted in the one that waits
(R495). -/
def noticeAdd (q : List Notice) (k : Packet) (cause : Nat) : List Notice :=
  let same := fun (n : Notice) => n.cause == cause && leAt n.hdr 3 1 == k.src && leAt n.hdr 8 2 == k.tag.toNat
  if q.any same then q.map (fun n => if same n then { n with count := n.count + 1 } else n)
  else q ++ [{ hdr := k.hdr, cause := cause, count := 1 }]

/-- A VC0 packet fails at this device (R495). -/
def State.failVc0 (s : State) (k : Packet) (cause : Nat) : State :=
  if k.src = s.lfn.devId.toNat then s.localNotice k cause 1
  else s.updLofin (fun l => { l with noticeQ := noticeAdd l.noticeQ k cause })

/-- LFN_DISCARDS of a port counts packets. -/
def State.discards (s : State) (p : Fin 4) (n : Nat) : State := s.updLfn p (fun x => { x with discards := satAdd x.discards n })

/-- A packet is discarded at a port with a cause: counted, and noticed when it is a VC0 packet (R495). -/
def State.discardPkt (s : State) (p : Fin 4) (k : Packet) (cause : Nat) : State :=
  let s := s.discards p 1
  if vcOf k.type = 0 then s.failVc0 k cause else s

/-- A packet that this device originates leaves on its route; without one a VC0 packet fails with NO_ROUTE (R485). -/
def State.sendOwn (s : State) (k : Packet) : State :=
  match s.routePort k.dst none with
  | some p => s.queueOut p k none
  | none => if vcOf k.type = 0 then s.failVc0 k 9 else s

/-! ### Management packets (R484, R489) -/

/-- A MGMT packet to device `d`. -/
def State.mgmt (s : State) (d wepoch sub : Nat) (rest : List Byte) : Packet :=
  { hdr := mkHdr 8 0 d s.lfn.devId.toNat wepoch 0 0 0 0 (leBytes 1 sub ++ rest) }

/-- HELLO on a port; it goes to the neighbour alone, and carries DST 0x7F (R484). -/
def State.hello (s : State) (p : Fin 4) : State :=
  let v := if s.sup.fuses.variantL then 2 else 1
  s.queueOut p (s.mgmt 0x7F 0 1 (leBytes 1 p.val ++ leBytes 1 v ++ zeros 1 ++ leBytes 8 s.sup.fuses.serial.toNat)) none

/-- WINDOW to peer `d`: PERM 0 for a closed window (R489). -/
def State.sendWindow (s : State) (d : Nat) : State :=
  match lookupN s.lfn.win d with
  | none => s.sendOwn (s.mgmt d 0 2 [])
  | some w =>
    if w.open_ then
      s.sendOwn (s.mgmt d w.epoch.toNat 2 (leBytes 1 w.perm.toNat ++ zeros 2 ++ leBytes 4 w.pages ++ leBytes 4 w.pipFirst
        ++ leBytes 2 w.pipCount))
    else s.sendOwn (s.mgmt d w.epoch.toNat 2 [])

/-- Routes that came up announce the window; a route that is down makes the peer's window unknown (R488, R489). -/
def State.routesChanged (s : State) (before : List Bool) : State :=
  let s := s.updLofin (fun l => { l with known := l.known.filter (fun k => s.routeUp k.1) })
  (List.range 128).foldl (fun s d =>
    if s.routeUp d && !before.getD d false && (lookupN s.lfn.win d).isSome then s.sendWindow d else s) s

/-- Which routes are up. -/
def State.routesUp (s : State) : List Bool := (List.range 128).map s.routeUp

/-! ### A link goes down (R499) -/

/-- The packets of a replay buffer, oldest first, each once. -/
def replayPkts : List ReplayFlit → List OutPkt
  | [] => []
  | x :: xs => x.pkt :: ((xs.filter ReplayFlit.header).map ReplayFlit.pkt)

/-- Local notices for this device's packets that are lost together: one for each TAG (R495). -/
def State.noticeGroups (s : State) (cause : Nat) : Nat → List Packet → State
  | 0, _ => s
  | _, [] => s
  | n + 1, k :: ks =>
    let same := ks.filter (fun x => x.tag == k.tag && x.dst == k.dst)
    (s.localNotice k cause (1 + same.length)).noticeGroups cause n (ks.filter (fun x => !(x.tag == k.tag && x.dst == k.dst)))

/-- A port takes its link down; afterwards it is in state `st`. -/
def State.linkDown (s : State) (p : Fin 4) (st : LinkState) : State :=
  let x := s.lfn.port[p]
  let before := s.routesUp
  let pkts := (replayPkts x.replay ++ x.q2 ++ x.q1 ++ x.q0).map OutPkt.pkt
  let s := s.updLfn p (fun x =>
    { x with
      state := st, lanes := 0, retraining := false, trainDue := none, nextSeq := 0, replay := [], stuck := 0
      credits := [128, 128, 16], owed := [0, 0, 0], lastGood := 0xFFF, waitReplay := false, ackDue := false, nakDue := false, partial_ := none
      q0 := [], q1 := [], q2 := [], linkDowns := if x.state == .up then satInc x.linkDowns else x.linkDowns })
  let s := s.discards p pkts.length
  let vc0 := pkts.filter (fun k => vcOf k.type == 0)
  let mine := vc0.filter (fun k => k.src == s.lfn.devId.toNat)
  let s := s.noticeGroups 12 mine.length mine
  let s := (vc0.filter (fun k => k.src != s.lfn.devId.toNat)).foldl (fun s k => s.failVc0 k 12) s
  s.routesChanged before

/-! ### Training and the Lantern port below (R477, R519) -/

/-- A port carried by a Lantern port (R476). -/
def State.optical (s : State) (p : Nat) : Bool := p < 2 && s.sup.fuses.variantL

/-- The Lantern port that carries port `p` is LOCKED. -/
def State.ltnLocked (s : State) (p : Nat) : Bool := s.ltn.toList[p]?.any (fun t => t.state == .locked)

/-- Training starts: an optical port waits for its Lantern port (R477, R519). -/
def State.trainStart (s : State) (p : Fin 4) : State :=
  let now := s.clock
  let go := !s.optical p.val || s.ltnLocked p.val
  s.updLfn p (fun x => { x with state := .training, lanes := 0, attempts := 0, trainDue := if go then some (now + 200) else none })

/-- A retrain starts: traffic is held (R479). -/
def State.retrain (s : State) (p : Fin 4) : State :=
  let now := s.clock
  if s.lfn.port[p].state == .up then
    s.updLfn p (fun x => { x with
      retraining := true, stuck := 0, retrains := satInc x.retrains, trainDue := some (now + 200) })
  else s

/-- A Lantern port enters CAL at clock `now` (R515); a faulty heater stays so until a reset (R523). -/
def Ltn.toCal (t : Ltn) (now : Nat) (up : Option Nat) : Ltn :=
  { t with state := .cal, calAt := now, warm := none, resumeCal := false, upAt := up, limit := 0
           ring := t.ring.map (fun r => { faulty := r.faulty }), chain := t.chain.map (fun c => { range := c.range, ratio := c.ratio }) }

/-- A Lantern port returns to OFF: heaters at 0, chains stopped. -/
def Ltn.toOff (t : Ltn) : Ltn :=
  { t with state := .off, warm := none, resumeCal := false, upAt := none, limit := 0
           ring := t.ring.map (fun r => { faulty := r.faulty }), chain := t.chain.map (fun c => { range := c.range, ratio := c.ratio }) }

/-- The gate of a link port closes: its link goes down, a Lantern port goes off with its Lofin port's link
(R499, R519, R549). -/
def State.portClose (s : State) (u : Nat) : State :=
  if h : 0x2E ≤ u ∧ u < 0x32 then s.linkDown ⟨u - 0x2E, by omega⟩ .down
  else if h : 0x32 ≤ u ∧ u < 0x34 then
    let s := s.updLtn ⟨u - 0x32, by omega⟩ (fun t => { t.toOff with ring := t.ring.map (fun _ => {}), cause := .none })
    (s.linkDown ⟨u - 0x32, by omega⟩ .down).updLfn ⟨u - 0x32, by omega⟩ (fun x => { x with badLines := 0 })
  else s

/-- A link port is back in service: a port that is to be up trains, a Lantern port that is to be up enters CAL and its
Lofin port waits for it (R477, R519, R549). -/
def State.portService (s : State) (u : Nat) : State :=
  if h : 0x2E ≤ u ∧ u < 0x32 then
    let p : Fin 4 := ⟨u - 0x2E, by omega⟩
    if s.lfn.port[p].wantUp then s.trainStart p else s
  else if h : 0x32 ≤ u ∧ u < 0x34 then
    let t : Fin 2 := ⟨u - 0x32, by omega⟩
    let p : Fin 4 := ⟨u - 0x32, by omega⟩
    if s.lfn.port[p].wantUp then (s.updLtn t (·.toCal s.clock (some s.clock))).trainStart p else s
  else s

end Sys2Proof.Machine
end

