-- ==== Sys2Proof/Machine/Units.lean ====
section
/-!
DEFINITION. Gates, resets, fences and the discard path (19_faults_and_partial_reset).
-/
namespace Sys2Proof.Machine
open Sys2Proof

/-- A stage turn of TRACK waits for TRACK of the frame before. Frames of every slot pass what they can. -/
def State.advanceAll (s : State) : State := (List.range 64).foldl State.advance s

/-- The instance whose plan an item serves: of a frame the detector's in DETECT, the embedder's in EMBED; of a job its
own. -/
def State.itemInst (s : State) (i : Item) : Option Nat :=
  match i.origin with
  | .frame n seq =>
    let sl := s.slotN n
    match sl.frame? seq, sl.ana with
    | some f, some a => if f.stage ≤ 4 then some a.det else a.emb
    | _, _ => none
  | .job id => (s.mem.jobs.find? (fun j => j.id == id)).map Job.inst
  | _ => none

/-- An item is discarded whole: the pip it would have signalled is poisoned, its frame becomes a GAP with FAULT, its job
completes (R285, R543). -/
def State.itemDiscard (s : State) (i : Item) (st : Status) : State :=
  let s := match i.pip with
    | some p => s.pipApply p .poison (BitVec.ofNat 32 st.code)
    | none => s
  let s := match i.origin with
    | .frame n seq =>
      match (s.slotN n).frame? seq with
      | some f =>
        if f.gap.isSome || 8 ≤ f.stage then s.instSettle
        else ((s.dropQueued (·.ofFrame n seq) st).discard n seq .fault).advance n
      | none => s.instSettle
    | .job id => (((s.dropQueued (fun x => x.origin == Origin.job id) st).jobDoneId id st).instCut (64, id)).instSettle
    | _ => s
  { s with sched := { s.sched with cut := s.sched.cut.filter (fun c => c.1.origin != i.origin) } }

/-- The steps released from a poisoned pip are discarded with its status (R285). Their pips have been poisoned. -/
def State.settleCut (s : State) : State :=
  let l := s.sched.cut
  let s : State := { s with sched := { s.sched with cut := [] } }
  l.foldl (fun s c => s.itemDiscard { c.1 with pip := none } ((statusOf c.2).getD .internal)) s

/-- An item discarded by a closing unit also poisons the plan pips of its instance (R285). -/
def State.itemCut (s : State) (i : Item) (st : Status) : State :=
  let s := match s.itemInst i with
    | some k => if i.kind == ItemKind.step then s.poisonPlan k st else s
    | none => s
  s.itemDiscard i st

/-- The engines of a unit. -/
def unitEngines (u : Nat) : List Nat :=
  if u < 24 then [u] else if 0x18 ≤ u ∧ u < 0x1C then [28 + (u - 0x18)]
  else if u = 0x1D ∨ u = 0x1E then [24 + (u - 0x1D), 26 + (u - 0x1D)] else []

/-- Requests that an engine has accepted and not answered: its running, saved and incoming items. -/
def Engine.held (e : Engine) : List Item := e.running.toList ++ e.saved.toList ++ e.incoming.toList

/-- An engine's work when its gate closes: what it holds is discarded, what has not started goes back to the
dispatcher in order, its save slot is cleared (R320, R549). -/
def State.engineClose (s : State) (e : Nat) (st : Status) : State :=
  let x := s.engN e
  let back := x.queue.toList.flatten
  let again := back.filter (fun i => i.kind != ItemKind.probe && i.kind != ItemKind.vector)
  let s := s.updEngN e (fun x => { nextDue := x.nextDue })
  let s : State := { s with sched := { s.sched with waiting := s.sched.waiting ++ again } }
  let s := x.held.foldl (fun s i => s.itemCut i st) s
  let all := x.held ++ back
  all.foldl (fun s i => match i.origin with
    | .probe .diag => s.finish (.probe e) .discardedFault []
    | _ => s) s

/-- The decode loads bound to a VDE are bound afresh; their slots enter RESYNC (R305, R366). -/
def State.rebindVde (s : State) : State :=
  let vs := (List.range 4).filter (fun v => s.unitLive (0x18 + v))
  let ok := fun (d : Demand) => !d.decoded || d.vde.any (fun v => vs.contains v)
  let lost := s.sched.demand.filter (fun d => !ok d)
  let ds := rebind (s.sched.demand.filter ok) lost vs
  let s : State := { s with sched := { s.sched with
    demand := sortBy (fun a b => decide (a.slot ≤ b.slot)) ds
    waiting := s.sched.waiting.map (fun i => match i.kind, i.origin with
      | .decode, .frame n _ =>
        { i with only := (ds.find? (fun d => d.slot == n)).bind (fun d => d.vde.map (28 + ·)) }
      | _, _ => i) } }
  lost.foldl (fun s d => s.enterResync d.slot) s

/-- A slot accepts frames (R323). -/
def Slot.accepts (sl : Slot) : Bool := sl.state == .running || sl.state == .stale

/-- A slot loses its source (R349): the open frame is discarded and the slot becomes STALE. -/
def State.loseSource (s : State) (n : Nat) (c : LossCause) : State :=
  let sl := s.slotN n
  if sl.accepts then
    (s.dropOpen n).updSlotN n (fun sl => { sl with
      state := .stale
      ing := { sl.ing with cause := c, lineDue := none, frameDue := none, assyDue := none } })
  else s

/-- What a source forgets when it is lost: a receiver its lanes, a session its SSRC and the order that went with it
(R333, R338, R349). -/
def State.sourceForget (s : State) (n : Nat) : State :=
  match (s.slotN n).src with
  | none => s
  | some x =>
    match x.type with
    | .csi => if h : x.port < 6 then s.updCsi ⟨x.port, h⟩ (fun c => { c with lanes := 0, locked := false }) else s
    | .rtp =>
      if h : x.session < 64 then
        { s with io := { s.io with sess := updAt s.io.sess ⟨x.session, h⟩ (fun z =>
            if z.cfg.any (fun c => c.ssrc = 0) then { cfg := z.cfg } else { z with fu := none }) } }
      else s
    | .host => s

/-- A slot loses its source (R349). -/
def State.sourceLost (s : State) (n : Nat) (c : LossCause) : State :=
  if (s.slotN n).accepts then (s.loseSource n c).sourceForget n else s

/-- Slots bound to a CSI receiver. -/
def State.csiSlots (s : State) (k : Nat) : List Nat :=
  (List.range 64).filter (fun n => match (s.slotN n).src with | some c => c.type == .csi && c.port == k | none => false)

/-- The port of the session a slot names. -/
def State.slotEth (s : State) (n : Nat) : Option Nat :=
  match (s.slotN n).src with
  | some c => if c.type == .rtp then ((s.io.sess.toList.getD c.session {}).cfg).map SessCfg.port else none
  | none => none

/-- Slots bound to an Ethernet port. -/
def State.ethSlots (s : State) (e : Nat) : List Nat := (List.range 64).filter (fun n => s.slotEth n == some e)

/-- Slots whose source is behind a unit. -/
def State.unitSlots (s : State) (u : Nat) : List Nat :=
  if 0x28 ≤ u ∧ u < 0x2E then s.csiSlots (u - 0x28) else if u = 0x26 ∨ u = 0x27 then s.ethSlots (u - 0x26) else []

/-- Frames of every slot at a stage, not yet discarded. -/
def State.framesAt (s : State) (k : Nat) : List (Nat × U32) :=
  (List.range 64).flatMap (fun n => ((s.slotN n).frames.filter (fun f => f.stage = k && f.gap.isNone)).map (fun f => (n, f.seq)))

/-- What a unit holds is discarded (R543, R549 steps 1 to 3). -/
def State.unitDiscard (s : State) (u : Nat) (st : Status) : State :=
  let s := (unitEngines u).foldl (fun s e => s.engineClose e st) s
  let s :=
    if 0x18 ≤ u ∧ u < 0x1C then
      let mine := (s.sched.demand.filter (fun d => d.vde == some (u - 0x18))).map Demand.slot
      let s := mine.foldl (fun s n =>
        let s' := s.bufsBack n (s.slotN n).dec.refs 16 u
        (s'.enterResync n).updSlotN n (fun sl => { sl with dec := { sl.dec with refs := [], poc := none } })) s
      s.rebindVde
    else if u = 0x1C then
      let reading := s.str.encoding.toList
      let s : State := { s with str := { s.str with encoding := none, view := s.str.view.map (fun v => { v with idr := true }) } }
      let s := reading.foldl (fun s x => (s.veeSkip x.1).viewDone x.1 x.2) s
      (List.range 4).foldl State.veeSkipAll s
    else if u = 0x1F then
      let s := (s.framesAt 4).foldl (fun s x => s.discard x.1 x.2 .fault) s
      { s with str := { s.str with st := { s.str.st with ssuVec := false } } }
    else if u = 0x20 then { s with str := { s.str with st := { s.str.st with trkVec := false } } }
    else if 0x28 ≤ u ∧ u < 0x2E then
      let s := (s.csiSlots (u - 0x28)).foldl State.dropOpen s
      if h : u - 0x28 < 6 then s.updCsi ⟨u - 0x28, h⟩ (fun c => { c with lanes := 0, locked := false }) else s
    else if u = 0x26 ∨ u = 0x27 then
      let s := (s.ethSlots (u - 0x26)).foldl State.dropOpen s
      let s : State := { s with io := { s.io with sess := s.io.sess.map (fun z =>
        if z.cfg.any (fun c => c.port = u - 0x26) then { z with held := [], fu := none } else z) } }
      if h : u - 0x26 < 2 then s.updEth ⟨u - 0x26, h⟩ (fun e => { e.count 5 e.queue.length with queue := [], up := false }) else s
    else s.portClose u
  s.advanceAll

/-- A unit's gate closes and its work is discarded: the epoch advances once, the accepted requests are answered with
tombstones (R546, R549 steps 1 to 3). -/
def State.unitClose (s : State) (u : Nat) (st : Status) : State :=
  if (s.gateN u).closed then s
  else
    let held := ((unitEngines u).map (fun e => (s.engN e).held.length)).sum
    let now := s.clock
    let s := (s.gateClose u).updGate u (fun g => { g with seqAt := now, tombstones := held })
    s.unitDiscard u st

/-- A unit enters service: its probe or reference vectors fall due afresh, its learned state is empty (R311, R578,
R549 step 4). -/
def State.unitFresh (s : State) (u : Nat) : State :=
  let now := s.clock
  let s := (unitEngines u).foldl (fun s e => s.updEngN e (fun x =>
    { x with nextDue := some (now + (if e < 8 then 10000 else 20000)) })) s
  let st := s.str.st
  if h : u < 8 then s.updTower ⟨u, h⟩ (fun t => { t with images := [], cb := [], loading := false })
  else if h : 8 ≤ u ∧ u < 24 then s.updVpu ⟨u - 8, by omega⟩ (fun v => { v with images := [], loading := false })
  else if u = 0x1F then { s with str := { s.str with st := { st with ssuDue := some (now + 20000) } } }
  else if u = 0x20 then { s with str := { s.str with st := { st with trkDue := some (now + 20000) } } }
  else s.portService u

/-- The gate opens: the unit is back in service (R549 step 6). -/
def State.unitOpen (s : State) (u : Nat) : State :=
  let s := s.updGate u (fun g => { g with closed := false, draining := false, seq := none })
  let s := s.unitFresh u
  let s := if 0x18 ≤ u ∧ u < 0x1C then s.rebindVde else s
  let s := (s.unitSlots u).foldl (fun s n => s.updSlotN n (fun sl => { sl with ing := { sl.ing with fenced := false } })) s
  (s.dispatch.reevaluate).advanceAll

/-- The response data of a unit command (06, Reset and power commands). -/
def State.unitData (s : State) (u result : Nat) : List Byte :=
  let g := s.gateN u
  leBytes 1 result ++ leBytes 1 g.epoch.toNat ++ zeros 2 ++ leBytes 4 g.tombstones ++ leBytes 4 (s.clock - g.seqAt)

/-- The response data of POWER_UNIT: EPOCH and TIME_US. -/
def State.powerData (s : State) (u time : Nat) : List Byte :=
  zeros 1 ++ leBytes 1 (s.gateN u).epoch.toNat ++ zeros 6 ++ leBytes 4 time

/-- A command in progress on a unit completes (R206). -/
def State.unitFinish (s : State) (u : Nat) (st : Status) (data : List Byte) : State :=
  ((s.finish (.resetUnit u) st data).finish (.powerUnit u) st data).finish (.unitFence u) st data

/-- A unit is fenced automatically; one that is fenced stays so. A command in progress on it completes with DISCARDED_FAULT
(R206, R552, R554). -/
def State.fence (s : State) (u : Nat) (detail : U32) : State :=
  if !unitGateable u || s.unitAbsent u then s else
  let s := s.faultLog u Status.discardedFault.code detail
  if (s.gateN u).fenced then
    (s.updGate u (fun g => { g with draining := false, seq := none })).unitFinish u .discardedFault []
  else
    let s := s.unitClose u .discardedFault
    let s := s.updGate u (fun g => { g with fenced := true, draining := false, seq := none })
    let s := (s.unitSlots u).foldl (fun s n =>
      (s.sourceLost n (s.slotN n).ing.cause).updSlotN n (fun sl => { sl with ing := { sl.ing with fenced := true } })) s
    let s := (s.unitFinish u .discardedFault []).raiseUnit
    (s.dispatch.reevaluate).advanceAll

/-- A reset of a unit begins: gate, discards, queued items back; it ends with UNIT_RESET_COMPLETE (R549). The gate of a
fenced unit is closed already. -/
def State.resetStart (s : State) (u : Nat) : State :=
  let now := s.clock
  let s := if (s.gateN u).closed then s.updGate u (fun g => { g with seqAt := now, tombstones := 0 })
    else s.unitClose u .abortedReset
  let s := (s.updGate u (fun g => { g with seq := some .reset, draining := true })).raiseUnit
  (s.dispatch).reevaluate

/-- Firmware's automatic reset of a stopped unit: the second within 1 s is a fence (R551). -/
def State.autoReset (s : State) (u : Nat) : State :=
  let now := s.clock
  if (s.gateN u).lastAuto.any (fun t => now ≤ t + 1000000) then s.fence u 0
  else
    let s := s.faultLog u Status.abortedReset.code 0
    let s := s.updGate u (fun g => { g with lastAuto := some now })
    s.resetStart u

/-- UNIT_RESET_COMPLETE: the unit has been initialised, no message of the epoch can return, the gate opens unless the
unit is fenced (R549 steps 4 to 6). -/
def execUnitResetComplete (unit : Nat) (s : State) : Res :=
  whenLive s fun s =>
    if (s.gateN unit).seq == some .reset then
      if (s.gateN unit).fenced then
        let s := s.updGate unit (fun g => { g with seq := none, draining := false })
        s.unitFinish unit .ok (s.unitData unit 0)
      else
        let s := s.unitOpen unit
        s.unitFinish unit .ok (s.unitData unit 0)
    else s

/-- UNIT_POWER_ON_DONE: a unit that was powered on is initialised; the gate opens unless the unit is fenced; its epoch
is unchanged (R550). -/
def execUnitPowerOnDone (unit : Nat) (s : State) : Res :=
  whenLive s fun s =>
    if (s.gateN unit).seq == some .powerOn && (s.gateN unit).powered then
      let s := if (s.gateN unit).fenced then s.updGate unit (fun g => { g with seq := none, draining := false })
        else s.unitOpen unit
      s.unitFinish unit .ok (s.powerData unit (s.clock - (s.gateN unit).seqAt))
    else s

/-- EPOCH_DRAIN_TIMEOUT: a count of on-chip transactions is still not zero 200 µs after the closure: a device fault
(R562). -/
def execEpochDrainTimeout (unit : Nat) (s : State) : Res :=
  whenLive s fun s =>
    let g := s.gateN unit
    if g.closed && g.draining && g.seqAt + 200 ≤ s.clock then s.deviceFault unit 0 0 else s

/-- STALE_EPOCH_DROP: a message with another epoch than its unit's is dropped and counted (R547). -/
def execStaleEpochDrop (unit : Nat) (epoch : BitVec 8) (s : State) : Res :=
  whenLive s fun s =>
    if (s.gateN unit).epoch != epoch then s.updGate unit (fun g => { g with staleDrops := satInc g.staleDrops }) else s

/-- UNIT_INTERNAL_FAULT: a CSI receiver, Ethernet port or Lantern port reports a fault of its own and is fenced, a
Lantern port with its Lofin port (R355, R525, R552). -/
def execUnitInternalFault (unit : Nat) (s : State) : Res :=
  whenLive s fun s =>
    if unit = 0x32 ∨ unit = 0x33 then (s.fence unit 0).fence (unit - 4) 0
    else if (0x26 ≤ unit ∧ unit < 0x2E) then s.fence unit 0
    else s

/-- The reset to service of a unit, in µs from the closure of its gate (R550). -/
def unitResetUs (u : Nat) : Nat :=
  if u < 0x08 then 40 else if u < 0x18 then 25 else if u < 0x1C then 2000 else if u = 0x1C then 1000
  else if u < 0x1F then 150 else if u = 0x1F then 50 else if u = 0x20 then 200
  else if 0x26 ≤ u ∧ u < 0x28 then 5000 else if 0x28 ≤ u ∧ u < 0x2E then 100
  else if 0x2E ≤ u ∧ u < 0x32 then 250 else 80000

/-- When the sequence in progress on a unit is expected to end: power-on settles for 20 µs before what a reset takes
(R550). -/
def UnitGate.readyAt (g : UnitGate) (u : Nat) : Nat :=
  g.seqAt + unitResetUs u + (if g.seq == some .powerOn then 20 else 0)

/-- UNIT_READY_TIMEOUT: a unit has not reported ready 1 ms after the time expected of its reset or power-on: it is fenced
(R550, R566). -/
def execUnitReadyTimeout (unit : Nat) (s : State) : Res :=
  whenLive s fun s =>
    let g := s.gateN unit
    if g.seq.isSome && g.readyAt unit + 1000 ≤ s.clock then s.fence unit 0 else s

end Sys2Proof.Machine
end

