-- ==== Sys2Proof/Machine/Engines.lean ====
section
/-!
DEFINITION. Work items on Towers and VPUs, probes, reference vectors, image loads, the scrubber (10, 14, 20 R578).
-/
namespace Sys2Proof.Machine
open Sys2Proof

/-- The key of R35: class, then place among the ends of INGEST or acceptances, then slot (a job accepted between two ends
of INGEST stands between them). Ends in one CLK_FABRIC cycle stand in the queue in ascending slot order (log entry 1). -/
def claimKey (c : Cls) (order slot : Nat) : List Int := [(c.code : Int), (order : Int), (slot : Int)]

/-- Frames that wait for an instance at stage `k`: in DETECT's case at PREP, in EMBED's at CROP. -/
def State.frameClaims (s : State) (inst : Nat) : List (List Int × (Nat × U32)) :=
  (List.range 64).flatMap (fun n =>
    let sl := s.slotN n
    match sl.ana with
    | none => []
    | some a => (sl.frames.filter (fun f => f.gap.isNone && !f.queued && s.stageTurn n f.stage f.seq &&
        ((f.stage = 2 && a.det == inst) || (f.stage = 5 && a.emb == some inst && f.crops != [])))).map
      (fun f => (claimKey a.cls f.order n, (n, f.seq))))

/-- Jobs that wait for an instance. -/
def State.jobClaims (s : State) (inst : Nat) : List (List Int × (Nat × U32)) :=
  (s.mem.jobs.filter (fun j => j.inst == inst && j.state == .queued)).map
    (fun j => (claimKey j.cls j.order (64 + j.id.toNat), (64, j.id)))

/-- The instance serves this claimant, or is free and would take it next (R35, R190). -/
def State.instTakes (s : State) (inst : Nat) (who : Nat × U32) : Bool :=
  match lookupN s.mem.insts inst with
  | none => false
  | some i => match i.serving with
    | some w => w == who
    | none => (argMin Prod.fst (s.frameClaims inst ++ s.jobClaims inst)).map Prod.snd == some who

/-- The instance now serves this claimant. -/
def State.instServe (s : State) (inst : Nat) (who : Nat × U32) : State :=
  { s with mem := { s.mem with insts := s.mem.insts.map (fun x =>
    if x.1 == inst then (x.1, { x.2 with serving := some who }) else x) } }

/-- What an eligible item becomes in this state: its level, group, engine, model and context; `none` when the item is
not the next work of its frame or job. The instance it needs is the second part. -/
def State.admitItem (s : State) (i : Item) : Option (Item × Option (Nat × (Nat × U32))) :=
  match i.kind, i.origin with
  | .maintenance, .maintenance =>
    if i.group == .tower || i.group == .vpu then some ({ i with level := 3, pip := i.pip }, none) else none
  | k, .frame n seq =>
    let sl := s.slotN n
    match sl.frame? seq, sl.ana with
    | some f, some a =>
      let base := { i with level := a.cls.level, ctx := sl.ctx, only := none, saved := false, promoted := false, overAt := none }
      let ready := !f.queued && s.stageTurn n f.stage seq
      let model := fun (inst : Nat) => (lookupN s.mem.insts inst).map Inst.model
      match k with
      | .decode =>
        if ready && f.stage = 1 && !f.busy && f.src.isSome && !f.waitBuf && sl.decoded then
          (s.vdeOf n).map (fun v => ({ base with group := .vde, only := some (28 + v) }, none))
        else none
      | .prep =>
        if ready && f.stage = 2 && f.gap.isNone && !f.busy && s.instTakes a.det (n, seq) then
          some ({ base with group := .scan }, some (a.det, (n, seq)))
        else none
      | .crop =>
        match a.emb with
        | some e => if ready && f.stage = 5 && f.gap.isNone && !f.busy && s.instTakes e (n, seq) then
            some ({ base with group := .region }, some (e, (n, seq))) else none
        | none => none
      | .step =>
        if (i.group == .tower || i.group == .vpu) && ready && f.gap.isNone then
          if f.stage = 3 then some ({ base with model := model a.det }, none)
          else if f.stage = 6 then a.emb.map (fun e => ({ base with model := model e }, none))
          else none
        else none
      | .cost =>
        if ready && f.stage = 7 && f.gap.isNone && !f.costDone && !f.busy then some ({ base with group := .tower, model := none }, none)
        else none
      | _ => none
    | _, _ => none
  | .step, .job id =>
    match s.mem.jobs.find? (fun j => j.id == id) with
    | none => none
    | some j =>
      if (i.group == .tower || i.group == .vpu) && (j.state == .queued || j.state == .running) && s.instTakes j.inst (64, id) then
        some ({ i with level := if j.cls == .b then 2 else 1, ctx := j.ctx, only := none, saved := false, promoted := false,
                       overAt := none, model := (lookupN s.mem.insts j.inst).map Inst.model }, some (j.inst, (64, id)))
      else none
  | _, _ => none

/-- The unit that an item is placed at; the first of its group while it waits in the dispatcher. -/
def State.placedUnit (s : State) (i : Item) : Nat :=
  match s.place i with
  | .start e | .preempt e | .queue e | .yieldAt e => unitOfEng e
  | .wait => unitOfEng i.group.base

/-- The input of a job is read from IN_VA, through its context, into the input slot of its instance when the job takes the
instance; or the status that ends the job (R212, R219, R238, R425, R426). -/
def State.jobInput (s : State) (i : Item) (inst : Nat) : State × Option Status :=
  match i.origin, lookupN s.mem.insts inst with
  | .job id, some x =>
    match s.mem.jobs.find? (fun j => j.id == id), lookupN s.mem.models x.model with
    | some j, some m =>
      if x.serving.isSome then (s, none)
      else
        let n := tensorBytes (blockOf m.inC32) m.inC m.inH m.inW (actBytes m.inFormat)
        let r := s.ctxGet (s.placedUnit i) j.ctx j.inVa n
        match r.2 with
        | .ok bs => (r.1.memWrite (fsBase + x.granule * 65536) bs, none)
        | .error st => (r.1, some st)
    | _, _ => (s, none)
  | _, _ => (s, none)

/-- The item that becomes eligible: the guarded one of this identity when none of its waits is left, an unguarded one as it is
given (R277, R296). -/
def State.released (s : State) (item : Item) : Option Item :=
  match s.sched.guarded.find? (fun i => i.id == item.id) with
  | none => some item
  | some g => if (s.pip.watch ++ s.pip.overflow).any (fun w => w.ofItem g.id) then none else some g

/-- WORK_ITEM_ELIGIBLE: the waits that guard an item are released and the dispatcher places it (R277, R296, R303–R306). An
item that is not the next work of its frame or job is no work item of the device. -/
def execWorkItemEligible (item : Item) (s : State) : Res :=
  whenLive s fun s =>
    match (s.released item).bind s.admitItem with
    | none => s
    | some (i, serve) =>
      let i := { i with id := s.sched.nextId, ran := 0, acc := [], prev := none, retry := none }
      let s : State := { s with sched := { s.sched with
        nextId := s.sched.nextId + 1, guarded := s.sched.guarded.filter (fun g => g.id != item.id) } }
      let r := match serve with
        | some (inst, who) =>
          let r := s.jobInput i inst
          (r.1.instServe inst who, r.2)
        | none => (s, none)
      match r.2 with
      | some st => r.1.itemDiscard i st
      | none =>
        let s := match i.origin with
          | .frame n seq => if i.kind == ItemKind.step then r.1 else r.1.updFrame n seq (fun f => { f with busy := true })
          | _ => r.1
        s.carry i (s.place i)

/-- SAVE_RESTORE_DONE: the transfer ends and the incoming or resumed item starts; an item whose transfer meets an
uncorrectable error or a directory mismatch is discarded with a log entry of the Feature Store (R306, R307, R321). -/
def execSaveRestoreDone (e : Fin 32) (err : Bool) (s : State) : Res :=
  whenLive s fun s =>
    let x := s.sched.eng[e]
    match x.incoming with
    | none => s
    | some i =>
      if err then
        let s := s.faultLog 0x37 Status.discardedFault.code (BitVec.ofNat 32 e.val)
        if i.saved then ((s.updEng e (fun x => { x with incoming := none })).itemDiscard i .discardedFault).engineDone e.val
        else match x.saved with
          | some j => ((s.updEng e (fun x => { x with saved := none })).itemDiscard j .discardedFault).restoreDone e.val
          | none => s.restoreDone e.val
      else s.restoreDone e.val

/-- A unit's engine carries the running item on: live and no load in progress. -/
def State.engRuns (s : State) (e : Nat) : Option Item :=
  if !s.unitLive (unitOfEng e) then none
  else if e < 8 && (s.str.tower.toList.getD e {}).loading then none
  else if 8 ≤ e && e < 24 && (s.str.vpu.toList.getD (e - 8) {}).loading then none
  else (s.engN e).running

/-- The frame of an item is still the one its stage works for. -/
def State.itemFrame (s : State) (i : Item) : Option (Nat × Frame) :=
  match i.origin with
  | .frame n seq => match (s.slotN n).frame? seq with
    | some f => if f.gap.isNone then some (n, f) else none
    | none => none
  | _ => none

/-- A completed item's consequences: its pip, and when it is the last of its stage or job the stage or job (R27, R191). -/
def State.itemOk (s : State) (i : Item) (candAt : Nat) (emb : List (Nat × List U32)) : State :=
  let s := match i.pip with | some p => s.pipApply p .add 1 | none => s
  match i.origin with
  | .frame n seq =>
    match s.itemFrame i with
    | none => s.instSettle
    | some (_, f) =>
      if i.kind == ItemKind.cost then s.updFrame n seq (fun f => { f with costDone := true, busy := false })
      else if !i.last then s
      else if f.stage = 3 then
        let s := s.updFrame n seq (fun f => { f with candAt := candAt })
        ((s.instDone (n, seq)).passStage n seq).advance n
      else if f.stage = 6 then
        let s := s.bufsBack n f.crop 13 0x1D
        let s := s.updFrame n seq (fun f => { f with emb := emb.filter (fun e => f.crops.contains e.1), crop := [] })
        ((s.instDone (n, seq)).passStage n seq).advance n
      else s
  | .job id =>
    if !i.last then s.instSettle
    else
      (s.instDone (64, id)).jobDoneId id .ok
  | _ => s

/-- The ECC word of a Tower's image is lost: the image is invalidated; the second within 10 ms fences the Tower (R438). -/
def State.wbInvalidate (s : State) (t : Fin 8) (model : Nat) : State :=
  let x := s.str.tower[t]
  let now := s.clock
  let mine := (s.engN t.val).running.any (fun i => i.model == some model)
  let s := s.updTower t (fun x => { x with
    images := x.images.filter (·.model != model), wbReload := satInc x.wbReload, lastInval := some now
    loading := x.loading || mine })
  if x.lastInval.any (fun p => now ≤ p + 10000) then s.fence t.val 0 else s

/-- A plan error: logged, the item is discarded, no unit is fenced (R407, R410). -/
def State.planError (s : State) (e : Nat) (i : Item) : State :=
  ((s.faultLog (unitOfEng e) Status.invalidField.code 0).engineDone e).itemDiscard i .invalidField

/-- A Feature Store access outside an item's bounds is not performed: logged, counted, the item is discarded (R425). -/
def State.boundRefused (s : State) (e : Nat) (i : Item) (off : Nat) : State :=
  let s := s.faultLog (unitOfEng e) Status.denied.code (BitVec.ofNat 32 off)
  let s : State := { s with str := { s.str with fs := { s.str.fs with boundRefused := satInc s.str.fs.boundRefused } } }
  (s.engineDone e).itemDiscard i .denied

/-- The partition that an item may read and write: device address and bytes; an item without an instance has none (R425). -/
def State.itemRange (s : State) (i : Item) : Nat × Nat :=
  match (s.itemInst i).bind (fun k => lookupN s.mem.insts k) with
  | some x => (fsBase + x.granule * 65536, x.granules * 65536)
  | none => (fsBase, 0)

/-- The first access of these that lies outside the item's partition. -/
def State.outside (s : State) (i : Item) (l : List (Nat × Nat)) : Option Nat :=
  (l.find? (fun a => a.1 < (s.itemRange i).1 || (s.itemRange i).1 + (s.itemRange i).2 < a.1 + a.2)).map Prod.fst

/-- A write of an item goes to the Feature Store. -/
def inStore (w : Nat × List Byte) : Bool := fsBase ≤ w.1 && w.1 < fsBase + 0x8000000

/-- The writes outside the Feature Store are those that R426 leaves a plan: of a job's last item, into OUT_VA's range. An
item never ends with others. -/
def State.outputOk (s : State) (i : Item) (ws : List (Nat × List Byte)) : Bool :=
  match i.origin with
  | .job id => ws.isEmpty || (i.last && (s.mem.jobs.find? (fun j => j.id == id)).any (fun j =>
      ws.all (fun w => j.outVa ≤ w.1 && w.1 + w.2.length ≤ j.outVa + j.outBytes)))
  | _ => ws.isEmpty

/-- A job's output is written through its context; the status that ends the job where a write is refused or not performed
(R212, R219, R239, R426). -/
def State.outputPut (s : State) (unit : Nat) (i : Item) (ws : List (Nat × List Byte)) : State × Option Status :=
  ws.foldl (fun x w => if x.2.isSome then x else x.1.ctxPut unit i.ctx w.1 w.2) (s, none)

/-- An item's request through the outbound window waits at the endpoint (R111). -/
def State.itemHeld (s : State) (i : Item) : Bool := s.host.pcie.outWait.any (fun w => w.item == some i.id)

/-- An item ends with its results: those in its partition are written, those of a job go out through its context (R425,
R426). -/
def State.itemEnds (s : State) (e : Nat) (i : Item) (writes : List (Nat × List Byte)) (candAt : Nat)
    (emb : List (Nat × List U32)) : State :=
  let fs := writes.filter inStore
  let out := writes.filter (fun w => !inStore w)
  if !s.outputOk i out then s
  else match s.outside i (fs.map (fun w => (w.1, w.2.length))) with
    | some a => s.boundRefused e i (a - fsBase)
    | none =>
      let r := (fs.foldl (fun s w => s.memWrite w.1 w.2) s).outputPut (unitOfEng e) i out
      match r.2 with
      | some st => (r.1.engineDone e).itemDiscard i st
      | none => (r.1.engineDone e).itemOk i candAt emb

/-- ENGINE_ITEM_COMPLETE: the item a Tower or VPU runs ends; the engine takes its next item (R297, R407, R425, R427,
R434, R438). -/
def execEngineItemComplete (e : Fin 32) (r : ItemEnd) (s : State) : Res :=
  whenLive s fun s =>
    if h : 24 ≤ e.val then s
    else match s.engRuns e.val with
    | none => s
    | some i =>
      if i.kind == ItemKind.probe || i.kind == ItemKind.vector || s.itemHeld i then s
      else
        let unit := unitOfEng e.val
        let stop := fun (s : State) (st : Status) => (s.engineDone e.val).itemDiscard i st
        match r with
        | .ok writes candAt emb => s.itemEnds e.val i writes candAt emb
        | .bound off => s.boundRefused e.val i off
        | .poisoned => stop (s.strike (s.itemRange i).1 (s.itemRange i).2) .discardedFault
        | .plan => s.planError e.val i
        | .wbUe model => if h8 : e.val < 8 then s.wbInvalidate ⟨e.val, h8⟩ model else s
        | .vpuUe =>
          if h8 : 8 ≤ e.val then
            let v : Fin 16 := ⟨e.val - 8, by omega⟩
            let now := s.clock
            let again := s.str.vpu[v].lastUe.any (fun t => now ≤ t + 1000000)
            let s := stop (s.updVpu v (fun x => { x with lastUe := some now })) .discardedFault
            if again then s.fence unit 0 else s
          else s

/-- An image joins those held: images that share a codebook slot leave, then the least recently used that the totals
require; the incoming one is most recent (R414). -/
def imagesWith (held : List Image) (new : Image) (maxBytes maxSlots : Nat) : List Image :=
  let apart := held.filter (fun m => m.model != new.model && !(m.slots.any (new.slots.contains ·)))
  apart.foldl (fun acc m =>
    let b := ((acc ++ [m]).map Image.bytes).sum
    let n := ((acc ++ [m]).map (fun x => x.slots.length)).sum
    if acc.length ≤ 64 && b ≤ maxBytes && n ≤ maxSlots then acc ++ [m] else acc) [new]

/-- A codebook header keeps R389. -/
def bookOk (b : List Byte) : Bool :=
  let k := byteAt b 0
  let f := byteAt b 1
  (k == 4 || k == 8) && (f == 1 || f == 2 || f == 4) && (byteAt b 2).toNat < 64 && ((b.drop 3).take 13).all (· == 0) &&
    b.length == 16 + (if k == 4 then 32 else 512)

/-- A load reads a package with an error that cannot be corrected, which is reported (R238, R438). -/
def State.packageStruck (s : State) (model : Option Nat) : State :=
  match model.bind (lookupN s.mem.models) with
  | some m => (s.strike m.pa m.size).readSense m.pa m.size
  | none => s

/-- WEIGHT_IMAGE_LOAD_DONE: a whole image and its codebooks have been loaded for the running item, which may go on; a
package read with an uncorrectable error discards it, a bad codebook header is a plan error (R407, R413, R414, R438). -/
def execWeightImageLoadDone (t : Fin 8) (ok : Bool) (books : List (List Byte)) (s : State) : Res :=
  whenLive s fun s =>
    match (s.engN t.val).running with
    | none => s
    | some i =>
      if !s.str.tower[t].loading || !s.unitLive t.val then s
      else if !ok then
        (((s.packageStruck i.model).updTower t (fun x => { x with loading := false })).engineDone t.val).itemDiscard i .discardedFault
      else if !books.all bookOk then
        let s := s.faultLog t.val Status.invalidField.code 0
        ((s.updTower t (fun x => { x with loading := false })).engineDone t.val).itemDiscard i .invalidField
      else
        match i.model with
        | none => s.updTower t (fun x => { x with loading := false })
        | some m =>
          let bytes := match lookupN s.mem.models m with | some x => x.wbBytes | none => 0
          let slots := books.map (fun b => (byteAt b 2).toNat)
          s.updTower t (fun x => { x with
            loading := false, imageLoads := x.imageLoads + 1
            images := imagesWith x.images { model := m, bytes := bytes, slots := slots } 2097152 64
            cb := books.foldl (fun c b => insertN c (byteAt b 2).toNat (b.drop 16)) x.cb })

/-- VPU_LOCAL_LOAD_DONE: a model's local bytes have been loaded for the running item (R434). -/
def execVpuLocalLoadDone (v : Fin 16) (ok : Bool) (s : State) : Res :=
  whenLive s fun s =>
    match (s.engN (8 + v.val)).running with
    | none => s
    | some i =>
      if !s.str.vpu[v].loading || !s.unitLive (8 + v.val) then s
      else if !ok then
        (((s.packageStruck i.model).updVpu v (fun x => { x with loading := false })).engineDone (8 + v.val)).itemDiscard i .discardedFault
      else
        let m := i.model.getD 0
        let bytes := match lookupN s.mem.models m with | some x => x.vpuLocal | none => 0
        s.updVpu v (fun x => { x with
          loading := false, images := imagesWith x.images { model := m, bytes := bytes, slots := [] } 262144 64 })

/-- A probe item for Tower `t` (R311, R432). -/
def probeItem (t id : Nat) (by_ : ProbeBy) : Item :=
  { id := id, kind := .probe, origin := .probe by_, group := .tower, level := 0, ctx := 0, only := some t, last := true }

/-- A probe is placed at level 0 on its Tower only. -/
def State.placeProbe (s : State) (t : Nat) (by_ : ProbeBy) : State :=
  let i := probeItem t s.sched.nextId by_
  let s : State := { s with sched := { s.sched with nextId := s.sched.nextId + 1 } }
  s.carry i (s.place i)

/-- Change the item of an identity that has been placed and has not started. -/
def State.updQueued (s : State) (id : Nat) (f : Item → Item) : State :=
  let g := fun (i : Item) => if i.id == id then f i else i
  { s with sched := { s.sched with
      waiting := s.sched.waiting.map g
      eng := s.sched.eng.map (fun x => { x with queue := x.queue.map (List.map g), incoming := x.incoming.map g }) } }

/-- A probe falls due, or a check failure asks for one: a probe of the other cause that has been placed and has not started
serves both; else one is placed (R311, R431; 14, When things fall together). -/
def State.wantProbe (s : State) (t : Nat) (by_ other : ProbeBy) : State :=
  let x := s.engN t
  match (x.incoming.toList ++ x.queue.toList.flatten ++ s.sched.waiting).find? (fun i =>
      i.only == some t && i.origin == .probe other) with
  | some i => s.updQueued i.id (fun i => { i with origin := .probe .both })
  | none => s.placeProbe t by_

/-- Change the item an engine runs. -/
def State.updRunning (s : State) (e : Nat) (f : Item → Item) : State :=
  s.updEngN e (fun x => { x with running := x.running.map f })

/-- A tile-run that passed: its partial results are accumulated, and a completed run goes through the post-op unit into
the partition (R418, R419). -/
def State.tileAccept (s : State) (t : Fin 8) (i : Item) (r : TileRun) (o : TileOut) : State :=
  let acc := r.accumulate i.acc o.s
  let s := s.updRunning t.val (fun i => { i with acc := acc, prev := some r, retry := none })
  match r.last with
  | none => s
  | some p =>
    let ws := r.writes p acc
    match s.outside i (ws.map (fun w => (w.1, w.2.length))) with
    | some a => s.boundRefused t.val i (a - fsBase)
    | none =>
      let s := s.updRunning t.val (fun i => { i with acc := [], prev := none })
      if i.kind == ItemKind.step then ws.foldl (fun s w => s.memWrite w.1 w.2) s else s

/-- What the array delivers for a tile-run, with the values that are wrong, and whether the comparators pass it. -/
def State.tileOut (s : State) (t : Fin 8) (r : TileRun) (faults : List (TileSite × U32)) : TileOut × Bool :=
  let e := actBytes r.conv.fmt
  let x := r.vectors (fun a => s.memNat a e)
  let w := r.tileW s.str.tower[t].cb
  let o := faults.foldl TileOut.fault (r.sound x w)
  (o, r.pass x w o)

/-- TILE_RUN_COMPLETE: a tile-run of the running item ends: bounds and the plan's parameters are checked, the array's
results are compared with the checksum row and column; a mismatch starts the one retry, a match accumulates
(R410–R421, R425, R427–R431). -/
def execTileRunComplete (t : Fin 8) (r : TileRun) (faults : List (TileSite × U32)) (s : State) : Res :=
  whenLive s fun s =>
    match s.engRuns t.val with
    | none => s
    | some i =>
      if i.kind == ItemKind.probe || i.retry.isSome then s
      else if !r.ok then s.planError t.val i
      else if !r.follows i.prev then s
      else
        let e := actBytes r.conv.fmt
        match if i.kind == ItemKind.cost then none else s.outside i (r.reads.map (fun a => (a, e))) with
        | some a => s.boundRefused t.val i (a - fsBase)
        | none =>
          if r.reads.any (fun a => s.readUe a e) then (s.engineDone t.val).itemDiscard i .discardedFault
          else
            let inj := s.kpr.inject == some (4, t.val)
            let s := if inj then s.updKpr (fun k => { k with inject := none }) else s
            let o := s.tileOut t r faults
            if o.2 && !inj then s.tileAccept t i r o.1
            else s.updRunning t.val (fun i => { i with retry := some r })

/-- TILE_RUN_RETRY_DONE: the retry, from the same inputs and accumulators, passes and the item goes on, or it fails: the
item is discarded, a probe is placed, and the third failure within 1 s fences the Tower (R431, R437). -/
def execTileRunRetryDone (t : Fin 8) (faults : List (TileSite × U32)) (s : State) : Res :=
  whenLive s fun s =>
    match s.engRuns t.val with
    | none => s
    | some i =>
      match i.retry with
      | none => s
      | some r =>
        let o := s.tileOut t r faults
        if o.2 then (s.updTower t (fun x => { x with abftRetry := satInc x.abftRetry })).tileAccept t i r o.1
        else
          let now := s.clock
          let recent := now :: s.str.tower[t].fails.filter (fun c => now ≤ c + 1000000)
          let s := s.updTower t (fun x => { x with abftFail := satInc x.abftFail, fails := recent })
          let s := s.faultLog t.val Status.discardedFault.code 0
          let s := (s.engineDone t.val).itemDiscard i .discardedFault
          if 3 ≤ recent.length then s.fence t.val 0
          else s.wantProbe t.val .check .due

/-- The cycles of CLK_CORE that an item may run, in fifteenths (R299). -/
def runLimit : Nat := 400000 * 15

/-- RUN_LIMIT_EXCEEDED: an item that has run 400,000 cycles is stopped and discarded; the engine is not fenced (R299). -/
def execRunLimitExceeded (e : Fin 32) (s : State) : Res :=
  whenLive s fun s =>
    match (s.engN e.val).running with
    | none => s
    | some i =>
      if 24 ≤ e.val || i.kind == ItemKind.probe || i.ran < runLimit then s
      else
        let s := s.faultLog (unitOfEng e.val) Status.discardedFault.code 0
        let s := if h : e.val < 8 then s.updTower ⟨e.val, h⟩ (fun x => { x with loading := false }) else s
        let s := if h : 8 ≤ e.val ∧ e.val < 24 then s.updVpu ⟨e.val - 8, by omega⟩ (fun x => { x with loading := false }) else s
        (s.engineDone e.val).itemDiscard i .discardedFault

/-- PROBE_DUE: a Tower's probe falls due and is placed at level 0 on it; one that a check failure has placed and that
has not started serves both (R311; 14, When things fall together). -/
def execProbeDue (t : Fin 8) (s : State) : Res :=
  whenLive s fun s =>
    match (s.engN t.val).nextDue with
    | none => s
    | some d =>
      if s.clock < d || !s.unitLive t.val then s
      else
        let s := s.updEngN t.val (fun x => { x with nextDue := some (d + 10000) })
        s.wantProbe t.val .due .check

/-- PROBE_COMPLETE: the four passes of a probe have run; a failed pass fences the Tower (R432, R585). -/
def execProbeComplete (t : Fin 8) (passes : Vector Bool 4) (s : State) : Res :=
  whenLive s fun s =>
    match s.engRuns t.val with
    | none => s
    | some i =>
      if i.kind != ItemKind.probe then s
      else
        let inj := s.kpr.inject == some (5, t.val)
        let s := if inj then s.updKpr (fun k => { k with inject := none }) else s
        let pass := passes.toList.all id && !inj
        let time := s.devTime
        let s := s.updTower t (fun x => { x with
          probeRuns := x.probeRuns + 1, lastProbe := time, probeFail := if pass then x.probeFail else satInc x.probeFail })
        let s := if i.origin == .probe .diag then s.finish (.probe t.val) .ok (leBytes 1 (if pass then 0 else 1)) else s
        let s := s.engineDone t.val
        if pass then s else s.fence t.val 0

/-- A reference vector for engine `e`. -/
def vectorItem (e id : Nat) : Item :=
  { id := id, kind := .vector, origin := .vector, group := groupOf e, level := 0, ctx := 0, only := some e, last := true }

/-- REFERENCE_VECTOR_DUE: a unit's vector falls due; indexes 8–31 are engines, 32 the SSU, 33 TRK (R578). -/
def execReferenceVectorDue (e : Fin 34) (s : State) : Res :=
  whenLive s fun s =>
    let st := s.str.st
    if e.val = 32 then
      match st.ssuDue with
      | some d => if s.clock < d || !s.unitLive 0x1F then s
        else { s with str := { s.str with st := { st with ssuDue := some (d + 20000), ssuVec := true } } }
      | none => s
    else if e.val = 33 then
      match st.trkDue with
      | some d => if s.clock < d || !s.unitLive 0x20 then s
        else { s with str := { s.str with st := { st with trkDue := some (d + 20000), trkVec := true } } }
      | none => s
    else if e.val < 8 then s
    else match (s.engN e.val).nextDue with
      | none => s
      | some d =>
        if s.clock < d || !s.unitLive (unitOfEng e.val) then s
        else
          let i := vectorItem e.val s.sched.nextId
          let s : State := { s with sched := { s.sched with nextId := s.sched.nextId + 1 } }
          let s := s.updEngN e.val (fun x => { x with nextDue := some (d + 20000) })
          s.carry i (s.place i)

/-- REFERENCE_VECTOR_COMPLETE: a failed vector fences the unit (R578). -/
def execReferenceVectorComplete (e : Fin 34) (pass : Bool) (s : State) : Res :=
  whenLive s fun s =>
    let st := s.str.st
    if e.val = 32 then
      if !st.ssuVec then s
      else
        let s : State := { s with str := { s.str with st := { st with ssuVec := false } } }
        if pass then s else s.fence 0x1F 0
    else if e.val = 33 then
      if !st.trkVec then s
      else
        let s : State := { s with str := { s.str with st := { st with trkVec := false } } }
        if pass then s else s.fence 0x20 0
    else match s.engRuns e.val with
      | some i =>
        if i.kind != ItemKind.vector then s
        else
          let s := s.engineDone e.val
          if pass then s else s.fence (unitOfEng e.val) 0
      | none => s

/-- PIP_SIGNAL_APPLY: an operation of a unit or of firmware reaches the pip store; `err` is an error found in the entry; steps
released from a poison are discarded (R274, R285, R286, R291, R292). -/
def execPipSignalApply (by_ : PipBy) (pip op : Nat) (value : U32) (err : Option EccErr) (s : State) : Res :=
  whenLive s fun s =>
    if !s.pipFresh by_ then s.pipStale by_
    else match pipOpOf op with
      | none => s
      | some o =>
        if !o.signal || 131072 ≤ pip then s
        else
          let r := s.pipMeet pip err
          (if r.2 then r.1.pipApply pip o value else r.1).settleCut

/-- PIP_WAIT_REGISTER: a wait reaches the pip store; a wait of a plan step guards it until it is released (R275, R277, R285,
R291, R292, R296). -/
def execPipWaitRegister (w : WaitReq) (s : State) : Res :=
  whenLive s fun s =>
    if !s.pipFresh w.by_ then s.pipStale w.by_
    else if 131072 ≤ w.waiter.pip then s
    else
      let s : State := match w.waiter.by_, w.item with
        | .item id, some i =>
          if s.sched.guarded.any (fun g => g.id == id) then s
          else { s with sched := { s.sched with guarded := s.sched.guarded ++ [{ i with id := id }] } }
        | _, _ => s
      ((s.pipMeet w.waiter.pip w.err).1.pipWait w.waiter).settleCut

/-- FS_SCRUB_ACCESS: the scrubber reads the next word, corrects a single-bit error, or finds it uncorrectable (R427);
injections 0x0A and 0x0B act here (R585). -/
def execFsScrubAccess (err : Option EccErr) (s : State) : Res :=
  whenLive s fun s =>
    let fs := s.str.fs
    let inj := if s.kpr.inject == some (0x0A, 0x37) then some EccErr.correctable
      else if s.kpr.inject == some (0x0B, 0x37) then some EccErr.uncorrectable else none
    let s := if inj.isSome then s.updKpr (fun k => { k with inject := none }) else s
    let freeG := ((List.range 1920).find? (fun g => fs.runs.all (fun r => g < r.1 || r.1 + r.2 ≤ g))).getD 0
    let w := if inj == some EccErr.uncorrectable then freeG * 8192 else fs.pos
    let next := (fs.pos + 1) % 16777216
    let s : State := { s with str := { s.str with fs := { fs with
      pos := next, scrub := if next = 0 then fs.scrub + 1 else fs.scrub } } }
    match inj.orElse (fun _ => err) with
    | none => s
    | some .correctable => { s with str := { s.str with fs := { s.str.fs with eccCe := satInc s.str.fs.eccCe } } }
    | some .uncorrectable => s.fsUe w

/-- Device address of a Tower's or VPU's save slot (R312); engine `e` is Tower `e` below 8, VPU `e - 8` below 24. -/
def saveSlot (e : Nat) : Nat :=
  saveBase + (if e < 8 then e * 0x49000 else 0x248000 + (e - 8) * 0x50000)

end Sys2Proof.Machine
end

