-- ==== Sys2Proof/Machine/Video.lean ====
section
/-!
DEFINITION. Decode and encode: access units at a VDE, the RESYNC state, reference buffers, views (12_decode_encode).
-/
namespace Sys2Proof.Machine
open Sys2Proof

/-- The pitch of a decoded picture (R362). -/
def decPitch (f : Fmt) : Nat := ceilDiv (f.w * (if f.depth = 10 then 2 else 1)) 64 * 64

/-- The bytes of a decoded picture's buffer (R362). -/
def decBytes (f : Fmt) : Nat := decPitch f * f.h * 3 / 2

/-- The cropped picture size is one that both decoders take (R357). -/
def decSize (f : Fmt) : Bool :=
  f.w % 2 == 0 && f.h % 2 == 0 && 64 ≤ f.w && f.w ≤ 4096 && 64 ≤ f.h && f.h ≤ 4096 && f.w * f.h ≤ 8912896

/-- The decoder of a codec supports this bitstream: profile, level, chroma, depth, size and tools (R357). What is refused by
R358 is what it does not support. -/
def decSupports (c : Codec) (d : SeqDecl) (f : Fmt) : Bool :=
  decSize f && d.level ≤ 51 && d.progressive && d.reorder == 0 &&
    match c with
    | .h264 => (d.profile == .constrainedBaseline || d.profile == .main264 || d.profile == .high) && f.depth == 8 &&
        (f.chroma == .yuv420 || (f.chroma == .yuv400 && d.profile == .high)) && !d.fmoAso && !d.spSi && !d.partitioned
    | .h265 => (d.profile == .main265 || d.profile == .main10 || d.profile == .mainStill) && f.chroma == .yuv420 &&
        (f.depth == 8 || (f.depth == 10 && d.profile == .main10))

/-- The matrix of the descriptor, and whether it stands for another one (R365). -/
def Vui.matrixOf (u : Vui) (h : Nat) : Matrix × Bool :=
  match u.matrix with
  | none | some 2 => (if 720 ≤ h then .bt709 else .bt601, false)
  | some 1 => (.bt709, false)
  | some 5 | some 6 => (.bt601, false)
  | some _ => (.bt709, true)

/-- The descriptor's format of a picture: colour and SAR from the VUI (R364, R365). -/
def Picture.format (pic : Picture) : Fmt :=
  let u := pic.decl.vui
  let sar := u.sar.getD (1, 1)
  { pic.fmt with matrix := (u.matrixOf pic.fmt.h).1, full := u.full.getD false, sarW := sar.1, sarH := sar.2 }

/-- The bytes of a decoded picture as its buffer holds them: the chroma plane of a 4:0:0 picture has the mid value, and the
low bits of a 10-bit sample are zero (R362). -/
def picBytes (f : Fmt) (bytes : List Byte) : List Byte :=
  let n := decBytes f
  let luma := decPitch f * f.h
  let bs := if f.chroma == .yuv400 then
      padTo luma bytes ++ (List.range ((n - luma) / (if f.depth = 10 then 2 else 1))).flatMap (fun _ => if f.depth = 10 then [0, 0x80] else [0x80])
    else bytes
  let bs := bs.take n
  if f.depth = 10 then bs.zipIdx.map (fun x => if x.2 % 2 = 0 then x.1 &&& 0xC0 else x.1) else bs

/-- The codec of a slot. -/
def Slot.codec (sl : Slot) : Codec := match sl.src with | some c => c.codec | none => .h264

/-- Decode time charged per frame, in units of 1/2112 ns (R361). -/
def vdeCost (pixels : Nat) : Nat := pixels * 1920 + 20000 * costUnits

/-- Scan-pipe time charged per frame, in units of 1/2112 ns (R405, R406). -/
def scanCost (pixels inPixels : Nat) : Nat := max pixels inPixels * 1056 + 1000 * costUnits

/-- Region-pipe time charged for one crop of an embedder's input, in units of 1/2112 ns (R406). -/
def cropCost (w h : Nat) : Nat := (2 * w + 5) * (2 * h + 5) * 550 + 500 * costUnits

/-- The model an instance runs. -/
def State.instModel (s : State) (inst : Nat) : Option Model :=
  match lookupN s.mem.insts inst with
  | some i => lookupN s.mem.models i.model
  | none => none

/-- The stream is charged for its frames' actual size (R361). -/
def State.recharge (s : State) (n : Nat) (f : Fmt) : State :=
  let inP := match (s.slotN n).ana with
    | some a => match s.instModel a.det with | some m => m.inW * m.inH | none => 0
    | none => 0
  let px := f.w * f.h
  match s.sched.demand.find? (fun d => d.slot == n) with
  | none => s
  | some d =>
    if d.decoded && (d.vdeC != vdeCost px || d.scanC != scanCost px inP) then
      ({ s with sched := { s.sched with demand := s.sched.demand.map (fun d =>
        if d.slot == n then { d with vdeC := vdeCost px, scanC := scanCost px inP } else d) } } : State).reevaluate
    else s

/-- Change the decoder state of a slot. -/
def State.updDec (s : State) (n : Nat) (g : Dec → Dec) : State := s.updSlotN n (fun sl => { sl with dec := g sl.dec })

/-- Change a VDE's counters. -/
def State.updVde (s : State) (v : Fin 4) (g : Vde → Vde) : State :=
  { s with str := { s.str with vde := updAt s.str.vde v g } }

/-- A frame leaves DECODE: its source buffer goes back (01, Buffers along the path), stage pip 1 advances. -/
def State.decodeOut (s : State) (v n : Nat) (seq : U32) : State :=
  match (s.slotN n).frame? seq with
  | none => s
  | some f =>
    let keep := f.reissued
    let s := if keep then s else s.updFrame n seq (fun f => { f with src := none })
    let s := match f.src with
      | some h => if keep then s else s.srcBack n h (9 + v) (0x18 + v)
      | none => s
    ((s.passStage n seq).advance n).engineDone (28 + v)

/-- A frame completes DECODE without a picture in RESYNC (R368). -/
def State.decodeGap (s : State) (v n : Nat) (seq : U32) : State :=
  let r := if (s.slotN n).dec.unsupp then GapReason.unsupported else .resync
  let f := (s.slotN n).frame? seq
  let fresh := match f with | some f => f.gap.isNone | none => false
  let s := if fresh then (s.updFrame n seq (fun f => { f with stale := true })).discard n seq r else s
  s.decodeOut v n seq

/-- A bitstream error (R366): counted, RESYNC, GAP. -/
def State.bitError (s : State) (v : Fin 4) (n : Nat) (seq : U32) : State :=
  ((s.updVde v (fun x => { x with bitErr := satInc x.bitErr })).enterResync n).decodeGap v.val n seq

/-- The reference buffers after a picture: those its marking process releases go back, its own joins (R363). -/
def State.markRefs (s : State) (v n : Nat) (new : Option U32) (release : List Nat) : State :=
  let refs := (s.slotN n).dec.refs
  let gone := (refs.zipIdx.filter (fun x => release.contains x.2)).map Prod.fst
  let stay := (refs.zipIdx.filter (fun x => !release.contains x.2)).map Prod.fst
  let s := s.updDec n (fun d => { d with refs := stay ++ new.toList })
  s.bufsBack n gone (9 + v) (0x18 + v)

/-- The decoded picture is delivered: frame buffer, bytes, descriptor, or a discard with NO_BUFFER (R362, R364). While the
frame pool is being rebuilt the picture waits (R267). -/
def State.deliver (s : State) (v : Fin 4) (n : Nat) (seq : U32) (pool : Nat) (f : Fmt) (bytes : List Byte) : State :=
  let sl := s.slotN n
  match s.bufTry pool (decBytes f) sl.cls (9 + v.val) (.frame n seq) with
  | (s, none) => s.updFrame n seq (fun x => { x with waitPic := some (f, bytes) })
  | (s, some (.grant _ h)) =>
    let w := s.bufPut (0x18 + v.val) h 0 (picBytes f bytes)
    let s := w.1.updFrame n seq (fun x => { x with pic := some h, fmt := some f, pitch := decPitch f, waitPic := none })
    if w.2.isSome then (s.discard n seq .fault).decodeOut v.val n seq
    else ((s.analyse n seq).recharge n f).decodeOut v.val n seq
  | (s, some _) => ((s.updFrame n seq (fun x => { x with waitPic := none })).discard n seq .noBuffer).decodeOut v.val n seq

/-- An error of R366 other than those found in a buffer: syntax, a missing reference, the order of pictures, a new
parameter set or a non-IRAP picture where an IRAP must stand (R359, R366, R370). -/
def picError (d : Dec) (pic : Picture) : Bool :=
  pic.error || !pic.refsHeld || (pic.newSps && !pic.irap) || (d.needIrap && !pic.irap) ||
    (!pic.irap && d.poc.any (fun p => pic.poc ≤ p))

/-- The decoder's own state after a picture decoded without error. -/
def decAfter (d : Dec) (pic : Picture) : Dec :=
  { d with poc := some pic.poc, px := pic.fmt.w * pic.fmt.h, needIrap := pic.eos, unsupp := if pic.irap then false else d.unsupp }

/-- A picture that the VDE decodes: reference buffer first, then the marking process, then the frame buffer when the
picture is analysed (R362, R363, R367). While the pool of the reference buffer is being rebuilt the decode goes on. -/
def State.decodeGood (s : State) (v : Fin 4) (n : Nat) (seq : U32) (pool : Nat) (pic : Picture) : State :=
  let sl := s.slotN n
  let got : State × Option (Option U32 × Bool) :=
    if !pic.ref then (s, some (none, true))
    else match s.bufTry pool (decBytes pic.fmt) sl.cls (9 + v.val) (.ref n seq) with
      | (s, none) => (s, none)
      | (s, some (.grant _ h)) => (s, some (some h, true))
      | (s, some _) => (s, some (none, false))
  match got with
  | (s, none) => s
  | (s, some (_, false)) => s.bitError v n seq
  | (s, some (h, true)) =>
    let s := (s.markRefs v.val n h pic.release).updDec n (decAfter · pic)
    let s := s.updVde v (fun x => { x with pics := x.pics + 1
                                           matrixSubst := if (pic.decl.vui.matrixOf pic.fmt.h).2 then satInc x.matrixSubst else x.matrixSubst })
    let d := (s.slotN n).dec
    let left := match pic.recovery, d.recovery with
      | some k, some r => some (min k (r - 1))
      | some k, none => some k
      | none, some r => some (r - 1)
      | none, none => none
    if d.sync || pic.irap || left == some 0 then
      (s.updDec n (fun d => { d with sync := true, recovery := none })).deliver v n seq pool pic.format pic.bytes
    else (s.updDec n (fun d => { d with recovery := left })).decodeGap v.val n seq

/-- What a VDE does with an access unit (R366–R369, R384; 12, When things fall together for re-issued units). -/
def State.decodeUnit (s : State) (v : Fin 4) (n : Nat) (f : Frame) (pool : Nat) (pic : Picture) : State :=
  let seq := f.seq
  let ok := decSupports (s.slotN n).codec pic.decl pic.fmt
  if f.damaged then
    let s := if pic.firstSlice && !pic.ref then s else s.enterResync n
    s.decodeOut v.val n seq
  else if f.reissued then
    if (pic.irap || pic.refsHeld) && !pic.error && !pic.refUe && ok then s.deliver v n seq pool pic.format pic.bytes
    else (((s.updFrame n seq (fun f => { f with stale := true })).discard n seq .resync).decodeOut v.val n seq)
  else
    let s := if f.discont then s.enterResync n else s
    let d := (s.slotN n).dec
    let active := d.sync || pic.irap || pic.recovery.isSome || d.recovery.isSome
    if !active then s.decodeGap v.val n seq
    else if !ok then
      let s := (s.updVde v (fun x => { x with unsupp := satInc x.unsupp })).enterResync n
      (s.updDec n (fun d => { d with unsupp := true })).decodeGap v.val n seq
    else if pic.refUe then ((s.enterResync n).discard n seq .fault).decodeOut v.val n seq
    else if picError d pic then s.bitError v n seq
    else s.decodeGood v n seq pool pic

/-- DECODE_COMPLETE: a VDE ends the access unit it decodes (R360). -/
def execDecodeComplete (v : Fin 4) (pic : Picture) (s : State) : Res :=
  whenLive s fun s =>
    let e := 28 + v.val
    match s.engRuns e with
    | none => s
    | some i =>
      match i.kind, i.origin with
      | .decode, .frame n seq =>
        match (s.slotN n).frame? seq with
        | some f =>
          if f.busy && f.stage = 1 then
            match (s.slotN n).ana.bind AnaCfg.framePool with
            | some p => match f.waitPic with
              | some w => s.deliver v n seq p w.1 w.2
              | none => s.decodeUnit v n f p pic
            | none => s
          else s.engineDone e
        | none => s.engineDone e
      | _, _ => s

/-- t_dec of a picture of `px` luma samples and `bytes` bytes, in units of 1/17,600 µs (R360). -/
def decTime (px bytes : Nat) : Nat := max (px * 16) (bytes * 8 * 11) + 20 * 17600

/-- A VDE has run this item for 4 × t_dec + 1 ms, with the picture size of the active parameter set (R383; log entry 132). -/
def State.decodeOver (s : State) (i : Item) : Bool :=
  match i.origin with
  | .frame n seq =>
    let sl := s.slotN n
    let au := match sl.frame? seq with | some f => f.auBytes | none => 0
    decide (4 * decTime sl.dec.px au + 1000 * 17600 ≤ i.ran * 17600)
  | _ => false

/-- DECODE_STOP_TIMEOUT: a picture that decodes too long is stopped and the VDE reset (R383). -/
def execDecodeStopTimeout (v : Fin 4) (s : State) : Res :=
  whenLive s fun s =>
    match s.engRuns (28 + v.val) with
    | none => s
    | some i => if !s.decodeOver i then s else (s.updVde v (fun x => { x with stops := satInc x.stops })).autoReset (0x18 + v.val)

/-- Side of a CTU in luma samples: a macroblock in H.264 (R376). -/
def ctuSide (w : View) : Nat := match w.codec with | .h265 => 64 | .h264 => 16

/-- CTU columns of a view (R377). -/
def ctuColumns (w : View) : Nat := ceilDiv w.width (ctuSide w)

/-- CTU columns of a picture's intra column (R377). -/
def columnWidth (w : View) : Nat := ceilDiv (ctuColumns w) 30

/-- Pictures of a sweep (R377). -/
def sweepLen (w : View) : Nat := ceilDiv (ctuColumns w) (columnWidth w)

/-- CTU column `c` is intra-coded in the view's next picture: each one of an IDR, the intra column of a later picture (R376, R377). -/
def intraCoded (w : View) (c : Nat) : Bool :=
  w.idr || (w.sweep * columnWidth w ≤ c && c < (w.sweep + 1) * columnWidth w)

/-- A prediction block of the next picture that starts left of its intra column and reaches, taps included, to `x` in the reference
picture may be used (R377). -/
def refreshedUse (w : View) (x : Nat) : Bool := x + 8 < w.sweep * columnWidth w * ctuSide w

/-- The next picture carries parameter sets and a recovery point SEI of this count (R377). -/
def recoveryCount (w : View) : Option Nat := if !w.idr && w.sweep = 0 then some (sweepLen w - 1) else none

/-- Luma samples of the reference window around a CTU, width and height; no motion vector leaves it (R378). -/
def searchWindow (w : View) : Nat × Nat := (ctuSide w + 2 * (96 + 4), ctuSide w + 2 * (48 + 4))

/-- Slices of a picture: 64 luma rows each (R379). -/
def slicesOf (w : View) : Nat := ceilDiv w.height 64

/-- Bounds of rate control in bits: of each picture, and of a run of pictures with its length; FIXED_QP has none (R381). -/
def rateBounds (w : View) (periodUs : Nat) : Option (ℚ × Nat × ℚ) :=
  let f : ℚ := (w.kbps * periodUs : ℚ) / 1000
  match w.rc with
  | 0 => some (3 / 2 * f, 30, 61 / 2 * f)
  | 1 => some (3 * f, 300, 300 * f)
  | _ => none

/-- VEE_ENCODE_COMPLETE: the VEE ends a picture and takes the next; an uncorrectable error in the frame skips it, one
in the reference picture makes the view's next picture an IDR. A picture that keeps the values of an earlier STREAM_VIEW leaves
the new sweep where it is (R187, R374, R375, R377, R384). -/
def execVeeEncodeComplete (err : Option VeeErr) (s : State) : Res :=
  whenLive s fun s =>
    match s.str.encoding with
    | none => s
    | some (v, seq) =>
      let s : State := { s with str := { s.str with encoding := none } }
      let s := if h : v < 4 then
          let old := s.frameView v (s.viewN v).slot seq != (s.viewN v).cfg
          { s with str := { s.str with view := updAt s.str.view ⟨v, h⟩ (fun w =>
            if err = some .frame then { w with skip := satInc w.skip, caps := w.caps.dropLast }
            else if old then { w with pics := w.pics + 1 }
            else { w with pics := w.pics + 1, idr := err = some .reference
                          sweep := if w.idr then 0 else (w.sweep + 1) % max 1 (sweepLen w) }) } }
        else s
      (s.viewDone v seq).veeNext

end Sys2Proof.Machine
end

