-- ==== Sys2Proof/Machine/Ppe.lean ====
section
/-!
DEFINITION. Pre-processing: pixels, scaling, colour, tensor layout, PREP and CROP (13 R392–R408).
-/

namespace Sys2Proof.Machine
open Sys2Proof

/-! ### Reading a frame (R362, R335, R395) -/

/-- Bytes of a frame by their offset in its buffer. -/
abbrev FrameRead := Nat → Nat

/-- The little-endian 16-bit word at an offset. -/
def word16 (rd : FrameRead) (o : Nat) : Nat := rd o + 256 * rd (o + 1)

/-- Plane `p` sample (`x`, `y`) as a 10-bit value: luma, Cb, Cr, or R, G, B (R395; log entry 13 for the order of
CSI-2 bytes). -/
def planeSample (rd : FrameRead) (f : Fmt) (pitch p x y : Nat) : Nat :=
  let row := y * pitch
  match f.chroma with
  | .yuv420 | .yuv400 =>
    let c := f.h * pitch + row
    if f.depth = 10 then
      (match p with
       | 0 => word16 rd (row + 2 * x)
       | 1 => word16 rd (c + 4 * x)
       | _ => word16 rd (c + 4 * x + 2)) / 64
    else
      4 * (match p with
       | 0 => rd (row + x)
       | 1 => rd (c + 2 * x)
       | _ => rd (c + 2 * x + 1))
  | .yuv422 =>
    4 * (match p with
     | 0 => rd (row + 2 * x + 1)
     | 1 => rd (row + 4 * x)
     | _ => rd (row + 4 * x + 2))
  | .rgb =>
    let v := rd (row + 3 * x + (2 - p))
    4 * v + v / 64

/-- The plane is subsampled horizontally, vertically. -/
def planeSub (f : Fmt) (p : Nat) : Bool × Bool :=
  if p = 0 then (false, false)
  else match f.chroma with
    | .yuv420 | .yuv400 => (true, true)
    | .yuv422 => (true, false)
    | .rgb => (false, false)

/-! ### Scaling (R399–R402) -/

/-- One axis of one plane: the samples it covers and the ratio `num / den`. -/
structure ScaleAxis where
  /-- First sample. -/
  start : Nat
  /-- Samples. -/
  count : Nat
  /-- Source samples of the ratio. -/
  num : Nat
  /-- Output samples of the ratio. -/
  den : Nat
  /-- Reduction factor: `m` of the scan pipe, `d` of the region pipe. -/
  red : Nat
  /-- δ is a quarter sample (horizontal chroma). -/
  quarter : Bool
  deriving DecidableEq, Repr

/-- `m` of the scan pipe, `d` of the region pipe (R399). -/
def reduceBy (scan : Bool) (num den : Nat) : Nat :=
  if scan then min 16 (max 1 (num / den)) else if 2 * den < num then ceilDiv num (2 * den) else 1

/-- An axis of a plane over the luma region `a .. b` of a frame, scaled to `out` samples (R400). -/
def planeAxis (scan sub horiz : Bool) (a b out : Nat) : ScaleAxis :=
  let num := b - a
  let den := if sub then 2 * out else out
  let lo := if sub then a / 2 else a
  let hi := if sub then ceilDiv b 2 else b
  { start := lo, count := hi - lo, num := num, den := den, red := reduceBy scan num den, quarter := sub && horiz }

/-- Samples of the reduced grid. -/
def ScaleAxis.grid (x : ScaleAxis) (scan : Bool) : Nat :=
  if scan then ceilDiv x.count x.red else (x.count - (x.red - 1) / 2 - 1) / x.red + 1

/-- step, round half up (R400). -/
def ScaleAxis.step (x : ScaleAxis) : Int := roundHalfUp (65536 * x.num) (x.den * x.red)

/-- p₀, round half up (R400). -/
def ScaleAxis.p0 (x : ScaleAxis) : Int :=
  roundHalfUp (16384 * (2 * (x.num : Int) - 2 * (x.den * x.red : Nat) + (if x.quarter then (x.den : Int) else 0)))
    (x.den * x.red)

/-- The bank of r′ (R401). -/
def ScaleAxis.bank (x : ScaleAxis) : Nat :=
  let d := x.den * x.red
  if x.num ≤ d then 0 else if 8 * x.num ≤ 9 * d then 1 else if 4 * x.num ≤ 5 * d then 2
  else if 8 * x.num ≤ 11 * d then 3 else 4

/-- Tap index and phase of output `j` (R400). -/
def ScaleAxis.tap (x : ScaleAxis) (j : Nat) : Int × Nat :=
  let p := x.p0 + j * x.step
  let i := p.fdiv 65536
  let ph := ((p.fmod 65536).toNat + 512) / 1024
  if ph = 64 then (i + 1, 0) else (i, ph)

/-- Reduced-grid index `i`, edges replicated (R400). -/
def clampIdx (n : Nat) (i : Int) : Nat := (max 0 (min ((n : Int) - 1) i)).toNat

/-- The samples of a scan-pipe group on one axis. -/
def ScaleAxis.group (x : ScaleAxis) (k : Nat) : List Nat :=
  (List.range x.red).filterMap (fun t => if k * x.red + t < x.count then some (x.start + k * x.red + t) else none)

/-- One reduced sample (R399). -/
def reduced (get : Nat → Nat → Nat) (scan : Bool) (ax ay : ScaleAxis) (i j : Nat) : Nat :=
  if scan then
    let xs := ax.group i
    let ys := ay.group j
    let n := xs.length * ys.length
    let sum := (ys.map (fun y => (xs.map (fun x => get x y)).sum)).sum
    (sum + n / 2) / max 1 n
  else get (ax.start + (i * ax.red + (ax.red - 1) / 2)) (ay.start + (j * ay.red + (ay.red - 1) / 2))

/-- Σ c × x over the six taps. -/
def tapSum (c : List Int) (xs : List Int) : Int := ((c.zip xs).map (fun p => p.1 * p.2)).sum

/-- One scaled sample of a plane: horizontal pass, then vertical (R402). -/
def scaled (get : Nat → Nat → Nat) (scan : Bool) (ax ay : ScaleAxis) (u v : Nat) : Nat :=
  let tx := ax.tap u
  let ty := ay.tap v
  let gx := ax.grid scan
  let gy := ay.grid scan
  let cx := bankRow ax.bank tx.2
  let cy := bankRow ay.bank ty.2
  let rows := (List.range 6).map (fun (k : Nat) =>
    let j := clampIdx gy (ty.1 - 2 + k)
    let xs := (List.range 6).map (fun (q : Nat) => (reduced get scan ax ay (clampIdx gx (tx.1 - 2 + q)) j : Int))
    (tapSum cx xs + 32).fdiv 64)
  (clampInt 0 1023 ((tapSum cy rows + 512).fdiv 1024)).toNat

/-! ### Colour and conversion (R396–R398) -/

/-- cY, cRV, cGU, cGV, cBU. -/
def matrixCoef (m : Matrix) (full : Bool) : Int × Int × Int × Int × Int :=
  match m, full with
  | .bt601, true => (8192, 11485, 2819, 5850, 14516)
  | .bt601, false => (9539, 13075, 3209, 6660, 16525)
  | _, true => (8192, 12901, 1535, 3835, 15201)
  | _, false => (9539, 14686, 1747, 4366, 17305)

/-- A fixed-point colour sum as a 10-bit value. -/
def colourOut (x : Int) : Nat := (clampInt 0 1023 ((x + 4096).fdiv 8192)).toNat

/-- Channel values of one output pixel from the scaled planes (R396, R397). -/
def channels (f : Fmt) (inC : Nat) (p0 p1 p2 : Nat) : List Nat :=
  match f.chroma with
  | .rgb =>
    if inC = 1 then [colourOut (1742 * (p0 : Int) + 5859 * p1 + 591 * p2)] else [p0, p1, p2]
  | _ =>
    let (cy, crv, cgu, cgv, cbu) := matrixCoef f.matrix f.full
    let y : Int := (p0 : Int) - (if f.full then 0 else 64)
    let cb : Int := (p1 : Int) - 512
    let cr : Int := (p2 : Int) - 512
    if inC = 1 then [colourOut (cy * y)]
    else [colourOut (cy * y + crv * cr), colourOut (cy * y - cgu * cb - cgv * cr), colourOut (cy * y + cbu * cb)]

/-- v / 1,023 rounded to nearest even with `p` fraction bits and the given bias (R398, R387). -/
def unitFloat (bias p v : Nat) : Nat :=
  if v = 0 then 0
  else
    let k := ((List.range 11).find? (fun k => 1023 ≤ v * 2 ^ k)).getD 10
    (bias - k - 1) * 2 ^ p + divEven (v * 2 ^ (k + p)) 1023

/-- Bytes of one element (R398): U8, INT16, FP16 or BF16. -/
def elemBytes (fmt v : Nat) : List Byte :=
  if fmt = 5 then leBytes 1 ((255 * v + 511) / 1023)
  else if fmt = 4 then leBytes 2 (32 * v)
  else if fmt = 1 then leBytes 2 (unitFloat 15 10 v)
  else leBytes 2 (unitFloat 127 7 v)

/-- A model's input is accepted by the PPE (R394). -/
def Model.ppeOk (m : Model) : Bool :=
  (m.inC == 1 || m.inC == 3) && (m.inFormat == 5 || m.inFormat == 4 || m.inFormat == 1 || m.inFormat == 2)

/-- Channels of a block. -/
def Model.block (m : Model) : Nat := blockOf m.inC32

/-- Row pitch of the input tensor (R392). -/
def Model.rowPitch (m : Model) : Nat := Sys2Proof.Machine.rowPitch m.block m.inW (actBytes m.inFormat)

/-- Bytes of the input tensor (R392). -/
def Model.inBytes (m : Model) : Nat := ceilDiv m.inC m.block * m.inH * m.rowPitch

/-- The input tensor, one block of channels, from its pixels; padding is zero (R392, R393). -/
def Model.tensor (m : Model) (pix : Nat → Nat → List Nat) : List Byte :=
  (List.range m.inH).flatMap (fun h =>
    let row := (List.range m.inW).flatMap (fun w =>
      let px := (pix w h).flatMap (elemBytes m.inFormat)
      px ++ zeros (m.block * actBytes m.inFormat - px.length))
    row ++ zeros (m.rowPitch - row.length))

/-- The scaled pixel (`u`, `v`) of a region `x0 .. x1`, `y0 .. y1` scaled to `ow` × `oh`. -/
def scaledPixel (rd : FrameRead) (f : Fmt) (pitch inC : Nat) (scan : Bool) (x0 x1 y0 y1 ow oh u v : Nat) : List Nat :=
  let pl := fun (p : Nat) =>
    let sub := planeSub f p
    scaled (planeSample rd f pitch p) scan (planeAxis scan sub.1 true x0 x1 ow) (planeAxis scan sub.2 false y0 y1 oh) u v
  channels f inC (pl 0) (pl 1) (pl 2)

/-! ### PREP (R403) -/

/-- Round half up of `n / d`. -/
def roundDiv (n d : Nat) : Nat := if d = 0 then 0 else (2 * n + d) / (2 * d)

/-- Active region ax0, ay0, aw, ah (R403). -/
def prepGeom (f : Fmt) (inW inH : Nat) : Nat × Nat × Nat × Nat :=
  let a := f.w * f.sarW
  let wide := decide (f.h * f.sarH * inW ≤ a * inH)
  let aw := if wide then inW else min inW (roundDiv (a * inH) (f.sarH * f.h))
  let ah := if wide then min inH (roundDiv (f.h * inW * f.sarH) a) else inH
  ((inW - aw) / 2, (inH - ah) / 2, aw, ah)

/-- 1/4 ≤ r ≤ 32 on an axis. -/
def scanRatioOk (n out : Nat) : Bool := decide (out ≤ 4 * n) && decide (n ≤ 32 * out)

/-- The detector input tensor of a frame (R393, R398, R403). -/
def prepTensor (m : Model) (rd : FrameRead) (f : Fmt) (pitch : Nat) (g : Nat × Nat × Nat × Nat) : List Byte :=
  m.tensor (fun w h =>
    if g.1 ≤ w && w < g.1 + g.2.2.1 && g.2.1 ≤ h && h < g.2.1 + g.2.2.2 then
      scaledPixel rd f pitch m.inC true 0 f.w 0 f.h g.2.2.1 g.2.2.2 (w - g.1) (h - g.2.1)
    else List.replicate m.inC 512)

/-- Device address of an instance's partition (R423). -/
def Inst.base (i : Inst) : Nat := 0x010000000000 + i.granule * 65536

/-- The buffer that PREP, CROP and the views read (R364). -/
def Frame.image (f : Frame) (dec : Bool) : Option U32 := if dec then f.pic else f.src

/-- Bytes of a frame's picture. -/
def Frame.imageBytes (f : Frame) : Nat :=
  match f.fmt with
  | none => 0
  | some m => match m.chroma with
    | .yuv420 | .yuv400 => f.pitch * m.h * 3 / 2
    | _ => f.pitch * m.h

/-- Reads of device memory from a base. -/
def State.reader (s : State) (base n : Nat) : FrameRead :=
  let w := s.mem.cells.filter (fun c => base ≤ c.1 && c.1 < base + n)
  fun o => (cellGet w (base + o)).toNat

/-- Change a PPE's counters. -/
def State.updPpe (s : State) (p : Fin 2) (g : Ppe → Ppe) : State :=
  { s with str := { s.str with ppe := updAt s.str.ppe p g } }

/-- The item's completion pip receives ADD 1. -/
def State.itemPip (s : State) (i : Item) : State :=
  match i.pip with
  | some p => s.pipApply p .add 1
  | none => s

/-- A PREP or CROP refused for its ratio: counted, the frame discarded with FAULT (13, At the edges). -/
def State.ratioReject (s : State) (p : Fin 2) (e : Nat) (i : Item) : State :=
  ((s.updPpe p (fun x => { x with ratioRej := satInc x.ratioRej })).engineDone e).itemDiscard i .discardedFault

/-- PREP of a frame that the scan pipe holds (R403). -/
def State.prepFrame (s : State) (p : Fin 2) (i : Item) (n : Nat) (f : Frame) (ue : Bool) : State :=
  let e := 24 + p.val
  let sl := s.slotN n
  match sl.ana, f.fmt, f.image sl.decoded with
  | some a, some fm, some h =>
    match lookupN s.mem.insts a.det, s.instModel a.det with
    | some inst, some m =>
      let g := prepGeom fm m.inW m.inH
      let base := s.bufAddr h
      let s := if ue then s.strike base f.imageBytes else s
      let r := s.bufGet (0x1D + p.val) h f.imageBytes
      let s := r.1
      if r.2.isSome then (s.engineDone e).itemDiscard i (r.2.getD .discardedFault)
      else if !scanRatioOk fm.w g.2.2.1 || !scanRatioOk fm.h g.2.2.2 then s.ratioReject p e i
      else
        let t := prepTensor m (s.reader base f.imageBytes) fm f.pitch g
        let s := s.memWrite inst.base t
        let s := (s.updFrame n f.seq (fun f => { f with geom := some g })).updPpe p (fun x => { x with prep := x.prep + 1 })
        (((s.itemPip i).passStage n f.seq).advance n).engineDone e
    | _, _ => (s.engineDone e).itemDiscard i .discardedFault
  | _, _, _ => (s.engineDone e).itemDiscard i .discardedFault

/-- PREP_COMPLETE: the scan pipe finishes a frame's detector input tensor (R403, R407). -/
def execPrepComplete (p : Fin 2) (ue : Bool) (s : State) : Res :=
  whenLive s fun s =>
    match s.engRuns (24 + p.val) with
    | none => s
    | some i =>
      if i.kind != ItemKind.prep then s
      else match s.itemFrame i with
        | some (n, f) => if f.stage = 2 then s.prepFrame p i n f ue else s.engineDone (24 + p.val)
        | none => s.engineDone (24 + p.val)

/-! ### CROP (R404) -/

/-- One axis of a crop region: start, end, and 1 when it was widened or shifted (R404; 13, Registers). -/
def cropAxis (pos len size inN : Nat) : Nat × Nat × Nat :=
  let a := pos * size / 65535
  let b := ceilDiv (min 65535 (pos + len) * size) 65535
  let b' := if b ≤ a then a + 1 else b
  let a1 := if size < b' then a - 1 else a
  let b1 := if size < b' then b' - 1 else b'
  if inN ≤ 16 * (b1 - a1) then (a1, b1, if size < b' then 1 else 0)
  else
    let need := ceilDiv inN 16
    if size < need then (0, size, 1)
    else
      let e := need - (b1 - a1)
      let st := (clampInt 0 ((size : Int) - need) ((a1 : Int) - (e / 2 : Nat))).toNat
      (st, st + need, 1)

/-- The tensor of one crop, stretched over the whole input (R404). -/
def cropTensor (m : Model) (rd : FrameRead) (f : Fmt) (pitch x0 x1 y0 y1 : Nat) : List Byte :=
  m.tensor (fun w h => scaledPixel rd f pitch m.inC false x0 x1 y0 y1 m.inW m.inH w h)

/-- What became of the crops of a frame. -/
inductive CropEnd where
  /-- All are made. -/
  | done
  /-- The pool is empty. -/
  | empty
  /-- A region's ratio is above 128. -/
  | ratio
  /-- The pool is being rebuilt. -/
  | rebuild
  /-- A write into a crop buffer is refused or not performed (R219, R239). -/
  | refused (st : Status)
  deriving DecidableEq, Repr

/-- The crops of the boxes `bs`, in order. -/
def State.cropSome (s : State) (p : Fin 2) (n : Nat) (f : Frame) (fm : Fmt) (m : Model) (pool : Nat) (rd : FrameRead) :
    List Surv → State × CropEnd
  | [] => (s, .done)
  | b :: bs =>
    let x := cropAxis b.x b.w fm.w m.inW
    let y := cropAxis b.y b.h fm.h m.inH
    if 128 * m.inW < x.2.1 - x.1 || 128 * m.inH < y.2.1 - y.1 then (s, .ratio)
    else match s.bufTry pool m.inBytes (s.slotN n).cls (13 + p.val) (.crop n f.seq) with
      | (s, none) => (s, .rebuild)
      | (s, some (.grant _ h)) =>
        let w := s.bufPut (0x1D + p.val) h 0 (cropTensor m rd fm f.pitch x.1 x.2.1 y.1 y.2.1)
        let s := w.1.updFrame n f.seq (fun f => { f with crop := f.crop ++ [h] })
        if w.2.isSome then (s, .refused (w.2.getD .discardedFault))
        else
        let s := s.updPpe p (fun c => { c with crops := c.crops + 1, cropAdj := satAdd c.cropAdj (x.2.2 + y.2.2) })
        State.cropSome s p n f fm m pool rd bs
      | (s, some _) => (s, .empty)

/-- CROP of a frame that the region pipe holds (R404). While the crop pool is being rebuilt the item goes on
from the crops it has made. -/
def State.cropFrame (s : State) (p : Fin 2) (i : Item) (n : Nat) (f : Frame) (ue : Bool) : State :=
  let e := 26 + p.val
  let sl := s.slotN n
  match sl.ana, f.fmt, f.image sl.decoded with
  | some a, some fm, some h =>
    match a.emb.bind s.instModel, a.cropPool with
    | some m, some pool =>
      let base := s.bufAddr h
      let s := if ue then s.strike base f.imageBytes else s
      let r := s.bufGet (0x1D + p.val) h f.imageBytes
      let s := r.1
      if r.2.isSome then (s.engineDone e).itemDiscard i (r.2.getD .discardedFault)
      else
        let boxes := (f.crops.filterMap (fun k => f.surv[k]?)).drop f.crop.length
        match s.cropSome p n f fm m pool (s.reader base f.imageBytes) boxes with
        | (s, .rebuild) => s
        | (s, .ratio) => s.ratioReject p e i
        | (s, .refused st) => (s.engineDone e).itemDiscard i st
        | (s, .empty) => (((s.discard n f.seq .noBuffer).advance n).engineDone e)
        | (s, .done) => ((((s.itemPip i).passStage n f.seq).picBack n f.seq).advance n).engineDone e
    | _, _ => (s.engineDone e).itemDiscard i .discardedFault
  | _, _, _ => (s.engineDone e).itemDiscard i .discardedFault

/-- CROP_COMPLETE: the region pipe finishes a frame's crops (R404, R407). -/
def execCropComplete (p : Fin 2) (ue : Bool) (s : State) : Res :=
  whenLive s fun s =>
    match s.engRuns (26 + p.val) with
    | none => s
    | some i =>
      if i.kind != ItemKind.crop then s
      else match s.itemFrame i with
        | some (n, f) => if f.stage = 5 then s.cropFrame p i n f ue else s.engineDone (26 + p.val)
        | none => s.engineDone (26 + p.val)

/-- t_PREP of R405, in units of 1/192,000 µs. -/
def prepTime (f : Fmt) (m : Model) : Nat := max (f.w * f.h) (m.inW * m.inH) * 96 + 192000

/-- t_crop of R405 for one box, in units of 1/192,000 µs: N_read counts the reduced luma region and five samples an axis. -/
def cropTime (f : Fmt) (m : Model) (b : Surv) : Nat :=
  let x := cropAxis b.x b.w f.w m.inW
  let y := cropAxis b.y b.h f.h m.inH
  let g := fun (a : Nat × Nat × Nat) (out : Nat) => (planeAxis false false false a.1 a.2.1 out).grid false + 5
  max (g x m.inW * g y m.inH) (m.inW * m.inH) * 50 + 96000

/-- A pipe has run this item for 4 × its time of R405 + 1 ms (R408). -/
def State.ppeOver (s : State) (i : Item) : Bool :=
  match s.itemFrame i with
  | some (n, f) =>
    let a := (s.slotN n).ana
    let m := if f.stage = 2 then a.bind (fun a => s.instModel a.det) else (a.bind AnaCfg.emb).bind s.instModel
    match f.fmt, m with
    | some fm, some m =>
      let t := if f.stage = 2 then prepTime fm m
        else ((f.crops.filterMap (fun k => f.surv[k]?)).map (cropTime fm m)).sum
      decide (4 * t + 1000 * 192000 ≤ i.ran * 192000)
    | _, _ => decide (1000 ≤ i.ran)
  | none => decide (1000 ≤ i.ran)

/-- PPE_STOP_TIMEOUT: an item that runs too long is stopped and the PPE is reset; the second stop within 1 s fences it
(R408). -/
def execPpeStopTimeout (p : Fin 2) (region : Bool) (s : State) : Res :=
  whenLive s fun s =>
    match s.engRuns ((if region then 26 else 24) + p.val) with
    | none => s
    | some i => if !s.ppeOver i then s else (s.updPpe p (fun x => { x with stops := satInc x.stops })).autoReset (0x1D + p.val)

end Sys2Proof.Machine
end

