-- ==== Sys2Proof/Machine/Select.lean ====
section
/-!
DEFINITION. SELECT: the candidate list, sorting, suppression and mapping to the frame (15 R440–R444).
-/

namespace Sys2Proof.Machine
open Sys2Proof

/-- A candidate entry (15, Candidate entry). -/
structure Cand where
  /-- SCORE. -/
  score : Nat
  /-- CLASS. -/
  cls : Nat
  /-- X0. -/
  x0 : Nat
  /-- Y0. -/
  y0 : Nat
  /-- X1. -/
  x1 : Nat
  /-- Y1. -/
  y1 : Nat
  deriving DecidableEq, Repr

/-- A candidate from its 16 bytes; `none` when it is dropped as a bad box (R440). -/
def candOf (b : List Byte) : Option Cand :=
  let c : Cand := { score := leAt b 0 2, cls := leAt b 2 2, x0 := leAt b 4 2, y0 := leAt b 6 2,
                    x1 := leAt b 8 2, y1 := leAt b 10 2 }
  if c.x1 ≤ c.x0 ∨ c.y1 ≤ c.y0 ∨ leAt b 12 4 ≠ 0 then none else some c

/-- Intersection of two boxes in a common grid (R442). -/
def interArea (ax0 ay0 ax1 ay1 bx0 by0 bx1 by1 : Nat) : Nat :=
  (min ax1 bx1 - max ax0 bx0) * (min ay1 by1 - max ay0 by0)

/-- Union of two boxes (R442). -/
def unionArea (ax0 ay0 ax1 ay1 bx0 by0 bx1 by1 : Nat) : Nat :=
  (ax1 - ax0) * (ay1 - ay0) + (bx1 - bx0) * (by1 - by0) - interArea ax0 ay0 ax1 ay1 bx0 by0 bx1 by1

/-- IoU exceeds the threshold (R442). -/
def iouExceeds (a b : Cand) (t : Nat) : Bool :=
  decide (t * unionArea a.x0 a.y0 a.x1 a.y1 b.x0 b.y0 b.x1 b.y1
    < interArea a.x0 a.y0 a.x1 a.y1 b.x0 b.y0 b.x1 b.y1 * 65535)

/-- Suppression in sorted order; class-wise when `mode` is 0 (R441 step 4). -/
def suppress (mode t : Nat) (cs : List Cand) : List Cand :=
  cs.foldl (fun kept c =>
    if kept.any (fun k => (mode != 0 || k.cls == c.cls) && iouExceeds k c t) then kept else kept ++ [c]) []

/-- The SSU's four steps (R441). -/
def ssuSelect (par : TrackPar) (cs : List Cand) : List Cand :=
  let a := cs.filter (fun c => par.scoreMin ≤ c.score)
  let sorted := (sortBy (fun x y => y.1.score < x.1.score || (x.1.score == y.1.score && x.2 ≤ y.2)) a.zipIdx).map Prod.fst
  suppress par.nmsMode par.iouNms ((sorted.take par.topK).take par.nmsMax)

/-- One coordinate mapped to the frame (R443). -/
def mapCoord (x inN a0 an : Nat) : Nat :=
  (clampInt 0 65535 (roundHalfUp ((x * inN : Nat) - (65535 * a0 : Nat) : Int) an)).toNat

/-- A survivor in the frame; `none` when it has no area there (R443). -/
def mapCand (m : Model) (g : Nat × Nat × Nat × Nat) (c : Cand) : Option Surv :=
  let x0 := mapCoord c.x0 m.inW g.1 g.2.2.1
  let x1 := mapCoord c.x1 m.inW g.1 g.2.2.1
  let y0 := mapCoord c.y0 m.inH g.2.1 g.2.2.2
  let y1 := mapCoord c.y1 m.inH g.2.1 g.2.2.2
  if x1 ≤ x0 ∨ y1 ≤ y0 then none
  else some { score := c.score, cls := c.cls, x := x0, y := y0, w := x1 - x0, h := y1 - y0 }

/-- Change the counters of SSU and TRK. -/
def State.updSt (s : State) (g : SsuTrk → SsuTrk) : State := { s with str := { s.str with st := g s.str.st } }

/-- The candidates of the list at `at_` that are boxes, of the first 32,768 (R440). -/
def State.candidates (s : State) (at_ : Nat) : List Cand :=
  let read := min 32768 (s.memNat at_ 4)
  let bytes := s.memRead (at_ + 16) (16 * read)
  (List.range read).filterMap (fun i => candOf ((bytes.drop (16 * i)).take 16))

/-- SELECT of a frame: candidates read, survivors kept, crops chosen (R29, R440–R443). -/
def State.selectFrame (s : State) (n : Nat) (f : Frame) (a : AnaCfg) (m : Model) (base : Nat) : State :=
  let count := s.memNat (base + f.candAt) 4
  let read := min 32768 count
  let cands := s.candidates (base + f.candAt)
  let kept := ssuSelect f.par cands
  let surv := kept.filterMap (mapCand m (f.geom.getD (0, 0, m.inW, m.inH)))
  let bad := (read - cands.length) + (kept.length - surv.length)
  let crops := if a.emb.isSome then List.range (min surv.length (min 256 a.cropLimit)) else []
  let s := s.updSt (fun t => { t with items := t.items + 1, trunc := satAdd t.trunc (count - read), badBox := satAdd t.badBox bad })
  ((s.updFrame n f.seq (fun f => { f with surv := surv, crops := crops })).passStage n f.seq).advance n

/-- A time of `us` µs and so many CLK_CORE cycles at the divider in use, rounded up to a µs. -/
def State.coreTime (s : State) (us cycles : Nat) : Nat := us + ceilDiv (cycles * s.coreDiv) 12800

/-- t_SSU of a frame: entries read, boxes kept, boxes that enter suppression (R444). -/
def State.ssuTime (s : State) (n : Nat) (f : Frame) : Nat :=
  match (s.slotN n).ana.bind (fun a => lookupN s.mem.insts a.det) with
  | some i =>
    let at_ := i.base + f.candAt
    let k := min f.par.topK ((s.candidates at_).filter (fun c => f.par.scoreMin ≤ c.score)).length
    let m := min k f.par.nmsMax
    s.coreTime 60 (ceilDiv (min 32768 (s.memNat at_ 4)) 8 + ceilDiv k 4 + ceilDiv (m * m) 64)
  | none => 60

/-- SELECT_COMPLETE: the SSU finishes a frame's candidates (R440–R444); a poisoned or uncorrectable read discards the
frame (R238, R427). -/
def execSelectComplete (n : Fin 64) (poisoned : Bool) (s : State) : Res :=
  whenLive s fun s =>
    if !s.unitLive 0x1F then s
    else match s.frameTurn n.val 4, (s.slotN n.val).ana with
      | some f, some a =>
        if f.gap.isSome || s.str.st.ssuRun != some (n.val, f.seq) then s
        else match lookupN s.mem.insts a.det, s.instModel a.det with
          | some i, some m =>
            let at_ := i.base + f.candAt
            let len := 16 + 16 * min 32768 (s.memNat at_ 4)
            let s := if poisoned then s.strike at_ len else s
            if s.readUe at_ len then (s.discard n.val f.seq .fault).advance n.val
            else s.selectFrame n.val f a m i.base
          | _, _ => (s.discard n.val f.seq .fault).advance n.val
      | _, _ => s

end Sys2Proof.Machine
end

