-- ==== Sys2Proof/Machine/Track.lean ====
section
/-!
DEFINITION. TRACK: the motion model, association, the auction, galleries and the record (15 R446–R462, R473–R475).
-/

namespace Sys2Proof.Machine
open Sys2Proof

/-! ### The motion model (R448–R451) -/

/-- q of the position axes, of the size axes. -/
def axisQ (size : Bool) : U32 := if size then fOfRatio 1 16 else fOfRatio 1 4
/-- r of the position axes, of the size axes. -/
def axisR (size : Bool) : U32 := if size then fOfRatio 1 16384 else fOfRatio 1 65536
/-- Initial c. -/
def axisC (size : Bool) : U32 := if size then fOfRatio 1 16 else fOfRatio 1 4

/-- Prediction of one axis (R449). -/
def Axis.predict (x : Axis) (size : Bool) (dt : U32) : Axis :=
  let q := axisQ size
  let dt2 := fMul dt dt
  let dt3 := fMul dt2 dt
  { p := fAdd x.p (fMul dt x.v)
    v := x.v
    a := fAdd (fAdd (fAdd x.a (fMul (fMul (fOfInt 2) dt) x.b)) (fMul dt2 x.c)) (fDiv (fMul q dt3) (fOfInt 3))
    b := fAdd (fAdd x.b (fMul dt x.c)) (fDiv (fMul q dt2) (fOfInt 2))
    c := fAdd x.c (fMul q dt) }

/-- Update of one axis with measurement `z` (R450). -/
def Axis.update (x : Axis) (size : Bool) (z : U32) : Axis :=
  let s := fAdd x.a (axisR size)
  let k1 := fDiv x.a s
  let k2 := fDiv x.b s
  let e := fSub z x.p
  let p := fAdd x.p (fMul k1 e)
  { p := if size && fLt p (fOfRatio 1 1024) then fOfRatio 1 1024 else p
    v := fAdd x.v (fMul k2 e)
    c := fSub x.c (fMul k2 x.b)
    a := fSub x.a (fMul k1 x.a)
    b := fSub x.b (fMul k1 x.b) }

/-- A new axis (R451). -/
def Axis.start (size : Bool) (z : U32) : Axis := { p := z, v := 0, a := axisR size, b := 0, c := axisC size }

/-- The measured centre of `x`, `w` on one axis (R450). -/
def measCentre (x w : Nat) : U32 := fDiv (fAdd (fOfInt x) (fDiv (fOfInt w) (fOfInt 2))) (fOfInt 65535)
/-- The measured size. -/
def measSize (w : Nat) : U32 := fDiv (fOfInt w) (fOfInt 65535)

/-- Prediction of a track to a capture time (R448, R449). -/
def Track.predict (t : Track) (cap : U64) : Track :=
  let dt := fMul (fOfInt ((cap.toNat : Int) - t.time.toNat)) (fOfRatio 1 1000000000)
  { t with cx := t.cx.predict false dt, cy := t.cy.predict false dt, w := t.w.predict true dt, h := t.h.predict true dt
           time := cap }

/-- Update of a track with a detection (R450). -/
def Track.update (t : Track) (d : Surv) : Track :=
  { t with cx := t.cx.update false (measCentre d.x d.w), cy := t.cy.update false (measCentre d.y d.h)
           w := t.w.update true (measSize d.w), h := t.h.update true (measSize d.h) }

/-- enc of R451. -/
def enc (u : U32) : Nat :=
  if fIsNaN u || fLt u 0 then 0
  else if fLt 0x3F800000 u then 65535
  else (roundHalfUp (fInt u * 65535) (2 ^ 149)).toNat

/-- enc_s of R451, as 16 bits. -/
def encS (t : U32) : Nat :=
  let v : Int := if fIsNaN t then 0
    else if fLt 0x3F800000 t then 32767
    else if fLt t 0xBF800000 then -32767
    else roundHalfUp (fInt t * 32767) (2 ^ 149)
  (v % 65536).toNat

/-- Start and end of a box on one axis (R451). -/
def encSpan (p w : U32) : Nat × Nat :=
  let half := fDiv w (fOfInt 2)
  (enc (fSub p half), enc (fAdd p half))

/-! ### Association (R452–R456) -/

/-- A unit embedding as FP16; `none` when it cannot be normalised (R456). -/
def unitEmb (e : List U32) : Option (List U16) :=
  let n := e.foldl (fun a x => fAdd a (fMul x x)) 0
  if e.any (fun x => fIsNaN x || fIsInf x) || fIsNaN n || fIsInf n || fMag n == 0 then none
  else
    let r := fSqrt n
    some (e.map (fun x => halfOf (fDiv x r)))

/-- A detection that enters TRACK. -/
structure Det where
  /-- The survivor. -/
  box : Surv
  /-- Its unit embedding, when it is usable. -/
  emb : Option (List U16)
  deriving DecidableEq, Repr

/-- Embedding distance to one sample: clamp((1 − s) × 0.5, 0, 1) (R453). -/
def embDist (e g : List U16) : U32 :=
  let d := fMul (fSub 0x3F800000 (dotHalf e g)) 0x3F000000
  if fLt d 0 then 0 else if fLt 0x3F800000 d then 0x3F800000 else d

/-- The least distance to the track's filled samples. -/
def galDist (e : List U16) (gal : List (Option (List U16))) : Option U32 :=
  (gal.filterMap id).foldl (fun best g =>
    let d := embDist e g
    match best with
    | none => some d
    | some b => some (if fLt d b then d else b)) none

/-- IoU as FP32 between a detection and a predicted track (R453). -/
def trackIou (d : Surv) (t : Track) : U32 :=
  let x := encSpan t.cx.p t.w.p
  let y := encSpan t.cy.p t.h.p
  let u := unionArea d.x d.y (d.x + d.w) (d.y + d.h) x.1 y.1 x.2 y.2
  let i := interArea d.x d.y (d.x + d.w) (d.y + d.h) x.1 y.1 x.2 y.2
  if u = 0 then 0 else fDiv (fOfInt i) (fOfInt u)

/-- The integer cost of an admissible pair; `none` when classes differ or the gate is not met (R452, R453). -/
def pairCost (wEmb : Nat) (d : Det) (t : Track) : Option Nat :=
  if d.box.cls ≠ t.cls then none
  else
    let iou := trackIou d.box t
    let one : U32 := 0x3F800000
    let miss := fSub one iou
    let dist := d.emb.bind (fun e => galDist e t.gal)
    let c := match dist with
      | some x =>
        let w := fDiv (fOfInt wEmb) (fOfInt 65535)
        fAdd (fMul (fSub one w) miss) (fMul w x)
      | none => miss
    let k := (roundHalfUp (fInt c * 4096) (2 ^ 149)).toNat
    if 3072 < k || (dist.isNone && !fLt 0 iou) then none else some k

/-- The auction's state (R454). -/
structure Auction where
  /-- Prices of the columns: tracks, then private columns. -/
  price : List Nat
  /-- Which detection holds each column. -/
  held : List (Option Nat)
  /-- Queued detections. -/
  queue : List Nat
  /-- Rounds so far. -/
  rounds : Nat
  deriving DecidableEq, Repr

/-- The columns of detection `i` with their benefits: admissible tracks in index order, then its private column (R454). -/
def bidColumns (n tracks i : Nat) (cost : List (Option Nat)) : List (Nat × Nat) :=
  (cost.zipIdx.filterMap (fun x => x.1.map (fun c => (x.2, (n + 1) * (4096 - c))))) ++ [(tracks + i, (n + 1) * 1024)]

/-- The best of the columns' values, ties to the lower column, and the best of the others (R454 steps 1 and 2). -/
def bestTwo (vals : List (Nat × Int)) : Option (Nat × Int × Int) :=
  match vals with
  | [] => none
  | v :: vs =>
    let b := vs.foldl (fun b x => if b.2 < x.2 then x else b) v
    let rest := (vals.filter (fun x => x.1 != b.1)).map Prod.snd
    some (b.1, b.2, match rest with | [] => b.2 | r :: rs => rs.foldl max r)

/-- One round (R454). -/
def Auction.round (a : Auction) (n tracks : Nat) (cost : List (List (Option Nat))) : Auction :=
  match a.queue with
  | [] => a
  | i :: q =>
    let cols := bidColumns n tracks i (cost.getD i [])
    match bestTwo (cols.map (fun c => (c.1, (c.2 : Int) - (a.price.getD c.1 0 : Nat)))) with
    | none => a
    | some (j, v1, v2) =>
      let out := (a.held.getD j none).toList
      { price := a.price.set j (a.price.getD j 0 + (v1 - v2 + 1).toNat)
        held := a.held.set j (some i)
        queue := q ++ out
        rounds := a.rounds + 1 }

/-- Rounds until the queue is empty, at most `k` (R454, R455). -/
def Auction.run : Nat → Auction → Nat → Nat → List (List (Option Nat)) → Auction
  | 0, a, _, _, _ => a
  | k + 1, a, n, t, cost => if a.queue.isEmpty then a else Auction.run k (a.round n t cost) n t cost

/-- The greedy finish for one queued detection: the free admissible track of lowest cost (R455). -/
def greedyOne (tracks : Nat) (cost : List (List (Option Nat))) (held : List (Option Nat)) (i : Nat) : List (Option Nat) :=
  let row := cost.getD i []
  let free := (List.range tracks).filterMap (fun j =>
    match row.getD j none, held.getD j none with
    | some c, none => some (j, c)
    | _, _ => none)
  match argMin (fun (x : Nat × Nat) => ([(x.2 : Int), (x.1 : Int)] : List Int)) free with
  | some (j, _) => held.set j (some i)
  | none => held

/-- Assignment: which detection holds each track, the rounds, and whether TRK finished greedily (R454, R455). -/
def assign (n tracks : Nat) (cost : List (List (Option Nat))) : List (Option Nat) × Nat × Bool :=
  let a0 : Auction := { price := List.replicate (tracks + n) 0, held := List.replicate (tracks + n) none
                        queue := List.range n, rounds := 0 }
  let a := a0.run 4096 n tracks cost
  let held := a.queue.foldl (greedyOne tracks cost) a.held
  (held.take tracks, a.rounds, !a.queue.isEmpty)

/-! ### What TRACK does (R446, R447, R456–R458) -/

/-- Write a sample: lowest empty slot, else slot (samples written) mod 8 (R456). -/
def galWrite (t : Track) (e : List U16) : Track × Nat :=
  let k := match t.gal.findIdx? Option.isNone with
    | some i => i
    | none => t.written.toNat % 8
  ({ t with gal := t.gal.set k (some e), written := t.written + 1 }, k)

/-- One object of a record. -/
structure Obj where
  /-- The entry's 32 bytes are of this track. -/
  track : Track
  /-- STATE. -/
  state : Nat
  /-- GALLERY. -/
  gallery : Nat
  /-- COST. -/
  cost : Nat
  deriving DecidableEq, Repr

/-- An entry of a track (15, Object entry). -/
def Obj.bytes (o : Obj) : List Byte :=
  let t := o.track
  let x := encSpan t.cx.p t.w.p
  let y := encSpan t.cy.p t.h.p
  leBytes 4 t.id.toNat ++ leBytes 2 t.cls ++ leBytes 2 t.score ++ leBytes 2 x.1 ++ leBytes 2 y.1 ++
  leBytes 2 (x.2 - x.1) ++ leBytes 2 (y.2 - y.1) ++ leBytes 2 (encS (fDiv t.cx.v (fOfInt 4))) ++
  leBytes 2 (encS (fDiv t.cy.v (fOfInt 4))) ++ leBytes 2 t.age ++ leBytes 1 o.state ++ leBytes 1 o.gallery ++
  leBytes 2 (min t.misses 65535) ++ leBytes 2 o.cost ++ zeros 4

/-- An entry of an UNTRACKED detection. -/
def untrackedBytes (d : Surv) : List Byte :=
  zeros 4 ++ leBytes 2 d.cls ++ leBytes 2 d.score ++ leBytes 2 d.x ++ leBytes 2 d.y ++ leBytes 2 d.w ++ leBytes 2 d.h ++
  zeros 6 ++ [3, 0xFF] ++ zeros 2 ++ [0xFF, 0xFF] ++ zeros 4

/-- An ended track's object (R447). -/
def Track.ended (t : Track) : Obj := { track := t, state := 4, gallery := 255, cost := 65535 }

/-- What TRACK of one frame yields. -/
structure TrackOut where
  /-- The slot's tracks after the frame, in ascending ID. -/
  tracks : List Track
  /-- The next ID. -/
  next : U32
  /-- Objects of live tracks, in ascending ID. -/
  live : List Obj
  /-- UNTRACKED detections. -/
  untracked : List Surv
  /-- ENDED tracks, in ascending ID. -/
  ended : List Track
  /-- Tracks started. -/
  started : Nat := 0
  /-- Auction rounds. -/
  rounds : Nat := 0
  /-- GREEDY_ASSIGN. -/
  greedy : Bool := false
  deriving DecidableEq, Repr

/-- The entry bytes in record order (R461). -/
def TrackOut.entries (o : TrackOut) : List (List Byte) :=
  o.live.map Obj.bytes ++ o.untracked.map untrackedBytes ++ o.ended.map (fun t => t.ended.bytes)

/-- TRACK of a GAP frame (R458). -/
def trackGap (maxAge : Nat) (ts : List Track) (next : U32) : TrackOut :=
  let aged := ts.map (fun t => { t with misses := t.misses + 1 })
  let over_ := fun (t : Track) => !t.confirmed || maxAge < t.misses
  { tracks := aged.filter (fun t => !over_ t), next := next, live := [], untracked := [], ended := aged.filter over_ }

/-- Tracks end before prediction: by the time rule, or all at a change of view (R447, R457 step 1). -/
def timedOut (maxAge periodUs : Nat) (cap : U64) (t : Track) : Bool :=
  decide ((((maxAge + 1) * periodUs * 1000 : Nat) : Int) < (cap.toNat : Int) - t.time.toNat)

/-- The tracks that enter association, in ascending ID (R452). -/
def enterTracks (ts : List Track) : List Track :=
  let chosen := (sortBy (fun a b => a.misses < b.misses || (a.misses == b.misses && a.id.toNat ≤ b.id.toNat)) ts).take 256
  ts.filter (fun t => chosen.any (fun c => c.id == t.id))

/-- The ID after `x`, 0 skipped (R446). -/
def idAfter (x : U32) : U32 := if x + 1 = 0 then 1 else x + 1

/-- The first ID at or after `x` that no live track holds (R446). -/
def freeId : Nat → U32 → List Track → U32
  | 0, x, _ => x
  | k + 1, x, ts => if ts.any (fun t => t.id == x) then freeId k (idAfter x) ts else x

/-- A new track from a detection (R451, R456). -/
def newTrack (id : U32) (minHits : Nat) (cap : U64) (d : Det) : Track :=
  let t : Track := {
    id := id, cls := d.box.cls, score := d.box.score, confirmed := decide (minHits ≤ 1), hits := 1, misses := 0, age := 1
    time := cap
    cx := Axis.start false (measCentre d.box.x d.box.w), cy := Axis.start false (measCentre d.box.y d.box.h)
    w := Axis.start true (measSize d.box.w), h := Axis.start true (measSize d.box.h) }
  match d.emb with
  | some e => (galWrite t e).1
  | none => t

/-- A matched track (R457 step 4): the track and the gallery slot written. -/
def matchTrack (par : TrackPar) (t : Track) (d : Det) : Track × Nat :=
  let hits := min 65535 (t.hits + 1)
  let t := { t.update d.box with
    misses := 0, age := min 65535 (t.age + 1), hits := hits, score := d.box.score
    confirmed := t.confirmed || decide (par.minHits ≤ hits) }
  match d.emb with
  | some e => galWrite t e
  | none => (t, 255)

/-- Tracks in ascending ID. -/
def insertTrack (t : Track) : List Track → List Track
  | [] => [t]
  | x :: xs => if t.id.toNat < x.id.toNat then t :: x :: xs else x :: insertTrack t xs

/-- New tracks from unmatched detections while the slot holds fewer than 512 (R457 step 6). -/
def startTracks (par : TrackPar) (cap : U64) : List (Det × Bool) → List Track → U32 → List Surv → Nat →
    List Track × U32 × List Surv × Nat × List U32
  | [], ts, next, un, k => (ts, next, un, k, [])
  | (d, may) :: ds, ts, next, un, k =>
    if may && ts.length < 512 then
      let id := freeId 513 next ts
      let r := startTracks par cap ds (insertTrack (newTrack id par.minHits cap d) ts) (idAfter id) un (k + 1)
      (r.1, r.2.1, r.2.2.1, r.2.2.2.1, id :: r.2.2.2.2)
    else startTracks par cap ds ts next (un ++ [d.box]) k

/-- The object of a live track after the frame. -/
def liveObj (info : List (U32 × Nat × Nat)) (t : Track) : Obj :=
  match info.find? (fun x => x.1 == t.id) with
  | some (_, g, c) => { track := t, state := if t.confirmed then 1 else 0, gallery := g, cost := c }
  | none => { track := t, state := 2, gallery := 255, cost := 65535 }

/-- TRACK of an analysed frame (R457). -/
def trackFrame (par : TrackPar) (periodUs : Nat) (cap : U64) (view : Bool) (dets : List Det) (ts : List Track) (next : U32) :
    TrackOut :=
  let gone := fun (t : Track) => view || timedOut par.maxAge periodUs cap t
  let ended1 := ts.filter gone
  let pred := (ts.filter (fun t => !gone t)).map (·.predict cap)
  let din := dets.take 256
  let tin := enterTracks pred
  let cost := din.map (fun d => tin.map (pairCost par.wEmb d))
  let (held, rounds, greedy) := assign din.length tin.length cost
  let pairs := (tin.zip held).filterMap (fun x => x.2.map (fun i => (x.1.id, i)))
  let costOf := fun (id : U32) (i : Nat) =>
    ((cost.getD i []).getD ((tin.findIdx? (fun t => t.id == id)).getD 0) none).getD 65535
  let step := pred.map (fun t =>
    match pairs.find? (fun p => p.1 == t.id) with
    | some (_, i) =>
      match din[i]? with
      | some d => let r := matchTrack par t d
                  (r.1, some (t.id, r.2, costOf t.id i))
      | none => (t, none)
    | none => ({ t with age := min 65535 (t.age + 1), misses := t.misses + 1 }, none))
  let over_ := fun (x : Track × Option (U32 × Nat × Nat)) => x.2.isNone && (!x.1.confirmed || par.maxAge < x.1.misses)
  let ended2 := (step.filter over_).map Prod.fst
  let stay := (step.filter (fun x => !over_ x)).map Prod.fst
  let info := step.filterMap Prod.snd
  let free := (dets.zipIdx.filter (fun x => !pairs.any (fun p => p.2 == x.2))).map (fun x => (x.1, decide (x.2 < 256)))
  let (after, next', un, started, ids) := startTracks par cap free stay next [] 0
  let newInfo := (after.filter (fun t => ids.contains t.id)).map (fun t =>
    (t.id, (if t.gal.any Option.isSome then 0 else 255), 65535))
  { tracks := after, next := next', live := after.map (liveObj (info ++ newInfo)), untracked := un
    ended := sortBy (fun a b => decide (a.id.toNat ≤ b.id.toNat)) (ended1 ++ ended2)
    started := started, rounds := rounds, greedy := greedy }

/-! ### The record (R461) -/

/-- The flags of a record. -/
structure RecFlags where
  /-- Gap reason; none for an analysed frame. -/
  gap : Option GapReason
  /-- STALE_SOURCE. -/
  stale : Bool
  /-- FORMAT_CHANGE. -/
  fmt : Bool
  /-- TRACK_RESET. -/
  reset : Bool
  /-- DEGRADED. -/
  deg : Bool
  /-- GREEDY_ASSIGN. -/
  greedy : Bool
  deriving DecidableEq, Repr

/-- FLAGS. -/
def RecFlags.bits (f : RecFlags) : Nat :=
  b2n f.gap.isSome + 2 * b2n f.stale + 4 * b2n f.fmt + 8 * b2n f.reset + 16 * b2n f.deg + 32 * b2n f.greedy

/-- The record header as TRK builds it; SAFETY_SEQ, POST_TIME, HEALTH and CRC are 0 until POST. -/
def recHeader (n : Nat) (seq : U32) (fl : RecFlags) (cls : Cls) (cap : U64) (objs cut w h tracks dets : Nat) : List Byte :=
  leBytes 2 0x5A52 ++ leBytes 1 1 ++ leBytes 1 n ++ leBytes 4 seq.toNat ++ zeros 4 ++ leBytes 2 fl.bits ++
  leBytes 1 ((fl.gap.map GapReason.code).getD 0) ++ leBytes 1 cls.code ++ leBytes 8 cap.toNat ++ zeros 8 ++
  leBytes 2 objs ++ leBytes 2 cut ++ leBytes 2 w ++ leBytes 2 h ++ leBytes 2 tracks ++ leBytes 2 dets ++ zeros 20

/-- The detections of a frame with their unit embeddings (R453, R456). -/
def Frame.dets (f : Frame) : List Det :=
  f.surv.zipIdx.map (fun x => { box := x.1, emb := (lookupN f.emb x.2).bind unitEmb })

/-- A frame changes tracks: not a re-issued frame at or before the tracking time (R459). -/
def Slot.tracksFrame (sl : Slot) (f : Frame) : Bool :=
  !(f.reissued && sl.trackTime.any (fun t => f.capture.toNat ≤ t.toNat))

/-- TRACK of this frame needs its Tower item first: some detection has an embedding and some track a sample (R453). -/
def Slot.needsCost (sl : Slot) (f : Frame) : Bool :=
  f.gap.isNone && sl.tracksFrame f && !f.costDone && !f.emb.isEmpty && sl.tracks.any (fun t => t.gal.any Option.isSome)

/-- FORMAT_CHANGE and change of view at an analysed frame (R372, R460). -/
def Slot.formatCheck (sl : Slot) (f : Frame) : Bool × Bool :=
  match f.fmt with
  | none => (false, false)
  | some fm =>
    if f.reissued then (false, false)
    else
      let old := if sl.analysed then sl.prevFmt else if sl.tracks.isEmpty then none else sl.trackFmt
      let chg := !sl.analysed || sl.prevFmt != some fm
      (chg, chg && old.any (fun o => viewChange o fm))

/-- The record is written to its buffer and kept with the frame; the frame passes TRACK. -/
def State.recordBuilt (s : State) (n : Nat) (seq : U32) (buf : U32) (hdr : List Byte) (entries : List (List Byte)) : State :=
  let es := (entries.take 1024).flatten
  let rec_ := hdr ++ es
  let s := (s.bufPut 0x20 buf 0 rec_).1
  ((s.updFrame n seq (fun f => { f with rec_ := some buf, record := rec_, entryCrc := crc32c es })).passStage n seq).advance n

/-- The counters of TRK after one frame. -/
def SsuTrk.tracked (t : SsuTrk) (o : TrackOut) (cut : Nat) : SsuTrk :=
  { t with frames := t.frames + 1
           greedy := if o.greedy then satInc t.greedy else t.greedy
           roundsMax := if t.roundsMax.toNat < o.rounds then BitVec.ofNat 13 o.rounds else t.roundsMax
           started := t.started + BitVec.ofNat 32 o.started
           ended := t.ended + BitVec.ofNat 32 o.ended.length
           untracked := satAdd t.untracked o.untracked.length
           omitted := satAdd t.omitted cut }

/-- TRACK of a GAP frame with its record buffer (R458). -/
def State.trackGapFrame (s : State) (n : Nat) (f : Frame) (r : GapReason) (buf : U32) : State :=
  let sl := s.slotN n
  let o := trackGap f.par.maxAge sl.tracks sl.nextTrack
  let es := o.entries
  let fl : RecFlags := { gap := some r, stale := f.stale, fmt := false, reset := false, deg := s.deg n, greedy := false }
  let hdr := recHeader n f.seq fl sl.cls f.capture (min 1024 es.length) (es.length - 1024) 0 0 o.tracks.length f.surv.length
  let s := s.updSt (·.tracked o (es.length - 1024))
  let s := s.updSlotN n (fun sl => { sl with tracks := o.tracks })
  s.recordBuilt n f.seq buf hdr es

/-- TRACK of an analysed frame with its record buffer (R457, R459, R475). `ue` is an uncorrectable error in the slot's
track state. -/
def State.trackAnalysed (s : State) (n : Nat) (f : Frame) (buf : U32) (ue : Bool) : State :=
  let sl := s.slotN n
  let fc := sl.formatCheck f
  let changes := sl.tracksFrame f
  let none_ : TrackOut := { tracks := sl.tracks, next := sl.nextTrack, live := [], untracked := f.surv, ended := [] }
  let o := if ue then { none_ with tracks := [] }
    else if changes then trackFrame f.par sl.periodUs f.capture fc.2 f.dets sl.tracks sl.nextTrack
    else none_
  let es := o.entries
  let reset := fc.2 || sl.resetPending || ue
  let fl : RecFlags := { gap := none, stale := false, fmt := fc.1, reset := reset, deg := s.deg n, greedy := o.greedy }
  let (w, h) := match f.fmt with | some m => (m.w, m.h) | none => (0, 0)
  let hdr := recHeader n f.seq fl sl.cls f.capture (min 1024 es.length) (es.length - 1024) w h o.tracks.length f.surv.length
  let s := s.updSt (·.tracked o (es.length - 1024))
  let s := s.updSlotN n (fun sl => { sl with
    tracks := o.tracks, nextTrack := o.next, resetPending := false
    trackTime := if changes && !ue then some f.capture else sl.trackTime
    trackFmt := if changes && !ue then f.fmt else sl.trackFmt
    analysed := sl.analysed || !f.reissued
    prevFmt := if f.reissued then sl.prevFmt else f.fmt })
  s.recordBuilt n f.seq buf hdr es

/-- The size of the record buffer asked for: the most that the record can need (log entry 16). -/
def Slot.recSize (sl : Slot) (f : Frame) : Nat := 64 + 32 * min 1024 (sl.tracks.length + f.surv.length)

/-- An uncorrectable error in the track state of a slot ends every track without ENDED entries (R475). -/
def State.trackLost (s : State) (n : Nat) : State :=
  (s.faultLog 0x20 Status.internal.code (BitVec.ofNat 32 n)).updSlotN n (fun sl => { sl with tracks := [], resetPending := true })

/-- TRACK of one frame: its record buffer first; without one a GAP record in the slot's gap-record area and no change
of tracks (R457, R474). While the record pool is being rebuilt the frame waits. -/
def State.trackOne (s : State) (n : Nat) (f : Frame) (a : AnaCfg) (ue : Bool) : State :=
  let sl := s.slotN n
  match s.bufTry a.recPool (sl.recSize f) a.cls 15 (.record n f.seq) with
  | (s, none) => s
  | (s, some (.grant _ h)) =>
    let s := if ue then s.trackLost n else s
    match f.gap with
    | some r => s.trackGapFrame n f r h
    | none => s.trackAnalysed n f h ue
  | (s, some _) =>
    let s := if ue then s.trackLost n else s
    let s := s.discard n f.seq .noBuffer
    let r := f.gap.getD .noBuffer
    let hdr := gapHeader n sl.cls f r (s.deg n) (s.slotN n).tracks.length
    ((s.updFrame n f.seq (fun f => { f with record := hdr, entryCrc := crc32c [] })).passStage n f.seq).advance n

/-- TRACK_COMPLETE: TRK tracks the frame that it has taken up and builds its record (R457–R461, R474, R475). -/
def execTrackComplete (n : Fin 64) (ue : Bool) (s : State) : Res :=
  whenLive s fun s =>
    let sl := s.slotN n.val
    if !s.unitLive 0x20 || !s.unitLive 0x1F || sl.copying then s
    else match s.frameTurn n.val 7, sl.ana with
      | some f, some a => if f.busy || sl.needsCost f || f.turn.stage != 7 then s else s.trackOne n.val f a ue
      | _, _ => s

/-- t_TRK of a frame: auction rounds, tracks and detections that enter (R464). -/
def State.trkTime (s : State) (n : Nat) (f : Frame) : Nat :=
  let sl := s.slotN n
  if f.gap.isSome || !sl.tracksFrame f then s.coreTime 100 0
  else
    let view := (sl.formatCheck f).2
    let t := if view then 0 else min 256 (sl.tracks.filter (fun t => !timedOut f.par.maxAge sl.periodUs f.capture t)).length
    let d := min 256 f.surv.length
    let r := (trackFrame f.par sl.periodUs f.capture view f.dets sl.tracks sl.nextTrack).rounds
    s.coreTime 100 (64 * r + 200 * t + ceilDiv (d * t) 4)

/-- The SSU, or TRK for a frame whose turn it is, has worked for 4 × its bound + 1 ms (R472; log entry 132). -/
def State.ssuTrkOver (s : State) (trk : Bool) : Bool :=
  if trk then (List.range 64).any (fun n => (s.frameTurn n 7).any (fun f =>
    f.turn.stage == 7 && decide (f.turn.at_ + 4 * s.trkTime n f + 1000 ≤ s.clock)))
  else match s.str.st.ssuRun with
    | some (n, _) => (s.frameTurn n 4).any (fun f => decide (s.str.st.ssuAt + 4 * s.ssuTime n f + 1000 ≤ s.clock))
    | none => false

/-- SSU_TRK_STOP_TIMEOUT: an item of the SSU or TRK that runs too long is stopped, its frame discarded, and the unit
reset; the second stop within 1 s fences it (R472). -/
def execSsuTrkStopTimeout (trk : Bool) (s : State) : Res :=
  whenLive s fun s =>
    let k := if trk then 7 else 4
    let u := if trk then 0x20 else 0x1F
    let mine := (List.range 64).filterMap (fun n => (s.frameTurn n k).map (fun f => (n, f.seq)))
    if !s.unitLive u || !s.ssuTrkOver trk then s
    else
      let s := s.updSt (fun t => if trk then { t with trkStops := satInc t.trkStops } else { t with ssuStops := satInc t.ssuStops })
      let s := mine.foldl (fun s x => s.discard x.1 x.2 .fault) s
      s.autoReset u

end Sys2Proof.Machine
end

