-- ==== Sys2Proof/Machine/Post.lean ====
section
/-!
DEFINITION. POST: result rings, their messages, and records over UDP (15 R463–R474, 20 R573, 04 R137).
-/

namespace Sys2Proof.Machine
open Sys2Proof

/-- A result ring requests a message at clock `now`: enabled, armed, and COUNT records or TIMEOUT_US since the oldest
(R137). -/
def Rrg.requests (r : Rrg) (now : Nat) : Bool :=
  r.en && r.armed && (decide (max 1 r.count.toNat ≤ r.sinceMsg) ||
    (r.timeoutUs != 0 && r.oldestAt.any (fun t => t + r.timeoutUs.toNat ≤ now)))

/-- A ring whose message was sent or is kept as pending is disarmed (R137). -/
def Rrg.announced (r : Rrg) : Rrg := { r with armed := false, sinceMsg := 0, oldestAt := none }

/-- A result ring's message conditions are evaluated; one message serves every ring that shares the vector and requests it
at this moment (R137). -/
def State.ringEval (s : State) (n : Fin 64) : State :=
  let r := s.host.rrg[n]
  let now := s.clock
  let v : Fin 64 := r.vector.toFin
  if r.requests now && s.msixTakes v then
    let s := s.sendMsix v
    { s with host := { s.host with rrg := s.host.rrg.map (fun x =>
        if x.requests now && x.vector == r.vector then x.announced else x) } }
  else s

/-- Free bytes of a ring (R466). -/
def Rrg.room (r : Rrg) : Nat :=
  let f := (r.read - r.write).toNat % 2 ^ r.log2.toNat
  if f = 0 then 2 ^ r.log2.toNat else f

/-- A record of `b` bytes would wrap (R465). -/
def Rrg.wraps (r : Rrg) (b : Nat) : Bool := decide (2 ^ r.log2.toNat - r.write.toNat < b)

/-- Bytes that a record occupying `b` bytes needs (R466). -/
def Rrg.needs (r : Rrg) (b : Nat) : Nat := if r.wraps b then b + (2 ^ r.log2.toNat - r.write.toNat) else b

/-- A record's occupied length (R465). -/
def occupied (n : Nat) : Nat := ceilDiv n 64 * 64

/-- The record fits and the device may write it (R466, R147). -/
def State.ringFits (s : State) (n : Fin 64) (b : Nat) : Bool :=
  s.canRequest && decide (s.host.rrg[n].needs b < s.host.rrg[n].room)

/-- The wrap marker (R465). -/
def wrapMarker : List Byte := leBytes 2 0x5A57 ++ zeros 62

/-- The DMA writes a record to its ring: marker, record, then RRG_WRITE and RRG_POSTED; the ring's message (R465, R468,
R137). -/
def State.ringWrite (s : State) (n : Fin 64) (rec_ : List Byte) : State :=
  let r := s.host.rrg[n]
  let b := occupied rec_.length
  let w := r.write.toNat
  let s := if r.wraps b then s.emit (.hostWrite (r.base.toNat + w) wrapMarker) else s
  let at_ := if r.wraps b then 0 else w
  let s := s.emit (.hostWrite (r.base.toNat + at_) (padTo b rec_))
  let now := s.clock
  let s := s.updRrg n (fun r => { r with
    write := BitVec.ofNat 32 ((at_ + b) % 2 ^ r.log2.toNat), posted := r.posted + 1, full := false
    sinceMsg := r.sinceMsg + 1, oldestAt := some (r.oldestAt.getD now) })
  s.ringEval n

/-- The GAP record that replaces one whose entries fail the cross-check: SLOT, FRAME_SEQ, CLASS, CAPTURE_TIME, TRACKS
and the other FLAGS stay (R573). -/
def crossGap (h : List Byte) : List Byte :=
  let flags := leAt h 12 2
  h.take 12 ++ leBytes 2 (flags / 2 * 2 + 1) ++ leBytes 1 GapReason.fault.code ++ (h.drop 15).take 17 ++ zeros 8 ++
    (h.drop 40).take 2 ++ zeros 22

/-- The record that the result DMA takes up: from the record buffer when its entries pass the cross-check, from the
slot's gap-record area otherwise (R573, R474, R238). -/
def State.recordRead (s : State) (f : Frame) : List Byte :=
  match f.rec_ with
  | none => f.record
  | some h =>
    let a := s.bufAddr h
    let bytes := s.memRead a f.record.length
    if s.readUe a f.record.length || crc32c (bytes.drop 64) != f.entryCrc then crossGap (f.record.take 64) else bytes

/-- POST_TIME and CRC are written last (R462, R464). -/
def finishRecord (h : List Byte) (time : U64) : List Byte :=
  let h := putAt h 24 (leBytes 8 time.toNat)
  putAt h 60 (leBytes 4 (crc32c (h.take 60 ++ h.drop 64)).toNat)

/-- POST of a frame ends: the record buffer goes back, stage pip 8 advances, the next frame enters (R27, R28). -/
def State.postDone (s : State) (n : Nat) (f : Frame) (gap written : Bool) : State :=
  let s := s.updFrame n f.seq (fun f => { f with rec_ := none })
  let s := s.bufsBack n f.rec_.toList 15 0x20
  let s := s.passStage n f.seq
  let s := s.updSlotN n (fun sl => { sl with
    roomDue := none, gaps := if gap then sl.gaps + 1 else sl.gaps
    lastPosted := if written then some f.seq else sl.lastPosted })
  s.posted n

/-- The result DMA posts the record of the frame whose turn it is; `drop` gives up for want of room (R465, R466, R469).
The Keeper checks and stamps it first (R573). -/
def State.postRecord (s : State) (n : Fin 64) (f : Frame) (flow : Option Nat) (drop : Bool) : State :=
  let rec_ := s.recordRead f
  let s := match f.rec_ with
    | some h => s.readSense (s.bufAddr h) f.record.length
    | none => s
  let cls := (s.slotN n.val).cls
  let (s, rec_) := s.kprStamp n rec_ (!drop)
  let rec_ := finishRecord rec_ s.devTime
  let gap := bitOf (leAt rec_ 12 2) 0
  let s := if drop then s else match flow with
    | some k => s.sendRecord k (if cls == .s then 1 else 2) n.val rec_
    | none => s.ringWrite n rec_
  s.postDone n.val f gap (!drop)

/-- POST of the frame whose turn it is: at once over UDP or into a ring with room; else FULL and a wait of 1 ms
(R466). -/
def State.postTry (s : State) (n : Fin 64) : State :=
  let sl := s.slotN n.val
  match s.frameTurn n.val 8, sl.res with
  | some f, some (.flow k) => s.postRecord n f (some k) false
  | some f, some .ring =>
    if s.ringFits n (occupied (s.recordRead f).length) then s.postRecord n f none false
    else
      let now := s.clock
      (s.updRrg n (fun r => { r with full := true })).updSlot n (fun sl => { sl with roomDue := some (sl.roomDue.getD (now + 1000)) })
  | _, _ => s

/-- RESULT_POST: the result DMA posts a record (R465–R471). -/
def execResultPost (n : Fin 64) (s : State) : Res := whenLive s (·.postTry n)

/-- RESULT_RING_FULL_TIMEOUT: the record that has waited 1 ms for room is dropped and counted (R466). -/
def execResultRingFullTimeout (n : Fin 64) (s : State) : Res :=
  whenLive s fun s =>
    let sl := s.slotN n.val
    match s.frameTurn n.val 8, sl.res with
    | some f, some .ring =>
      if sl.roomDue.any (· ≤ s.clock) then
        if s.ringFits n (occupied (s.recordRead f).length) then s.postRecord n f none false
        else (s.updRrg n (fun r => { r with fullCount := satInc r.fullCount })).postRecord n f none true
      else s
    | _, _ => s

/-- A write of RRG_READ is in range: a multiple of 64 from RRG_READ to RRG_WRITE in ring order (R467). -/
def Rrg.readOk (r : Rrg) (v : Nat) : Bool :=
  let m := 2 ^ r.log2.toNat
  v % 64 == 0 && decide (v < m) &&
    decide ((v + m - r.read.toNat % m) % m ≤ (r.write.toNat + m - r.read.toNat % m) % m)

/-- RRG_READ_WRITE: the host has read records: the ring re-arms, its conditions are evaluated, a waiting record is
written when it fits (R137, R138, R466, R467). -/
def execRrgReadWrite (n : Fin 64) (value : U32) (s : State) : Res :=
  whenBar s fun s =>
    let r := s.host.rrg[n]
    if r.en && r.readOk value.toNat then
      let s := s.updRrg n (fun r => { r with read := value, armed := true })
      let s := s.ringEval n
      if (s.slotN n.val).roomDue.isSome then s.postTry n else s
    else s

/-- RRG_IRQ_WRITE: COUNT, TIMEOUT_US, and VECTOR when it lies in 17 to 63; a condition that now holds sends (R137; 04, At
the edges). -/
def execRrgIrqWrite (n : Fin 64) (value : U32) (s : State) : Res :=
  whenBar s fun s =>
    let v := bitsOf value.toNat 24 6
    (s.updRrg n (fun r => { r with
      count := BitVec.ofNat 8 (bitsOf value.toNat 0 8), timeoutUs := BitVec.ofNat 16 (bitsOf value.toNat 8 16)
      vector := if 17 ≤ v then BitVec.ofNat 6 v else r.vector })).ringEval n

/-- RRG_IRQ_TIMEOUT: TIMEOUT_US have passed since the oldest unannounced record (R137). -/
def execRrgIrqTimeout (n : Fin 64) (s : State) : Res := whenLive s (·.ringEval n)

end Sys2Proof.Machine
end

