-- ==== Sys2Proof/Machine/Keeper.lean ====
section
/-!
DEFINITION. The Keeper's monitors, watches, watchdog and outputs (20 R569–R583, 02 R44, R63).
-/

namespace Sys2Proof.Machine
open Sys2Proof

/-- A row of the Keeper's own: no effect while the Keeper does not run. -/
def whenKeeper (s : State) (f : State → State) : Res := .next (if s.kprRuns then f s else s)

/-- A device-class monitor trips: a fault already latched is not latched again (R576). -/
def State.monitor (s : State) (b : KprBit) (who : Nat) (value : U32) (injected : Bool) : State :=
  if s.kpr.fault.getLsbD b.idx then s
  else (s.updKpr (fun k => { k with injecting := injected })).latch b 0 who value

/-- The Keeper's last tick, this instant if it is one: a time of its watches that is due by then has been found due
(R569). -/
def State.kprTickAt (s : State) : Nat := s.clock - (s.clock - s.kpr.tickFrom) % 100

/-- This instant is a tick of the Keeper (R569). -/
def State.kprAtTick (s : State) : Bool := (s.clock - s.kpr.tickFrom) % 100 == 0

/-- The pending injection of this mechanism and target takes effect. -/
def State.injected (s : State) (mech target : Nat) : Bool := s.kpr.inject == some (mech, target)

/-- The pending injection is spent when `b`. -/
def State.injectDone (s : State) (b : Bool) : State :=
  if b then s.updKpr (fun k => { k with inject := none }) else s

/-- Expected counts of a 100 µs window, in fifteenths of a cycle: CLK_CORE `core`, CLK_FABRIC, CLK_VIDEO, CLK_CTRL, and
oscillator cycles for the reference (R41, R43, R44; log entry 17). -/
def clockExpected (core : Nat) : List Nat := [core, 15 * 80000, 15 * 64000, 15 * 40000, 15 * 5000]

/-- A count is within its tolerance: ±2 %, ±10 % for the reference (R44). -/
def clockOk (core i count : Nat) : Bool :=
  let e := (clockExpected core).getD i 0
  let c := 15 * count
  let d := if c ≤ e then e - c else c - e
  decide (d * 100 ≤ e * (if i = 4 then 10 else 2))

/-- KEEPER_CLOCK_WINDOW: the counts of the window that has ended are compared, that of CLK_CORE with the count for the
dividers in use during it (R44, R576); an injection offsets one by 5 % (R585). -/
def execKeeperClockWindow (counts : Vector Nat 5) (s : State) : Res :=
  whenKeeper s fun s =>
    match s.kpr.winDone with
    | none => s
    | some core =>
      if s.boot.stage < 3 || s.sup.power == .off then s
      else (List.finRange 5).foldl (fun s i =>
        let inj := s.injected 6 i.val
        let s := s.injectDone inj
        let c := if inj then counts[i] * 105 / 100 else counts[i]
        if clockOk core i.val c && !inj then s
        else s.monitor (if i.val = 4 then .refclk else .clock) i.val (BitVec.ofNat 32 c) inj)
        (s.updKpr (fun k => { k with winDone := none }))

/-- The window of a supply in mV (R63, 21 R593). -/
def supplyWindow (setCode i : Nat) : Nat × Nat :=
  match i with
  | 0 => (ceilDiv (setCode * 5) 2 - 60, 950)
  | 1 => (765, 935) | 2 => (450, 550) | 3 => (945, 1155) | 4 => (1620, 1980) | 5 => (2880, 3520)
  | 6 => (675, 825) | 7 => (1080, 1320) | _ => (1350, 1650)

/-- KEEPER_SUPPLY_FAULT: a supply outside its window past the deglitch is latched (R63, R594); an injection makes a
monitor read outside (R585). -/
def execKeeperSupplyFault (supply : Nat) (mv : U32) (s : State) : Res :=
  whenKeeper s fun s =>
    if 8 < supply || (supply = 8 && !s.sup.fuses.variantL) then s
    else
      let w := supplyWindow s.sup.setCode.toNat supply
      let inj := s.injected 7 supply
      if w.1 ≤ mv.toNat && mv.toNat ≤ w.2 && !inj then s
      else (s.injectDone inj).monitor .supply supply mv inj

/-- KEEPER_SELF_TEST: every 100 ms; a monitor that fails its test stimulus is a KEEPER fault (R570, R585). -/
def execKeeperSelfTest (pass : Bool) (s : State) : Res :=
  whenKeeper s fun s =>
    if s.clock < s.kpr.selfAt + 100000 then s else
    let now := s.clock
    let s := s.updKpr (fun k => { k with selfAt := now })
    let inj := s.injected 0x0C 0
    let s := s.injectDone inj
    if pass && !inj then s else s.monitor .keeper 0x35 0 inj

/-- KEEPER_SM_MISMATCH: the duplicated state machines disagree (R570). -/
def execKeeperSmMismatch (s : State) : Res := whenKeeper s (·.monitor .keeper 0x35 0 false)

/-- WATCHDOG_TIMEOUT: no accepted kick by 20 ms (R577). -/
def execWatchdogTimeout (s : State) : Res :=
  whenKeeper s fun s =>
    match s.kpr.wdogAt with
    | some t => if t + 20000 ≤ s.clock then s.monitor .watchdog 0x34 0 false else s
    | none => s

/-- KPR_WDOG_KICK: the next token within 5 to 20 ms is accepted, any other kick is a WATCHDOG fault (R577, R585). -/
def execKprWdogKick (token : Byte) (s : State) : Res :=
  whenKeeper s fun s =>
    match s.kpr.wdogAt with
    | none => s
    | some t =>
      let inj := s.injected 9 0
      let s := s.injectDone inj
      let now := s.clock
      if token = s.kpr.wdogLast + 1 && t + 5000 ≤ now && now ≤ t + 20000 && !inj then
        s.updKpr (fun k => { k with wdogLast := token, wdogAt := some now })
      else s.monitor .watchdog 0x34 0 inj

/-- HYL_LOCKSTEP_MISMATCH: a mismatch after READY (R576). -/
def execHylLockstepMismatch (s : State) : Res :=
  whenKeeper s fun s => if s.boot.stage == 0xF then s.monitor .lockstep 0x34 0 false else s

/-- DEVICE_FAULT_REPORT: a unit reports a device fault on its hardware line (R562, R576). -/
def execDeviceFaultReport (unit detail : Byte) (value : U32) (s : State) : Res :=
  whenKeeper s fun s => if s.boot.stage == 0xF then s.deviceFault unit.toNat detail.toNat value else s

/-- The watch of this cause may trip: it is not latched, or what latched it is gone (R574). -/
def KprSlot.fresh (k : KprSlot) (c : StreamCause) : Bool := k.cause &&& c.bit == 0 || k.okSince

/-- SOURCE_WATCH_EXPIRY: no arrival for 2 periods (R572). -/
def execSourceWatchExpiry (n : Fin 64) (s : State) : Res :=
  whenKeeper s fun s =>
    let k := s.kpr.slot[n]
    match k.lastArrivalAt with
    | some t =>
      if k.supervised && !k.sourceTripped && t + 2 * k.periodUs.toNat ≤ s.kprTickAt then
        let inj := s.injected 1 n.val
        let s := (s.injectDone inj).streamFault n .source k.safetySeq inj
        s.updKslot n (fun k => { k with sourceTripped := true })
      else s
    | none => s

/-- DEADLINE_WATCH_EXPIRY: stage pip 8 has not reached the frame 33 ms after its arrival (R572). -/
def execDeadlineWatchExpiry (n : Fin 64) (s : State) : Res :=
  whenKeeper s fun s =>
    let k := s.kpr.slot[n]
    match k.armed.find? (fun a => !a.tripped && a.at_ + 33000 ≤ s.kprTickAt) with
    | some a =>
      if k.supervised then
        let s := (s.injectDone a.ignored).streamFault n .deadline a.seq a.ignored
        s.updKslot n (fun k => { k with
          armed := if a.ignored then k.armed.filter (fun x => x.seq != a.seq)
                   else k.armed.map (fun x => if x.seq == a.seq then { x with tripped := true } else x) })
      else s
    | none => s

/-- NO_RESULT_WATCH_EXPIRY: no OK record for 2 periods, while SOURCE has not tripped (R572). -/
def execNoResultWatchExpiry (n : Fin 64) (s : State) : Res :=
  whenKeeper s fun s =>
    let k := s.kpr.slot[n]
    match k.lastOkAt with
    | some t =>
      if k.supervised && !k.sourceTripped && k.fresh .noResult && t + 2 * k.periodUs.toNat ≤ s.kprTickAt then
        s.streamFault n .noResult k.safetySeq false
      else s
    | none => s

/-- START_WATCH_EXPIRY: no OK record within 2 s of the start of supervision (R572). -/
def execStartWatchExpiry (n : Fin 64) (s : State) : Res :=
  whenKeeper s fun s =>
    let k := s.kpr.slot[n]
    if k.supervised && k.lastOkAt.isNone && k.fresh .start && k.startAt + 2000000 ≤ s.kprTickAt then
      s.streamFault n .start k.safetySeq false
    else s

/-- Every condition of R580 holds. -/
def State.releaseOk (s : State) : Bool :=
  s.kpr.readySeen && s.kpr.armed && s.kpr.fault == 0 && s.kpr.slot.toList.any KprSlot.supervised &&
    s.kpr.slot.toList.all (fun k => k.state == .idle || k.state == .ok)

/-- SAFE_N_RELEASE: the tick at which every condition holds: SAFE_N is released, BEACON rises (R580, R582). -/
def execSafeNRelease (s : State) : Res :=
  whenKeeper s fun s =>
    let now := s.clock
    if s.releaseOk && !s.kpr.safe && s.kprAtTick then
      (s.updKpr (fun k => { k with safe := true, beacon := true, beaconAt := now })).kprEvent 4
    else s

/-- BEACON_TOGGLE: while SAFE_N is released BEACON changes level 25,000 cycles of the Keeper's oscillator after its last
change: 500 µs ± 25 µs (R43, R582). -/
def execBeaconToggle (s : State) : Res :=
  whenKeeper s fun s =>
    let now := s.clock
    if s.kpr.safe && s.kpr.beaconAt + 475 ≤ now then s.updKpr (fun k => { k with beacon := !k.beacon, beaconAt := now }) else s

end Sys2Proof.Machine
end

