-- ==== Sys2Proof/Machine/Power.lean ====
section
/-!
DEFINITION. Clocks, adaptive voltage, temperature and throttle, the supply guard's level, power switches (02).
-/

namespace Sys2Proof.Machine
open Sys2Proof

/-- The part is powered and out of reset: the supply and thermal block works (02). -/
def State.poweredOn (s : State) : Bool := s.boot.porN && s.boot.perstN && s.sup.power != .off

/-- A row of the supply block: no effect in reset or in OFF. -/
def whenPowered (s : State) (f : State → State) : Res := .next (if s.poweredOn then f s else s)

/-! ### Droop (R46–R48) -/

/-- Droop alone keeps CLK_CORE at /12. -/
def Supply.droopOnly (p : Supply) : Bool := p.droop && p.throttle == 0 && !p.avsLimit && !p.avsFault

/-- A throttle or AVS request begins or ends: the droop block in progress is no longer all one or the other (R48). -/
def Supply.mixed (p : Supply) : Supply := { p with droopMixed := p.droopMixed || p.droop }

/-- CLK_CORE cycles at /12 because of droop in a block that ends: all 64 where droop alone asked throughout, none where
another request stood throughout, else what the clock generator reports, at most 64 (R46, R48; log entry 29). -/
def Supply.blockCycles (p : Supply) (reported : Nat) : Nat :=
  if p.droopMixed then min 64 reported else if p.droopOnly then 64 else 0

/-- DROOP_TRIP: a stretch begins; it is counted when it begins from /10; a lowering that waits is cancelled and none is
requested for 10 ms (R46, R48; 02, When things fall together). -/
def execDroopTrip (s : State) : Res :=
  whenPowered s fun s =>
    let now := s.clock
    let s := if s.sup.avsLowerDue.isSome then
        s.updSup (fun p => { p with avsLowerDue := none, avsHoldoff := some (now + 10000) }) else s
    if s.sup.droop then s
    else
      let from10 := s.coreDiv = 10
      (s.updSup (fun p => { p with droop := true, droopMixed := false, droopCount := if from10 then satInc p.droopCount else p.droopCount })).supEvent 2

/-- DROOP_BLOCK_END: a block of 64 cycles ends and its cycles at /12 are counted; another begins while a detector is
tripped (R46, R48). A cycle at /12 lasts 1.2 cycles at /10, so the Keeper's window expects 3 fifteenths fewer for each (R44). -/
def execDroopBlockEnd (e : DroopEnd) (s : State) : Res :=
  whenPowered s fun s =>
    if s.sup.droop then
      let n := s.sup.blockCycles e.cycles
      (s.updSup (fun p => { p with droop := e.again, droopMixed := false, stretchCycles := p.stretchCycles + BitVec.ofNat 32 n })).updKpr
        (fun k => { k with winExp := k.winExp.map (· - 3 * n) })
    else s

/-! ### Adaptive voltage (R49–R54, R73) -/

/-- The millivolts sent for a setpoint code: code × 2.5 mV, half up (R52). -/
def avsMv (code : Nat) : Nat := (code * 5 + 1) / 2

/-- The frame on the bus: a write of the voltage with commit, or a read of the status, on rail 0 (R52). -/
def AvsFrame.out (f : AvsFrame) : Out := if f.status then .avsbus 0xE false 0 0 else .avsbus 0 true 0 (avsMv f.code)

/-- The controller requests a setpoint and waits 20 µs (R51, R52). A status read in flight gives way (log entry 115). -/
def State.avsRequest (s : State) (code : Nat) : State :=
  let now := s.clock
  let f : AvsFrame := { code := code }
  (s.updSup (fun p => { p with avsFrame := some f, avsSettle := some (now + 20) })).emit f.out

/-- A voltage write waits for its acknowledgement. -/
def Supply.avsWriting (p : Supply) : Bool := p.avsFrame.any (fun f => !f.status)

/-- AVS evaluates: enabled, no fault, no wait or voltage write in progress, not in STANDBY (R51, R71, R73). -/
def Supply.avsRuns (p : Supply) : Bool :=
  p.avsEn && !p.avsFault && p.avsSettle.isNone && !p.avsWriting && p.power != .standby

/-- AVS_EVALUATION: the smallest slack code decides; a setpoint outside the limits is brought inside (R50, R54). Within the
10 ms without lowering after a droop the 1 ms of codes above 16 is not counted either, so that the first lowering comes 11 ms
after the trip at the earliest (DESIGN CHOICE: log entry 116). -/
def execAvsEvaluation (worst : Nat) (s : State) : Res :=
  whenPowered s fun s =>
    if !s.sup.avsRuns || 63 < worst then s
    else
      let now := s.clock
      let s := if 8 ≤ worst && s.sup.avsLimit then s.updSup (fun p => { p.mixed with avsLimit := false }) else s
      let inside := max s.sup.floor.toNat (min s.sup.ceil.toNat s.sup.setCode.toNat)
      if inside ≠ s.sup.setCode.toNat then s.avsRequest inside
      else if 16 < worst then
        s.updSup (fun p => { p with avsLowerDue := if p.avsHoldoff.isSome then none else some (p.avsLowerDue.getD (now + 1000)) })
      else
        let s := s.updSup (fun p => { p with avsLowerDue := none })
        if 8 ≤ worst then s
        else
          let code := s.sup.setCode.toNat
          let ceil := s.sup.ceil.toNat
          if ceil ≤ code then
            if s.sup.avsLimit then s else (s.updSup (fun p => { p.mixed with avsLimit := true })).supEvent 0x10
          else (s.updSup (fun p => { p with avsRaiseAt := some now })).avsRequest (min ceil (code + (if worst < 4 then 4 else 1)))

/-- AVS_LOWER_TIMER: codes above 16 for 1 ms lower the setpoint by one step, never below the floor (R50). -/
def execAvsLowerTimer (s : State) : Res :=
  whenPowered s fun s =>
    if s.sup.avsRuns && s.sup.avsLowerDue.any (· ≤ s.clock) then
      let now := s.clock
      let s := s.updSup (fun p => { p with avsLowerDue := some (now + 1000) })
      if s.sup.floor.toNat < s.sup.setCode.toNat then s.avsRequest (s.sup.setCode.toNat - 1) else s
    else s

/-- AVS_SETTLE_WAIT_END: 20 µs after a request the monitors are evaluated again (R51). -/
def execAvsSettleWaitEnd (s : State) : Res :=
  whenPowered s fun s =>
    if s.sup.avsSettle.any (· ≤ s.clock) then s.updSup (fun p => { p with avsSettle := none }) else s

/-- AVS_DROOP_HOLDOFF_END: the 10 ms without lowering end (02, When things fall together). -/
def execAvsDroopHoldoffEnd (s : State) : Res :=
  whenPowered s fun s =>
    if s.sup.avsHoldoff.any (· ≤ s.clock) then s.updSup (fun p => { p with avsHoldoff := none }) else s

/-- AVSBUS_FRAME_DONE: an acknowledged voltage write takes its setpoint and the status is read after it; a frame that is
not acknowledged, or a status that reports an error, is retried up to 3 times, and then AVS stops (R52, R73; log entry 115). -/
def execAvsbusFrameDone (ok : Bool) (measMv : BitVec 16) (s : State) : Res :=
  whenPowered s fun s =>
    let s := s.updSup (fun p => { p with measMv := measMv })
    match s.sup.avsFrame with
    | none => s
    | some f =>
      if ok && f.status then s.updSup (fun p => { p with avsFrame := none })
      else if ok then
        let g : AvsFrame := { status := true }
        (s.updSup (fun p => { p with avsFrame := some g, setCode := BitVec.ofNat 16 f.code })).emit g.out
      else if f.retries < 3 then
        (s.updSup (fun p => { p with avsFrame := some { f with retries := f.retries + 1 } })).emit f.out
      else
        (s.updSup (fun p => { p.mixed with avsFrame := none, avsLowerDue := none, avsSettle := none, avsFault := true })).supEvent 0x20

/-- SUP_AVS_ENABLE: firmware in stage 0x08, or a host that reaches BAR0, enables or disables AVS (03 R97; 03 R82). -/
def execSupAvsEnable (on : Bool) (s : State) : Res :=
  .next (if s.barUp || (s.poweredOn && s.boot.stage == 8 && !s.boot.stopped) then
      s.updSup (fun p => { p with avsEn := on, avsLowerDue := if on then p.avsLowerDue else none })
    else s)

/-- SUP_AVS_CLEAR_FAULT: AVS_FAULT is cleared and AVS runs again when enabled (R73). -/
def execSupAvsClearFault (s : State) : Res :=
  whenBar s fun s => if s.sup.avsFault then s.updSup (fun p => { p.mixed with avsFault := false }) else s

/-! ### Temperature (R55–R59, R71, R72) -/

/-- A sensor of 0 to 10 is invalid (R72). -/
def Supply.sensorBad (p : Supply) : Bool := (p.temps.toList.take 11).any (fun t => !t.valid)

/-- One sensor's next value at clock `now` (R72). -/
def Sensor.read (x : Sensor) (now : Nat) (temp : BitVec 16) (valid : Bool) : Sensor :=
  let t := temp.toInt
  let same := temp == x.temp && x.changedAt.isSome
  let stuck := x.stuck && same
  { temp := temp, stuck := stuck, changedAt := if same then x.changedAt else some now, valid := valid && decide (-220 ≤ t) && decide (t ≤ 600) && !stuck }

/-- The hottest valid sensor and its index; of several equally hot ones the lowest index (R55; which one SUP_TEMP_MAX.INDEX
names then is DESIGN CHOICE: log entry 117). -/
def hottest (ts : List Sensor) : Option (Int × Nat) :=
  (ts.zipIdx.filter (fun x => x.1.valid)).foldl (fun best x =>
    match best with
    | none => some (x.1.temp.toInt, x.2)
    | some b => if b.1 < x.1.temp.toInt then some (x.1.temp.toInt, x.2) else some b) none

/-- Set the throttle level: events, THERM_N, admission (R45, R56, R317). -/
def State.setThrottle (s : State) (l : Fin 3) : State :=
  let old := s.sup.throttle
  if l = old then s
  else
    let s := s.updSup (fun p => { p.mixed with throttle := l, dwellDue := if l = 1 then p.dwellDue else none })
    let s : State := { s with pins := { s.pins with thermLow := decide (l ≠ 0) } }
    let s := s.supEvent (if old < l then 4 else 8)
    if s.live then s.reevaluate else s

/-- The level after a reading (R55, R71, R72). -/
def Supply.nextLevel (p : Supply) (tmax : Int) : Fin 3 :=
  let thr : Int := 4 * p.throttleC.toNat
  if p.power == .standby then 0
  else
    let a : Fin 3 := if p.throttle = 0 && thr ≤ tmax then 1 else p.throttle
    let b : Fin 3 := if a = 1 && thr + 12 ≤ tmax then 2 else a
    if b = 0 && p.sensorBad then 1 else b

/-- The dwell and release timers after a reading (R55). -/
def Supply.timers (p : Supply) (tmax : Int) (now : Nat) : Supply :=
  let thr : Int := 4 * p.throttleC.toNat
  let low := decide (tmax < thr - 4 * p.hystC.toNat)
  { p with
    dwellDue := if p.throttle = 1 && thr ≤ tmax then some (p.dwellDue.getD (now + 10000)) else none
    releaseDue := if p.throttle ≠ 0 && low then some (p.releaseDue.getD (now + 100000)) else none }

/-- TEMP_SENSOR_READ: the sensors are read; validity, Tmax, HOT bits, throttle level; 115 °C is a thermal fault (R55–R59,
R72); an injection reports Tmax as 115 °C (R585). With no valid sensor SUP_TEMP_MAX keeps its last value (DESIGN CHOICE: log
entry 117). -/
def execTempSensorRead (temps : Vector (BitVec 16) 12) (valid : Vector Bool 12) (s : State) : Res :=
  whenPowered s fun s =>
    let now := s.clock
    let l := s.sup.fuses.variantL
    let ts := Vector.ofFn (fun i : Fin 12 => s.sup.temps[i].read now temps[i] (valid[i] && (i.val != 11 || l)))
    let hot : BitVec 8 := BitVec.ofNat 8 (((List.finRange 8).map (fun i =>
      if decide (380 ≤ temps[i].toInt) then 2 ^ i.val else 0)).sum)
    let newHot := hot &&& ~~~ s.sup.hot
    let s := s.updSup (fun p => { p with
      temps := ts, hot := hot, towerTemp := Vector.ofFn (fun i : Fin 8 => temps[i]) })
    let s := if newHot != 0 then s.supEvent 0x40 else s
    let inj := s.injected 8 0
    let s := s.injectDone inj
    let m := hottest ts.toList
    let t : Option (Int × Nat) := if inj then some (460, (m.map Prod.snd).getD 0) else m
    match t with
    | none => (s.setThrottle (s.sup.nextLevel (-1000))).updSup (fun p => { p with dwellDue := none, releaseDue := none })
    | some (tmax, i) =>
      let s := s.updSup (fun p => { p with tmax := BitVec.ofInt 16 tmax, tmaxIndex := BitVec.ofNat 8 i })
      let s := s.setThrottle (s.sup.nextLevel tmax)
      let s := s.updSup (fun p => p.timers tmax now)
      if 460 ≤ tmax then s.monitor .thermal i (BitVec.ofInt 32 tmax) inj else s

/-- THROTTLE_DWELL_EXPIRY: Tmax at the threshold for 10 ms at level 1 raises the level to 2 (R55). -/
def execThrottleDwellExpiry (s : State) : Res :=
  whenPowered s fun s =>
    if s.sup.throttle = 1 && s.sup.dwellDue.any (· ≤ s.clock) then s.setThrottle 2 else s

/-- THROTTLE_RELEASE_EXPIRY: Tmax below the threshold less hysteresis for 100 ms lowers the level by one, to 1 at least
while a sensor is invalid (R55, R72). An expiry at level 1 that an invalid sensor holds back starts another 100 ms (DESIGN
CHOICE: log entry 118). -/
def execThrottleReleaseExpiry (s : State) : Res :=
  whenPowered s fun s =>
    if s.sup.releaseDue.any (· ≤ s.clock) then
      let now := s.clock
      let next : Fin 3 := if s.sup.throttle = 2 then 1 else if s.sup.throttle = 1 && s.sup.sensorBad then 1 else 0
      let s := s.setThrottle next
      s.updSup (fun p => { p with releaseDue := if next = 0 then none else some (now + 100000) })
    else s

/-- SENSOR_STUCK_TIMEOUT: a reading that has not changed for 1 s marks its sensor invalid; the level is at least 1 while
one of 0 to 10 is (R72). -/
def execSensorStuckTimeout (n : Fin 12) (s : State) : Res :=
  whenPowered s fun s =>
    if !(s.sup.temps[n].changedAt.any (· + 1000000 ≤ s.clock)) then s else
    let s := s.updSup (fun p => { p with temps := updAt p.temps n (fun t => { t with valid := false, stuck := true }) })
    if n.val ≤ 10 && s.sup.throttle = 0 && s.sup.power != .standby then s.setThrottle 1 else s

/-! ### Power states and switches (R61, R62, R155) -/

/-- The units off in LOW and in STANDBY (02, Power states). -/
def powerUnits (target : PowerState) : List Nat :=
  (List.range 56).filter (fun u => match target with
    | .low => u < 8
    | .standby => unitGateable u
    | _ => false)

/-- A unit that is on in ACTIVE: present and not turned off by POWER_UNIT (02, Power states). -/
def State.wanted (s : State) (u : Nat) : Bool :=
  unitGateable u && !(s.gateN u).userOff && !s.unitAbsent u

/-- A unit's domain has come on with a transition to ACTIVE: it serves again unless it is fenced; one that POWER_UNIT
turned off and on meanwhile opens its gate. -/
def State.unitBack (s : State) (u : Nat) : State :=
  let g := s.gateN u
  if g.fenced || g.seq.isSome then s else if g.closed then s.unitOpen u else s.unitFresh u

/-- Enter LOW or STANDBY: domains off, DRAM in self-refresh, throttle 0 in STANDBY (02, Power states; R71; 07 R232). -/
def State.enterLow (s : State) (target : PowerState) : State :=
  let off := powerUnits target
  let s := (off.flatMap unitEngines).foldl (fun s e => s.engineClose e .abortedReset) s
  let s : State := { s with gate := Vector.ofFn (fun u : Fin 56 =>
    if off.contains u.val then { s.gate[u] with powered := false } else s.gate[u]) }
  let s := s.updSup (fun p => { p with
    power := target, toActive := false, switchOn := [], avsLowerDue := if target = .standby then none else p.avsLowerDue })
  let s : State := { s with mem := { s.mem with
    dmc := s.mem.dmc.map (fun d => { d with selfRefresh := target == .standby }) } }
  if target = .standby then s.setThrottle 0 else s

/-- ACTIVE is entered: a DEVICE_POWER that asked for it completes (R155). -/
def State.activeNow (s : State) : State :=
  let s := s.updSup (fun p => { p with power := .active, toActive := false })
  ((s.dispatch.reevaluate).finish (.power .active) .ok [0])

/-- The device leaves LOW or STANDBY: the DRAM leaves self-refresh, its requests waiting for an MR4 read and a drift update, and the domains that were off wait for their
switches, in ascending unit ID (R61; 07 R232). -/
def State.startActive (s : State) : State :=
  let on := (List.range 56).filter (fun u => s.wanted u && !(s.gateN u).powered)
  let s : State := { s with mem := { s.mem with dmc := s.mem.dmc.map (fun d =>
    if d.selfRefresh then { d with
      selfRefresh := false, wakeMr4 := true, wakeDrift := 0xF, mr4Due := s.clock, driftDue := Vector.replicate 4 s.clock }
    else d) } }
  let s := s.updSup (fun p => { p with toActive := true, switchOn := on })
  if on.isEmpty then s.activeNow else s

/-- A power switch may be turned on: the last one was at least 5 µs ago (R61). -/
def State.switchFree (s : State) : Bool := s.sup.switchAt.all (· + 5 ≤ s.clock)

/-- POWER_SWITCH_ON_STEP: 5 µs after the last one at the earliest, the next domain waiting, lowest unit ID first, is turned
on; the last one of a transition to ACTIVE ends it (R61). The gates of a stopped device stay closed (R563). -/
def execPowerSwitchOnStep (s : State) : Res :=
  whenPowered s fun s =>
    match s.sup.switchOn with
    | [] => s
    | u :: us =>
      if !s.switchFree then s else
      let now := s.clock
      let s := (s.updSup (fun p => { p with switchOn := us, switchAt := some now })).updGate u (fun g => { g with powered := true, poweredAt := some now })
      if s.sup.toActive && s.live then
        let s := s.unitBack u
        if us.isEmpty then s.activeNow else s
      else s

/-- The droop margin in mV for a code of SUP_DROOP_CFG.MARGIN (R47). -/
def droopMarginMv (code : Nat) : Nat := 20 + 5 * code

/-- The root PLL's rate: 512 times the 25 MHz reference, in Hz (R39). -/
def pllHz : Nat := 512 * 25000000

end Sys2Proof.Machine
end

