-- ==== Sys2Proof/Machine/Boot.lean ====
section
/-!
DEFINITION. Resets, boot stages, images, DRAM training results (03), and the loss of VDD_IO18 (21 R613).
-/

namespace Sys2Proof.Machine
open Sys2Proof

/-! ### Flash contents (R85) -/

/-- Read the flash; an erased byte reads 0xFF. -/
def State.flashRead (s : State) (a n : Nat) : List Byte :=
  let w := s.sup.flash.filter (fun c => a ≤ c.1 && c.1 < a + n)
  (List.range n).map (fun i => (lookupN w (a + i)).getD 0xFF)

/-- Set one byte of the flash. -/
def flashSet (m : List (Nat × Byte)) (a : Nat) (b : Byte) : List (Nat × Byte) :=
  if b = 0xFF then eraseN m a else insertN m a b

/-- Program bytes from `a` upwards. -/
def flashProgram (m : List (Nat × Byte)) : Nat → List Byte → List (Nat × Byte)
  | _, [] => m
  | a, b :: bs => flashProgram (flashSet m a b) (a + 1) bs

/-- Erase the 64 KiB block at `a`. -/
def flashErase (m : List (Nat × Byte)) (a : Nat) : List (Nat × Byte) :=
  m.filter (fun c => c.1 < a || a + 65536 ≤ c.1)

/-! ### Resets (R75–R77) -/

/-- What a reset does to the flash and fuse operations in progress: a page program finishes on its own, an erase is
suspended (03, When things fall together). -/
def Supply.onReset (p : Supply) : Supply :=
  let base : Supply :=
    { flash := p.flash, flashSize := p.flashSize, fuses := p.fuses, eraseSusp := p.eraseSusp, logCopied := p.logCopied }
  match p.flashOp with
  | some (.erase b) => { base with eraseSusp := some b }
  | some (.program a bs _) => { base with flash := flashProgram p.flash a bs }
  | none => base

/-- The supply guard keeps its state at PERST_N (R75). -/
def Supply.keepGuard (p old : Supply) : Supply :=
  { p with guard := old.guard, v3v3Low := old.v3v3Low, pwrWarn := old.pwrWarn, guardGoodAt := old.guardGoodAt }

/-- Every domain except the Keeper at its reset value (R13, R75). -/
def State.cold (s : State) : State :=
  { clock := s.clock, free := s.free, pending := s.pending, out := s.out,
    sup := s.sup.onReset,
    boot := { porN := s.boot.porN, perstN := s.boot.perstN },
    pins := { io18 := s.pins.io18 },
    kpr := s.kpr }

/-- The Keeper at PERST_N: it keeps running; every supervision ends, SAFE_N falls (R75, R580, R584; 20, Registers). -/
def Keeper.onPerst (k : Keeper) : Keeper :=
  { k with
    safe := false, beacon := false, armed := false, lock := none, readySeen := false, stopped := false
    live := 0, wdogAt := none, wdogLast := 0, inject := none, injecting := false, units := 0, winExp := none, winDone := none
    slot := k.slot.map KprSlot.ended }

/-- The scope of PERST_N (R75). -/
def State.perstScope (s : State) : State :=
  let wasSafe := s.kpr.safe
  let off := s.sup.power == .off
  let c := s.cold
  let c : State := { c with kpr := c.kpr.onPerst, sup := { c.sup.keepGuard s.sup with power := if off then .off else .active } }
  if wasSafe then c.updKpr (fun k => { k with event := k.event ||| 2 }) else c

/-- A reset input is released: the BOOT latch is cleared; at the later release BOOT_SEL is latched and boot restarts
(R75, R77, R583). `bootSel` is the level of the BOOT_SEL pins at this moment. -/
def State.resetReleased (s : State) (bootSel : BitVec 2) : State :=
  let now := s.clock
  let s := s.updKpr (fun k => { k with fault := k.fault &&& 0x5FF#11, live := k.live &&& 0x5FF#11 })
  if s.boot.porN && s.boot.perstN then
    s.updBoot (fun b => { b with bootSel := bootSel, startAt := now, stageAt := now })
  else s

/-- POR_N_ASSERT: every domain is reset, AON and with it the supply guard too; the Keeper's fault log stays (R75). -/
def execPorNAssert (s : State) : Res :=
  let c := s.cold
  let k : Keeper := { log := s.kpr.log, logCount := s.kpr.logCount, boots := s.kpr.boots }
  .next { c with kpr := k, boot := { c.boot with porN := false } }

/-- POR_N_RELEASE: KPR_BOOTS counts, ticks restart, boot restarts from stage 0x00 (R75, R77, R569). -/
def execPorNRelease (bootSel : BitVec 2) (s : State) : Res :=
  .next (if s.boot.porN then s
    else
      let now := s.clock
      let s := s.updBoot (fun b => { b with porN := true })
      let s := s.updKpr (fun k => { k with boots := satInc k.boots, tick := 0, tickFrom := now, selfAt := now })
      ({ s with pins := { s.pins with io18 := true } } : State).resetReleased bootSel)

/-- PERST_N_ASSERT: every domain except AON is reset (R75). -/
def execPerstNAssert (s : State) : Res :=
  .next (if s.boot.porN then s.perstScope.updBoot (fun b => { b with perstN := false })
    else s.updBoot (fun b => { b with perstN := false }))

/-- PERST_N_RELEASE: boot restarts from stage 0x00 (R75, R77). -/
def execPerstNRelease (bootSel : BitVec 2) (s : State) : Res :=
  .next (if s.boot.perstN then s
    else
      let s := s.updBoot (fun b => { b with perstN := true })
      if s.boot.porN then s.resetReleased bootSel else s)

/-- An in-band reset, treated as PERST_N asserted and released (R75). -/
def State.inBand (s : State) (bootSel : BitVec 2) : State :=
  if s.boot.porN && s.boot.perstN then s.perstScope.resetReleased bootSel else s

/-- HOT_RESET (R75). -/
def execHotReset (bootSel : BitVec 2) (s : State) : Res := .next (s.inBand bootSel)

/-- LINK_DOWN_RESET (R75). -/
def execLinkDownReset (bootSel : BitVec 2) (s : State) : Res := .next (s.inBand bootSel)

/-- VDD_IO18_LOSS: the Keeper stops, SAFE_N reads low, its log and counters are lost (R613, R591). -/
def execVddIo18Loss (s : State) : Res :=
  .next { s with pins := { s.pins with io18 := false }, kpr := {} }

/-! ### Images (R88–R93) -/

/-- Offset of image A or B in the flash (R85). -/
def imageBase (b : Bool) : Nat := if b then 0x900000 else 0x100000

/-- BODY_LEN of a header. -/
def bodyLen (h : List Byte) : Nat := leAt h 16 4

/-- Checks 1 to 6 of R89 on a header. -/
def headerReason (f : Fuses) (h : List Byte) : ImgReason :=
  let slot := (byteAt h 6).toNat
  let zero (a n : Nat) : Bool := ((h.drop a).take n).all (· == 0)
  if leAt h 0 4 ≠ 0x4D49425A || leAt h 4 2 ≠ 1 || !zero 7 1 || !zero 20 4 || !zero 120 8 || !zero 224 288 then .badHeader
  else if bodyLen h = 0 || 8388096 < bodyLen h then .badLength
  else
    let k := f.keyHash.toList.getD slot 0
    if k = 0 then .keyEmpty
    else if bitOf f.revoke.toNat slot then .keyRevoked
    else if leNat (sha384 ((h.drop 24).take 96)) ≠ k.toNat then .keyMismatch
    else if leAt h 8 4 < f.secverMin then .rollback
    else .ok

/-- Check 7 of R89: the signature over the header's first 128 bytes and the body. -/
def signatureOk (h body : List Byte) : Bool :=
  ecdsaOk (beNat ((h.drop 24).take 48)) (beNat ((h.drop 72).take 48)) (beNat ((h.drop 128).take 48)) (beNat ((h.drop 176).take 48)) (sha384 (h.take 128 ++ body))

/-- Every check of R89 on an image whose header and body are read with `read offset length`. -/
def imageReason (f : Fuses) (read : Nat → Nat → List Byte) : ImgReason :=
  let h := read 0 512
  match headerReason f h with
  | .ok => if signatureOk h (read 512 (bodyLen h)) then .ok else .sigFail
  | r => r

/-- The header of image A or B. -/
def State.imageHeader (s : State) (b : Bool) : List Byte := s.flashRead (imageBase b) 512

/-- All seven checks on image A or B in the flash. -/
def State.flashImageReason (s : State) (b : Bool) : ImgReason :=
  imageReason s.sup.fuses (fun a n => s.flashRead (imageBase b + a) n)

/-- The image reasons of BOOT_ERROR.DETAIL (R107). -/
def Boot.reasons (b : Boot) : Nat := b.reasonA.code + 16 * b.reasonB.code

/-- Record the reason of image A or B. -/
def Boot.setReason (b : Boot) (isB : Bool) (r : ImgReason) : Boot :=
  if isB then { b with reasonB := r } else { b with reasonA := r }

/-- An image reason that says that the image was refused. -/
def ImgReason.refused (r : ImgReason) : Bool := r != .ok && r != .notTried

/-- BOOT_ERROR.DETAIL beside code NONE: the image reasons when an image was refused before the one accepted (R107). -/
def Boot.refusedDetail (b : Boot) : Boot :=
  { b with errDetail := if b.reasonA.refused || b.reasonB.refused then BitVec.ofNat 16 b.reasons else 0 }

/-- Milliseconds of boot without the host-load waits, the one in progress too (R81). -/
def State.bootMs (s : State) : U32 :=
  BitVec.ofNat 32 ((s.boot.waitFrom.getD s.clock - s.boot.startAt - s.boot.waited) / 1000)

/-- BOOT source of INT_STATUS. -/
def State.raiseBoot (s : State) : State := s.raising (·.updInt (fun i => { i with boot := true }))

/-- Boot stops (R107). -/
def State.bootStop (s : State) (e : BootErr) (detail : Nat) : State :=
  let ms := s.bootMs
  let s := s.updBoot (fun b => { b with
    error := true, stopped := true, errCode := e, errStage := BitVec.ofNat 8 b.stage.toNat
    errDetail := BitVec.ofNat 16 detail, timeMs := ms })
  s.raiseBoot.latch .boot 0 0 (BitVec.ofNat 32 e.code)

/-- The next stage begins; the time spent in 0x05 and 0x06 is kept for a second visit (R78, R104). -/
def State.bootNext (s : State) (stage : BitVec 4) : State :=
  let now := s.clock
  s.updBoot (fun b => { b with
    stage := stage, stageAt := now
    loadSpent := if b.stage = 5 then b.loadSpent + (now - b.stageAt) else b.loadSpent
    verifySpent := if b.stage = 6 then b.verifySpent + (now - b.stageAt) else b.verifySpent })

/-- The device waits for a host image at stage 0x05; the stages that check it start afresh (R92, R93). -/
def State.enterHostWait (s : State) : State :=
  let now := s.clock
  (s.bootNext 5).updBoot (fun b => { b with hostWait := true, waitFrom := some now, loadSpent := 0, verifySpent := 0 })

/-- No image was accepted (R93). -/
def State.noValidImage (s : State) : State :=
  let ms := s.bootMs
  let s := s.updBoot (fun b => { b with
    error := true, errCode := .noValidImage, errStage := 6, errDetail := BitVec.ofNat 16 b.reasons, timeMs := ms })
  s.raiseBoot.enterHostWait

/-- An image is accepted: it will run (R89). -/
def State.acceptImage (s : State) (slot : ImgSlot) (h : List Byte) : State :=
  let s := s.updBoot (fun b => { b with
    image := slot, imgVersion := BitVec.ofNat 32 (leAt h 12 4), secVersion := BitVec.ofNat 8 (leAt h 8 4) })
  s

/-- A byte list read from the staging area (R92). -/
def State.stagingRead (s : State) (a n : Nat) : List Byte := cellsRead s.boot.staging a n

/-- The body of the image in the staging area. -/
def State.stagedBody (s : State) : List Byte := s.stagingRead 512 (bodyLen (s.stagingRead 0 512))

/-- Bytes as cells from address 0, zero bytes not listed. -/
def cellsOf (bs : List Byte) : List Host.Cell := (bs.zipIdx.filter (fun x => x.1 != 0)).map (fun x => (x.2, x.1))

/-- Firmware starts at stage 0x07: the Hyldo code of the image is copied to Hyldo SRAM, the watchdog's first window begins,
a suspended erase is resumed (R95, R96, R577). -/
def State.fwStart (s : State) : State :=
  let now := s.clock
  let body := s.stagedBody
  let s := s.updBoot (fun b => { b with hylSram := Config.hyldoCode body })
  let s := (s.bootNext 7).updKpr (fun k => { k with wdogAt := some now, wdogLast := 0 })
  match s.sup.eraseSusp with
  | some b => if s.sup.guard then s else s.updSup (fun p => { p with eraseSusp := none, flashOp := some (.erase b) })
  | none => s

/-- The image being tried is refused: the other one is tried when its header passed checks 1 to 6 at the selection, or
none is valid (R90, R93). FALLBACK is set only when the other image is read and checked: one that failed on its header
alone does not count as tried (DESIGN CHOICE: log entry 120). -/
def State.refuseImage (s : State) (r : ImgReason) : State :=
  let b := s.boot.tryB
  let s := s.updBoot (·.setReason b r)
  let other := !b
  let known := if other then s.boot.reasonB else s.boot.reasonA
  if s.boot.bootSel = 0 && !s.boot.second && known == .notTried then
    (s.bootNext 5).updBoot (fun x => { x with tryB := other, second := true, fallback := true })
  else s.noValidImage

/-- The reason that image A or B has on its header alone; a read error on the header counts first (R89, R90). -/
def State.headReason (s : State) (isB fail : Bool) : ImgReason :=
  if fail then .readFail else headerReason s.sup.fuses (s.imageHeader isB)

/-- Which image is tried first: none in normal mode when neither header passes checks 1 to 6 (R90). -/
def State.chooseImage (s : State) (failA failB : Bool) : State × Bool :=
  if s.boot.bootSel = 0 then
    let ra := s.headReason false failA
    let rb := s.headReason true failB
    if ra ≠ .ok && rb ≠ .ok then (s.updBoot (fun b => { b with reasonA := ra, reasonB := rb }), false)
    else
      let useB := ra ≠ .ok || (rb = .ok && leAt (s.imageHeader false) 12 4 < leAt (s.imageHeader true) 12 4)
      (s.updBoot (fun b => { b with
        tryB := useB, reasonA := if ra = .ok then .notTried else ra, reasonB := if rb = .ok then .notTried else rb }), true)
  else (s.updBoot (fun b => { b with tryB := b.bootSel == 2 }), true)

/-- The image that is tried is read into the staging area (R78); the length that its header gives is read, up to the
8 MiB of its flash region (R85). -/
def State.loadImage (s : State) : State :=
  let base := imageBase s.boot.tryB
  let n := 512 + min 8388096 (bodyLen (s.flashRead base 512))
  let cells := cellsOf (s.flashRead base n)
  s.updBoot (fun b => { b with staging := cells ++ b.staging.filter (fun c => n ≤ c.1) })

/-- Stage 0x05 ends: the images are chosen from on the first visit, the one tried is in the staging area (R78, R89, R90). -/
def State.imgLoad (s : State) (r : StageResult) : State :=
  if s.boot.image == .hostLoad then s.bootNext 6
  else
    let c := if s.boot.second then (s, true) else s.chooseImage r.headFailA r.headFailB
    if !c.2 then c.1.noValidImage
    else if r.readFail then c.1.refuseImage .readFail
    else c.1.loadImage.bootNext 6

/-- Stage 0x05 begins: in host-load mode the device waits (R92). -/
def State.imgStart (s : State) : State := if s.boot.bootSel = 3 then s.enterHostWait else s.bootNext 5

/-- Stage 0x06: the image tried is checked in the staging area (R89–R93). -/
def State.verifyImage (s : State) (readFail : Bool) : State :=
  if s.boot.image == .hostLoad then s.fwStart
  else
    let b := s.boot.tryB
    let r := if readFail then .readFail else imageReason s.sup.fuses s.stagingRead
    if r = .ok then
      let s := s.updBoot (fun x => (x.setReason b .ok).refusedDetail)
      (s.acceptImage (if b then .b else .a) (s.stagingRead 0 512)).fwStart
    else s.refuseImage r

/-- The reason of the staged image of this total length (R89, R92; log entry 18). -/
def State.stagedReason (s : State) (len : Nat) : ImgReason :=
  let h := s.stagingRead 0 512
  if len = 0 || 8388608 < len then .badLength
  else if headerReason s.sup.fuses h = .badHeader then .badHeader
  else if 512 + bodyLen h ≠ len then .badLength
  else imageReason s.sup.fuses s.stagingRead

/-- BOOT_HOST_GO: the staged image is checked (R92; log entry 18). -/
def execBootHostGo (s : State) : Res :=
  .next (if !s.boot.hostWait || !s.boot.porN || !s.boot.perstN then s
    else
      let now := s.clock
      let len := s.boot.hostLen.toNat
      let r := s.stagedReason len
      let s := s.updBoot (fun b => { b with error := false, errCode := .none, errStage := 0, errDetail := 0 })
      if r = .ok then
        let s := s.updBoot (fun b => { b with
          hostWait := false, waitFrom := none, waited := b.waited + (now - b.waitFrom.getD now) }.refusedDetail)
        (s.acceptImage .hostLoad (s.stagingRead 0 512)).bootNext 6
      else
        let ms := s.bootMs
        (s.updBoot (fun b => { b with
          error := true, errCode := .hostImageInvalid, errStage := 6, errDetail := BitVec.ofNat 16 r.code
          timeMs := ms })).raiseBoot)

/-! ### Board configuration (R86, R87) -/

/-- A board configuration copy is valid (R86). -/
def bcfgValid (c : List Byte) : Bool :=
  leAt c 0 4 == 0x4643425A && leAt c 4 2 == 1 && sha256 (c.take 224) == (c.drop 224).take 32

/-- The byte offset of the field that does not agree with the device (R87; 07, At the edges). -/
def bcfgMismatch (variantL : Bool) (c : List Byte) : Option Nat :=
  let v := (byteAt c 8).toNat
  let w := (byteAt c 9).toNat
  if v ≠ (if variantL then 2 else 1) then some 8
  else if w ≠ 4 && !(variantL && w = 3) then some 9
  else if !([1, 2, 4, 8] : List Nat).contains (byteAt c 10).toNat then some 10
  else if !([1, 2] : List Nat).contains (byteAt c 11).toNat then some 11
  else none

/-- The fields of a copy are taken. A MIN_EYE outside 8 to 64 other than 0 is taken as it is: the spec states the range and
no check (DESIGN CHOICE: log entry 121). -/
def Boot.takeBcfg (b : Boot) (copy1 : Bool) (c : List Byte) : Boot :=
  { b with
    bcfgCopy := copy1, wckDiv := (byteAt c 9).toNat, chGib := (byteAt c 10).toNat, ranks := (byteAt c 11).toNat
    vref := (c.drop 16).take 36, avsFloor := leAt c 52 2, avsCeil := leAt c 54 2, uart := bitOf (byteAt c 56).toNat 0
    minEye := if byteAt c 57 = 0 then 16 else (byteAt c 57).toNat }

/-- Stage 0x04 (R86, R87, R105). -/
def State.readBcfg (s : State) : State :=
  let c0 := s.flashRead 0 256
  let c1 := s.flashRead 0x10000 256
  let v0 := bcfgValid c0
  if !v0 && !bcfgValid c1 then s.bootStop .bcfgInvalid 3
  else
    let c := if v0 then c0 else c1
    let s := s.updBoot (fun b => { b with bcfgCopy := !v0 })
    match bcfgMismatch s.sup.fuses.variantL c with
    | some off => s.bootStop .bcfgMismatch off
    | none => (s.updBoot (·.takeBcfg (!v0) c)).imgStart

/-- Stage 0x09 begins: the Vref codes of the board configuration go to the mode registers and receivers, byte lane
4 × channel + byte; Link ECC stays disabled; FORWARD mode and the refresh interval (R86, R98, R228, R229). -/
def State.dramSetup (s : State) : State :=
  let n : BitVec 16 := if s.sup.fuses.variantL then 520 else 390
  let v (i : Nat) : Byte := byteAt s.boot.vref i
  { s with mem := { s.mem with dmc := Vector.ofFn (fun c : Fin 4 => { s.mem.dmc[c] with
      strict := false, trefipb := n, linkEcc := false, caVref := v (32 + c.val)
      wrVref := Vector.ofFn (fun b : Fin 4 => v (4 * c.val + b.val))
      rdVref := Vector.ofFn (fun b : Fin 4 => v (16 + 4 * c.val + b.val)) }) } }

/-- Stage 0x0B begins: the interleave regions (R221). -/
def State.setRegions (s : State) : State :=
  let d := s.dramSize
  let r0 : MemRegion := { size := 0x10000000, en := true, grain := 8, ways := 2 }
  let r1 : MemRegion :=
    { base := 0x10000000, size := BitVec.ofNat 48 (d - 0x10000000), en := true, grain := 12, ways := 2,
      chOffset := 0x04000000 }
  { s with mem := { s.mem with region := ((Vector.replicate 8 {}).set 0 r0).set 1 r1 } }

/-- A channel whose forwarding logic fails goes to STRICT and is logged; the rule states neither status nor detail of
the entry, so both are free values (R228). -/
def State.strictMode (s : State) (n : Fin 4) : State :=
  (s.updDmc n (fun d => { d with strict := true })).faultLogOpen (0x22 + n.val)

/-- Stage 0x08 begins: AVS limits and enable (R97, R87). -/
def State.avsStart (s : State) : State :=
  let b := s.boot
  let s := s.bootNext 8
  s.updSup (fun p =>
    let f := if b.avsFloor = 0 then p.floor.toNat else b.avsFloor
    let c := if b.avsCeil = 0 then p.ceil.toNat else b.avsCeil
    let p := { p with avsEn := true }
    if 260 ≤ f && f ≤ c && c ≤ 360 then { p with floor := BitVec.ofNat 9 f, ceil := BitVec.ofNat 9 c } else p)

/-! ### Training (R98, R99) -/

/-- The longest run of passing taps, as first tap and width: ties go to the lower first tap (R99). -/
def longestRun (taps : List Bool) : Nat × Nat :=
  let r := (taps.take 128).foldl (fun (acc : Nat × Nat × Nat × Nat) p =>
    let i := acc.1
    let cur := if p then acc.2.1 + 1 else 0
    if acc.2.2.2 < cur then (i + 1, cur, i + 1 - cur, cur) else (i + 1, cur, acc.2.2.1, acc.2.2.2)) (0, 0, 0, 0)
  (r.2.2.1, r.2.2.2)

/-- Chosen tap and width of a sweep: (first + last) / 2, rounded down. -/
def sweepEye (taps : List Bool) : BitVec 8 × BitVec 8 :=
  let r := longestRun taps
  (BitVec.ofNat 8 (if r.2 = 0 then 0 else (2 * r.1 + r.2 - 1) / 2), BitVec.ofNat 8 r.2)

/-- One lane is trained: its read window and then its write window; `none` when the lane fails, with DETAIL. -/
def State.trainLane (s : State) (n : Fin 16) (sweep : List Bool × List Bool) : State × Option Nat :=
  let r := sweepEye sweep.1
  let w := sweepEye sweep.2
  let min := s.boot.minEye
  let s := s.updBoot (fun b => { b with eyes := updAt b.eyes n (fun e => { e with rdCentre := r.1, rdWidth := r.2 }) })
  if r.2.toNat < min then (s, some (n.val + 256 * r.2.toNat))
  else
    let s := s.updBoot (fun b => { b with eyes := updAt b.eyes n (fun e => { e with wrCentre := w.1, wrWidth := w.2 }) })
    if w.2.toNat < min then (s, some (n.val + 16 + 256 * w.2.toNat)) else (s, none)

/-- Stage 0x0A keeps what drift tracking starts from: each lane's oscillator counts and its counts per tap (R233). -/
def State.oscKept (s : State) (osc : List (Int × Int × Nat)) : State :=
  let o (c : Fin 4) (b : Fin 4) : Int × Int × Nat := osc.getD (4 * c.val + b.val) (0, 0, 0)
  { s with mem := { s.mem with dmc := Vector.ofFn (fun c : Fin 4 => { s.mem.dmc[c] with
      oscBase := Vector.ofFn (fun b : Fin 4 => ((o c b).1, (o c b).2.1))
      perTap := Vector.ofFn (fun b : Fin 4 => (o c b).2.2) }) } }

/-- Stage 0x0A (R98, R99). The lanes are judged in ascending order, a lane's read window before its write window; the first
window that is too short is the one that TRAIN_FAIL names, and BOOT_EYEn of the lanes after it stays 0 (DESIGN CHOICE: log
entry 122). -/
def State.train (s : State) (sweeps : List (List Bool × List Bool)) : State :=
  let r := (List.finRange 16).foldl (fun (acc : State × Option Nat) n =>
    if acc.2.isSome then acc else acc.1.trainLane n (sweeps.getD n.val ([], []))) (s, none)
  match r.2 with
  | some d => r.1.bootStop .trainFail d
  | none => r.1.setRegions.bootNext 0xB

/-! ### Self-tests and units (R100–R103) -/

/-- How many failed units of this kind boot tolerates; none for a unit whose failure stops boot (R101, R102). -/
def bistLimit (u : Nat) : Nat × Nat × Nat :=
  if u < 8 then (0, 8, 2) else if u < 0x18 then (8, 0x18, 4) else if u < 0x1C then (0x18, 0x1C, 1) else (0, 0, 0)

/-- Boot's fenced units in a range. -/
def Boot.fencedIn (b : Boot) (lo hi : Nat) : Nat := ((List.range hi).filter (fun u => lo ≤ u && bitOf b.fenced.toNat u)).length

/-- Stage 0x0D begins: the gates are set up with epoch 0, fenced units stay off, and the gateable domains wait for their
switches in ascending unit ID (R61, R103). -/
def State.unitsStart (s : State) : State :=
  let g := Vector.ofFn (fun u : Fin 56 =>
    let f := bitOf s.boot.fenced.toNat u.val
    ({ powered := !f && !s.unitAbsent u.val && !unitGateable u.val, userOff := f, fenced := f,
       closed := f || s.unitAbsent u.val } : UnitGate))
  let on := (List.range 56).filter (fun u => unitGateable u && !bitOf s.boot.fenced.toNat u && !s.unitAbsent u)
  (({ s with gate := g } : State).updSup (fun p => { p with switchOn := on })).bootNext 0xD

/-- Stage 0x0C (R101, R102). -/
def State.selfTest (s : State) (fails : List Nat) : State :=
  let s := { s with mem := { s.mem with cells := [], ecc := [] } }
  let s := s.updBoot (fun b => { b with staging := [] })
  let r := (List.range 56).foldl (fun (acc : State × Option Nat) u =>
    if acc.2.isSome || !fails.contains u then acc
    else
      let l := bistLimit u
      if acc.1.boot.fencedIn l.1 l.2.1 < l.2.2 then
        (acc.1.updBoot (fun b => { b with fenced := b.fenced ||| 1#64 <<< u, degraded := true }), none)
      else (acc.1, some u)) (s, none)
  match r.2 with
  | some u => r.1.bootStop .bistFail u
  | none => r.1.unitsStart

/-- The march test of the pip store or the scheduler's queues fails: they have no unit ID, so DETAIL is a free value
(R101, R107). -/
def State.tablesFail (s : State) : State :=
  let f := s.takeFree
  f.2.bootStop .bistFail (Config.freeNat f.1)

/-- Every unit but those fenced and absent is live. -/
def State.liveUnit (s : State) (u : Nat) : Bool := !bitOf s.boot.fenced.toNat u && !s.unitAbsent u

/-- Stage 0x0D ends once every domain is on: the Keeper has the list of live units (R103). -/
def State.unitsDone (s : State) : State :=
  let live := BitVec.ofNat 56 (((List.range 56).map (fun u => if s.liveUnit u then 2 ^ u else 0)).sum)
  (s.updKpr (fun k => { k with units := live })).bootNext 0xE

/-- READY (R81, R83, R326, R578): the BOOT source is raised, device time runs, probes and reference vectors fall due. -/
def State.ready (s : State) : State :=
  let now := s.clock
  let ms := s.bootMs
  let s := (s.bootNext 0xF).updBoot (fun b => { b with timeMs := ms, staging := [] })
  let s := s.updKpr (fun k => { k with readySeen := true })
  let s := s.updTbs (fun t => { t with running := true, now := 0, frac := 0 })
  let eng := Vector.ofFn (fun i : Fin 32 =>
    { s.sched.eng[i] with nextDue := some (now + (if i.val < 8 then 10000 else 20000)) })
  let s : State := { s with sched := { s.sched with eng := eng } }
  let s : State := { s with str := { s.str with st := { s.str.st with
    ssuDue := some (now + 20000), trkDue := some (now + 20000) } } }
  s.raiseBoot

/-- Boot is under way and may go on. -/
def State.booting (s : State) : Bool :=
  s.boot.porN && s.boot.perstN && s.pins.io18 && s.sup.power != .off && !s.boot.stopped && !s.boot.hostWait &&
    !s.kpr.stopped && s.boot.stage != 0xF

/-- Stage 0x08 may end: no raise was requested for 1 ms, or 25 ms have passed (R97). -/
def State.avsSettled (s : State) : Bool :=
  decide (max s.boot.stageAt (s.sup.avsRaiseAt.getD 0) + 1000 ≤ s.clock) || decide (s.boot.stageAt + 25000 ≤ s.clock)

/-- BOOT_STAGE_COMPLETE: the stage in progress finishes its work and the next begins (R78–R103). -/
def execBootStageComplete (r : StageResult) (s : State) : Res :=
  .next (if !s.booting then s
    else match s.boot.stage.toNat with
    | 0 => s.bootNext 1
    | 1 =>
      match r.otpBad with
      | some i => s.bootStop .otpInvalid i
      | none => (s.bootNext 2).updBoot (fun b => { b with secverMin := BitVec.ofNat 8 s.sup.fuses.secverMin })
    | 2 => (s.bootNext 3).updSup (fun p => { p with pllLock := true })
    | 3 => s.bootNext 4
    | 4 => s.readBcfg
    | 5 => s.imgLoad r
    | 6 => s.verifyImage r.readFail
    | 7 => s.avsStart
    | 8 =>
      if s.sup.flashOp.isSome || s.sup.eraseSusp.isSome || !s.avsSettled then s
      else
        let bad := s.sup.avsFault
        (s.dramSetup.bootNext 9).updBoot (fun b => { b with degraded := b.degraded || bad })
    | 9 =>
      match r.dramFail with
      | c :: _ => s.bootStop .dramInitFail c
      | [] => s.bootNext 0xA
    | 0xA => (s.oscKept r.osc).train r.sweeps
    | 0xB =>
      match r.eccFail with
      | c :: _ => s.bootStop .eccInitFail c
      | [] =>
        let body := s.stagedBody
        let s := s.updBoot (fun b => { b with fwDram := Config.firmwareParts body })
        ({ s with mem := { s.mem with
          cells := [], ecc := [], dmc := s.mem.dmc.map (fun d => { d with
            ready := true, mr4Due := s.clock + 16000, driftDue := Vector.replicate 4 (s.clock + 100000) }) } } : State).bootNext 0xC
    | 0xC =>
      if r.tableFail then s.tablesFail
      else ((List.finRange 4).foldl (fun s n => if r.fwdFail.contains n.val then s.strictMode n else s) s).selfTest r.bistFail
    | 0xD => if s.sup.switchOn.isEmpty then s.unitsDone else s
    | _ => s.ready)

/-! ### Boot failures (R104–R107) -/

/-- The maximum of a stage in ms (R78). -/
def stageMaxMs : List Nat := [0, 1, 1, 90, 4, 260, 20, 5, 25, 15, 90, 400, 420, 150, 19]

/-- Time spent in the stage in progress, in µs, with earlier visits to it (R78, R104). -/
def State.stageSpent (s : State) : Nat :=
  s.clock - s.boot.stageAt + (if s.boot.stage = 5 then s.boot.loadSpent else if s.boot.stage = 6 then s.boot.verifySpent else 0)

/-- BOOT_STAGE_TIMEOUT: a stage past its maximum stops boot (R104). -/
def execBootStageTimeout (s : State) : Res :=
  .next (if s.booting && s.boot.stage != 0 && 1000 * stageMaxMs.getD s.boot.stage.toNat 0 < s.stageSpent then
      s.bootStop .stageTimeout s.boot.stage.toNat
    else s)

/-- The stage in progress began at least 1 ms ago. -/
def State.stagePast1ms (s : State) : Bool := decide (s.boot.stageAt + 1000 ≤ s.clock)

/-- PLL_NO_LOCK: no lock within 1 ms (R106). -/
def execPllNoLock (s : State) : Res :=
  .next (if s.booting && s.boot.stage == 2 && s.stagePast1ms then
      (s.updSup (fun p => { p with pllLock := false })).bootStop .pllNoLock 0
    else s)

/-- FLASH_NO_RESPONSE: no valid identification within 1 ms (R105). -/
def execFlashNoResponse (s : State) : Res :=
  .next (if s.booting && s.boot.stage == 4 && s.stagePast1ms then s.bootStop .flashNoResponse 0 else s)

/-- UNIT_INIT_FAIL: a unit that firmware powered in stage 0x0D has not reported ready within 1 ms of its power-on (R103). -/
def execUnitInitFail (unit : Nat) (s : State) : Res :=
  .next (if s.booting && s.boot.stage == 0xD && s.liveUnit unit && (s.gateN unit).poweredAt.any (· + 1000 ≤ s.clock) then
      s.bootStop .unitInitFail unit
    else s)

/-- LOCKSTEP_FAIL: a mismatch within the first 1 ms of stage 0x07 (R95). -/
def execLockstepFail (s : State) : Res :=
  .next (if s.booting && s.boot.stage == 7 && decide (s.clock ≤ s.boot.stageAt + 1000) then s.bootStop .lockstepFail 0 else s)

end Sys2Proof.Machine
end

