-- ==== Sys2Proof/Machine/Operands.lean ====
section
/-!
DEFINITION. The fields of a host command: the message header's bits, the payload's listed fields, their reserved bits and
ranges (00 R12, R15; 04 R125, R126; 05 R150, R151; 06 R180).
-/

namespace Sys2Proof.Machine
open Sys2Proof

/-- The ASYNC mark of a command (R150). -/
inductive AsyncMark where
  /-- ASYNC is not allowed. -/
  | no
  /-- A. -/
  | may
  /-- A!. -/
  | must
  deriving DecidableEq, Repr

/-- A listed field of a command's payload: message offset, size, the values allowed (none listed: any), reserved
bits inside it. -/
structure Field where
  /-- Offset in the message. -/
  off : Nat
  /-- Bytes. -/
  size : Nat
  /-- Ranges allowed (R15); empty: every value. -/
  ranges : List (Nat × Nat) := []
  /-- Reserved bits. -/
  resv : Nat := 0
  deriving DecidableEq, Repr

/-- What the summary table and the detail table say of a command. -/
structure CmdSpec where
  /-- OPCODE. -/
  op : Nat
  /-- Smallest LEN. -/
  lenLo : Nat
  /-- Largest LEN. -/
  lenHi : Nat
  /-- M0. -/
  m0 : Bool := false
  /-- A or A!. -/
  async : AsyncMark := .no
  /-- D. -/
  desc : Bool := false
  /-- H. -/
  safe : Bool := false
  /-- Listed fields. -/
  fields : List Field := []
  /-- A list of one-byte entries: its offset, and that of the byte that gives their number. -/
  listAt : Option (Nat × Nat) := none
  deriving DecidableEq, Repr

/-- A field of the command message, by its offset. -/
def HostCmd.f (c : HostCmd) (off size : Nat) : Nat := leAt c.payload (off - 8) size

/-- The context a command names. -/
def HostCmd.ctxN (c : HostCmd) : Nat := c.ctx.toNat

/-- ASYNC is set. -/
def HostCmd.async (c : HostCmd) : Bool := bitOf c.flags.toNat 0

/-- DESC is set. -/
def HostCmd.desc (c : HostCmd) : Bool := bitOf c.flags.toNat 1

/-- NO_IRQ is set. -/
def HostCmd.noIrq (c : HostCmd) : Bool := bitOf c.flags.toNat 2

/-- The bits of message byte `i` that may be other than 0 (R126 step 2). -/
def CmdSpec.byteMask (sp : CmdSpec) (desc : Bool) (len i : Nat) : Nat :=
  if 8 + 8 * min len 7 ≤ i then 0
  else if desc then (if i < 20 then 255 else 0)
  else
    match sp.fields.find? (fun f => f.off ≤ i && i < f.off + f.size) with
    | some f => 255 - f.resv / 256 ^ (i - f.off) % 256
    | none => 0

/-- A byte past the entries of the command's list, which the detail table does not list, is not 0 (R126 step 2). -/
def CmdSpec.pastList (sp : CmdSpec) (c : HostCmd) : Bool :=
  sp.listAt.any (fun l => c.payload.zipIdx.any (fun b => b.1 != 0 && l.1 + c.f l.2 1 ≤ b.2 + 8))

/-- Every listed field holds a value of its ranges (R15). -/
def CmdSpec.rangesOk (sp : CmdSpec) (c : HostCmd) : Bool :=
  sp.fields.all (fun f => f.ranges.isEmpty || f.ranges.any (fun r => r.1 ≤ c.f f.off f.size && c.f f.off f.size ≤ r.2))

/-- A whole inline field of `n` bytes is listed and may hold anything. -/
def anyField (off size : Nat) : Field := { off := off, size := size }

/-- A field with one range. -/
def rangeField (off size lo hi : Nat) : Field := { off := off, size := size, ranges := [(lo, hi)] }

end Sys2Proof.Machine
end

