-- ==== Sys2Proof/Machine/Mailbox.lean ====
section
/-!
DEFINITION. How a command is checked, executed and answered (04 R122–R131, R139–R145, R150–R154).
-/

namespace Sys2Proof.Machine
open Sys2Proof

/-- What a command's own part answers. -/
inductive CmdRes where
  /-- It completes with this status and response data; then `after` happens, once the response is posted. -/
  | done (s : State) (st : Status) (data : List Byte) (after : State → State)
  /-- It is accepted and goes on. -/
  | wait (s : State) (w : WaitFor)
  /-- It is accepted with this data in its PENDING response and goes on; `after` happens once it counts as in
  progress. -/
  | waitThen (s : State) (w : WaitFor) (data : List Byte) (after : State → State)
  /-- It is not consumed yet. -/
  | hold

/-- It completes with this status. -/
def CmdRes.st (s : State) (st : Status) : CmdRes := .done s st [] id

/-- It completes with OK and data. -/
def CmdRes.ok (s : State) (data : List Byte) : CmdRes := .done s .ok data id

/-- A command of the tables: its rows and its own checks and effect (R126 step 5). -/
structure Command where
  /-- The tables' row. -/
  spec : CmdSpec
  /-- The command's own part. -/
  own : HostCmd → State → CmdRes

/-- The header check of R126, steps 2 to 4. -/
def CmdSpec.headerError (sp : CmdSpec) (s : State) (c : HostCmd) : Option Status :=
  let len := c.len.toNat
  let x := s.host.mbx[c.mbx]
  if 8 ≤ c.flags.toNat || c.payload.zipIdx.any (fun b =>
      b.1.toNat &&& (255 - sp.byteMask (c.desc || sp.desc) len (b.2 + 8)) != 0) || sp.pastList c then some .reservedNonzero
  else if 7 < len || (c.desc && len != 2) || len < sp.lenLo || sp.lenHi < len || 63 < c.ctx.toNat
      || (c.async && sp.async == .no) || (!c.async && sp.async == .must) || c.desc != sp.desc then some .invalidField
  else if c.mbx ≠ 0 && (sp.m0 || !x.bound || x.ctxGone || c.ctx.toNat != x.context.toNat) then some .denied
  else none

/-- Mailbox `m` is served: enabled, not halted, nothing executing in it, and firmware may consume (R131, R139, R143,
R144, R147, R563). -/
def State.served (s : State) (m : Fin 16) : Bool :=
  let x := s.host.mbx[m]
  s.live && s.canRequest && s.fw.phase != .drain && x.en && x.enabled && !x.halted && !s.executing m

/-- The response ring has room for this command's responses and for every outstanding final response (R124). -/
def State.hasRoom (s : State) (m : Fin 16) (async : Bool) : Bool :=
  (if async then 2 else 1) + s.asyncOut m ≤ s.rspRoom m

/-- Post one response and let a mailbox that was disabled meanwhile settle. -/
def State.answer (s : State) (c : HostCmd) (op : Nat) (st : Status) (data : List Byte) : State :=
  (s.respond c.mbx op c.seq c.noIrq st data).settleMbx c.mbx

/-- The command counts as in progress: an asynchronous one has posted PENDING (R130). -/
def HostCmd.proceed (c : HostCmd) (op : Nat) (t : State) (w : WaitFor) (data : List Byte) : State :=
  let t := if c.async then t.respond c.mbx op c.seq c.noIrq .pending data else t
  { t with running := t.running ++
    [{ mbx := c.mbx, op := op, seq := c.seq, noIrq := c.noIrq, async := c.async, wait := w }] }

/-- What executing the command leads to; `none` when it is not consumed. -/
def HostCmd.conclude (c : HostCmd) (op : Nat) : CmdRes → Option State
  | .hold => none
  | .done t st data after =>
    if c.async && st = .ok then
      let t := t.respond c.mbx op c.seq c.noIrq .pending []
      some (after { t with running := t.running ++
        [{ mbx := c.mbx, op := op, seq := c.seq, noIrq := c.noIrq, async := true, wait := .flashWrite, done := some (st, data) }] })
    else some (after (t.answer c op st data))
  | .wait t w => some (c.proceed op t w [])
  | .waitThen t w data after => some (after (c.proceed op t w data))

/-- The descriptor payload (R125, R145): the bytes read, or the status the command returns. -/
def State.descriptor (s : State) (c : HostCmd) : State × Option Status × HostCmd :=
  if !c.desc then (s, none, c)
  else
    let n := c.f 16 4
    if c.f 8 8 % 64 ≠ 0 || n = 0 || 16777216 < n then (s, some .invalidField, c)
    else
      match c.host with
      | .data bs => (s, none, { c with host := .data (padTo n bs) })
      | _ => (s.mbxError c.mbx .descFault, some .invalidField, c)

/-- A flash command's final response is still to come: a second flash command waits in its mailbox (R173). -/
def State.flashBusy (s : State) : Bool :=
  s.running.any (fun r => (r.op == 0x0D01 || r.op == 0x0D02) && r.wait == .flashWrite)

/-- A consumed command is checked and executed; `beforeMark` says that it lies before its mailbox's switch mark (R140).
`none` when the command stays in its ring. -/
def State.command (s : State) (k : Command) (c : HostCmd) (beforeMark : Bool) : Option State :=
  let op := k.spec.op
  if s.fw.phase == .handover && !k.spec.safe then
    (if beforeMark then none else some (s.answer c op .updating []))
  else if (op == 0x0D01 || op == 0x0D02) && s.flashBusy then none
  else
    match k.spec.headerError s c with
    | some st => some (s.answer c op st [])
    | none =>
      let d := s.descriptor c
      match d.2.1 with
      | some st => some (d.1.answer c op st [])
      | none =>
        if c.async && 8 ≤ s.asyncOut c.mbx then some (d.1.answer c op .busy [])
        else if !k.spec.rangesOk c && !c.desc then some (d.1.answer c op .invalidField [])
        else c.conclude op (k.own d.2.2 d.1)

/-- A host command's row: the command, taken from a served mailbox whose response ring has room, is executed
(log entry 19). -/
def direct (k : Command) (c : HostCmd) (s : State) : Res :=
  .next (if !s.served c.mbx then s
    else if !s.hasRoom c.mbx c.async then s.updMbx c.mbx (fun x => { x with rspStall := true, stallAsync := c.async })
    else (s.command k c false).getD s)

end Sys2Proof.Machine
end

