-- ==== Sys2Proof/Machine/Flash.lean ====
section
/-!
DEFINITION. The supply guard, flash and fuse operations, the firmware group's commands and the firmware switch
(02 R64–R70, 05 R171–R178, 04 R139–R141, 19 R558–R561).
-/

namespace Sys2Proof.Machine
open Sys2Proof

/-! ### Flash and fuse operations (R65, R66, R69) -/

/-- A flash or fuse operation begins: the erase of a block takes its bytes away. -/
def State.flashStart (s : State) (o : FlashOp) : State :=
  match o with
  | .erase b => s.updSup (fun p => { p with flashOp := some o, eraseSusp := none, flash := flashErase p.flash b })
  | .program _ _ _ => s.updSup (fun p => { p with flashOp := some o })

/-- Something waits for the flash or fuse controller. -/
def State.flashWants (s : State) : Bool := !s.fw.flashTodo.isEmpty || s.fw.fuseTodo.isSome

/-- New Keeper log entries are copied to the flash once it is idle and the guard is clear (R592). -/
def State.logCopy (s : State) : State :=
  if s.live && !s.sup.guard && s.sup.flashOp.isNone && s.sup.eraseSusp.isNone then
    let n := s.kpr.logCount.toNat
    s.updSup (fun p => { p with logCopied := n })
  else s

/-- The next operation begins: a suspended erase is resumed first; while the guard is active a command waits
(R65, R66, R69). -/
def State.flashKick (s : State) : State :=
  if s.sup.flashOp.isSome || s.sup.otpOp.isSome then s
  else if s.sup.guard then
    (if s.flashWants && s.fw.guardWait.isNone then { s with fw := { s.fw with guardWait := some s.clock } } else s)
  else
    match s.sup.eraseSusp with
    | some b => s.updSup (fun p => { p with eraseSusp := none, flashOp := some (.erase b) })
    | none =>
      match s.fw.fuseTodo with
      | some o => ({ s with fw := { s.fw with fuseTodo := none } } : State).updSup (fun p => { p with otpOp := some o })
      | none =>
        match s.fw.flashTodo with
        | o :: os => ({ s with fw := { s.fw with flashTodo := os } } : State).flashStart o
        | [] => s.logCopy

/-- The FLASH_WRITE in progress completes. -/
def State.flashFinish (s : State) (st : Status) (data : List Byte) : State :=
  let s : State := { s with fw := { s.fw with flashTodo := [], flashAt := 0, guardWait := none } }
  s.finish .flashWrite st data

/-- A FLASH_WRITE is in progress. -/
def State.writing (s : State) : Bool := s.running.any (fun r => r.waitsFor .flashWrite)

/-- Blow the fuses of an operation (R175). -/
def Fuses.blow (f : Fuses) : OtpOp → Fuses
  | .secver m => { f with secverMin := m }
  | .key i h => { f with keyHash := f.keyHash.set i h }
  | .revoke i => { f with revoke := f.revoke ||| 1#4 <<< i.val }

/-- `n` bytes that the spec does not define. -/
def State.freeBytes (s : State) (n : Nat) : List Byte × State :=
  ((List.range n).map (fun i => Config.freeByte (s.free + i)), { s with free := s.free + n })

/-- A program ends: a page that reads back wrong is programmed once more, then the command fails (R66, R177). -/
def State.programDone (s : State) (a : Nat) (bs : List Byte) (retry ok : Bool) : State :=
  if ok then
    let s := s.updSup (fun p => { p with flashOp := none, flash := flashProgram p.flash a bs })
    let s : State := { s with fw := { s.fw with flashAt := s.fw.flashAt + bs.length } }
    if s.fw.flashTodo.isEmpty && s.writing then
      (s.flashFinish .ok (leBytes 4 s.fw.flashAt)).flashKick
    else s.flashKick
  else
    let f := s.freeBytes bs.length
    let s := f.2.updSup (fun p => { p with flashOp := none, flash := flashProgram p.flash a f.1 })
    if !retry then
      ({ s with fw := { s.fw with flashTodo := .program a bs true :: s.fw.flashTodo } } : State).flashKick
    else
      let s := s.faultLog 0x34 Status.internal.code (BitVec.ofNat 32 a)
      (s.flashFinish .internal (leBytes 4 s.fw.flashAt)).flashKick

/-- An OTP program ends; fuses that read back wrong hold free values (R175, R177). -/
def State.otpDone (s : State) (o : OtpOp) (ok : Bool) : State :=
  if ok then
    let s := s.updSup (fun p => { p with otpOp := none, fuses := p.fuses.blow o })
    let n := s.sup.fuses.secverMin
    let s := s.updBoot (fun b => { b with secverMin := BitVec.ofNat 8 n })
    (s.finish (.fuse o) .ok []).flashKick
  else
    let f := s.takeFree
    let x := Config.freeNat f.1
    let s := f.2
    let wrong : OtpOp := match o with
      | .secver m => .secver (min x m)
      | .key i _ => .key i (BitVec.ofNat 384 x)
      | .revoke i => .revoke i
    let s := s.updSup (fun p => { p with
      otpOp := none, fuses := match o with
        | .revoke _ => p.fuses
        | .secver _ => if x < p.fuses.secverMin then p.fuses else p.fuses.blow wrong
        | .key _ _ => p.fuses.blow wrong })
    let n := s.sup.fuses.secverMin
    let s := s.updBoot (fun b => { b with secverMin := BitVec.ofNat 8 n })
    let g := s.takeFree
    let s := g.2.faultLog 0x34 Status.internal.code (Config.freeWord g.1)
    (s.finish (.fuse o) .internal []).flashKick

/-- FLASH_OP_COMPLETE: a page program, erase or OTP program finishes; `ok` says that it reads back right (R66). -/
def execFlashOpComplete (ok : Bool) (s : State) : Res :=
  .next (if !s.poweredOn then s
    else
      match s.sup.flashOp with
      | some (.erase _) => (s.updSup (fun p => { p with flashOp := none })).flashKick
      | some (.program a bs r) => s.programDone a bs r ok
      | none =>
        match s.sup.otpOp with
        | some o => s.otpDone o ok
        | none => s)

/-! ### The supply guard (R64–R70) -/

/-- SUPPLY_GUARD_ACTIVATE: the guard's two conditions as they now are, which V3V3_LOW and PWR_WARN show; the first that
holds makes the guard active: an erase in progress is suspended, commands wait (R64, R66, R69). While the guard is active
the time since which neither holds is kept (R64; log entry 119). -/
def execSupplyGuardActivate (sag warn : Bool) (s : State) : Res :=
  .next (if !s.kprRuns then s
    else
      let was := s.sup.guard
      let now := s.clock
      let s := s.updSup (fun p => { p with
        v3v3Low := sag, pwrWarn := warn
        guardGoodAt := if p.guard && !sag && !warn then some (p.guardGoodAt.getD now) else none })
      if was || !(sag || warn) then s
      else
        let s := (s.updSup (fun p => { p with guard := true, guardCount := satInc p.guardCount })).supEvent 1
        let s := match s.sup.flashOp with
          | some (.erase b) => s.updSup (fun p => { p with flashOp := none, eraseSusp := some b })
          | _ => s
        if s.flashWants || s.writing then { s with fw := { s.fw with guardWait := some s.clock } } else s)

/-- SUPPLY_GUARD_RELEASE: once both conditions have been good for 10 ms without interruption, the guard is released, a
suspended erase is resumed and a waiting command continues (R64, R69, R70). -/
def execSupplyGuardRelease (s : State) : Res :=
  .next (if !s.sup.guard || !s.kprRuns || !(s.sup.guardGoodAt.any (· + 10000 ≤ s.clock)) then s
    else
      let s := s.updSup (fun p => { p with guard := false, guardGoodAt := none })
      let s : State := { s with fw := { s.fw with guardWait := none } }
      if s.poweredOn && (s.boot.stage == 0xF || 7 ≤ s.boot.stage.toNat) then s.flashKick else s)

/-- GUARD_WAIT_TIMEOUT: a command that has waited for 100 ms completes with SUPPLY_INHIBIT (R69). -/
def execGuardWaitTimeout (s : State) : Res :=
  .next (match s.fw.guardWait with
    | some t =>
      if s.sup.guard && t + 100000 ≤ s.clock then
        let s := match s.fw.fuseTodo with
          | some o => ({ s with fw := { s.fw with fuseTodo := none } } : State).finish (.fuse o) .supplyInhibit []
          | none => s
        let s : State := { s with fw := { s.fw with guardWait := none } }
        if s.writing then s.flashFinish .supplyInhibit [] else s
      else s
    | none => s)

/-! ### Flash commands (R171–R173, R178) -/

/-- FW_SWITCH is outstanding: its final response has not been posted (R130, R173, R174). -/
def State.switching (s : State) : Bool := s.running.any (fun r => r.wait == .fwSwitch)

/-- What FLASH_READ reads: the fault-log region's layout, and a block whose erase has not finished, are not stated:
free values (R66, R592). -/
def State.flashBytes (s : State) (a n : Nat) : List Byte × State :=
  let half (x : Nat) : Bool :=
    match s.sup.flashOp, s.sup.eraseSusp with
    | some (.erase b), _ => b ≤ x && x < b + 65536
    | _, some b => b ≤ x && x < b + 65536
    | _, none => false
  let open_ (x : Nat) : Bool := (0x1100000 ≤ x && x < 0x1200000 && 0 < s.sup.logCopied) || half x
  let bs := s.flashRead a n
  (bs.zipIdx.map (fun b => if open_ (a + b.2) then Config.freeByte (s.free + b.2) else b.1), { s with free := s.free + n })

/-- FLASH_READ (R171). -/
def cmdFlashRead : Command :=
  { spec := { op := 0x0D01, lenLo := 3, lenHi := 3, m0 := true, async := .may,
              fields := [anyField 8 4, rangeField 12 4 1 16777216, anyField 16 8] }
    own := fun c s =>
      let off := c.f 8 4
      let n := c.f 12 4
      let dest := c.f 16 8
      if dest % 64 ≠ 0 || s.sup.flashSize < off + n then .st s .invalidField
      else if s.switching then .st s .busy
      else if c.host = .failed then .st (s.mbxError c.mbx .descFault) .invalidField
      else
        let r := s.flashBytes off n
        .ok (r.2.emit (.hostWrite dest r.1)) [] }

/-- FLASH_READ. -/
def execFlashRead (c : HostCmd) (s : State) : Res := direct cmdFlashRead c s

/-- The regions FLASH_WRITE may write: first and last offset + 1 (R85, R172). -/
def flashRegions (size : Nat) : List (Nat × Nat) :=
  [(0, 0x10000), (0x10000, 0x20000), (0x100000, 0x900000), (0x900000, 0x1100000), (0x1200000, size)]

/-- The operations of a FLASH_WRITE: each block is erased and then programmed page by page (R172). -/
def flashOps : Nat → Nat → List Byte → List FlashOp
  | 0, _, _ => []
  | n + 1, off, bs =>
    if bs.isEmpty then []
    else
      let page := FlashOp.program off (bs.take 256) false
      (if off % 65536 = 0 then [.erase off, page] else [page]) ++ flashOps n (off + 256) (bs.drop 256)

/-- FLASH_WRITE (R172). -/
def cmdFlashWrite : Command :=
  { spec := { op := 0x0D02, lenLo := 3, lenHi := 3, m0 := true, async := .may,
              fields := [anyField 8 4, rangeField 12 4 256 16777216, anyField 16 8] }
    own := fun c s =>
      let off := c.f 8 4
      let n := c.f 12 4
      let touches (a b : Nat) : Bool := off < b && a < off + n
      if off % 65536 ≠ 0 || n % 256 ≠ 0 || c.f 16 8 % 64 ≠ 0 then .st s .invalidField
      else if touches 0x20000 0x100000 || touches 0x1100000 0x1200000 then .st s .denied
      else if !(flashRegions s.sup.flashSize).any (fun r => r.1 ≤ off && off + n ≤ r.2) then .st s .invalidField
      else if s.switching then .st s .busy
      else if s.sup.guard then .st s .supplyInhibit
      else
        match c.host with
        | .data bs =>
          let s : State := { s with fw := { s.fw with flashTodo := flashOps (n / 256) off (padTo n bs), flashAt := 0 } }
          .wait s.flashKick .flashWrite
        | _ => .st (s.mbxError c.mbx .descFault) .invalidField }

/-- FLASH_WRITE. -/
def execFlashWrite (c : HostCmd) (s : State) : Res := direct cmdFlashWrite c s

/-! ### Fuse commands (R91, R175) -/

/-- A fuse command begins, unless the guard is active (R70). -/
def State.fuseStart (s : State) (o : OtpOp) : CmdRes :=
  if s.sup.guard then .st s .supplyInhibit
  else .wait ({ s with fw := { s.fw with fuseTodo := some o } } : State).flashKick (.fuse o)

/-- A fuse command is in progress already. -/
def State.fusing (s : State) : Bool := s.fw.fuseTodo.isSome || s.sup.otpOp.isSome

/-- FUSE_SECVER (R175). -/
def cmdFuseSecver : Command :=
  { spec := { op := 0x0D04, lenLo := 1, lenHi := 1, m0 := true, fields := [rangeField 8 4 0 64] }
    own := fun c s =>
      let n := c.f 8 4
      if n = s.sup.fuses.secverMin then .ok s []
      else if n < s.sup.fuses.secverMin || s.boot.secVersion.toNat < n then .st s .denied
      else if s.fusing then .hold
      else s.fuseStart (.secver n) }

/-- FUSE_SECVER. -/
def execFuseSecver (c : HostCmd) (s : State) : Res := direct cmdFuseSecver c s

/-- The key slot that a byte names. -/
def keySlot (n : Nat) : Fin 4 := ⟨n % 4, Nat.mod_lt _ (by decide)⟩

/-- FUSE_KEY (R175). -/
def cmdFuseKey : Command :=
  { spec := { op := 0x0D05, lenLo := 7, lenHi := 7, m0 := true, fields := [rangeField 8 1 0 3, anyField 16 48] }
    own := fun c s =>
      let i := keySlot (c.f 8 1)
      let h : BitVec 384 := BitVec.ofNat 384 (c.f 16 48)
      if h = 0 then .st s .invalidField
      else if s.sup.fuses.keyHash[i] ≠ 0 then .st s .denied
      else if s.fusing then .hold
      else s.fuseStart (.key i h) }

/-- FUSE_KEY. -/
def execFuseKey (c : HostCmd) (s : State) : Res := direct cmdFuseKey c s

/-- A revocation would leave no populated, unrevoked slot (R91). -/
def Fuses.lastKey (f : Fuses) (i : Fin 4) : Bool :=
  (List.finRange 4).all (fun j => j == i || f.keyHash[j] == 0 || f.revoke.getLsbD j.val)

/-- FUSE_REVOKE (R91, R175). -/
def cmdFuseRevoke : Command :=
  { spec := { op := 0x0D06, lenLo := 1, lenHi := 1, m0 := true, fields := [rangeField 8 1 0 3] }
    own := fun c s =>
      let i := keySlot (c.f 8 1)
      if s.sup.fuses.lastKey i then .st s .denied
      else if s.fusing then .hold
      else s.fuseStart (.revoke i) }

/-- FUSE_REVOKE. -/
def execFuseRevoke (c : HostCmd) (s : State) : Res := direct cmdFuseRevoke c s

/-! ### Firmware switch (R139–R141, R166, R174, R558–R561) -/

/-- FW_SWITCH (R174). -/
def cmdFwSwitch : Command :=
  { spec := { op := 0x0D03, lenLo := 1, lenHi := 1, m0 := true, async := .must, fields := [rangeField 8 1 0 1] }
    own := fun c s =>
      if s.switching || s.flashBusy then .st s .busy
      else
        let im : ImgSlot := if c.f 8 1 = 0 then .a else .b
        .wait { s with fw := { s.fw with phase := .check, image := im, phaseAt := s.clock } } .fwSwitch }

/-- FW_SWITCH. -/
def execFwSwitch (c : HostCmd) (s : State) : Res := direct cmdFwSwitch c s

/-- INT_STATUS.FW_SWITCH is set (R139). -/
def State.raiseFw (s : State) : State := s.raising (·.updInt (fun i => { i with fwSwitch := true }))

/-- Every outstanding PIP_WAIT completes with UPDATING (R166). -/
def State.waitsUpdating (s : State) : State :=
  let mine (w : Waiter) : Bool := match w.by_ with | .command _ _ _ => true | _ => false
  let s : State := { s with pip := { s.pip with
    watch := s.pip.watch.filter (!mine ·), overflow := s.pip.overflow.filter (!mine ·) } }
  ({ s with running := s.running.map (fun r =>
      match r.wait with
      | .pip _ => if r.done.isNone then { r with done := some (.updating, []) } else r
      | _ => r) } : State).postReady

/-- The switch is over: phase, marks. -/
def State.fwOver (s : State) (st : Status) (data : List Byte) : State :=
  let s : State := { s with fw := { s.fw with phase := .none, image := .none } }
  let s : State := { s with host := { s.host with mbx := s.host.mbx.map (fun m => { m with switchMark := none }) } }
  s.finish .fwSwitch st data

/-- FW_IMAGE_CHECK_DONE: the named image is refused, or DRAIN begins (R139, R166, R174). -/
def execFwImageCheckDone (s : State) : Res :=
  whenLive s fun s =>
    if s.fw.phase != .check then s
    else
      let b := s.fw.image == .b
      let r := s.flashImageReason b
      if r ≠ .ok then s.fwOver .digestMismatch (leBytes 1 r.code)
      else
        let h := s.imageHeader b
        let s : State := { s with fw := { s.fw with
          phase := .drain, version := BitVec.ofNat 32 (leAt h 12 4), secVersion := BitVec.ofNat 8 (leAt h 8 4)
          phaseAt := s.clock } }
        let s : State := { s with host := { s.host with
          mbx := s.host.mbx.map (fun m => { m with switchMark := some m.cmdTail }) } }
        s.waitsUpdating.raiseFw

/-- FW_SWITCH_DRAIN_DONE: every consumed command has its final response: HANDOVER begins (R139). -/
def execFwSwitchDrainDone (s : State) : Res :=
  whenLive s fun s =>
    if s.fw.phase == .drain && s.running.all (fun r => r.wait == .fwSwitch) then
      { s with fw := { s.fw with phase := .handover, phaseAt := s.clock } }
    else s

/-- FW_SWITCH_DRAIN_TIMEOUT: DRAIN past 100 ms: the switch is abandoned with BUSY (R141). -/
def execFwSwitchDrainTimeout (s : State) : Res :=
  whenLive s fun s =>
    if s.fw.phase == .drain && s.fw.phaseAt + 100000 ≤ s.clock then s.fwOver .busy [] else s

/-- FW_SWITCH_HANDOVER_DONE: RUN begins: the new image is shown, the source raised, the response OK (R139, R141). -/
def execFwSwitchHandoverDone (s : State) : Res :=
  whenLive s fun s =>
    if s.fw.phase == .handover then
      let f := s.fw
      let s := s.updBoot (fun b => { b with image := f.image, imgVersion := f.version, secVersion := f.secVersion })
      (s.fwOver .ok (zeros 4 ++ leBytes 4 f.version.toNat)).raiseFw
    else s

/-- FW_SWITCH_REVERT: the new image fails, the old one is reverted to (R561). -/
def execFwSwitchRevert (s : State) : Res :=
  whenLive s fun s => if s.fw.phase == .handover then (s.fwOver .internal []).raiseFw else s

end Sys2Proof.Machine
end

