-- ==== Sys2Proof/Machine/HostRegs.lean ====
section
/-!
DEFINITION. Host accesses with behaviour of their own: mailbox registers, interrupt block, MSI-X, bad BAR0 accesses,
the BAR2 window, PCIe power management and errors (04).
-/

namespace Sys2Proof.Machine
open Sys2Proof

/-! ### Mailbox registers (R120–R122, R136, R142, R143) -/

/-- MBX_CMD_TAIL_WRITE: a tail beyond the ring is ignored and recorded (R121, R122, R142; 04, At the edges). -/
def execMbxCmdTailWrite (m : Fin 16) (value : U32) (s : State) : Res :=
  whenBar s fun s =>
    let v := value.toNat % 4096
    if v < ringLen s.host.mbx[m].cmdSize then s.updMbx m (fun x => { x with cmdTail := BitVec.ofNat 12 v })
    else s.mbxError m .badTail

/-- How far `v` lies ahead of the response head, in entries. -/
def Mbx.rspAhead (x : Mbx) (v : Nat) : Nat :=
  (v + ringLen x.rspSize - x.rspHead.toNat) % ringLen x.rspSize

/-- MBX_RSP_HEAD_WRITE: the head moves up to RSP_TAIL at most, the mailbox is re-armed, and unread responses of commands
without NO_IRQ are announced at once (R136). RSP_STALL falls when the waiting command's room is there (R124). -/
def execMbxRspHeadWrite (m : Fin 16) (value : U32) (s : State) : Res :=
  whenBar s fun s =>
    let x := s.host.mbx[m]
    let v := value.toNat % 4096
    let d := x.rspAhead v
    if v < ringLen x.rspSize && d ≤ x.unread.length then
      let rest := x.unread.drop d
      let send := x.irqEn && rest.any id
      let taken := s.msixTakes ⟨m.val + 1, by omega⟩
      let s := s.updMbx m (fun x => { x with rspHead := BitVec.ofNat 12 v, unread := rest, armed := !(send && taken) })
      let room := s.hasRoom m x.stallAsync
      let s := s.updMbx m (fun x => { x with rspStall := x.rspStall && !room })
      if send then s.sendMsix ⟨m.val + 1, by omega⟩ else s
    else s.mbxError m .badHead

/-- MBX_ENABLE: EN = 1 on a bound mailbox (R120). -/
def execMbxEnable (m : Fin 16) (s : State) : Res :=
  whenBar s fun s =>
    if s.host.mbx[m].bound then s.updMbx m (fun x => { x with en := true, enabled := true }) else s

/-- MBX_DISABLE: EN = 0; ENABLED falls when nothing executes in the mailbox (R143). -/
def execMbxDisable (m : Fin 16) (s : State) : Res :=
  whenBar s fun s => (s.updMbx m (fun x => { x with en := false })).settleMbx m

/-- MBX_INDEX_RESET: the ring indices return to 0 and HALTED is cleared, while the mailbox is disabled and nothing is
outstanding (R142, R144). -/
def execMbxIndexReset (m : Fin 16) (s : State) : Res :=
  whenBar s fun s =>
    if !s.host.mbx[m].enabled && s.asyncOut m = 0 then
      s.updMbx m (fun x => { x with
        cmdHead := 0, cmdTail := 0, rspHead := 0, rspTail := 0, unread := [], halted := false, rspStall := false
        switchMark := none })
    else s

/-- MBX_IRQ_EN_WRITE (R136). -/
def execMbxIrqEnWrite (m : Fin 16) (on : Bool) (s : State) : Res :=
  whenBar s fun s => s.updMbx m (fun x => { x with irqEn := on })

/-! ### Interrupt block and MSI-X (R134, R135, R149) -/

/-- Vector 0 sends again after a host write that leaves the enabled status non-zero (R135). -/
def State.resend (s : State) : State := if s.intActive then s.sendMsix 0 else s

/-- INT_STATUS_WRITE: W1C, and another message when a source stays (R135). -/
def execIntStatusWrite (value : U32) (s : State) : Res :=
  whenBar s fun s =>
    let w (i : Nat) : Bool := value.getLsbD i
    (s.updInt (fun i => { i with
      boot := i.boot && !w 0, fwSwitch := i.fwSwitch && !w 3, bar2Miss := i.bar2Miss && !w 4
      dbDrop := i.dbDrop && !w 5, badAccess := i.badAccess && !w 6, mbxErr := i.mbxErr && !w 8
      unit := i.unit && !w 9 })).resend

/-- The interrupt block's enables and the MSI-X table are writable: from stage 0x0E (R82). -/
def State.enablesUp (s : State) : Bool :=
  14 ≤ s.boot.stage.toNat && !s.boot.stopped && !s.kpr.stopped && s.sup.power != .off && s.host.pcie.dstate == .d0

/-- INT_ENABLE_WRITE (R135). -/
def execIntEnableWrite (value : U32) (s : State) : Res :=
  .next (if s.enablesUp then (s.updInt (fun i => { i with enable := BitVec.ofNat 10 value.toNat })).resend else s)

/-- MSIX_UNMASK: a pending message is sent when its vector is unmasked (R149). -/
def execMsixUnmask (v : Fin 64) (s : State) : Res :=
  .next (if s.enablesUp then
      ({ s with host := { s.host with msix := updAt s.host.msix v (fun e => { e with mask := false }) } } : State).flushMsix
    else s)

/-- The size and alignment that BAR0 accepts (R113). -/
def bar0Good (offset bytes : Nat) : Bool := (bytes == 4 && offset % 4 == 0) || (bytes == 8 && offset % 8 == 0)

/-- An access of another size or alignment is recorded, the first one's details kept; a read returns zero (R113). -/
def State.badAccess (s : State) (offset : BitVec 24) (bytes : Nat) (write : Bool) : State :=
  if s.boot.stage.toNat < 3 || s.sup.power == .off || bar0Good offset.toNat bytes then s
  else
    let first := !s.host.int.badAccess
    let s := s.raising (·.updInt (fun i => { i with
      badAccess := true, badOffset := if first then offset else i.badOffset
      badBytes := if first then (if 16 ≤ bytes then 0 else BitVec.ofNat 4 bytes) else i.badBytes
      badWrite := if first then write else i.badWrite }))
    if write then s else s.emit (.barData (zeros bytes))

/-- BAR0_BAD_ACCESS: an access of another size or alignment is discarded and recorded (R113). -/
def execBar0BadAccess (offset : BitVec 24) (bytes : Nat) (write : Bool) (s : State) : Res :=
  .next (s.badAccess offset bytes write)

/-! ### The BAR2 window (R115–R117, R162) -/

/-- A BAR2 access to the byte would miss (R116); in STANDBY no memory is reached (02, Power states). -/
def State.bar2Miss (s : State) (a : Nat) : Bool :=
  s.sup.power == .standby ||
  !((0x10000000 ≤ a && a < s.dramSize) ||
    (match memUnit a with
     | some u => s.unitLive u
     | none => false))

/-- The byte belongs to a loaded model's package (R162). -/
def State.packaged (s : State) (a : Nat) : Bool :=
  s.mem.models.any (fun m => m.2.pa ≤ a && a < m.2.pa + m.2.size)

/-- INT_STATUS.BAR2_MISS is set; the first address since it was cleared is captured (R116). -/
def State.missed (s : State) (a : Nat) : State :=
  let first := !s.host.int.bar2Miss
  s.raising (·.updInt (fun i => { i with bar2Miss := true, missAddr := if first then BitVec.ofNat 48 a else i.missAddr }))

/-- The byte lies where the device keeps something whose layout the spec does not give: a Weight Buffer that holds an
image, the local memory of a VPU that holds an image or an item, a save slot in use or the save directory (R208, R312,
R413, R434; log entry 89). -/
def State.byteOpen (s : State) (a : Nat) : Bool :=
  let saved (e : Nat) : Bool := (s.engN e).saved.isSome || (s.engN e).incoming.isSome
  if wbBase ≤ a && a < wbBase + 0x1000000 then !(s.str.tower.toList.getD ((a - wbBase) / 0x200000) {}).images.isEmpty
  else if vpuBase ≤ a && a < vpuBase + 0x400000 then
    let v := (a - vpuBase) / 0x40000
    !(s.str.vpu.toList.getD v {}).images.isEmpty || (s.engN (8 + v)).running.isSome || saved (8 + v)
  else if saveBase ≤ a && a < saveBase + 0x800000 then
    let o := a - saveBase
    if o < 0x248000 then saved (o / 0x49000)
    else if o < 0x748000 then saved (8 + (o - 0x248000) / 0x50000)
    else (List.range 24).any saved
  else false

/-- The bytes that a BAR2 read returns: memory, and free values where the layout is not given. -/
def State.bar2Bytes (s : State) (a n : Nat) : List Byte × State :=
  if (List.range n).any (fun i => s.byteOpen (a + i)) then
    ((s.memRead a n).zipIdx.map (fun b => if s.byteOpen (a + b.2) then Config.freeByte (s.free + b.2) else b.1),
     { s with free := s.free + n })
  else (s.memRead a n, s)

/-- Addresses of an access: the first and the last byte decide, since every range is larger than an access. An access of
which one end misses is a miss as a whole, and its first address is captured (DESIGN CHOICE: log entry 125). -/
def ends (a n : Nat) : List Nat := [a, a + n - 1]

/-- BAR2_READ: device memory at ID_BAR2_BASE + offset, zero on a miss, poisoned on an uncorrectable error; the staging
area in a host-load wait (R82, R92, R115, R116). -/
def execBar2Read (offset len : Nat) (s : State) : Res :=
  .next (if len = 0 || 2 ^ 30 < offset + len then s
    else if s.barUp then
      let a := s.host.int.bar2Base.toNat + offset
      if (ends a len).any (fun x => s.bar2Miss x) then (s.missed a).emit (.bar2Data (zeros len) false)
      else
        let b := s.bar2Bytes a len
        ((b.2.touchLines a len .none).readSense a len).emit (.bar2Data b.1 (s.readUe a len))
    else if s.boot.hostWait && offset + len ≤ 0x800000 then s.emit (.bar2Data (s.stagingRead offset len) false)
    else if 3 ≤ s.boot.stage.toNat then s.emit (.bar2Data (zeros len) false)
    else s)

/-- BAR2_WRITE: performed in arrival order; a miss, a package byte or a poisoned write is discarded; the staging area in a host-load wait
(R82, R92, R94, R115–R117, R148, R162). -/
def execBar2Write (offset : Nat) (bytes : List Byte) (poisoned : Bool) (s : State) : Res :=
  .next (let len := bytes.length
    let s := if poisoned then s.aerReport .poisonedTlp else s
    if len = 0 || 2 ^ 30 < offset + len then s
    else if poisoned && 3 ≤ s.boot.stage.toNat && s.sup.power != .off then s.missed (s.host.int.bar2Base.toNat + offset)
    else if s.barUp then
      let a := s.host.int.bar2Base.toNat + offset
      if (ends a len).any (fun x => s.bar2Miss x) || (List.range len).any (fun i => s.packaged (a + i)) then s.missed a
      else ((s.touchLines a len .none).memPut a bytes).1
    else if s.boot.hostWait && offset + len ≤ 0x800000 && !poisoned then
      s.updBoot (fun b => { b with staging := cellsWrite b.staging offset bytes })
    else s)

/-! ### PCIe power management, Bus Master Enable, errors (R111, R147, R148) -/

/-- A stream runs. -/
def State.streaming (s : State) : Bool :=
  s.str.slot.toList.any (fun x => x.state == .running || x.state == .stale || x.state == .stopping)

/-- A stream runs or a job is queued or running; a job that still waits for its WAIT_PIP counts as queued (DESIGN CHOICE:
log entry 126). -/
def State.atWork (s : State) : Bool := s.streaming || !s.mem.jobs.isEmpty

/-- PM_D3HOT_ENTRY: idle, the device enters STANDBY; at work it stays ACTIVE and holds its requests (R111). -/
def execPmD3hotEntry (s : State) : Res :=
  .next (if s.host.pcie.dstate == .d3hot then s
    else
      let s := s.updPcie (fun p => { p with dstate := .d3hot })
      if !s.live then s
      else if s.atWork then s.updPcie (fun p => { p with held := true })
      else s.enterLow .standby)

/-- Requests through the outbound window that were held are issued, oldest first (R111). -/
def State.flushWindow (s : State) : State :=
  if s.canRequest then
    s.host.pcie.outWait.foldl (fun s w => s.emit (.hostRequest w.addr w.len w.write)) (s.updPcie (fun p => { p with outWait := [] }))
  else s

/-- Requests may be issued again: held ones, responses and messages that waited leave (R111, R147, R149). -/
def State.resume (s : State) : State := s.flushWindow.postReady.flushMsix

/-- PM_D0_RETURN: the device returns to ACTIVE; held requests and responses resume (R111, R147). -/
def execPmD0Return (s : State) : Res :=
  .next (if s.host.pcie.dstate == .d0 then s
    else
      let held := s.host.pcie.held
      let s := s.updPcie (fun p => { p with dstate := .d0, held := false })
      if !s.live then s
      else (if held || s.sup.power == .active then s else s.startActive).resume)

/-- BUS_MASTER_ENABLE_CHANGE (R110, R147). -/
def execBusMasterEnableChange (on : Bool) (s : State) : Res :=
  .next (let s := s.updPcie (fun p => { p with busMaster := on })
    if on && s.live then s.resume else s)

/-- PCIE_TLP_ERROR (R148). -/
def execPcieTlpError (kind : AerKind) (s : State) : Res := .next (s.aerReport kind)

/-! ### Constants of the endpoint (R108–R110, R112) -/

/-- Link speeds in tenths of GT/s, highest first (R108). -/
def linkSpeeds : List Nat := [320, 160, 80, 50, 25]

/-- Link widths in lanes, widest first (R108). -/
def linkWidths : List Nat := [8, 4, 2, 1]

/-- The speed and width that the link trains to: the highest pair that the partner supports too (R108). -/
def linkTrains (speeds widths : List Nat) : Option (Nat × Nat) :=
  match linkSpeeds.find? speeds.contains, linkWidths.find? widths.contains with
  | some a, some b => some (a, b)
  | _, _ => none

/-- Configuration space identity in the order of R109's table: Vendor ID, Device ID, Revision ID, class code, Subsystem Vendor ID,
Subsystem ID, Interrupt Pin, Header type. -/
def State.pciIdentity (s : State) : List Nat :=
  [0x1E7C, 0x0064, s.sup.fuses.stepping.toNat, 0x120000, 0x1E7C, 0x0064, 0x00, 0x00]

/-- Offsets of the capability structures, in the order of R109's table: Power Management, MSI-X, PCI Express, Advanced Error Reporting,
Device Serial Number, Secondary PCI Express, Data Link Feature, Physical Layer 16.0 and 32.0 GT/s, Lane Margining, PTM. -/
def pciCapabilities : List Nat := [0x040, 0x050, 0x070, 0x100, 0x148, 0x158, 0x178, 0x188, 0x1B0, 0x1D8, 0x200]

/-- The Device Serial Number capability equals ID_SERIAL (R109). -/
def State.pciSerial (s : State) : U64 := s.sup.fuses.serial

/-- Requester ID, traffic class, No Snoop and, for ring messages and records, Relaxed Ordering of the device's requests (R110). -/
def requestAttributes : Nat × Nat × Bool × Bool := (0, 0, false, false)

/-- What the capability structures hold (R109, Notes). -/
structure CapNotes where
  /-- Power Management: No_Soft_Reset. -/
  noSoftReset : Bool := true
  /-- PME support. -/
  pme : Bool := false
  /-- MSI-X vectors. -/
  msixVectors : Nat := 64
  /-- Offset of the MSI-X table in BAR0. -/
  msixTable : Nat := 0x100000
  /-- Offset of the PBA in BAR0. -/
  msixPba : Nat := 0x100800
  /-- Max Payload Size Supported, in bytes. -/
  maxPayload : Nat := 512
  /-- Largest Max Read Request, in bytes. -/
  maxReadRequest : Nat := 4096
  /-- Extended Tag. -/
  extendedTag : Bool := true
  /-- 10-bit Tag Requester and Completer. -/
  tenBitTag : Bool := true
  /-- ASPM L1. -/
  aspmL1 : Bool := true
  /-- ASPM L0s. -/
  aspmL0s : Bool := false
  /-- Function Level Reset. -/
  flr : Bool := false
  /-- Equalisation control for 8.0 GT/s. -/
  equalisation8 : Bool := true
  /-- Scaled Flow Control. -/
  scaledFlowControl : Bool := true
  /-- PTM Requester only. -/
  ptmRequester : Bool := true
  deriving DecidableEq, Repr

/-- The function's capabilities (R109). -/
def capNotes : CapNotes := {}

/-- Capabilities that are not offered (R109). -/
def notOffered : List String :=
  ["MSI", "SR-IOV", "ATS", "PASID", "PRI", "ACS", "Resizable BAR", "L1 PM Substates", "L0s"]

/-- A BAR pair's type (R112). -/
structure BarType where
  /-- 64-bit. -/
  wide : Bool
  /-- Prefetchable. -/
  prefetchable : Bool
  deriving DecidableEq, Repr

/-- The types of BAR0, BAR2 and BAR4 (R112). -/
def barTypes : List BarType := [⟨true, false⟩, ⟨true, true⟩, ⟨true, false⟩]

/-- Bytes of BAR0, BAR2 and BAR4 (R112). -/
def barBytes : List Nat := [2 ^ 24, 2 ^ 30, 2 ^ 20]

end Sys2Proof.Machine
end

