-- ==== Sys2Proof/Machine/Memory.lean ====
section
/-!
DEFINITION. DRAM controllers, refresh, drift, patrol scrub; page tables and translation (07).
-/

namespace Sys2Proof.Machine
open Sys2Proof

/-- A queued write is issued. -/
def State.issueWrite (s : State) (n : Fin 4) (e : WqEntry) : State :=
  (s.updDmc n (fun d => { d with wq := d.wq.erase e })).dramAccess n e.line e.hint

/-- Every queued write that `p` selects is issued, oldest first. -/
def State.issueWrites (s : State) (n : Fin 4) (p : WqEntry → Bool) : State :=
  (s.mem.dmc[n].wq.filter p).foldl (fun s e => s.issueWrite n e) s

/-- The write queue drains from WQ_HIGH to WQ_LOW (07, Read and write ordering). -/
def State.drain (s : State) (n : Fin 4) : State :=
  let d := s.mem.dmc[n]
  if d.wqHigh.toNat ≤ d.wq.length || 64 ≤ d.wq.length then
    (d.wq.take (d.wq.length - d.wqLow.toNat)).foldl (fun s e => s.issueWrite n e) s
  else s

/-- The DMC works: initialised and not in self-refresh. -/
def State.dmcOn (s : State) (n : Fin 4) : Bool :=
  s.live && s.mem.dmc[n].ready && !s.mem.dmc[n].selfRefresh

/-- The DMC serves requests: after STANDBY only once MR4 has been read and the drift update made (R232). -/
def State.dmcUp (s : State) (n : Fin 4) : Bool :=
  s.dmcOn n && !s.mem.dmc[n].wakeMr4 && s.mem.dmc[n].wakeDrift == 0

/-- The page hint of a requester; one that the table does not list gives a free value (R224). -/
def State.hintOf (s : State) : Requester → Hint × State
  | .csiIngest | .ethIngest | .vde | .ppeRead | .weightLoad => (.open_, s)
  | .resultDma | .trk | .bpmRing | .eccLine | .scrub => (.close, s)
  | .firmware | .bar2 | .walk | .vee | .vpu | .ckpt => (.none, s)
  | .unlisted =>
    let f := s.takeFree
    (if Config.freeNat f.1 % 3 = 0 then .open_ else if Config.freeNat f.1 % 3 = 1 then .close else .none, f.2)

/-- The ECC line, by channel-local number, that holds the check bytes of a data line (R223). -/
def State.eccLine (s : State) (line : Nat) : Nat := eccAt s.chLog2 (64 * line) / 64

/-- The DMC uses the check bytes of a data line: an ECC line that it does not hold is read, and a changed one that makes
room is written back, both with the hint of ECC line accesses (R223, R224). -/
def State.eccTouch (s : State) (n : Fin 4) (line : Nat) (changed : Bool) : State :=
  let k := s.eccLine line
  let old := s.mem.dmc[n].eccCache
  let hit := old.find? (fun e => e.1 == k)
  let s := if hit.isSome then s else s.dramAccess n k .close
  let all := (k, changed || hit.any Prod.snd) :: old.filter (fun e => e.1 != k)
  let s := match (all.drop 256).head? with
    | some (j, true) => s.dramAccess n j .close
    | _ => s
  s.updDmc n (fun d => { d with eccCache := all.take 256 })

/-- The line's ECC state, by channel-local line number. -/
def State.eccOf (s : State) (n : Fin 4) (line : Nat) : Option (Nat × EccErr) :=
  match s.deviceAddr n.val (64 * line) with
  | some a => (lookupN s.mem.ecc (a / 64)).map (fun e => (a / 64, e))
  | none => none

/-- A line is read from the DRAM and checked: a single-bit error is corrected and written back, an uncorrectable one
reported (R237, R238). -/
def State.lineRead (s : State) (n : Fin 4) (line : Nat) : State :=
  match s.eccOf n line with
  | some (k, e) => s.lineMet k e
  | none => s

/-- The DMC answers a read with the bytes of the last writes that reached it, poisoned where the line cannot be corrected
(R225, R237, R238). -/
def State.dmcAnswer (s : State) (n : Fin 4) (line : Nat) (mask : BitVec 64) : State :=
  match s.deviceAddr n.val (64 * line) with
  | some a =>
    let bs := s.memRead a 64
    s.emit (.dmcData n.val line mask (((List.range 64).filter mask.getLsbD).map (byteAt bs)) (s.readUe a 64))
  | none => s

/-- A read goes to the DRAM and is answered. -/
def State.dramRead (s : State) (n : Fin 4) (line : Nat) (mask : BitVec 64) (h : Hint) : State :=
  (((s.eccTouch n line false).lineRead n line).dramAccess n line h).dmcAnswer n line mask

/-- DMC_READ_REQUEST: a read of the bytes `mask` of a line: in STRICT mode queued writes of its bank and row are issued
first; in FORWARD mode it is forwarded, held behind its line's write, or proceeds (R224–R227). -/
def execDmcReadRequest (n : Fin 4) (line : Nat) (mask : BitVec 64) (req : Requester) (s : State) : Res :=
  .next (if !s.dmcUp n || mask = 0 then s
    else
      let h := s.hintOf req
      let s := h.2
      let d := s.mem.dmc[n]
      if d.strict then
        let br := s.bankRow (64 * line)
        (s.issueWrites n (fun e => s.bankRow (64 * e.line) == br)).dramRead n line mask h.1
      else
        match d.wq.find? (fun e => e.line == line) with
        | some e =>
          if mask &&& ~~~ e.mask = 0 then s.dmcAnswer n line mask
          else (s.issueWrite n e).dramRead n line mask h.1
        | none => s.dramRead n line mask h.1)

/-- The bytes of a line with those of `mask` replaced. -/
def mergeLine (old new : List Byte) (mask : BitVec 64) : List Byte :=
  (List.range 64).map (fun i => if mask.getLsbD i then byteAt new i else byteAt old i)

/-- Queue a write: it merges into its line's entry (07, Read and write ordering). -/
def enqueueWrite (wq : List WqEntry) (line : Nat) (mask : BitVec 64) (h : Hint) : List WqEntry :=
  if wq.any (fun e => e.line == line) then
    wq.map (fun e => if e.line == line then { e with mask := e.mask ||| mask, hint := h } else e)
  else wq ++ [{ line := line, mask := mask, hint := h }]

/-- DMC_WRITE_REQUEST: a write of the bytes `mask` of a line is queued or merged; a partial write merges with the line
read, and is not performed where that read is uncorrectable; the check bytes follow the line (R223–R225, R235, R236,
R239). -/
def execDmcWriteRequest (n : Fin 4) (line : Nat) (mask : BitVec 64) (data : List Byte) (req : Requester) (s : State) : Res :=
  .next (if !s.dmcUp n || mask = 0 then s
    else
      match s.deviceAddr n.val (64 * line) with
      | none => s
      | some a =>
        let h := s.hintOf req
        let s := h.2
        let whole := mask == BitVec.allOnes 64
        let ue := !whole && (s.eccOf n line).any (fun e => e.2 == .uncorrectable)
        if ue then s.lineRead n line
        else
          let s := (if whole then s else s.lineRead n line).eccTouch n line true
          let s := s.memWrite a (mergeLine (s.memRead a 64) data mask)
          (s.updDmc n (fun d => { d with wq := enqueueWrite d.wq line mask h.1 })).drain n)

/-- PAGE_IDLE_CLOSE: a row last accessed with hint NONE is precharged (R224). -/
def execPageIdleClose (n : Fin 4) (bank : Nat) (s : State) : Res :=
  .next (if s.dmcUp n then
      s.updDmc n (fun d => { d with rows := d.rows.filter (fun r => !(r.bank == bank && r.idleClose)) })
    else s)

/-! ### Refresh and temperature (R229–R231) -/

/-- One per-bank refresh is issued: which bank it refreshes is not stated; its row closes (R224, R229). -/
def State.refreshOne (s : State) (n : Fin 4) : State :=
  let f := s.takeFree
  let banks := if s.boot.ranks = 2 then 32 else 16
  f.2.updDmc n (fun d => { d with rows := d.rows.filter (fun r => r.bank != Config.freeNat f.1 % banks) })

/-- `k` refreshes are issued. -/
def State.refreshes (s : State) (n : Fin 4) : Nat → State
  | 0 => s
  | k + 1 => (s.refreshOne n).refreshes n k

/-- How many refresh commands may be postponed (R229, R230). -/
def Dmc.postponeMax (d : Dmc) : Nat := if d.refreshX2 then 2 else 4

/-- DRAM_REFRESH: a refresh falls due: it is issued with those postponed, or postponed while requests wait, up to the
limit (R229, R230). -/
def execDramRefresh (n : Fin 4) (issued : Bool) (s : State) : Res :=
  .next (if !s.dmcOn n then s
    else
      let d := s.mem.dmc[n]
      if issued then (s.refreshes n (d.postponed + 1)).updDmc n (fun d => { d with postponed := 0 })
      else if d.postponed < d.postponeMax then s.updDmc n (fun d => { d with postponed := d.postponed + 1 })
      else s.refreshOne n)

/-- 2× refresh from now on: at most 2 refreshes stay postponed (R230, R231). -/
def State.fasterRefresh (s : State) (n : Fin 4) : State :=
  let p := s.mem.dmc[n].postponed
  (s.refreshes n (p - 2)).updDmc n (fun d => { d with refreshX2 := true, derate := true, x1Reads := 0, postponed := min p 2 })

/-- A DRAM over-temperature code is a thermal fault (R230, R231, R576). -/
def State.dramHot (s : State) (n : Fin 4) (code : Nat) : State :=
  s.monitor .thermal (0x22 + n.val) (BitVec.ofNat 32 code) false

/-- MR4_POLL: at its due time, every 16 ms and first of all after STANDBY, MR4 is read; the refresh rate follows the code's requirement; a failed read or an undefined code counts as 2×, and two
in a row as a thermal fault (R230–R232; 07, Memory faults). -/
def execMr4Poll (n : Fin 4) (code : Option (BitVec 5)) (req : Mr4Req) (s : State) : Res :=
  .next (if !s.dmcOn n || s.clock < s.mem.dmc[n].mr4Due then s
    else
      let s := s.updDmc n (fun d => { d with mr4Due := d.mr4Due + 16000, wakeMr4 := false })
      let s := match code with
        | some c => s.updDmc n (fun d => { d with mr4Code := c })
        | none => s
      let failed := code.isNone || req == .undefined
      if failed then
        let fails := s.mem.dmc[n].mr4Fails + 1
        let s := (s.fasterRefresh n).updDmc n (fun d => { d with mr4Fail := true, mr4Fails := fails })
        let s := s.faultLogOpen (0x22 + n.val)
        if 2 ≤ fails then s.dramHot n s.mem.dmc[n].mr4Code.toNat else s
      else
        let s := s.updDmc n (fun d => { d with mr4Fails := 0 })
        match req with
        | .x2 => s.fasterRefresh n
        | .over => s.dramHot n s.mem.dmc[n].mr4Code.toNat
        | _ =>
          s.updDmc n (fun d =>
            let back := d.refreshX2 && 1 ≤ d.x1Reads
            { d with x1Reads := if back then 0 else d.x1Reads + 1
                     refreshX2 := d.refreshX2 && !back, derate := d.derate && !back }))

/-! ### Drift and patrol scrub (R233, R234, R240) -/

/-- The limit of a lane's offset for a trained window of `w` taps: W / 2 − 4 (R234). -/
def driftLimit (w : BitVec 8) : Int := max 0 ((w.toNat / 2 : Nat) - 4)

/-- A change in oscillator count as taps: the change over the counts per tap; where it is no whole number of taps, which of
the two neighbours is taken is not stated: a free value (R233). -/
def State.toTaps (s : State) (change : Int) (perTap : Nat) : Int × State :=
  let p : Int := max 1 perTap
  if change % p = 0 then (change / p, s)
  else
    let f := s.takeFree
    (change / p + (Config.freeNat f.1 % 2 : Nat), f.2)

/-- DRIFT_UPDATE: at a lane's due time, every 100 ms and after STANDBY before any request, the interval oscillator has given
these counts for its read and its write side; the change since training moves both offsets from the trained centre, within
their limits (R232–R234). -/
def execDriftUpdate (n lane : Fin 4) (rd wr : Int) (s : State) : Res :=
  .next (if !s.dmcOn n || s.clock < s.mem.dmc[n].driftDue[lane] then s
    else
      let d := s.mem.dmc[n]
      let e := s.boot.eyes.toList.getD (4 * n.val + lane.val) {}
      let a := s.toTaps (rd - d.oscBase[lane].1) d.perTap[lane]
      let b := a.2.toTaps (wr - d.oscBase[lane].2) d.perTap[lane]
      let lr := driftLimit e.rdWidth
      let lw := driftLimit e.wrWidth
      let r := clampInt (-lr) lr a.1
      let w := clampInt (-lw) lw b.1
      let s := b.2.updDmc n (fun d => { d with
        driftRd := updAt d.driftRd lane (fun _ => r), driftWr := updAt d.driftWr lane (fun _ => w)
        driftDue := updAt d.driftDue lane (· + 100000), wakeDrift := d.wakeDrift &&& ~~~ (1#4 <<< lane.val)
        driftLimit := d.driftLimit || r ≠ a.1 || w ≠ b.1 })
      let s := if r ≠ a.1 then s.faultLogDetail (0x22 + n.val) (Config.driftDetail false lane.val a.1) else s
      if w ≠ b.1 then s.faultLogDetail (0x22 + n.val) (Config.driftDetail true lane.val b.1) else s)

/-- Lines of a channel. -/
def State.chLines (s : State) : Nat := 2 ^ (s.chLog2 - 6)

/-- A line that was clean shows an error; one that already has an error keeps it until it is corrected or written whole
(R237, R238). -/
def State.lineFound (s : State) (n : Fin 4) (line : Nat) (err : Option EccErr) : State :=
  match err, s.deviceAddr n.val (64 * line) with
  | some e, some a =>
    if (lookupN s.mem.ecc (a / 64)).isSome then s
    else { s with mem := { s.mem with ecc := insertN s.mem.ecc (a / 64) e } }
  | _, _ => s

/-- The data line whose check bytes an error in an ECC line strikes: one of the 16 that share the line, which one a free
value (R223, R240). -/
def State.checkedLine (s : State) (line : Nat) (err : Option EccErr) : Nat × State :=
  let first := eccAt s.chLog2 0 / 64
  if line < first then (line, s)
  else match err with
    | none => (line, s)
    | some _ =>
      let f := s.takeFree
      ((line - first) * 16 + Config.freeNat f.1 % 16, f.2)

/-- PATROL_SCRUB_STEP: the next line, of data or of check bytes, is read, corrected or reported; `err` is what the read finds
where the state was clean (R224, R237, R238, R240). -/
def execPatrolScrubStep (n : Fin 4) (err : Option EccErr) (s : State) : Res :=
  .next (if !s.dmcUp n then s
    else
      let line := s.mem.dmc[n].scrubPos
      let next := (line + 1) % s.chLines
      let s := s.updDmc n (fun d => { d with scrubPos := next, scrub := if next = 0 then d.scrub + 1 else d.scrub })
      let k := (s.dramAccess n line .close).checkedLine line err
      (k.2.lineFound n k.1 err).lineRead n k.1)

/-- DMC_UNANSWERED_TIMEOUT: a request unanswered for 10 µs is a device fault (07, Memory faults; R243). -/
def execDmcUnansweredTimeout (n : Fin 4) (s : State) : Res :=
  whenLive s fun s => s.deviceFault (0x22 + n.val) 0 0

/-! ### Page tables (R213–R218) -/

/-- Firmware takes a page of its reserved region for a table; which one is not stated (R213). -/
def State.takeTable (s : State) (ctx : Nat) : Nat × State :=
  let f := s.takeFree
  let used := s.mem.tables.map Prod.snd
  let want := Config.freeNat f.1 % 65536 * 4096
  let a := if used.contains want then (((List.range 65536).find? (fun i => !used.contains (4096 * i))).getD 0) * 4096 else want
  (a, ({ f.2 with mem := { f.2.mem with tables := f.2.mem.tables ++ [(ctx, a)] } } : State).memClear a 4096)

/-- The table that the entry at `at_` points to, made when there is none. -/
def State.tableAt (s : State) (ctx at_ : Nat) : Nat × State :=
  let e := s.memNat at_ 8
  if validTable e then (ptePa e, s)
  else
    let t := s.takeTable ctx
    (t.1, t.2.memWrite at_ (leBytes 8 (pteOf false false false false t.1)))

/-- The context's L1 table. -/
def State.rootOf (s : State) (ctx : Nat) : Nat := (s.mem.root.toList.getD ctx {}).root.toNat * 4096

/-- Where the leaf entries of the page at `va` lie, with the tables on the way made. -/
def State.leafPlace (s : State) (ctx va page : Nat) : Nat × State :=
  let l2 := s.tableAt ctx (s.rootOf ctx + 8 * bitsOf va 30 9)
  if page = 0x200000 then (l2.1 + 8 * bitsOf va 21 9, l2.2)
  else
    let l3 := l2.2.tableAt ctx (l2.1 + 8 * bitsOf va 21 9)
    (l3.1 + 8 * bitsOf va 12 9, l3.2)

/-- Write the leaf entries of one page; `e` gives the entry for an address inside it. -/
def State.setLeaf (s : State) (ctx va page : Nat) (e : Nat → Nat) : State :=
  let p := s.leafPlace ctx va page
  if page = 0x10000 then
    (List.range 16).foldl (fun s i => s.memWrite (p.1 + 8 * i) (leBytes 8 (e (4096 * i)))) p.2
  else p.2.memWrite p.1 (leBytes 8 (e 0))

/-- Change the pages of a range. -/
def State.setPages (s : State) (ctx va bytes page : Nat) (e : Nat → Nat) : State :=
  (List.range (bytes / page)).foldl (fun s i => s.setLeaf ctx (va + page * i) page (fun o => e (page * i + o))) s

/-- Map a region. -/
def State.mapRegion (s : State) (ctx va pa bytes page : Nat) : State :=
  s.setPages ctx va bytes page (fun o => pteOf true true false (page == 0x10000) (pa + o))

/-- Cached translations of a page or of the whole context are invalidated (R217). -/
def State.invalidate (s : State) (p : Tlb → Bool) : State :=
  { s with mem := { s.mem with tlb := s.mem.tlb.filter (fun t => !p t) } }

/-- Unmap a region (R160, R217). -/
def State.unmapRegion (s : State) (ctx : Nat) (r : Region) : State :=
  (s.setPages ctx r.va r.bytes r.page (fun _ => 0)).invalidate
    (fun t => t.ctx == ctx && t.va < r.va + r.bytes && r.va < t.va + t.size)

/-- Set WP on the pages of a region that hold any loaded package of the context, and clear it on the others (R218). -/
def State.protect (s : State) (ctx : Nat) (r : Region) (ranges : List (Nat × Nat)) : State :=
  if ctx = 0 then s
  else
    (s.setPages ctx r.va r.bytes r.page (fun o =>
      let p := r.va + o / r.page * r.page
      pteOf true true (ranges.any (fun x => x.1 < p + r.page && p < x.1 + x.2)) (r.page == 0x10000) (r.pa + o))).invalidate
      (fun t => t.ctx == ctx && t.va < r.va + r.bytes && r.va < t.va + t.size)

/-- The packages that asynchronous MODEL_LOAD commands of a context are loading, as (context address, bytes). -/
def State.loading (s : State) (ctx : Nat) : List (Nat × Nat) :=
  s.running.filterMap (fun r => match r.wait with
    | .modelLoad x va n => if x = ctx then some (va, n) else none
    | _ => none)

/-- The packages of a context whose pages carry WP, those loaded and those being loaded, as (context address, bytes)
(R218). -/
def State.packages (s : State) (ctx : Nat) : List (Nat × Nat) :=
  (s.mem.models.filter (fun m => m.2.ctx == ctx)).map (fun m => (m.2.va, m.2.size)) ++ s.loading ctx

/-- MMU_INVAL_WRITE: cached translations of a context or of one page go (R217). -/
def execMmuInvalWrite (value : U64) (s : State) : Res :=
  whenLive s fun s =>
    let v := value.toNat
    let va := bitsOf v 12 27 * 4096
    s.invalidate (fun t => t.ctx == bitsOf v 0 6 && (bitOf v 6 || (t.va ≤ va && va < t.va + t.size)))

/-- The frame of a context that the SSU (stage 4) or TRK (stage 7) works for: of those whose turn it is, the first in the
order of R35. -/
def State.stageWork (s : State) (ctx k : Nat) : Option (Nat × U32) :=
  (argMin (fun (x : Nat × Frame) => claimKey (s.slotN x.1).cls x.2.order x.1) ((List.range 64).filterMap (fun n =>
    if (s.slotN n).ctx = ctx then (s.frameTurn n k).map (fun f => (n, f)) else none))).map (fun x => (x.1, x.2.seq))

/-- The work that a unit does for a context is discarded: an engine's item, the frame that the SSU or TRK works for, the
picture that the VEE encodes, the frames that a port ingests (R219). -/
def State.discardWork (s : State) (unit ctx : Nat) (st : Status) : State :=
  let s := (unitEngines unit).foldl (fun s e =>
    match (s.engN e).running with
    | some i => if i.ctx = ctx then (s.engineDone e).itemDiscard i st else s
    | none => s) s
  if unit = 0x1F ∨ unit = 0x20 then
    match s.stageWork ctx (if unit = 0x1F then 4 else 7) with
    | some x => (s.discard x.1 x.2 .fault).advance x.1
    | none => s
  else if unit = 0x1C then
    match s.str.encoding with
    | some x =>
      if (s.slotN (s.viewN x.1).slot).ctx = ctx then
        ((({ s with str := { s.str with encoding := none } } : State).veeSkip x.1).viewDone x.1 x.2).veeNext
      else s
    | none => s
  else (List.range 64).foldl (fun s n =>
    if s.ingUnit n = unit && (s.slotN n).ctx = ctx then
      s.updSlotN n (fun sl => { sl with ing := { sl.ing with open_ := sl.ing.open_.map (fun o => { o with refused := true }) } })
    else s) s

/-- The item of the context that a unit's engine runs. -/
def State.itemOf (s : State) (unit ctx : Nat) : Option Nat :=
  ((unitEngines unit).findSome? (fun e => (s.engN e).running.filter (fun i => i.ctx == ctx))).map Item.id

/-- A request that has translated to the outbound window becomes a PCIe request, at once or when the device may issue
requests again (R110, R111, R210). -/
def State.windowRequest (s : State) (item : Option Nat) (a len : Nat) (write : Bool) : State :=
  if a < 0x020000000000 || 0x030000000000 ≤ a then s
  else if s.canRequest then s.emit (.hostRequest (a - 0x020000000000) len write)
  else s.updPcie (fun p => { p with outWait := p.outWait ++ [{ item := item, addr := a - 0x020000000000, len := len, write := write }] })

/-- MMU_TRANSLATE: a request of a unit for a context; a fault discards the work it serves and is logged; an
uncorrectable error in a table is a device fault (R208–R219; 07, Memory faults). -/
def execMmuTranslate (ctx unit addr len : Nat) (write walkUe : Bool) (s : State) : Res :=
  whenLive s fun s =>
    if 64 ≤ ctx || len = 0 then s
    else
      let reads := s.walkReads ((s.mem.root.toList.getD ctx {}).root.toNat * 4096) addr
      let s := if walkUe && ctx ≠ 0 then
          let f := s.takeFree
          f.2.strike (reads.getD (Config.freeNat f.1 % reads.length) 0) 8
        else s
      let r := s.reach unit ctx addr 1 write
      match r.2 with
      | none => r.1.windowRequest (r.1.itemOf unit ctx) (r.1.physOf ctx addr) len write
      | some st => r.1.discardWork unit ctx st

end Sys2Proof.Machine
end

