-- ==== Sys2Proof/Machine/CmdDevice.lean ====
section
/-!
DEFINITION. Commands of the Device group, mailbox binding, the BAR2 window, and the Diagnostic group
(05 R153–R155, R158, R169, R170).
-/

namespace Sys2Proof.Machine
open Sys2Proof

/-- DEVICE_NOP: the payload comes back (05, Device group). -/
def cmdDeviceNop : Command :=
  { spec := { op := 0x0100, lenLo := 0, lenHi := 7, m0 := true, safe := true, fields := [anyField 8 56] }
    own := fun c s => .ok s (padTo 56 c.payload) }

/-- DEVICE_NOP. -/
def execDeviceNop (c : HostCmd) (s : State) : Res := direct cmdDeviceNop c s

/-- 2^20. -/
def mib : Nat := 2 ^ 20

/-- Bytes of DRAM given out by MEM_ALLOC. -/
def State.dramUsed (s : State) : Nat :=
  (s.mem.ctx.toList.map (fun c => (c.regions.map Region.bytes).sum)).sum

/-- DRAM that contexts can allocate (R209). -/
def State.dramUsable (s : State) : Nat := s.dramSize - 0x10000000

/-- Feature Store granules in use (R423). -/
def FeatStore.usedGranules (f : FeatStore) : Nat := (f.runs.map Prod.snd).sum

/-- ID_DEVICE.VARIANT. -/
def Fuses.variantCode (f : Fuses) : Nat := if f.variantL then 2 else 1

/-- The code of a power state in DEVICE_INFO and SUP_STATUS. -/
def PowerState.code : PowerState → Nat
  | .active => 0 | .low => 1 | .standby => 2 | .off => 3

/-- Bit `u` for each unit fenced now. -/
def State.fencedMask (s : State) : Nat :=
  ((List.range 56).map (fun u => if (s.gateN u).fenced then 2 ^ u else 0)).sum

/-- Pips of blocks in use. -/
def PipStore.usedPips (p : PipStore) : Nat := (p.blocks.map PipBlock.count).sum

/-- General pips. -/
def generalPips : Nat := 126400

/-- The response data of DEVICE_INFO. -/
def State.deviceInfo (s : State) : List Byte :=
  let ctxs := (s.mem.ctx.toList.filter Ctx.exists_).length
  let free := ((s.host.mbx.toList.drop 1).filter (fun m => !m.bound)).length
  leBytes 4 s.boot.imgVersion.toNat ++ leBytes 1 s.boot.secVersion.toNat ++ leBytes 1 s.sup.fuses.variantCode
    ++ leBytes 1 s.sup.power.code ++ zeros 1
    ++ leBytes 4 (s.dramUsable / mib) ++ leBytes 4 ((s.dramUsable - s.dramUsed) / mib)
    ++ leBytes 4 (64 * (1920 - s.str.fs.usedGranules)) ++ leBytes 1 (64 - ctxs) ++ leBytes 1 free
    ++ leBytes 1 s.mem.models.length ++ zeros 1 ++ leBytes 8 s.fencedMask
    ++ leBytes 4 (generalPips - s.pip.usedPips)

/-- DEVICE_INFO (05, Device group). -/
def cmdDeviceInfo : Command :=
  { spec := { op := 0x0101, lenLo := 0, lenHi := 0, m0 := true, safe := true }
    own := fun _ s => .ok s s.deviceInfo }

/-- DEVICE_INFO. -/
def execDeviceInfo (c : HostCmd) (s : State) : Res := direct cmdDeviceInfo c s

/-- The power state that TARGET names. -/
def powerNamed : Nat → PowerState
  | 0 => .active | 1 => .low | 2 => .standby | _ => .off

/-- The transitions of the power states table. -/
def powerMove : PowerState → PowerState → Bool
  | .active, _ => true
  | .low, _ => true
  | .standby, .low => false
  | .standby, _ => true
  | .off, _ => false

/-- A flash program is in progress (R62). -/
def Supply.programming (p : Supply) : Bool :=
  match p.flashOp with
  | some (.program _ _ _) => true
  | _ => false

/-- DEVICE_POWER (R62, R155). -/
def cmdDevicePower : Command :=
  { spec := { op := 0x0102, lenLo := 1, lenHi := 1, m0 := true, fields := [rangeField 8 1 0 3] }
    own := fun c s =>
      let t := powerNamed (c.f 8 1)
      if t = s.sup.power then .ok s (leBytes 1 t.code)
      else if !powerMove s.sup.power t then .st s .denied
      else if t ≠ .active && s.atWork then .st s .busy
      else if t = .off && (s.sup.eraseSusp.isSome || s.sup.programming) then .st s .busy
      else match t with
        | .active =>
          if (List.range 56).any (fun u => s.wanted u && !(s.gateN u).powered) then .wait s.startActive (.power .active)
          else .ok s.startActive [0]
        | .off => .done s .ok (leBytes 1 3) (fun s => s.updSup (fun p => { p with power := .off }))
        | t => .ok (s.enterLow t) (leBytes 1 t.code) }

/-- DEVICE_POWER. -/
def execDevicePower (c : HostCmd) (s : State) : Res := direct cmdDevicePower c s

/-- The mailbox that a byte names. -/
def mbxOf (n : Nat) : Fin 16 := ⟨n % 16, Nat.mod_lt _ (by decide)⟩

/-- MBX_BIND (R158). -/
def cmdMbxBind : Command :=
  { spec := { op := 0x0203, lenLo := 1, lenHi := 1, m0 := true,
              fields := [rangeField 8 1 1 15, { off := 9, size := 1, ranges := [(0, 63), (255, 255)] }] }
    own := fun c s =>
      let m := mbxOf (c.f 8 1)
      let x := c.f 9 1
      if x ≠ 255 && !s.ctxLive x then .st s .notFound
      else if s.host.mbx[m].enabled then .st s .busy
      else
        .ok (s.updMbx m (fun b => { b with
          bound := x ≠ 255, context := if x = 255 then 0 else BitVec.ofNat 6 x, ctxGone := false }))
          (leBytes 1 m.val ++ leBytes 1 x) }

/-- MBX_BIND. -/
def execMbxBind (c : HostCmd) (s : State) : Res := direct cmdMbxBind c s

/-- BAR2_WINDOW (R115). -/
def cmdBar2Window : Command :=
  { spec := { op := 0x0206, lenLo := 1, lenHi := 1, m0 := true, fields := [anyField 8 8] }
    own := fun c s =>
      let b := c.f 8 8
      if b % 2 ^ 30 ≠ 0 || 0x020000000000 ≤ b then .st s .invalidField
      else .ok (s.updInt (fun i => { i with bar2Base := BitVec.ofNat 64 b })) (leBytes 8 s.host.int.bar2Base.toNat) }

/-- BAR2_WINDOW. -/
def execBar2Window (c : HostCmd) (s : State) : Res := direct cmdBar2Window c s

/-! ### Diagnostic group -/

/-- A fault-log entry as DIAG_FAULT_LOG writes it (R169). -/
def FaultEntry.bytes (e : FaultEntry) : List Byte :=
  leBytes 8 e.time.toNat ++ leBytes 1 e.unit ++ leBytes 1 e.epoch.toNat ++ leBytes 2 e.status
    ++ leBytes 4 e.detail.toNat ++ zeros 16

/-- DIAG_FAULT_LOG (R169, R178). NEXT after no entry is a free value. -/
def cmdDiagFaultLog : Command :=
  { spec := { op := 0x0C01, lenLo := 3, lenHi := 3, m0 := true,
              fields := [anyField 8 8, rangeField 16 4 1 4096, anyField 20 4] }
    own := fun c s =>
      let dest := c.f 8 8
      let oldest := s.mem.logNext - s.mem.log.length
      let first := max (c.f 20 4) oldest
      let entries := ((s.mem.log.reverse).drop (first - oldest)).take (c.f 16 4)
      if dest % 64 ≠ 0 then .st s .invalidField
      else if c.host = .failed then .st (s.mbxError c.mbx .descFault) .invalidField
      else if entries.isEmpty then
        let f := s.takeFree
        .ok f.2 (zeros 4 ++ leBytes 4 (Config.freeWord f.1).toNat ++ leBytes 4 oldest)
      else
        .ok (s.emit (.hostWrite dest (entries.flatMap FaultEntry.bytes)))
          (leBytes 4 entries.length ++ leBytes 4 (first + entries.length) ++ leBytes 4 oldest) }

/-- DIAG_FAULT_LOG. -/
def execDiagFaultLog (c : HostCmd) (s : State) : Res := direct cmdDiagFaultLog c s

/-- DIAG_PROBE (R170). -/
def cmdDiagProbe : Command :=
  { spec := { op := 0x0C02, lenLo := 1, lenHi := 1, m0 := true, async := .may, fields := [rangeField 8 1 0 7] }
    own := fun c s =>
      let t := c.f 8 1
      if s.sup.power != .active || !s.unitLive t then .st s .busy
      else .wait (s.placeProbe t .diag) (.probe t) }

/-- DIAG_PROBE. -/
def execDiagProbe (c : HostCmd) (s : State) : Res := direct cmdDiagProbe c s

/-- DIAG_UNIT (R170). -/
def cmdDiagUnit : Command :=
  { spec := { op := 0x0C03, lenLo := 1, lenHi := 1, m0 := true, safe := true, fields := [rangeField 8 1 0 0x37] }
    own := fun c s =>
      let u := c.f 8 1
      let g := s.gateN u
      if s.unitAbsent u then .st s .notFound
      else .ok s (leBytes 1 (b2n g.powered) ++ leBytes 1 (b2n g.fenced) ++ leBytes 1 g.epoch.toNat ++ zeros 1
        ++ leBytes 4 g.staleDrops.toNat) }

/-- DIAG_UNIT. -/
def execDiagUnit (c : HostCmd) (s : State) : Res := direct cmdDiagUnit c s

end Sys2Proof.Machine
end

