-- ==== Sys2Proof/Machine/CmdMem.lean ====
section
/-!
DEFINITION. Commands of the Memory and context group and of the Model group but for CTX_DESTROY
(05 R156, R159–R163, R179; 07 R213, R217, R218; 14 R423, R424).
-/

namespace Sys2Proof.Machine
open Sys2Proof

/-- The context slot that a number names. -/
def ctxOf (n : Nat) : Fin 64 := ⟨n % 64, Nat.mod_lt _ (by decide)⟩

/-- Some key below `n` that is not in use: the spec does not say which, so a free value does; none when all are. -/
def State.pickKey {α : Type} (s : State) (l : List (Nat × α)) (n : Nat) : Option Nat × State :=
  let f := s.takeFree
  let want := Config.freeNat f.1 % n
  if (lookupN l want).isNone then (some want, f.2) else (lowestFree l n, f.2)

/-! ### Contexts and memory -/

/-- An empty context with empty page tables (R156, R214). -/
def State.ctxMake (s : State) (n : Nat) (cls : Cls) (quota : Nat) : State :=
  let s := s.updCtx (ctxOf n) (fun _ => { exists_ := true, maxClass := cls, quotaMib := quota })
  let t := s.takeTable n
  { t.2 with mem := { t.2.mem with
    root := updAt t.2.mem.root (ctxOf n) (fun _ => { en := true, root := BitVec.ofNat 36 (t.1 / 4096) }) } }

/-- CTX_CREATE (R156). -/
def cmdCtxCreate : Command :=
  { spec := { op := 0x0201, lenLo := 1, lenHi := 1, m0 := true,
              fields := [{ off := 8, size := 1, ranges := [(1, 63), (255, 255)] }, rangeField 9 1 0 2, anyField 12 4] }
    own := fun c s =>
      let ask := c.f 8 1
      let cls := (Cls.ofNat? (c.f 9 1)).getD .s
      let quota := c.f 12 4
      let found := if ask = 255 then (List.range 64).find? (fun i => 1 ≤ i && !(s.ctxN i).exists_)
        else if (s.ctxN ask).exists_ then none else some ask
      match found with
      | none => .st s (if ask = 255 then .noResource else .busy)
      | some n => .ok (s.ctxMake n cls quota) (leBytes 1 n ++ leBytes 1 cls.code ++ zeros 2 ++ leBytes 4 quota) }

/-- CTX_CREATE. -/
def execCtxCreate (c : HostCmd) (s : State) : Res := direct cmdCtxCreate c s

/-- Round up to a multiple. -/
def alignUp (a n : Nat) : Nat := ceilDiv a n * n

/-- The lowest aligned address from `lo` at which `n` bytes fit between the used ranges, which rise. -/
def fitFrom (n al hi : Nat) : Nat → List (Nat × Nat) → Option Nat
  | lo, [] => if alignUp lo al + n ≤ hi then some (alignUp lo al) else none
  | lo, u :: us =>
    if alignUp lo al + n ≤ u.1 then some (alignUp lo al) else fitFrom n al hi (max lo (u.1 + u.2)) us

/-- Used ranges in ascending order. -/
def sortRanges (l : List (Nat × Nat)) : List (Nat × Nat) := sortBy (fun a b => decide (a.1 ≤ b.1)) l

/-- DRAM ranges given out. -/
def State.dramRanges (s : State) : List (Nat × Nat) :=
  sortRanges (s.mem.ctx.toList.flatMap (fun c => c.regions.map (fun r => (r.pa, r.bytes))))

/-- Physically contiguous free DRAM, aligned to the page size; where, firmware chooses: a free value (R159). -/
def State.pickDram (s : State) (n page : Nat) : Option Nat × State :=
  let f := s.takeFree
  let used := s.dramRanges
  let want := 0x10000000 + Config.freeNat f.1 % (s.dramUsable / page + 1) * page
  if want + n ≤ s.dramSize && used.all (fun u => want + n ≤ u.1 || u.1 + u.2 ≤ want) then (some want, f.2)
  else (fitFrom n page s.dramSize 0x10000000 used, f.2)

/-- The context address of a new region: equal to the device address in context 0, otherwise the lowest that is free and
aligned (R159, R213). -/
def State.pickVa (s : State) (ctx n page pa : Nat) : Option Nat :=
  if ctx = 0 then some pa
  else fitFrom n page (2 ^ 39) 0x40000000 (sortRanges ((s.ctxN ctx).regions.map (fun r => (r.va, r.bytes))))

/-- The page size that PAGE names. -/
def pageSize : Nat → Nat
  | 0 => 0x1000 | 1 => 0x10000 | _ => 0x200000

/-- The context's quota allows `n` more bytes (R159, R176). -/
def Ctx.allows (c : Ctx) (n : Nat) : Bool :=
  c.quotaMib = 0 || (c.regions.map Region.bytes).sum + n ≤ c.quotaMib * mib

/-- MEM_ALLOC (R159, R179, R213). -/
def cmdMemAlloc : Command :=
  { spec := { op := 0x0204, lenLo := 2, lenHi := 2, async := .may, fields := [anyField 8 8, rangeField 16 1 0 2] }
    own := fun c s =>
      let n := c.f 8 8
      let page := pageSize (c.f 16 1)
      let x := c.ctxN
      if n = 0 || n % page ≠ 0 then .st s .invalidField
      else if !s.ctxLive x then .st s .notFound
      else if !(s.ctxN x).allows n then .st s .noResource
      else
        let p := s.pickDram n page
        match p.1 with
        | none => .st s .noResource
        | some pa =>
          match p.2.pickVa x n page pa with
          | none => .st s .noResource
          | some va =>
            let s := (p.2.memClear pa n).updCtx (ctxOf x) (fun k => { k with
              regions := k.regions ++ [{ va := va, pa := pa, bytes := n, page := page }] })
            let s := if x = 0 then s else s.mapRegion x va pa n page
            .ok s (leBytes 8 va ++ leBytes 8 pa) }

/-- MEM_ALLOC. -/
def execMemAlloc (c : HostCmd) (s : State) : Res := direct cmdMemAlloc c s

/-- Two ranges share a byte. -/
def overlaps (a n b m : Nat) : Bool := a < b + m && b < a + n

/-- Part of the region holds a package, a pool, or a job's buffer (R160). -/
def State.regionBusy (s : State) (ctx : Nat) (r : Region) : Bool :=
  s.mem.models.any (fun m => m.2.ctx == ctx && overlaps m.2.pa m.2.size r.pa r.bytes)
    || (s.loading ctx).any (fun x => overlaps x.1 x.2 r.va r.bytes)
    || s.bpm.pool.toList.any (fun p => p.en && ((!p.inFs && overlaps p.base.toNat (p.bufBytes.toNat * p.count.toNat) r.pa r.bytes)
        || (!p.list && overlaps p.ring.toNat (4 * p.count.toNat) r.pa r.bytes)))
    || s.mem.jobs.any (fun j => j.ctx == ctx && (overlaps j.outVa j.outBytes r.va r.bytes
        || overlaps j.inVa ((((lookupN s.mem.insts j.inst).bind (fun i => lookupN s.mem.models i.model)).map Model.inBytes).getD 1) r.va r.bytes))

/-- MEM_FREE (R160, R217). -/
def cmdMemFree : Command :=
  { spec := { op := 0x0205, lenLo := 1, lenHi := 1, fields := [anyField 8 8] }
    own := fun c s =>
      let x := c.ctxN
      if !s.ctxLive x then .st s .notFound
      else match (s.ctxN x).regions.find? (fun r => r.va == c.f 8 8) with
        | none => .st s .notFound
        | some r =>
          if s.regionBusy x r then .st s .busy
          else
            let s := if x = 0 then s else s.unmapRegion x r
            .ok (s.updCtx (ctxOf x) (fun k => { k with regions := k.regions.erase r })) [] }

/-- MEM_FREE. -/
def execMemFree (c : HostCmd) (s : State) : Res := direct cmdMemFree c s

/-! ### Models (R161, R162, R218) -/

/-- The region of a context that holds a range. -/
def State.regionOf (s : State) (ctx va n : Nat) : Option Region :=
  (s.ctxN ctx).regions.find? (fun r => r.va ≤ va && va + n ≤ r.va + r.bytes)

/-- Check 2 of R161 on a package header. -/
def packageOk (h : List Byte) (bytes : Nat) : Bool :=
  let size := leAt h 8 8
  let entries := leAt h 64 2
  let zero (a n : Nat) : Bool := ((h.drop a).take n).all (· == 0)
  leAt h 0 4 == 0x4B50435A && leAt h 4 2 == 1 && zero 6 2 && zero 66 6 && zero 111 17
    && size == bytes && 4096 ≤ size && size ≤ 2 ^ 30
    && byteAt h 49 == 0 && (byteAt h 50).toNat ≤ 2 && (byteAt h 51).toNat ≤ 64
    && leAt h 56 4 ≤ 2097152 && leAt h 60 4 ≤ 262144 && 1 ≤ entries && entries ≤ 8
    && (List.range 8).all (fun i => if i < entries then leAt h (72 + 4 * i) 4 < size else leAt h (72 + 4 * i) 4 == 0)
    && (byteAt h 109).toNat ≤ 7 && (byteAt h 110).toNat ≤ 1

/-- The model that a package header describes. -/
def modelOf (ctx va pa : Nat) (h : List Byte) : Model :=
  { ctx := ctx, va := va, pa := pa, size := leAt h 8 8, header := h, role := (byteAt h 50).toNat,
    codebooks := (byteAt h 51).toNat, fsPeak := leAt h 52 4, wbBytes := leAt h 56 4, vpuLocal := leAt h 60 4,
    entries := leAt h 64 2, inW := leAt h 104 2, inH := leAt h 106 2, inC := (byteAt h 108).toNat,
    inFormat := (byteAt h 109).toNat, inC32 := byteAt h 110 == 1 }

/-- Checks 1 and 2 of R161: the region that holds the package, or the status. -/
def State.packageIn (s : State) (x va n : Nat) : Except Status Region :=
  match s.ctxLive x, s.regionOf x va (max n 1) with
  | true, some r => if packageOk (s.memRead (r.pa + (va - r.va)) 128) n then .ok r else .error .invalidField
  | _, _ => .error .notFound

/-- The package at `va` of a context, with its pages protected, is hashed and its model loaded, under checks 3 and 4 of
R161; where one fails WP is cleared again (R161, R162, R179, R218). -/
def State.packageLoad (s : State) (x va n : Nat) (r : Region) : State × Status × List Byte :=
  let pa := r.pa + (va - r.va)
  let h := s.memRead pa 128
  let s := s.readSense pa n
  if s.readUe pa n || sha256 ((s.memRead pa n).drop 48) ≠ (h.drop 16).take 32 then
    (s.protect x r (s.packages x), .digestMismatch, [])
  else
    let k := s.pickKey s.mem.models 64
    match k.1 with
    | none => (k.2.protect x r (s.packages x), .noResource, [])
    | some id =>
      let s : State := { k.2 with mem := { k.2.mem with models := insertN k.2.mem.models id (modelOf x va pa h) } }
      (s.protect x r (s.packages x), .ok, leBytes 2 id ++ (h.drop 50).take 1 ++ zeros 1 ++ (h.drop 52).take 4)

/-- MODEL_LOAD (R161, R162, R179, R218): the pages get WP before the digest; with ASYNC the hashing ends when the final
response is posted, and the package is protected against BAR2 from then on. -/
def cmdModelLoad : Command :=
  { spec := { op := 0x0301, lenLo := 2, lenHi := 2, async := .may, fields := [anyField 8 8, anyField 16 8] }
    own := fun c s =>
      let x := c.ctxN
      let va := c.f 8 8
      let n := c.f 16 8
      match s.packageIn x va n with
      | .error st => .st s st
      | .ok r =>
        let s := s.protect x r ((va, n) :: s.packages x)
        if c.async then .wait s (.modelLoad x va n)
        else
          let l := s.packageLoad x va n r
          .done l.1 l.2.1 l.2.2 id }

/-- The command's final response may be posted: it has completed, or it is a MODEL_LOAD, whose hashing ends then, or an unfence,
whose self-test does. -/
def Running.final (r : Running) : Bool :=
  r.done.isSome || (match r.wait with | .modelLoad _ _ _ => true | .unitFence _ => true | _ => false)

/-- A MODEL_LOAD with ASYNC ends: every check of R161 is made on the package as it now is. -/
def State.modelLoaded (s : State) (r : Running) : State :=
  match r.wait with
  | .modelLoad x va n =>
    let s : State := { s with running := s.running.erase r }
    let l := match s.packageIn x va n with
      | .ok g => s.packageLoad x va n g
      | .error st => ((match s.regionOf x va (max n 1) with
          | some g => s.protect x g (s.packages x)
          | none => s), st, [])
    (l.1.respond r.mbx r.op r.seq r.noIrq l.2.1 l.2.2).settleMbx r.mbx
  | _ => s

/-- MODEL_LOAD. -/
def execModelLoad (c : HostCmd) (s : State) : Res := direct cmdModelLoad c s

/-- A model of the context. -/
def State.modelIn (s : State) (ctx id : Nat) : Option Model :=
  (lookupN s.mem.models id).filter (fun m => m.ctx == ctx)

/-- An instance of the context. -/
def State.instIn (s : State) (ctx id : Nat) : Option Inst :=
  (lookupN s.mem.insts id).filter (fun i => i.ctx == ctx)

/-- The model goes: its package is no longer protected, and no engine holds an image of it (R162, R218). -/
def State.modelDrop (s : State) (id : Nat) (m : Model) : State :=
  let s : State := { s with mem := { s.mem with models := eraseN s.mem.models id } }
  let s : State := { s with str := { s.str with
    tower := s.str.tower.map (fun t => { t with images := t.images.filter (fun i => i.model != id) })
    vpu := s.str.vpu.map (fun v => { v with images := v.images.filter (fun i => i.model != id) }) } }
  match s.regionOf m.ctx m.va m.size with
  | some r => s.protect m.ctx r (s.packages m.ctx)
  | none => s

/-- MODEL_UNLOAD (R163, R218). -/
def cmdModelUnload : Command :=
  { spec := { op := 0x0302, lenLo := 1, lenHi := 1, fields := [rangeField 8 2 0 63] }
    own := fun c s =>
      let id := c.f 8 2
      match s.modelIn c.ctxN id with
      | none => .st s .notFound
      | some m =>
        if s.mem.insts.any (fun i => i.2.model == id) then .st s .busy else .ok (s.modelDrop id m) [] }

/-- MODEL_UNLOAD. -/
def execModelUnload (c : HostCmd) (s : State) : Res := direct cmdModelUnload c s

/-- The lowest run of free Feature Store granules of this length (R423). -/
def FeatStore.fit (f : FeatStore) (n : Nat) : Option Nat := fitFrom n 1 1920 0 f.runs

/-- Take a run of granules. -/
def FeatStore.take (f : FeatStore) (first n : Nat) : FeatStore :=
  if n = 0 then f else { f with runs := sortRanges ((first, n) :: f.runs) }

/-- Give a run back. -/
def FeatStore.give (f : FeatStore) (first n : Nat) : FeatStore := { f with runs := f.runs.filter (fun r => r != (first, n)) }

/-- Bytes of a granule. -/
def granule : Nat := 65536

/-- INSTANCE_CREATE (R163, R423, R424). -/
def cmdInstanceCreate : Command :=
  { spec := { op := 0x0303, lenLo := 1, lenHi := 1, fields := [rangeField 8 2 0 63] }
    own := fun c s =>
      let id := c.f 8 2
      match s.modelIn c.ctxN id with
      | none => .st s .notFound
      | some m =>
        let n := ceilDiv m.fsPeak granule
        let k := s.pickKey s.mem.insts 256
        match k.1, s.str.fs.fit n with
        | some i, some g =>
          let s : State := { k.2 with
            mem := { k.2.mem with insts := insertN k.2.mem.insts i { ctx := c.ctxN, model := id, granule := g, granules := n } }
            str := { k.2.str with fs := k.2.str.fs.take g n } }
          let s := (s.memClear (fsBase + g * granule) (n * granule)).pipsZero (16 * i) 16
          .ok s (leBytes 2 i ++ zeros 2 ++ leBytes 4 (n * granule) ++ leBytes 8 (fsBase + g * granule))
        | _, _ => .st s .noResource }

/-- INSTANCE_CREATE. -/
def execInstanceCreate (c : HostCmd) (s : State) : Res := direct cmdInstanceCreate c s

/-- A stream slot names the instance. -/
def State.instNamed (s : State) (i : Nat) : Bool :=
  s.str.slot.toList.any (fun x => match x.ana with
    | some a => a.det == i || a.emb == some i
    | none => false)

/-- The instance goes: its partition is free, its plan pips are clear. -/
def State.instDrop (s : State) (id : Nat) (i : Inst) : State :=
  let s := (s.releaseRange (16 * id) 16 .abortedReset).pipsZero (16 * id) 16
  { s with
    mem := { s.mem with insts := eraseN s.mem.insts id }
    str := { s.str with fs := s.str.fs.give i.granule i.granules } }

/-- INSTANCE_DESTROY (R163). -/
def cmdInstanceDestroy : Command :=
  { spec := { op := 0x0304, lenLo := 1, lenHi := 1, fields := [rangeField 8 2 0 255] }
    own := fun c s =>
      let id := c.f 8 2
      match s.instIn c.ctxN id with
      | none => .st s .notFound
      | some i =>
        if s.instNamed id || s.mem.jobs.any (fun j => j.inst == id) then .st s .busy else .ok (s.instDrop id i) [] }

/-- INSTANCE_DESTROY. -/
def execInstanceDestroy (c : HostCmd) (s : State) : Res := direct cmdInstanceDestroy c s

/-- MODEL_QUERY (05, Model group). -/
def cmdModelQuery : Command :=
  { spec := { op := 0x0305, lenLo := 1, lenHi := 1, safe := true, fields := [rangeField 8 2 0 63] }
    own := fun c s =>
      match s.modelIn c.ctxN (c.f 8 2) with
      | none => .st s .notFound
      | some m => .ok s ((m.header.drop 48).take 56) }

/-- MODEL_QUERY. -/
def execModelQuery (c : HostCmd) (s : State) : Res := direct cmdModelQuery c s

end Sys2Proof.Machine
end

