-- ==== Sys2Proof/Machine/CmdPip.lean ====
section
/-!
DEFINITION. Commands of the Pip group and of the Pool group (05 R164–R168; 09 R270–R289; 08 R244–R268).
-/

namespace Sys2Proof.Machine
open Sys2Proof

/-! ### Pips -/

/-- PIP_ALLOC: the lowest run of free general pips, every value 0 and every error clear (R164, R271). -/
def cmdPipAlloc : Command :=
  { spec := { op := 0x0601, lenLo := 1, lenHi := 1,
              fields := [rangeField 8 4 1 4096, { off := 12, size := 1, resv := 0xFE }] }
    own := fun c s =>
      let n := c.f 8 4
      let used := sortRanges (s.pip.blocks.map (fun b => (b.first, b.count)))
      if !s.ctxLive c.ctxN then .st s .notFound
      else match fitFrom n 1 130496 4096 used with
        | none => .st s .noResource
        | some a =>
          let b : PipBlock := { first := a, count := n, open_ := bitOf (c.f 12 1) 0, ctx := c.ctxN }
          let s := s.pipsZero a n
          .ok { s with pip := { s.pip with blocks := s.pip.blocks ++ [b] } } (leBytes 4 a) }

/-- PIP_ALLOC. -/
def execPipAlloc (c : HostCmd) (s : State) : Res := direct cmdPipAlloc c s

/-- A waiter waits on a pip of this run. -/
def State.pipWaited (s : State) (a n : Nat) : Bool :=
  (s.pip.watch ++ s.pip.overflow).any (fun w => a ≤ w.pip && w.pip < a + n)

/-- A job that has not completed names a pip of this run (R164). -/
def State.pipNamed (s : State) (a n : Nat) : Bool :=
  s.mem.jobs.any (fun j => (j.donePip.toList ++ j.waitPip.toList).any (fun p => a ≤ p && p < a + n))

/-- PIP_FREE (R164). -/
def cmdPipFree : Command :=
  { spec := { op := 0x0602, lenLo := 1, lenHi := 1, fields := [rangeField 8 4 0 131071] }
    own := fun c s =>
      match s.pip.blocks.find? (fun b => b.first == c.f 8 4 && b.ctx == c.ctxN) with
      | none => .st s .notFound
      | some b =>
        if s.pipWaited b.first b.count || s.pipNamed b.first b.count then .st s .busy
        else .ok { s with pip := { s.pip with blocks := s.pip.blocks.erase b } } [] }

/-- PIP_FREE. -/
def execPipFree (c : HostCmd) (s : State) : Res := direct cmdPipFree c s

/-- What the kind of a pip answers to a command (R165, R272): `none` allows it. -/
def State.pipAccess (s : State) (c : HostCmd) (p : Nat) (plan stage : Option Status) : Option Status :=
  match pipKind p with
  | .plan => if c.mbx = 0 && c.ctxN = 0 then plan else some .notFound
  | .general => if (s.pipBlock p).any (fun b => b.ctx == c.ctxN) then none else some .notFound
  | .stage =>
    let sl := s.slotN ((p - 130496) / 9)
    if c.mbx = 0 || (sl.state != .free && sl.ctx == c.ctxN) then stage else some .notFound
  | .outside => some .notFound

/-- The fields PIP, OP, VALUE of a command, with the operation codes it allows. -/
def pipFields (lo1 hi1 lo2 hi2 : Nat) : List Field :=
  [rangeField 8 4 0 131071, { off := 12, size := 1, ranges := [(lo1, hi1), (lo2, hi2)] }, anyField 16 4]

/-- PIP_SIGNAL (R165, R272–R274, R280). -/
def cmdPipSignal : Command :=
  { spec := { op := 0x0603, lenLo := 2, lenHi := 2, safe := true, fields := pipFields 1 2 5 6 }
    own := fun c s =>
      let p := c.f 8 4
      let v := c.f 16 4
      match pipOpOf (c.f 12 1) with
      | none => .st s .invalidField
      | some o =>
        if !pipOperandOk o v then .st s .invalidField
        else match s.pipAccess c p (some .denied) (some .denied) with
          | some st => .st s st
          | none =>
            let s := s.pipApply p o (BitVec.ofNat 32 v)
            .ok s (leBytes 4 (s.pipGet p).value.toNat ++ leBytes 2 (s.pipGet p).err.toNat) }

/-- PIP_SIGNAL. -/
def execPipSignal (c : HostCmd) (s : State) : Res := direct cmdPipSignal c s

/-- PIP_READ (R165, R272, R280). -/
def cmdPipRead : Command :=
  { spec := { op := 0x0604, lenLo := 1, lenHi := 1, safe := true, fields := [rangeField 8 4 0 131071] }
    own := fun c s =>
      let p := c.f 8 4
      match s.pipAccess c p none none with
      | some st => .st s st
      | none =>
        let n := ((s.pip.watch ++ s.pip.overflow).filter (fun w => w.pip == p)).length
        .ok s (leBytes 4 (s.pipGet p).value.toNat ++ leBytes 2 (s.pipGet p).err.toNat ++ zeros 2 ++ leBytes 4 n) }

/-- PIP_READ. -/
def execPipRead (c : HostCmd) (s : State) : Res := direct cmdPipRead c s

/-- PIP_WAIT (R165, R166, R272, R275, R280). -/
def cmdPipWait : Command :=
  { spec := { op := 0x0605, lenLo := 2, lenHi := 2, async := .must,
              fields := pipFields 3 4 3 4 ++ [rangeField 20 4 0 10000000] }
    own := fun c s =>
      let p := c.f 8 4
      let t := c.f 20 4
      match s.pipAccess c p (some .denied) none with
      | some st => .st s st
      | none =>
        let w : Waiter := { pip := p, eq := c.f 12 1 == 4, x := BitVec.ofNat 32 (c.f 16 4),
                            by_ := .command c.mbx c.seq (if t = 0 then none else some (s.clock + t)) }
        .waitThen s (.pip p) [] (fun s => s.pipWait w) }

/-- PIP_WAIT. -/
def execPipWait (c : HostCmd) (s : State) : Res := direct cmdPipWait c s

/-! ### Pools -/

/-- A pool of the context. -/
def State.poolIn (s : State) (ctx n : Nat) : Option Pool :=
  match s.bpm.pool.toList[n]? with
  | some p => if p.en && p.ctx.toNat == ctx then some p else none
  | none => none

/-- R167's order of the levels. -/
def buoysOk (count b1 b2 b3 : Nat) : Bool := b1 ≤ count && b2 ≤ b1 && b3 ≤ b2

/-- The checks of R167 on the fields of a POOL_CREATE, besides their ranges. -/
def State.poolFieldsOk (s : State) (c : HostCmd) : Bool :=
  let list := c.f 9 1 == 1
  let fs := bitOf (c.f 12 1) 2
  let next := c.f 11 1
  c.f 16 4 % 64 == 0 && buoysOk (c.f 20 4) (c.f 40 4) (c.f 44 4) (c.f 48 4) && list == fs
    && (fs || c.f 24 8 % 64 == 0)
    && (if list then c.f 32 8 == 0 else c.f 32 8 % 64 == 0)
    && (next == 255 || (c.f 10 1 == 1 && (s.poolIn c.ctxN next).any (fun q => q.chain && c.f 16 4 < q.bufBytes.toNat)))

/-- The fields of POOL_CREATE. -/
def poolCreateFields : List Field :=
  [rangeField 8 1 0 15, rangeField 9 1 0 1, rangeField 10 1 0 1, { off := 11, size := 1, ranges := [(0, 15), (255, 255)] },
   { off := 12, size := 1, resv := 0xF8 }, rangeField 16 4 64 16777216, rangeField 20 4 1 1048576, anyField 24 8,
   anyField 32 8, anyField 40 4, anyField 44 4, anyField 48 4]

/-- The state tables of the pools in firmware's reserved region: address and bytes (R247). -/
def State.stateTables (s : State) : List (Nat × Nat) :=
  sortRanges ((s.bpm.pool.toList.filter Pool.en).map (fun p => (p.stateAddr.toNat, 2 * p.count.toNat)))

/-- Where firmware puts a new state table of `n` bytes in its reserved region: a free value, apart from the others (R247). -/
def State.pickTable (s : State) (n : Nat) : Nat × State :=
  let f := s.takeFree
  let used := s.stateTables
  let want := Config.freeNat f.1 % ((0x10000000 - n) / 64 + 1) * 64
  if used.all (fun u => want + n ≤ u.1 || u.1 + u.2 ≤ want) then (want, f.2)
  else ((fitFrom n 64 0x10000000 0 used).getD 0, f.2)

/-- A new pool's registers, with its buffers at `base` (device) and `va` (context). -/
def State.poolMake (s : State) (c : HostCmd) (base va ring : Nat) : State :=
  let n := c.f 8 1
  let fs := bitOf (c.f 12 1) 2
  let next := c.f 11 1
  let f := s.pickTable (2 * c.f 20 4)
  let s := f.2.updPoolN n (fun p => { p with
    en := true, list := c.f 9 1 == 1, chain := c.f 10 1 == 1, fallback := bitOf (c.f 12 1) 0, adapt := bitOf (c.f 12 1) 1,
    next := if next = 255 then none else some (BitVec.ofNat 4 next), ctx := BitVec.ofNat 6 c.ctxN
    bufBytes := BitVec.ofNat 25 (c.f 16 4), count := BitVec.ofNat 21 (c.f 20 4), base := BitVec.ofNat 48 base, va := va
    ring := BitVec.ofNat 48 ring, stateAddr := BitVec.ofNat 48 f.1
    buoy1 := BitVec.ofNat 21 (c.f 40 4), buoy2 := BitVec.ofNat 21 (c.f 44 4), buoy3 := BitVec.ofNat 21 (c.f 48 4)
    inFs := fs })
  let s := s.poolFill n
  s.updPoolN n (fun p => { p with b2 := p.b2Of })

/-- POOL_CREATE (R167, R244, R247, R249, R250). -/
def cmdPoolCreate : Command :=
  { spec := { op := 0x0701, lenLo := 6, lenHi := 6, fields := poolCreateFields }
    own := fun c s =>
      let bytes := c.f 16 4 * c.f 20 4
      if !s.poolFieldsOk c then .st s .invalidField
      else if !s.ctxLive c.ctxN then .st s .notFound
      else if (s.poolN (c.f 8 1)).en then .st s .busy
      else if bitOf (c.f 12 1) 2 then
        let g := ceilDiv bytes granule
        match s.str.fs.fit g with
        | none => .st s .noResource
        | some a =>
          let s : State := { s with str := { s.str with fs := s.str.fs.take a g } }
          let base := fsBase + a * granule
          .ok (s.poolMake c base base 0) (leBytes 8 base)
      else
        match s.regionOf c.ctxN (c.f 24 8) bytes, s.regionOf c.ctxN (c.f 32 8) (4 * c.f 20 4) with
        | some r, some q =>
          .ok (s.poolMake c (r.pa + (c.f 24 8 - r.va)) (c.f 24 8) (q.pa + (c.f 32 8 - q.va))) (leBytes 8 (c.f 24 8))
        | _, _ => .st s .notFound }

/-- POOL_CREATE. -/
def execPoolCreate (c : HostCmd) (s : State) : Res := direct cmdPoolCreate c s

/-- A pool is disabled: its requests complete with NOT_FOUND, its Feature Store run is free (08, When things fall
together). -/
def State.poolDrop (s : State) (n : Nat) : State :=
  let p := s.poolN n
  let g := ceilDiv (p.bufBytes.toNat * p.count.toNat) granule
  let s : State := if p.inFs then { s with str := { s.str with fs := s.str.fs.give ((p.base.toNat - fsBase) / granule) g } } else s
  let s := s.updPoolN n (fun p => { p with en := false, waiting := [], cache := [], bufs := [], rebuild := false })
  p.waiting.foldl (fun s r => match r.use with
    | .command m seq => s.poolAllocDone m seq .notFound []
    | u => s.applyBuf (.empty u)) s

/-- A stream slot or another pool's NEXT names the pool (R168). -/
def State.poolNamed (s : State) (n : Nat) : Bool :=
  s.str.slot.toList.any (fun sl => sl.pools.contains n)
    || s.bpm.pool.toList.zipIdx.any (fun p => p.1.en && p.2 != n && p.1.next.any (fun q => q.toNat == n))

/-- POOL_DESTROY (R168). -/
def cmdPoolDestroy : Command :=
  { spec := { op := 0x0702, lenLo := 1, lenHi := 1, fields := [rangeField 8 1 0 15] }
    own := fun c s =>
      match s.poolIn c.ctxN (c.f 8 1) with
      | none => .st s .notFound
      | some p =>
        if p.free.toNat < p.count.toNat || s.poolNamed (c.f 8 1) then .st s .busy
        else .ok (s.poolDrop (c.f 8 1)) [] }

/-- POOL_DESTROY. -/
def execPoolDestroy (c : HostCmd) (s : State) : Res := direct cmdPoolDestroy c s

/-- POOL_ALLOC (R168, R252–R255). -/
def cmdPoolAlloc : Command :=
  { spec := { op := 0x0703, lenLo := 1, lenHi := 1, safe := true,
              fields := [rangeField 8 1 0 15, rangeField 9 1 0 2, anyField 12 4] }
    own := fun c s =>
      let n := c.f 8 1
      let cls := (Cls.ofNat? (c.f 9 1)).getD .b
      let use := BufFor.command c.mbx c.seq
      if (s.poolIn c.ctxN n).isNone then .st s .notFound
      else if !(s.poolN n).chain && c.f 12 4 ≠ 0 then .st s .invalidField
      else if cls.code < (s.ctxN c.ctxN).maxClass.code then .st s .denied
      else match s.bufNow n (c.f 12 4) cls 16 use with
        | (t, some (.grant _ h)) => .ok t (leBytes 4 h.toNat ++ zeros 4 ++ leBytes 8 (t.bufVa h))
        | (t, some _) => .st t .poolEmpty
        | (t, none) => .wait t (.poolAlloc n) }

/-- POOL_ALLOC. -/
def execPoolAlloc (c : HostCmd) (s : State) : Res := direct cmdPoolAlloc c s

/-- POOL_FREE (R168, R256, R257). -/
def cmdPoolFree : Command :=
  { spec := { op := 0x0704, lenLo := 1, lenHi := 1, safe := true, fields := [anyField 8 4] }
    own := fun c s =>
      let r := s.bufFree (BitVec.ofNat 32 (c.f 8 4)) c.ctxN 16 0x34
      match r.2 with
      | none => .ok r.1 []
      | some e => .st r.1 e.status }

/-- POOL_FREE. -/
def execPoolFree (c : HostCmd) (s : State) : Res := direct cmdPoolFree c s

/-- CLR_STATS (08, POOL_CTRL). -/
def Pool.clrStats (p : Pool) : Pool := { p with minFree := p.free, fails := 0 }

/-- POOL_QUERY (05, Pool group; 08, POOL_CTRL). -/
def cmdPoolQuery : Command :=
  { spec := { op := 0x0705, lenLo := 1, lenHi := 1, safe := true, fields := [rangeField 8 1 0 15] }
    own := fun c s =>
      match s.poolIn c.ctxN (c.f 8 1) with
      | none => .st s .notFound
      | some p =>
        .ok (s.updPoolN (c.f 8 1) Pool.clrStats)
          (leBytes 4 p.free.toNat ++ leBytes 4 p.minFree.toNat ++ leBytes 4 p.fails.toNat ++ leBytes 4 p.b2.toNat) }

/-- POOL_QUERY. -/
def execPoolQuery (c : HostCmd) (s : State) : Res := direct cmdPoolQuery c s

/-- New levels and, where it adapts, the new B2 (R263, R264). -/
def Pool.setBuoys (p : Pool) (b1 b2 b3 : Nat) : Pool :=
  let q := { p with buoy1 := BitVec.ofNat 21 b1, buoy2 := BitVec.ofNat 21 b2, buoy3 := BitVec.ofNat 21 b3 }
  { q with b2 := q.b2Of }

/-- POOL_BUOYS (R167, R264). -/
def cmdPoolBuoys : Command :=
  { spec := { op := 0x0706, lenLo := 2, lenHi := 2, safe := true,
              fields := [rangeField 8 1 0 15, anyField 12 4, anyField 16 4, anyField 20 4] }
    own := fun c s =>
      let n := c.f 8 1
      match s.poolIn c.ctxN n with
      | none => .st s .notFound
      | some p =>
        if !buoysOk p.count.toNat (c.f 12 4) (c.f 16 4) (c.f 20 4) then .st s .invalidField
        else .ok (((s.updPoolN n (fun p => p.setBuoys (c.f 12 4) (c.f 16 4) (c.f 20 4))).poolLevels n).relieve n) [] }

/-- POOL_BUOYS. -/
def execPoolBuoys (c : HostCmd) (s : State) : Res := direct cmdPoolBuoys c s

end Sys2Proof.Machine
end

