-- ==== Sys2Proof/Machine/CmdStream.lean ====
section
/-!
DEFINITION. Commands of the Stream group (06 R180–R189; 10 R305, R313–R316; 12 R373, R374; 13 R394).
-/

namespace Sys2Proof.Machine
open Sys2Proof

/-- The safety configuration is locked (R196). -/
def State.locked (s : State) : Bool := s.kpr.lock.isSome

/-- The device is in LOW or STANDBY (R62). -/
def State.lowPower (s : State) : Bool := s.sup.power == .low || s.sup.power == .standby

/-- What the state of a slot answers (R182); `none` lets the command go on. -/
def slotTable (free configured running stopping : Option Status) : SlotState → Option Status
  | .free => free
  | .configured => configured
  | .running | .stale => running
  | .stopping => stopping

/-- The checks every command on a slot begins with: owner (R181), lock (R196), state (R182). -/
def State.slotCheck (s : State) (c : HostCmd) (lockable : Bool) (table : SlotState → Option Status) : Option Status :=
  let sl := s.slotN (c.f 8 1)
  if !s.ctxLive c.ctxN || (sl.state != .free && sl.ctx != c.ctxN) then some .notFound
  else if lockable && s.locked && sl.state != .free && sl.cls == .s then some .safetyLocked
  else table sl.state

/-- The SLOT field. -/
def slotField : Field := rangeField 8 1 0 63

/-- The SLOT echo of a response. -/
def HostCmd.slotEcho (c : HostCmd) : List Byte := leBytes 1 (c.f 8 1)

/-! ### Configuration -/

/-- The fields of STREAM_SOURCE. -/
def sourceFields : List Field :=
  [slotField, rangeField 9 1 0 2, rangeField 10 1 0 5, rangeField 11 1 0 3,
   { off := 12, size := 1, ranges := [(0, 0), (0x1E, 0x1E), (0x24, 0x24)] }, rangeField 13 1 0 2, rangeField 14 2 0 63,
   anyField 16 2, anyField 18 2, rangeField 20 4 1000 1000000, anyField 24 8, anyField 32 1,
   { off := 33, size := 1, ranges := [(0, 0), (2, 64)] }, { off := 34, size := 1, ranges := [(0, 0), (9, 32)] },
   { off := 35, size := 1, ranges := [(0, 0), (8, 64)] }]

/-- The fields that must be 0 for another type are, CODEC goes with the type, the ring's own fields are in range
(R183). -/
def HostCmd.sourceOk (c : HostCmd) : Bool :=
  let zero (off n : Nat) : Bool := c.f off n == 0
  match c.f 9 1 with
  | 0 => zero 13 1 && zero 14 2 && !zero 12 1
  | 1 => !zero 13 1 && zero 10 1 && zero 11 1 && zero 12 1 && zero 16 2 && zero 18 2
  | _ => !zero 13 1 && zero 10 1 && zero 11 1 && zero 12 1 && zero 14 2 && zero 16 2 && zero 18 2
         && c.f 24 8 % 4096 == 0 && 12 ≤ c.f 32 1 && c.f 32 1 ≤ 24

/-- The default for a timer of 0 (R346). -/
def timerOr (v d : Nat) : Nat := if v = 0 then d else v

/-- The source a STREAM_SOURCE names (R183, R346). -/
def HostCmd.source (c : HostCmd) : SrcCfg :=
  { type := match c.f 9 1 with | 0 => .csi | 1 => .rtp | _ => .host
    port := c.f 10 1, vc := c.f 11 1, dt := c.f 12 1, codec := if c.f 13 1 = 2 then .h265 else .h264
    session := c.f 14 2, width := c.f 16 2, height := c.f 18 2, periodUs := c.f 20 4
    ringBase := c.f 24 8, ringLog2 := c.f 32 1
    lineT := timerOr (c.f 33 1) 4, frameT := timerOr (c.f 34 1) 12, assyT := timerOr (c.f 35 1) 16 }

/-- Another slot is bound to the same CSI port and virtual channel, or to the same session (R183). -/
def State.sourceTaken (s : State) (n : Nat) (x : SrcCfg) : Bool :=
  s.str.slot.toList.zipIdx.any (fun y => y.2 != n && y.1.state != .free && (match y.1.src with
    | some o => o.type == x.type && ((x.type == .csi && o.port == x.port && o.vc == x.vc)
        || (x.type == .rtp && o.session == x.session))
    | none => false))

/-- The new source is bound: the tracks, the tracking time and the retained buffers go; analytics and result must be
given again; checkpoint numbers start at 1 (R183, R185, R194, R459, R556). -/
def State.bindSource (s : State) (n ctx : Nat) (x : SrcCfg) : State :=
  let s := s.releaseKept n
  let s := s.updSlotN n (fun sl => { sl with
    state := .configured, ctx := ctx, src := some x, ana := none, res := none, ing := { cause := sl.ing.cause }
    tracks := [], trackTime := none, trackFmt := none, prevFmt := none, resetPending := false })
  s.updCk n (fun k => { k with number := 1 })

/-- STREAM_SOURCE (R182, R183, R346). -/
def cmdStreamSource : Command :=
  { spec := { op := 0x0401, lenLo := 4, lenHi := 4, fields := sourceFields }
    own := fun c s =>
      let n := c.f 8 1
      let x := c.source
      match s.slotCheck c true (slotTable none none (some .busy) (some .busy)) with
      | some st => .st s st
      | none =>
        if !c.sourceOk then .st s .invalidField
        else if s.sourceTaken n x then .st s .busy
        else if x.type == .rtp && (s.io.sess.toList.getD x.session {}).cfg.isNone then .st s .notFound
        else .ok (s.bindSource n c.ctxN x) c.slotEcho }

/-- STREAM_SOURCE. -/
def execStreamSource (c : HostCmd) (s : State) : Res := direct cmdStreamSource c s

/-- The PPE accepts the model's input (R394). -/
def Model.ppeAccepts (m : Model) : Bool :=
  (m.inC == 1 || m.inC == 3) && (m.inFormat == 1 || m.inFormat == 2 || m.inFormat == 4 || m.inFormat == 5)

/-- A pool number of the context, or 0xFF. -/
def State.poolOrNone (s : State) (ctx p : Nat) : Bool := p == 255 || (s.poolIn ctx p).isSome

/-- The analytics a STREAM_ANALYTICS names. -/
def HostCmd.analytics (c : HostCmd) : AnaCfg :=
  { cls := (Cls.ofNat? (c.f 9 1)).getD .b, cropLimit := c.f 10 2, det := c.f 12 2
    emb := if c.f 14 2 = 0xFFFF then none else some (c.f 14 2), srcPool := c.f 16 1
    framePool := if c.f 17 1 = 255 then none else some (c.f 17 1)
    cropPool := if c.f 18 1 = 255 then none else some (c.f 18 1), recPool := c.f 19 1
    retain := if c.f 20 1 = 255 then 2 else c.f 20 1, shed := c.f 21 1 }

/-- The own checks of STREAM_ANALYTICS, in the order of R184, then R394. -/
def State.anaError (s : State) (c : HostCmd) : Option Status :=
  let x := c.ctxN
  let a := c.analytics
  let det := (s.instIn x a.det).bind (fun i => lookupN s.mem.models i.model)
  let emb := a.emb.map (fun e => (s.instIn x e).bind (fun i => lookupN s.mem.models i.model))
  let csi := !(s.slotN (c.f 8 1)).decoded
  if a.cls.code < (s.ctxN x).maxClass.code then some .denied
  else if det.isNone || emb == some none || [16, 17, 18, 19].any (fun o => !s.poolOrNone x (c.f o 1)) then some .notFound
  else if !det.any (fun m => m.role == 0 && m.ppeAccepts) then some .invalidField
  else if emb.any (fun m => !m.any (fun m => m.role == 1 && m.ppeAccepts)) then some .invalidField
  else if c.f 16 1 = 255 || c.f 19 1 = 255 || a.framePool.isSome == csi || a.cropPool.isSome != a.emb.isSome then
    some .invalidField
  else none

/-- STREAM_ANALYTICS (R182, R184, R394). -/
def cmdStreamAnalytics : Command :=
  { spec := { op := 0x0402, lenLo := 2, lenHi := 2,
              fields := [slotField, rangeField 9 1 0 2, rangeField 10 2 0 256, rangeField 12 2 0 255,
                { off := 14, size := 2, ranges := [(0, 255), (0xFFFF, 0xFFFF)] },
                { off := 16, size := 1, ranges := [(0, 15), (255, 255)] }, { off := 17, size := 1, ranges := [(0, 15), (255, 255)] },
                { off := 18, size := 1, ranges := [(0, 15), (255, 255)] }, { off := 19, size := 1, ranges := [(0, 15), (255, 255)] },
                { off := 20, size := 1, ranges := [(0, 8), (255, 255)] }, anyField 21 1] }
    own := fun c s =>
      match s.slotCheck c true (slotTable (some .notFound) none (some .busy) (some .busy)) with
      | some st => .st s st
      | none =>
        match s.anaError c with
        | some st => .st s st
        | none => .ok (s.updSlotN (c.f 8 1) (fun sl => { sl with ana := some c.analytics })) c.slotEcho }

/-- STREAM_ANALYTICS. -/
def execStreamAnalytics (c : HostCmd) (s : State) : Res := direct cmdStreamAnalytics c s

/-- The fields of STREAM_RESULT go together (06, STREAM_RESULT). -/
def HostCmd.resultOk (c : HostCmd) : Bool :=
  if c.f 9 1 = 0 then 16 ≤ c.f 10 1 && c.f 11 1 == 0 && c.f 16 8 % 4096 == 0 else c.f 10 1 == 0 && c.f 16 8 == 0

/-- The result ring's registers after STREAM_RESULT (R185). -/
def Rrg.given (n base log2 : Nat) (udp : Bool) : Rrg :=
  { Rrg.fresh n with base := BitVec.ofNat 64 base, log2 := BitVec.ofNat 5 log2, udp := udp }

/-- Set a slot's result-ring registers. -/
def State.setRrg (s : State) (n : Nat) (r : Rrg) : State := if h : n < 64 then s.updRrg ⟨n, h⟩ (fun _ => r) else s

/-- STREAM_RESULT (R182, R185). -/
def cmdStreamResult : Command :=
  { spec := { op := 0x0403, lenLo := 2, lenHi := 2,
              fields := [slotField, rangeField 9 1 0 1, { off := 10, size := 1, ranges := [(0, 0), (16, 26)] },
                rangeField 11 1 0 63, anyField 16 8] }
    own := fun c s =>
      let n := c.f 8 1
      let udp := c.f 9 1 == 1
      match s.slotCheck c true (slotTable (some .notFound) none (some .busy) (some .busy)) with
      | some st => .st s st
      | none =>
        if !c.resultOk then .st s .invalidField
        else if udp && (lookupN s.io.flow (c.f 11 1)).isNone then .st s .notFound
        else
          let s := s.setRrg n (Rrg.given n (c.f 16 8) (c.f 10 1) udp)
          .ok (s.updSlotN n (fun sl => { sl with res := some (if udp then .flow (c.f 11 1) else .ring) })) c.slotEcho }

/-- STREAM_RESULT. -/
def execStreamResult (c : HostCmd) (s : State) : Res := direct cmdStreamResult c s

/-- STREAM_TRACK (R187): the values for frames whose INGEST completes from now on. -/
def cmdStreamTrack : Command :=
  { spec := { op := 0x0409, lenLo := 2, lenHi := 2,
              fields := [slotField, rangeField 9 1 0 1, rangeField 10 2 1 4096, anyField 12 2, anyField 14 2,
                rangeField 16 2 1 1024, rangeField 18 2 1 65535, rangeField 20 1 1 255, anyField 22 2] }
    own := fun c s =>
      match s.slotCheck c true (slotTable (some .notFound) none none (some .busy)) with
      | some st => .st s st
      | none =>
        .ok (s.updSlotN (c.f 8 1) (fun sl => { sl with par :=
          { nmsMode := c.f 9 1, minHits := c.f 20 1, topK := c.f 10 2, scoreMin := c.f 12 2, iouNms := c.f 14 2,
            nmsMax := c.f 16 2, maxAge := c.f 18 2, wEmb := c.f 22 2 } })) [] }

/-- STREAM_TRACK. -/
def execStreamTrack (c : HostCmd) (s : State) : Res := direct cmdStreamTrack c s

/-! ### Starting and stopping -/

/-- Cycles the instance's plan certifies for stream frames. -/
def State.instCycles (s : State) (inst : Option Nat) (vpu : Bool) : Nat :=
  match inst.bind s.instModel with
  | some m => Config.planCycles m.header vpu
  | none => 0

/-- The demand of a slot's stream, unbound (10, Admission; R361, R406). -/
def State.demandOf (s : State) (n : Nat) (x : SrcCfg) (a : AnaCfg) : Demand :=
  let px := if x.type == .csi then x.width * x.height
    else match a.framePool with | some p => 2 * (s.poolN p).bufBytes.toNat / 3 | none => 0
  let inPx := match s.instModel a.det with | some m => m.inW * m.inH | none => 0
  let crop := match a.emb.bind s.instModel with | some m => a.cropLimit * cropCost m.inW m.inH | none => 0
  { slot := n, cls := a.cls, periodUs := x.periodUs
    tower := s.instCycles (some a.det) false + a.cropLimit * s.instCycles a.emb false + 16384
    vpu := s.instCycles (some a.det) true + a.cropLimit * s.instCycles a.emb true
    scanC := scanCost px inPx, regionC := crop, vdeC := if x.type == .csi then 0 else vdeCost px
    vde := none, decoded := x.type != .csi, rank := a.shed }

/-- The demand with its VDE, when admission accepts the stream (R305, R313–R316). -/
def State.admitStream (s : State) (d : Demand) : Option Demand :=
  let vs := (List.range 4).filter (fun v => s.unitLive (0x18 + v))
  let v := if d.decoded then bindOne s.sched.demand vs d else none
  let d := { d with vde := v }
  let all := s.sched.demand ++ [d]
  let on := s.sched.demand.filter (fun x => !s.isShed x.slot) ++ [d]
  match d.cls with
  | .b => some d
  | .q => if (d.decoded && v.isNone) || !qOk s.unitLive on s.coreDiv then none else some d
  | .s => if (d.decoded && v.isNone) || !sOk s.unitLive all true || !qOk s.unitLive on s.coreDiv then none else some d

/-- Bytes of a pixel of a CSI data type. -/
def dtBytes (dt : Nat) : Nat := if dt = 0x24 then 3 else 2

/-- The buffers a STREAM_START needs are large enough (R185, R394). -/
def State.startSizesOk (s : State) (x : SrcCfg) (a : AnaCfg) : Bool :=
  (x.type != .csi || x.width * x.height * dtBytes x.dt ≤ (s.poolN a.srcPool).bufBytes.toNat)
    && (match a.emb.bind s.instModel, a.cropPool with
        | some m, some p => m.inBytes ≤ (s.poolN p).bufBytes.toNat
        | _, _ => true)

/-- The frame timer in µs (R346). -/
def SrcCfg.frameUs (x : SrcCfg) : Nat := ceilDiv (x.frameT * x.periodUs) 8

/-- The assembly timer in µs (R346). -/
def SrcCfg.assyUs (x : SrcCfg) : Nat := ceilDiv (x.assyT * x.periodUs) 8

/-- A session forgets its stream: the SSRC and the order of packets are learned afresh (R338). -/
def State.sessFresh (s : State) (k : Nat) : State :=
  if h : k < 64 then { s with io := { s.io with sess := updAt s.io.sess ⟨k, h⟩ (fun z => { cfg := z.cfg }) } } else s

/-- What a stopped stream left with the views goes: pictures not encoded yet and the buffers they hold (log entry 21). -/
def State.slotDrain (s : State) (n : Nat) : State :=
  let left := (s.slotN n).frames.flatMap (fun f => f.src.toList ++ f.pic.toList ++ f.crop ++ f.rec_.toList)
  let s := s.bufsBack n left.dedup 16 0x21
  let keep := fun (x : Nat × U32) => (s.viewN x.1).slot != n
  let s : State := { s with str := { s.str with veeQ := s.str.veeQ.filter keep, encoding := s.str.encoding.filter keep } }
  (s.updSlotN n (fun sl => { sl with frames := [] })).veeNext

/-- STREAM_START takes effect (R185 steps 1 to 4; R25, R344, R366, R474). -/
def State.streamOpen (s : State) (n : Nat) (x : SrcCfg) (a : AnaCfg) (d : Demand) : State :=
  let s := (List.range 9).foldl (fun s k => s.pipApply (stagePip n k) .set 0) (s.slotDrain n)
  let s := if (s.slotN n).res == some .ring then (if h : n < 64 then s.updRrg ⟨n, h⟩ (fun r => { r with en := true }) else s) else s
  let s := if a.cls == .s then (if h : n < 64 then s.kprStart ⟨n, h⟩ x.periodUs else s) else s
  let now := s.clock
  let time := s.devTime
  let s := s.updSlotN n (fun sl => { sl with
    state := .running, nextSeq := 0, gaps := 0, lastPosted := none, analysed := false, lastTracked := none, dec := {}
    gapArea := true, startedAt := now, roomDue := none
    ing := { cause := sl.ing.cause, lastEnd := time, frameDue := some (now + x.frameUs) } })
  let s := if x.type == .rtp then s.sessFresh x.session else s
  let s := if x.type == .host then s.emit (.hostWrite (x.ringBase + 8) (zeros 8)) else s
  let s := s.updCk n (fun k => { k with frames := 0, t0 := time.toNat, k := 1 })
  ({ s with sched := { s.sched with demand := s.sched.demand ++ [d] } } : State).reevaluate

/-- STREAM_START (R62, R182, R185, R316). -/
def cmdStreamStart : Command :=
  { spec := { op := 0x0404, lenLo := 1, lenHi := 1, fields := [slotField] }
    own := fun c s =>
      let n := c.f 8 1
      match s.slotCheck c false (slotTable (some .notFound) none (some .busy) (some .busy)) with
      | some st => .st s st
      | none =>
        if s.lowPower then .st s .busy
        else match (s.slotN n).src, (s.slotN n).ana, (s.slotN n).res with
          | some x, some a, some _ =>
            if !s.startSizesOk x a then .st s .invalidField
            else match s.admitStream (s.demandOf n x a) with
              | none => .st s .noResource
              | some d =>
                .ok (s.streamOpen n x a d) (c.slotEcho ++ zeros 3 ++ leBytes 4 0 ++ leBytes 4 (stagePip n 0))
          | _, _, _ => .st s .notFound }

/-- STREAM_START. -/
def execStreamStart (c : HostCmd) (s : State) : Res := direct cmdStreamStart c s

/-- A stop takes effect: the source accepts no further frame and a partial frame is discarded (R36). -/
def State.streamHalt (s : State) (n : Nat) : State :=
  (s.dropOpen n).updSlotN n (fun sl => { sl with
    state := .stopping
    ing := { sl.ing with lineDue := none, frameDue := none, assyDue := none, shed := false } })

/-- STREAM_STOP (R36, R182, R186). -/
def cmdStreamStop : Command :=
  { spec := { op := 0x0405, lenLo := 1, lenHi := 1, async := .may, fields := [slotField] }
    own := fun c s =>
      let n := c.f 8 1
      match s.slotCheck c true (slotTable (some .notFound) none none (some .busy)) with
      | some st => .st s st
      | none =>
        if (s.slotN n).state == .configured then
          let last : U32 := (s.slotN n).lastPosted.getD 0xFFFFFFFF
          .waitThen s (.streamStop n) c.slotEcho
            (fun s => s.finishOne c.mbx c.seq (.streamStop n) .ok (c.slotEcho ++ zeros 3 ++ leBytes 4 last.toNat))
        else .waitThen (s.streamHalt n) (.streamStop n) c.slotEcho (fun s => s.stopDone n) }

/-- STREAM_STOP. -/
def execStreamStop (c : HostCmd) (s : State) : Res := direct cmdStreamStop c s

/-- STREAM_STATUS (R182; 06, STREAM_STATUS). -/
def cmdStreamStatus : Command :=
  { spec := { op := 0x0406, lenLo := 1, lenHi := 1, safe := true, fields := [slotField] }
    own := fun c s =>
      let n := c.f 8 1
      let sl := s.slotN n
      if sl.state != .free && sl.ctx != c.ctxN then .st s .notFound
      else
        .ok s (c.slotEcho ++ leBytes 1 sl.state.code ++ leBytes 1 (match sl.ana with | some a => a.cls.code | none => 0)
          ++ leBytes 1 (sl.frames.filter (·.queued)).length ++ leBytes 4 sl.nextSeq.toNat
          ++ (List.range 9).flatMap (fun k => leBytes 4 (s.stageVal n k).toNat) ++ leBytes 4 sl.gaps.toNat) }

/-- STREAM_STATUS. -/
def execStreamStatus (c : HostCmd) (s : State) : Res := direct cmdStreamStatus c s

/-- One retained frame is re-issued: it takes the next number and keeps its capture time (R189). -/
def State.reissue (s : State) (n : Nat) (k : Kept) : State :=
  let r := s.number n
  let f : Frame := { seq := r.1, stage := 1, capture := k.capture, endTime := r.2.devTime, reissued := true
                     src := some k.buf, auBytes := k.auBytes, fmt := k.fmt, pitch := k.pitch, par := (r.2.slotN n).par }
  r.2.enqueueFrame n f

/-- STREAM_REPROCESS (R62, R182, R189). -/
def cmdStreamReprocess : Command :=
  { spec := { op := 0x0407, lenLo := 2, lenHi := 2, fields := [slotField, anyField 12 4, rangeField 16 1 1 4] }
    own := fun c s =>
      let n := c.f 8 1
      let k := c.f 16 1
      match s.slotCheck c false (slotTable (some .notFound) (some .notFound) none (some .busy)) with
      | some st => .st s st
      | none =>
        if s.lowPower then .st s .busy
        else
          let want := (List.range k).map (fun i => BitVec.ofNat 32 (c.f 12 4 + i))
          let got := want.filterMap (fun q => (s.slotN n).kept.find? (fun x => x.seq == q))
          if got.length ≠ k then .st s .notFound
          else if 4 < k + ((s.slotN n).frames.filter (·.queued)).length then .st s .busy
          else .ok (got.foldl (fun s x => s.reissue n x) s) (zeros 4 ++ leBytes 4 (s.slotN n).nextSeq.toNat) }

/-- STREAM_REPROCESS. -/
def execStreamReprocess (c : HostCmd) (s : State) : Res := direct cmdStreamReprocess c s

/-- A slot is free again: buffers still held return, tracks, galleries and checkpoint configuration go, its result-ring
registers and supervision end (R186, R571). -/
def State.slotFree (s : State) (n : Nat) : State :=
  let s := (s.releaseKept n).slotDrain n
  let s := (s.updSlotN n (fun _ => {})).updCk n (fun _ => {})
  let s := if h : n < 64 then s.kprEnd ⟨n, h⟩ else s
  s.setRrg n (Rrg.fresh n)

/-- STREAM_CLEAR (R182, R186; 18, When things fall together). -/
def cmdStreamClear : Command :=
  { spec := { op := 0x0408, lenLo := 1, lenHi := 1, fields := [slotField] }
    own := fun c s =>
      let n := c.f 8 1
      match s.slotCheck c true (slotTable none none (some .busy) (some .busy)) with
      | some st => .st s st
      | none =>
        if s.ckBusy n then .st s .busy
        else .ok (if (s.slotN n).state == .free then s else s.slotFree n) c.slotEcho }

/-- STREAM_CLEAR. -/
def execStreamClear (c : HostCmd) (s : State) : Res := direct cmdStreamClear c s

/-! ### Views -/

/-- A view's load as a fraction: t_enc × 10^6 / PERIOD_US with t_enc = W × H / 2.56 × 10^8 + 50 µs (R374). -/
def viewLoad (w h periodUs : Nat) : ℚ := ((w * h : ℚ) / 256 + 50) / (max 1 periodUs : ℕ)

/-- The load of the enabled views but for view `v` (R374). -/
def State.veeLoad (s : State) (v : Nat) : ℚ :=
  ((s.str.view.toList.zipIdx.filter (fun x => x.1.en && x.2 != v)).map
    (fun x => viewLoad x.1.width x.1.height (s.slotN x.1.slot).periodUs)).sum

/-- Set view `v`. -/
def State.updView (s : State) (v : Nat) (f : View → View) : State :=
  if h : v < 4 then { s with str := { s.str with view := updAt s.str.view ⟨v, h⟩ f } } else s

/-- A view stops: the picture it encodes and those it has waiting are no longer needed (R373). -/
def State.viewOff (s : State) (v : Nat) : State :=
  let mine := (s.str.veeQ ++ s.str.encoding.toList).filter (fun x => x.1 == v)
  let s : State := { s with str := { s.str with
    veeQ := s.str.veeQ.filter (fun x => x.1 != v), encoding := s.str.encoding.filter (fun x => x.1 != v) } }
  let s := mine.foldl (fun s x => s.viewDone v x.2) s
  (s.updView v (fun w => { w with en := false, caps := [] })).veeNext

/-- The VEE can take views: it is powered and not fenced (R385). -/
def State.veeThere (s : State) : Bool := (s.gateN 0x1C).powered && !(s.gateN 0x1C).fenced

/-- The fields of STREAM_VIEW that an enabled view needs (R373, R381). -/
def HostCmd.viewOk (c : HostCmd) : Bool :=
  let w := c.f 12 2
  let h := c.f 14 2
  let k := c.f 20 4
  w % 8 == 0 && h % 8 == 0 && (if c.f 16 1 = 2 then k ≤ 51 else 64 ≤ k && k ≤ 50000)

/-- STREAM_VIEW (R182, R188, R373, R374, R381, R385). -/
def cmdStreamView : Command :=
  { spec := { op := 0x040A, lenLo := 2, lenHi := 2,
              fields := [slotField, rangeField 9 1 0 3, rangeField 10 1 0 1, rangeField 11 1 1 2, rangeField 12 2 128 3840,
                rangeField 14 2 128 2160, rangeField 16 1 0 2, rangeField 17 1 0 63, anyField 20 4] }
    own := fun c s =>
      let n := c.f 8 1
      let v := c.f 9 1
      let w := s.viewN v
      match s.slotCheck c false (slotTable (some .notFound) none none (some .busy)) with
      | some st => .st s st
      | none =>
        if !c.viewOk then .st s .invalidField
        else if w.en && w.slot != n then .st s .busy
        else if (lookupN s.io.flow (c.f 17 1)).isNone then .st s .notFound
        else if c.f 10 1 = 0 then .ok (s.viewOff v) []
        else if !s.veeThere || decide (1 < s.veeLoad v + viewLoad (c.f 12 2) (c.f 14 2) (s.slotN n).periodUs) then
          .st s .noResource
        else
          .ok (s.updView v (fun w => { w with
            rtpSeq := if w.en then w.rtpSeq else 0, en := true, slot := n, codec := if c.f 11 1 = 2 then .h265 else .h264, width := c.f 12 2, height := c.f 14 2
            rc := c.f 16 1, flow := c.f 17 1, kbps := c.f 20 4, idr := true, sweep := 0 })) [] }

/-- STREAM_VIEW. -/
def execStreamView (c : HostCmd) (s : State) : Res := direct cmdStreamView c s

end Sys2Proof.Machine
end

