-- ==== Sys2Proof/Machine/CmdJob.lean ====
section
/-!
DEFINITION. Commands of the Job group, CTX_DESTROY and the end of a teardown (06 R190–R192; 05 R157; 07 R241, R242).
-/

namespace Sys2Proof.Machine
open Sys2Proof

/-- The context maps `n` bytes from `va`, in any of its regions; the number bounds the regions crossed. -/
def State.mappedN (s : State) (ctx : Nat) : Nat → Nat → Nat → Bool
  | _, _, 0 => true
  | 0, _, _ => false
  | k + 1, va, n + 1 =>
    match (s.ctxN ctx).regions.find? (fun r => r.va ≤ va && va < r.va + r.bytes) with
    | none => false
    | some r => s.mappedN ctx k (r.va + r.bytes) (n + 1 - (r.va + r.bytes - va))

/-- The context maps `n` bytes from `va`. -/
def State.mapped (s : State) (ctx va n : Nat) : Bool := s.mappedN ctx ((s.ctxN ctx).regions.length + 1) va n

/-- A general pip of the context (R190, R271). -/
def State.ownPip (s : State) (ctx p : Nat) : Bool := (s.pipBlock p).any (fun b => b.ctx == ctx)

/-- A pip that a job of the context may wait on: a general pip of it, or a stage pip of its slots (R190, R271). -/
def State.waitable (s : State) (ctx p : Nat) : Bool :=
  match pipKind p with
  | .general => s.ownPip ctx p
  | .stage => (s.slotN ((p - 130496) / 9)).state != .free && (s.slotN ((p - 130496) / 9)).ctx == ctx
  | _ => false

/-- A pip field of JOB_SUBMIT: none is 0xFFFF_FFFF. -/
def HostCmd.pipOpt (c : HostCmd) (off : Nat) : Option Nat := if c.f off 4 = 0xFFFFFFFF then none else some (c.f off 4)

/-- The job a JOB_SUBMIT describes. -/
def State.jobOf (s : State) (c : HostCmd) : Job :=
  { id := s.mem.nextJob, ctx := c.ctxN, inst := c.f 8 2, entry := c.f 10 1, cls := (Cls.ofNat? (c.f 11 1)).getD .b
    donePip := c.pipOpt 20, waitPip := c.pipOpt 12, inVa := c.f 24 8, outVa := c.f 32 8, outBytes := c.f 40 4
    state := if (c.pipOpt 12).isSome then .waiting else .queued, order := s.str.ends }

/-- The own checks of JOB_SUBMIT, in the order of R190. -/
def State.jobError (s : State) (c : HostCmd) : Option Status :=
  let x := c.ctxN
  let inst := s.instIn x (c.f 8 2)
  let model := inst.bind (fun i => lookupN s.mem.models i.model)
  if !s.ctxLive x then some .notFound
  else if c.f 11 1 < (s.ctxN x).maxClass.code then some .denied
  else if inst.isNone || (c.pipOpt 12).any (fun p => !s.waitable x p) || (c.pipOpt 20).any (fun p => !s.ownPip x p) then
    some .notFound
  else if !s.mapped x (c.f 24 8) 1 || !s.mapped x (c.f 32 8) (c.f 40 4) then some .notFound
  else if !model.any (fun m => c.f 10 1 < m.entries) then some .invalidField
  else if 4096 ≤ s.mem.jobs.length then some .noResource
  else none

/-- A job's wait reaches the pip store (R190, R275). -/
def State.jobWait (s : State) (c : HostCmd) (id : U32) : State :=
  match c.pipOpt 12 with
  | none => s
  | some p => s.pipWait { pip := p, eq := false, x := BitVec.ofNat 32 (c.f 16 4), by_ := .job id }

/-- JOB_SUBMIT (R62, R190, R191). -/
def cmdJobSubmit : Command :=
  { spec := { op := 0x0501, lenLo := 5, lenHi := 5, async := .may, safe := true,
              fields := [rangeField 8 2 0 255, anyField 10 1, rangeField 11 1 0 2,
                { off := 12, size := 4, ranges := [(0, 131071), (0xFFFFFFFF, 0xFFFFFFFF)] }, anyField 16 4,
                { off := 20, size := 4, ranges := [(0, 131071), (0xFFFFFFFF, 0xFFFFFFFF)] }, anyField 24 8, anyField 32 8,
                anyField 40 4] }
    own := fun c s =>
      if s.lowPower then .st s .busy
      else match s.jobError c with
        | some st => .st s st
        | none =>
          let j := s.jobOf c
          let s : State := { s with mem := { s.mem with jobs := s.mem.jobs ++ [j], nextJob := s.mem.nextJob + 1 } }
          let data := leBytes 4 j.id.toNat
          if c.async then .waitThen s (.job j.id) data (fun s => s.jobWait c j.id)
          else .done s .ok data (fun s => s.jobWait c j.id) }

/-- JOB_SUBMIT. -/
def execJobSubmit (c : HostCmd) (s : State) : Res := direct cmdJobSubmit c s

/-- A job that no engine runs is removed and completes with ABORTED_RESET: its wait, its queued items and its hold on
the instance go (R192, R157). -/
def State.jobRemove (s : State) (j : Job) : State :=
  let mine := fun (w : Waiter) => match w.by_ with | .job id => id == j.id | _ => false
  let s : State := { s with pip := { s.pip with
    watch := s.pip.watch.filter (!mine ·), overflow := s.pip.overflow.filter (!mine ·) } }
  let s := s.watchFill.dropQueued (fun i => i.origin == Origin.job j.id) .abortedReset
  (s.jobDone j .abortedReset).instCut (64, j.id)

/-- A job of the context by its ID. -/
def State.jobIn (s : State) (ctx id : Nat) : Option Job :=
  s.mem.jobs.find? (fun j => j.id.toNat == id && j.ctx == ctx)

/-- JOB_CANCEL (R192). -/
def cmdJobCancel : Command :=
  { spec := { op := 0x0502, lenLo := 1, lenHi := 1, safe := true, fields := [anyField 8 4] }
    own := fun c s =>
      match s.jobIn c.ctxN (c.f 8 4) with
      | none => .st s .notFound
      | some j => if j.state == .running then .st s .busy else .ok (s.jobRemove j) [] }

/-- JOB_CANCEL. -/
def execJobCancel (c : HostCmd) (s : State) : Res := direct cmdJobCancel c s

/-- JOB_QUERY's STATE. -/
def JobState.code : JobState → Nat
  | .queued => 0 | .waiting => 1 | .running => 2 | .done => 3

/-- JOB_QUERY (R191). -/
def cmdJobQuery : Command :=
  { spec := { op := 0x0503, lenLo := 1, lenHi := 1, safe := true, fields := [anyField 8 4] }
    own := fun c s =>
      let j := match s.jobIn c.ctxN (c.f 8 4) with
        | some j => some j
        | none => s.mem.doneJobs.find? (fun j => j.id.toNat == c.f 8 4 && j.ctx == c.ctxN)
      match j with
      | none => .st s .notFound
      | some j =>
        let done := j.state == .done
        .ok s (leBytes 1 j.state.code ++ zeros 1 ++ leBytes 2 (if done then j.result.code else 0)
          ++ leBytes 4 (if done then j.runUs else 0)) }

/-- JOB_QUERY. -/
def execJobQuery (c : HostCmd) (s : State) : Res := direct cmdJobQuery c s

/-! ### Teardown of a context -/

/-- The slots of a context that are not free. -/
def State.ctxSlots (s : State) (x : Nat) : List Nat :=
  (List.range 64).filter (fun n => (s.slotN n).state != .free && (s.slotN n).ctx == x)

/-- The jobs of a context that have not completed. -/
def State.ctxJobs (s : State) (x : Nat) : List Job := s.mem.jobs.filter (fun j => j.ctx == x)

/-- An engine runs an item of the job. -/
def State.jobOnEngine (s : State) (id : U32) : Bool :=
  s.sched.eng.toList.any (fun e => (e.running.toList ++ e.incoming.toList).any (fun i => i.origin == .job id))

/-- Steps 1 and 2 of R157 begin: streams stop, jobs that no engine runs complete, the others will. -/
def State.teardownBegin (s : State) (x : Nat) : State :=
  let slots := (s.ctxSlots x).filter (fun n => (s.slotN n).state != .configured)
  let jobs := s.ctxJobs x
  let s := s.updCtx (ctxOf x) (fun k => { k with teardown := .streams, counts := (slots.length, jobs.length, 0) })
  let s : State := { s with host := { s.host with mbx := s.host.mbx.map (fun m =>
    { m with ctxGone := m.ctxGone || (m.bound && m.context.toNat == x) }) } }
  let s := slots.foldl (fun s n => if (s.slotN n).state == .stopping then s else (s.streamHalt n).stopDone n) s
  let s := jobs.foldl (fun s j => if j.state == .running then s else s.jobRemove j) s
  { s with mem := { s.mem with jobs := s.mem.jobs.map (fun j => if j.ctx == x then { j with abort := true } else j) } }

/-- Started jobs of the context that were pre-empted complete now (R157 step 2). -/
def State.teardownJobs (s : State) (x : Nat) : State :=
  (s.ctxJobs x).foldl (fun s j => if s.jobOnEngine j.id then s else s.jobRemove j) s

/-- The context's blocks of general pips are released (R157 step 3, R275). -/
def State.teardownPips (s : State) (x : Nat) : State :=
  (s.pip.blocks.filter (fun b => b.ctx == x)).foldl (fun s b =>
    let s : State := { s with pip := { s.pip with blocks := s.pip.blocks.erase b } }
    s.releaseRange b.first b.count .abortedReset) s

/-- Step 3 of R157: slots are cleared; instances, models, pools and pip blocks are released and counted; checkpoint
windows go. -/
def State.teardownObjects (s : State) (x : Nat) : State :=
  let slots := s.ctxSlots x
  let insts := s.mem.insts.filter (fun i => i.2.ctx == x)
  let models := s.mem.models.filter (fun m => m.2.ctx == x)
  let pools := (List.range 16).filter (fun n => (s.poolIn x n).isSome)
  let blocks := s.pip.blocks.filter (fun b => b.ctx == x)
  let s := slots.foldl (fun s n =>
    (s.slotFree n).releaseRange (stagePip n 0) 9 .abortedReset) s
  let s := insts.foldl (fun s i => s.instDrop i.1 i.2) s
  let s := models.foldl (fun s m => s.modelDrop m.1 m.2) s
  let s := pools.foldl State.poolDrop s
  let s := s.teardownPips x
  let s : State := { s with ckpt := { s.ckpt with win := s.ckpt.win.filter (fun w => w.1 / 16 != x) } }
  s.updCtx (ctxOf x) (fun k => { k with
    teardown := .draining
    counts := (k.counts.1, k.counts.2.1, insts.length + models.length + pools.length + blocks.length) })

/-- The streams and jobs of a context in teardown are gone, so the objects go and its translations are closed (R157,
R241 steps 1 and 2). -/
def State.teardownTry (s : State) (x : Nat) : State :=
  if (s.ctxN x).teardown == .streams && (s.ctxSlots x).all (fun n => (s.slotN n).state == .configured) && (s.ctxJobs x).isEmpty then
    (s.teardownObjects x).invalidate (fun t => t.ctx == x)
  else s

/-- The context owns an S-class slot (R196). -/
def State.ctxHasS (s : State) (x : Nat) : Bool := (s.ctxSlots x).any (fun n => (s.slotN n).cls == .s)

/-- CTX_DESTROY (R157, R196, R241). -/
def cmdCtxDestroy : Command :=
  { spec := { op := 0x0202, lenLo := 1, lenHi := 1, m0 := true, async := .may, fields := [rangeField 8 1 0 63] }
    own := fun c s =>
      let x := c.f 8 1
      if x = 0 then .st s .denied
      else if !s.ctxLive x then .st s .notFound
      else if s.locked && s.ctxHasS x then .st s .safetyLocked
      else .waitThen (s.teardownBegin x) (.ctxDestroy x) [] (fun s => s.teardownTry x) }

/-- CTX_DESTROY. -/
def execCtxDestroy (c : HostCmd) (s : State) : Res := direct cmdCtxDestroy c s

/-- Step 4 of R241: page tables and memory are freed, the context is gone, the command completes. -/
def State.teardownEnd (s : State) (x : Nat) : State :=
  let k := (s.ctxN x).counts
  let s := s.updCtx (ctxOf x) (fun _ => {})
  let s : State := { s with mem := { s.mem with
    root := updAt s.mem.root (ctxOf x) (fun _ => {}), tables := s.mem.tables.filter (fun t => t.1 != x) } }
  s.finish (.ctxDestroy x) .ok (leBytes 2 k.1 ++ leBytes 2 k.2.1 ++ leBytes 2 k.2.2)

/-- TEARDOWN_DRAIN_DONE: a context in teardown whose streams and jobs are gone has no request in flight any more: its
memory is freed (R157, R241). -/
def execTeardownDrainDone (ctx : Fin 64) (s : State) : Res :=
  whenLive s fun s =>
    if (s.ctxN ctx.val).teardown == .none then s
    else
      let s := (s.teardownJobs ctx.val).teardownTry ctx.val
      if (s.ctxN ctx.val).teardown == .draining then s.teardownEnd ctx.val else s

end Sys2Proof.Machine
end

