-- ==== Sys2Proof/Machine/Remote.lean ====
section
/-!
DEFINITION. Requests of this device to remote windows: window knowledge, write counts, flushes (16 R487–R489,
R493, R494, R500).
-/
namespace Sys2Proof.Machine
open Sys2Proof

/-- FGEN of a target and the writes sent in it (R493, R494). -/
def State.genOf (s : State) (d : Nat) : BitVec 8 × Nat := (lookupN s.lfn.gen d).getD (0, 0)

/-- The next TAG (the initiator's own choice). -/
def State.takeTag (s : State) : BitVec 16 × State := (s.lfn.nextTag, s.updLofin (fun l => { l with nextTag := l.nextTag + 1 }))

/-- A request leaves: WEPOCH, FGEN and WCOUNT are filled in, a write is counted (R493). -/
def State.sendReq (s : State) (d wepoch : Nat) (k : Packet) : State :=
  let g := s.genOf d
  let h := hdrPut (hdrPut k.hdr 5 (leBytes 1 wepoch)) 6 [g.1]
  let h := if k.type = 1 then h else hdrPut h 16 (leBytes 4 g.2)
  let s := if k.type = 1 then s.updLofin (fun l => { l with gen := insertN l.gen d (g.1, g.2 + 1) }) else s
  s.sendOwn { k with hdr := h }

/-- A FLUSH leaves: FGEN advances, the count restarts (R494). -/
def State.flushSend (s : State) (d : Nat) (k : Packet) (by_ : RemoteBy) : State :=
  let g := s.genOf d
  let now := s.clock
  let s := s.sendReq d 0 k
  s.updLofin (fun l => { l with
    gen := insertN l.gen d (g.1 + 1, 0)
    flushes := l.flushes ++ [{ dst := d, gen := g.1, wcount := g.2, by_ := by_, due := now + 3000 }] })

/-- A request goes out when the target's window is known; otherwise it is held and the window queried (R488). -/
def State.remoteSend (s : State) (d : Nat) (k : Packet) (by_ : RemoteBy) : State :=
  match lookupN s.lfn.known d with
  | some w => if k.type = 5 then s.flushSend d k by_ else s.sendReq d w.epoch.toNat k
  | none =>
    let now := s.clock
    let s := s.updLofin (fun l => { l with held := l.held ++ [{ dst := d, pkt := k, by_ := by_ }] })
    if (lookupN s.lfn.query d).isSome then s
    else (s.updLofin (fun l => { l with query := insertN l.query d (now + 100) })).sendOwn (s.mgmt d 0 3 [])

/-- Cut `n` bytes at 256-byte boundaries of OFFSET: offset and length of each piece (R483). -/
def pieces : Nat → Nat → Nat → List (Nat × Nat)
  | 0, _, _ => []
  | _, _, 0 => []
  | k + 1, o, n + 1 =>
    let l := min (n + 1) (256 - o % 256)
    (o, l) :: pieces k (o + l) (n + 1 - l)

/-- The pieces of a request. -/
def piecesOf (o n : Nat) : List (Nat × Nat) := pieces (n / 256 + 2) o n

/-- Posted writes of these bytes to a device's window (R481, R483). -/
def State.remoteWrite (s : State) (by_ : RemoteBy) (d offset : Nat) (bs : List Byte) (fence : Option Nat) (ctx tag : Nat) : State :=
  (piecesOf offset bs.length).foldl (fun s x =>
    let data := (bs.drop (x.1 - offset)).take x.2
    let hdr := mkHdr 1 (b2n fence.isSome) d s.lfn.devId.toNat 0 0 ctx tag x.2
      (leBytes 4 x.1 ++ zeros 4 ++ leBytes 4 (fence.getD 0))
    s.remoteSend d { hdr := hdr, data := flitData x.1 data } by_) s

/-- A FLUSH to a device; within 10 µs of its last FLUSH_ACK it waits (R494). -/
def State.remoteFlush (s : State) (by_ : RemoteBy) (d ctx tag : Nat) : State :=
  if (lookupN s.lfn.spacing d).isSome then
    s.updLofin (fun l => { l with flushWait := l.flushWait ++ [{ dst := d, by_ := by_ }] })
  else s.remoteSend d { hdr := mkHdr 5 0 d s.lfn.devId.toNat 0 0 ctx tag 0 [] } by_

/-- A request made for this requester. -/
def RemoteBy.isCommand : RemoteBy → Bool
  | .flushCmd _ _ => true
  | _ => false

/-- Who has a FLUSH to `d` outstanding, waiting for the spacing, or held for a WINDOW. -/
def State.flushers (s : State) (d : Nat) : List RemoteBy :=
  ((s.lfn.flushes.filter (fun f => f.dst == d)).map FlushOut.by_) ++ ((s.lfn.flushWait.filter (fun f => f.dst == d)).map FlushWait.by_)
    ++ ((s.lfn.held.filter (fun h => h.dst == d && h.pkt.type == 5)).map HeldReq.by_)

end Sys2Proof.Machine
end

