-- ==== Sys2Proof/Machine/Ckpt.lean ====
section
/-!
DEFINITION. Checkpoints: snapshot, formats, writing, restore, and their commands (18; 06 R193–R195).
-/
namespace Sys2Proof.Machine
open Sys2Proof

/-! ### Windows and halves (R527) -/

/-- Bytes of a window. -/
def CkptWin.size : CkptWin → Nat
  | .host xs => (xs.map Prod.snd).sum
  | .peer _ _ b => b

/-- HALF. -/
def CkptWin.half (w : CkptWin) : Nat := w.size / 8192 * 4096

/-! ### Formats (18, Formats; R536) -/

/-- Zero-pad to a multiple of 4,096. -/
def pad4k (bs : List Byte) : List Byte := padTo ((bs.length + 4095) / 4096 * 4096) bs

/-- A shard header. -/
def shardHdr (kind num slot count bytes : Nat) : List Byte :=
  leBytes 2 0x4853 ++ leBytes 1 kind ++ leBytes 1 1 ++ leBytes 4 num ++ leBytes 1 slot ++ zeros 3 ++ leBytes 4 count
    ++ leBytes 4 bytes ++ zeros 44

/-- TRACKPAR. -/
def TrackPar.bytes (p : TrackPar) : List Byte :=
  leBytes 1 p.nmsMode ++ leBytes 1 p.minHits ++ leBytes 2 p.topK ++ leBytes 2 p.scoreMin ++ leBytes 2 p.iouNms
    ++ leBytes 2 p.nmsMax ++ leBytes 2 p.maxAge ++ leBytes 2 p.wEmb

/-- FMT_W to FMT_VALID of the STREAM shard. -/
def fmtBytes : Option Fmt → List Byte
  | none => zeros 21
  | some f =>
    leBytes 2 f.w ++ leBytes 2 f.h ++ leBytes 1 f.depth ++ leBytes 1 f.chroma.code ++ leBytes 1 f.matrix.code
      ++ leBytes 1 (b2n f.full) ++ leBytes 2 f.sarW ++ leBytes 2 f.sarH
      ++ padTo 8 (f.conf.flatMap (fun x => leBytes 2 x)) ++ leBytes 1 1

/-- DIGEST of the package that an instance runs; zero without one. -/
def State.digestOf (s : State) (inst : Option Nat) : List Byte :=
  match inst.bind (fun i => (lookupN s.mem.insts i).bind (fun x => lookupN s.mem.models x.model)) with
  | some m => padTo 32 (m.header.drop 16)
  | none => zeros 32

/-- The STREAM shard of a slot (18, STREAM shard body). -/
def State.streamShard (s : State) (n num : Nat) (frameSeq : U32) (time : U64) : List Byte :=
  let sl := s.slotN n
  let a := sl.ana
  let lim := match a with | some x => x.cropLimit | none => 0
  let last := match sl.lastTracked with | some x => x.2.toNat | none => 0
  shardHdr 3 num n 1 256 ++ leBytes 8 s.sup.fuses.serial.toNat ++ leBytes 1 sl.cls.code ++ zeros 1 ++ leBytes 2 lim
    ++ leBytes 4 frameSeq.toNat ++ leBytes 8 last ++ leBytes 8 time.toNat ++ leBytes 4 sl.nextTrack.toNat
    ++ leBytes 4 sl.periodUs ++ sl.par.bytes ++ zeros 2 ++ fmtBytes sl.trackFmt ++ zeros 3
    ++ s.digestOf (a.map AnaCfg.det) ++ s.digestOf (a.bind AnaCfg.emb) ++ zeros 48

/-- A covariance as stored: FP16 of value × 2^16, saturating (R536). -/
def covHalf (x : U32) : List Byte :=
  let h := halfOf (fMul x (fOfInt 65536))
  leBytes 2 (if h &&& 0x7FFF = 0x7C00 then h - 1 else h).toNat

/-- A TRACK shard entry (18; R536). -/
def Track.ckBytes (t : Track) : List Byte :=
  let ax := [t.cx, t.cy, t.w, t.h]
  leBytes 4 t.id.toNat ++ leBytes 2 t.cls ++ leBytes 1 (b2n t.confirmed) ++ leBytes 1 t.hits ++ leBytes 2 t.age
    ++ leBytes 2 t.misses ++ leBytes 2 t.score ++ zeros 2 ++ leBytes 8 t.time.toNat
    ++ ax.flatMap (fun a => leBytes 4 a.p.toNat ++ leBytes 4 a.v.toNat)
    ++ ax.flatMap (fun a => covHalf a.a ++ covHalf a.b ++ covHalf a.c)
    ++ leBytes 4 t.written.toNat ++ zeros 12

/-- The TRACK shard. -/
def trackShard (ts : List Track) (num slot : Nat) : List Byte :=
  shardHdr 1 num slot ts.length (64 + 96 * ts.length) ++ ts.flatMap Track.ckBytes

/-- LO and HI: the smallest and largest element of every filled gallery sample, both 0 with none (R532). -/
def galleryRange (ts : List Track) : U16 × U16 :=
  match ts.flatMap (fun t => t.gal.flatMap (fun g => g.getD [])) with
  | [] => (0, 0)
  | x :: xs => xs.foldl (fun r e =>
      (if fLt (fOfHalf e) (fOfHalf r.1) then e else r.1, if fLt (fOfHalf r.2) (fOfHalf e) then e else r.2)) (x, x)

/-- Codebook entry `j`: FP16 of LO + (HI − LO) × j / 255 in FP32 (R536). -/
def ckCodebook (lo hi : U16) (j : Nat) : U16 :=
  halfOf (fAdd (fOfHalf lo) (fDiv (fMul (fSub (fOfHalf hi) (fOfHalf lo)) (fOfInt j)) (fOfInt 255)))

/-- The index of the nearest codebook entry, ties to the lower index (R536). -/
def nearestEntry (cb : List U16) (e : U16) : Nat :=
  let d := fun (c : U16) => (fInt (fOfHalf c) - fInt (fOfHalf e)).natAbs
  ((cb.zipIdx).foldl (fun (b : Nat × Nat) c => if d c.1 < b.1 then (d c.1, c.2) else b) (d (cb.headD 0), 0)).2

/-- One gallery entry: TRACK_ID, FILLED and the indices of the eight slots. -/
def Track.galBytes (t : Track) (cb : List U16) : List Byte :=
  let filled := (t.gal.zipIdx.filter (fun g => g.1.isSome)).foldl (fun m g => m + 2 ^ g.2) 0
  leBytes 4 t.id.toNat ++ leBytes 1 filled ++ zeros 3
    ++ t.gal.flatMap (fun g => match g with
        | none => zeros 128
        | some es => padTo 128 (es.map (fun e => BitVec.ofNat 8 (nearestEntry cb e))))

/-- The GALLERY shard. -/
def galleryShard (ts : List Track) (num slot : Nat) : List Byte :=
  let r := galleryRange ts
  let cb := (List.range 256).map (ckCodebook r.1 r.2)
  shardHdr 2 num slot ts.length (576 + 1032 * ts.length) ++ cb.flatMap (fun e => leBytes 2 e.toNat)
    ++ ts.flatMap (fun t => t.galBytes cb)

/-- The shards of a checkpoint, in the order STREAM, TRACK, GALLERY (18, Formats). -/
def State.shardsOf (s : State) (n num shards : Nat) (frameSeq : U32) (time : U64) : List (List Byte) :=
  let ts := (s.slotN n).tracks
  [s.streamShard n num frameSeq time] ++ (if bitOf shards 0 then [trackShard ts num n] else [])
    ++ (if bitOf shards 1 then [galleryShard ts num n] else [])

/-- Offsets of the shards: STREAM at 0x1000, each next at the boundary after the padded end before it. -/
def shardOffsets : Nat → List (List Byte) → List Nat
  | _, [] => []
  | o, b :: bs => o :: shardOffsets (o + (pad4k b).length) bs

/-- Where the last shard's padding ends. -/
def shardsEnd (bs : List (List Byte)) : Nat := 0x1000 + (bs.map (fun b => (pad4k b).length)).sum

/-- The manifest (18, Manifest). -/
def manifestOf (snap : List (List Byte)) (num half slot : Nat) (frameSeq : U32) (time serial : U64) : List Byte :=
  let entries := (snap.zip (shardOffsets 0x1000 snap)).flatMap (fun x =>
    leBytes 1 (byteAt x.1 2).toNat ++ zeros 3 ++ leBytes 4 x.2 ++ leBytes 4 x.1.length ++ zeros 4 ++ sha256 x.1)
  let m := leBytes 4 0x4D4B435A ++ leBytes 2 1 ++ leBytes 1 snap.length ++ leBytes 1 half ++ leBytes 4 num
    ++ leBytes 4 frameSeq.toNat ++ leBytes 8 time.toNat ++ leBytes 8 serial.toNat ++ leBytes 1 slot ++ zeros 31
    ++ padTo 144 entries ++ zeros 16
  m ++ sha256 m

/-! ### Taking a checkpoint (R531–R535, R540) -/

/-- The checkpoint of a slot in progress. -/
def State.ckRun (s : State) (n : Nat) : Option CkptRun := s.ckpt.run.find? (fun r => r.slot == n)

/-- Change the checkpoint of a slot in progress. -/
def State.updRun (s : State) (n : Nat) (f : CkptRun → CkptRun) : State :=
  { s with ckpt := { s.ckpt with run := s.ckpt.run.map (fun r => if r.slot == n then f r else r) } }

/-- A checkpoint completes: its granules are released, its outcome is kept, CKPT_NOW and a waiting stop complete, the
next waiting checkpoint starts (R194, R531, R532, R535). -/
def State.ckEnd (s : State) (n : Nat) (st : Status) : State :=
  match s.ckRun n with
  | none => s
  | some r =>
    let s := match r.fs with
      | some g => { s with str := { s.str with fs := s.str.fs.give g.1 g.2 } }
      | none => s
    let s : State := { s with ckpt := { s.ckpt with run := s.ckpt.run.filter (fun x => x.slot != n) } }
    let s := s.updCk n (fun c => { c with
      last := some (r.num, r.frameSeq, r.time, st), failed := if st = .ok then c.failed else c.failed + 1 })
    let s := s.updSlotN n (fun sl => { sl with copying := false })
    let data := leBytes 4 r.num.toNat ++ leBytes 4 r.frameSeq.toNat ++ leBytes 4 r.bytes
    let s := if r.now then s.finish (.ckptNow n) st (if st = .ok then data else []) else s
    ((s.ckStart).advance n).stopDone n

/-- CKPT_TIMER_TRIGGER: the timer trigger of a slot falls due (R530). -/
def execCkptTimerTrigger (n : Fin 64) (s : State) : Res :=
  whenLive s fun s =>
    let c := s.ckN n.val
    if c.trigger = 1 && decide (c.t0 + c.k * c.period * 1000000 ≤ s.devTime.toNat) then
      (s.updCk n.val (fun c => { c with k := c.k + 1 })).ckTrigger n.val c.cfg
    else s

/-- CKPT_SNAPSHOT: at a TRACK boundary of the slot granules are taken and the slot's committed state is frozen; the number is the checkpoint's from here
(R194, R532). -/
def execCkptSnapshot (n : Fin 64) (s : State) : Res :=
  whenLive s fun s =>
    match s.ckRun n.val with
    | none => s
    | some r =>
      if r.phase != .snapshot || s.tracking n.val then s
      else
        let sl := s.slotN n.val
        let num := (s.ckN n.val).number
        let time := s.devTime
        let fseq : U32 := match sl.lastTracked with | some x => x.1 | none => 0xFFFFFFFF
        let s := s.updCk n.val (fun c => { c with number := c.number + 1, frames := 0 })
        let s := s.updRun n.val (fun r => { r with num := num, time := time, frameSeq := fseq })
        let g := max 1 (ceilDiv (sl.tracks.length * 2176) 65536)
        match s.str.fs.fit g with
        | none => s.ckEnd n.val .noResource
        | some first =>
          let snap := s.shardsOf n.val num.toNat r.shards fseq time
          let s : State := { s with str := { s.str with fs := s.str.fs.take first g } }
          (s.updRun n.val (fun r => { r with phase := .copy, fs := some (first, g), snap := snap })).updSlotN n.val
            (fun sl => { sl with copying := true })

/-- CKPT_COPY_DONE: the copy ends and the slot's next TRACK may run; an uncorrectable error ends the checkpoint and the
slot's tracks (R532, R540, R475). -/
def execCkptCopyDone (n : Fin 64) (ue : Bool) (s : State) : Res :=
  whenLive s fun s =>
    match s.ckRun n.val with
    | none => s
    | some r =>
      if r.phase != .copy then s
      else if ue then (s.trackLost n.val).ckEnd n.val .internal
      else
        ((s.updRun n.val (fun r => { r with phase := .reduce })).updSlotN n.val
          (fun sl => { sl with copying := false })).advance n.val

/-- Host writes of bytes from window offset `o` through the extents in list order (R527). -/
def State.extWrite (s : State) : List (Nat × Nat) → Nat → List Byte → State
  | [], _, _ => s
  | (a, l) :: xs, o, bs =>
    if bs.isEmpty then s
    else if l ≤ o then s.extWrite xs (o - l) bs
    else
      let here := bs.take (l - o)
      (s.emit (.hostWrite (a + o) here)).extWrite xs 0 (bs.drop (l - o))

/-- A write of the checkpoint writer at window offset `o`. -/
def State.ckWrite (s : State) (r : CkptRun) (w : CkptWin) (o : Nat) (bs : List Byte) : State :=
  match w with
  | .host xs => s.extWrite xs o bs
  | .peer d off _ => s.remoteWrite (.ckpt r.slot) d (off + o) bs none r.ctx r.tag.toNat

/-- Steps 1 and 2 of the write order (R534). -/
def State.ckShards (s : State) (r : CkptRun) (w : CkptWin) (base : Nat) : State :=
  let s := s.ckWrite r w (base + 224) (zeros 32)
  (r.snap.zip (shardOffsets 0x1000 r.snap)).foldl (fun s x => s.ckWrite r w (base + x.2) (pad4k x.1)) s

/-- Step 3 of the write order (R534). -/
def State.ckManifest (s : State) (r : CkptRun) (w : CkptWin) (base : Nat) : State :=
  (s.ckWrite r w base (r.manifest.take 224)).ckWrite r w (base + 224) (r.manifest.drop 224)

/-- The target half begins at this window offset (R527). -/
def CkptRun.base (r : CkptRun) (w : CkptWin) : Nat := r.num.toNat % 2 * w.half

/-- The writer asks the peer for a FLUSH; with a LINK_FLUSH to that peer outstanding the checkpoint ends with BUSY, with no
route with UNREACHABLE (R202, R500, R534). -/
def State.ckFlush (s : State) (r : CkptRun) (d : Nat) (next : CkptPhase) : State :=
  if (s.flushers d).any RemoteBy.isCommand then s.ckEnd r.slot .busy
  else if !s.routeUp d then s.ckEnd r.slot .unreachable
  else (s.updRun r.slot (fun r => { r with phase := next })).remoteFlush (.ckpt r.slot) d r.ctx r.tag.toNat

/-- A FLUSH of the checkpoint writer was answered: with FAILED 0 it goes on (R534). -/
def State.ckFlushed (s : State) (n failed : Nat) : State :=
  match s.ckRun n with
  | none => s
  | some r =>
    if failed ≠ 0 then s.ckEnd n .remoteError
    else match r.phase, lookupN s.ckpt.win (16 * r.ctx + r.win) with
      | .flush1, some (.peer d o b) =>
        (s.ckManifest r (.peer d o b) (r.base (.peer d o b))).ckFlush r d .flush2
      | .flush2, _ => s.ckEnd n .ok
      | _, _ => s

/-- CKPT_REDUCTION_DONE: the state is reduced and digested, and the writer sends the bytes; a window too small ends the
checkpoint with NO_RESOURCE, an uncorrectable error in the granules with INTERNAL (R533, R534, R540). -/
def execCkptReductionDone (n : Fin 64) (ue : Bool) (s : State) : Res :=
  whenLive s fun s =>
    match s.ckRun n.val with
    | none => s
    | some r =>
      match lookupN s.ckpt.win (16 * r.ctx + r.win) with
      | none => s
      | some w =>
        if r.phase != .reduce then s
        else if ue then (s.faultLog 0x37 Status.internal.code (BitVec.ofNat 32 n.val)).ckEnd n.val .internal
        else if w.half < shardsEnd r.snap then s.ckEnd n.val .noResource
        else
          let half := r.num.toNat % 2
          let m := manifestOf r.snap r.num.toNat half n.val r.frameSeq r.time s.sup.fuses.serial
          let bytes := 256 + (shardsEnd r.snap - 0x1000)
          let t := s.takeTag
          let r := { r with manifest := m, bytes := bytes, tag := t.1 }
          match w with
          | .host _ =>
            if !s.canRequest then s
            else (((s.updRun n.val (fun _ => r)).ckShards r w (r.base w)).ckManifest r w (r.base w)).ckEnd n.val .ok
          | .peer d _ _ =>
            let s := t.2.updRun n.val (fun _ => r)
            if !s.routeUp d then s.ckEnd n.val .unreachable
            else (s.ckShards r w (r.base w)).ckFlush r d .flush1

/-! ### Restore (R537, R538) -/

/-- Bytes of a half. -/
def sliceOf (bs : List Byte) (o n : Nat) : List Byte := padTo n (bs.drop o)

/-- Every byte is zero. -/
def allZero (bs : List Byte) : Bool := bs.all (· == 0)

/-- A half holds a candidate: MAGIC, VERSION, HALF, zero reserved bytes, MDIGEST (R537). -/
def ckCandidate (h : List Byte) (half : Nat) : Bool :=
  leAt h 0 4 == 0x4D4B435A && leAt h 4 2 == 1 && leAt h 7 1 == half && allZero (sliceOf h 33 31)
    && [0, 1, 2].all (fun i => allZero (sliceOf h (65 + 48 * i) 3) && allZero (sliceOf h (76 + 48 * i) 4))
    && allZero (sliceOf h 208 16) && sha256 (sliceOf h 0 224) == sliceOf h 224 32

/-- A shard entry of a manifest: KIND, OFFSET, BYTES, DIGEST. -/
structure ShardRef where
  /-- KIND. -/
  kind : Nat
  /-- OFFSET. -/
  off : Nat
  /-- BYTES. -/
  len : Nat
  /-- DIGEST. -/
  digest : List Byte
  deriving DecidableEq, Repr

/-- The shard entries of a manifest. -/
def shardRefs (h : List Byte) : List ShardRef :=
  (List.range (min 3 (leAt h 6 1))).map (fun i =>
    { kind := leAt h (64 + 48 * i) 1, off := leAt h (68 + 48 * i) 4, len := leAt h (72 + 48 * i) 4, digest := sliceOf h (80 + 48 * i) 32 })

/-- The bytes of the shard of a kind. -/
def shardOf (h : List Byte) (kind : Nat) : Option (List Byte) :=
  ((shardRefs h).find? (fun r => r.kind == kind)).map (fun r => sliceOf h r.off r.len)

/-- Check 1 of R537: the shard entries. -/
def refsOk (h : List Byte) (half : Nat) : Bool :=
  let rs := shardRefs h
  let ks := rs.map ShardRef.kind
  let n := leAt h 6 1
  1 ≤ n && n ≤ 3 && ks.all (fun k => 1 ≤ k && k ≤ 3) && decide ks.Nodup && ks.contains 3 && (!ks.contains 2 || ks.contains 1)
    && rs.all (fun r => r.off % 4096 == 0 && r.off + r.len ≤ half)
    && rs.all (fun a => rs.all (fun b => a.kind == b.kind || a.off + a.len ≤ b.off || b.off + b.len ≤ a.off))

/-- Check 3 of R537: a shard header. -/
def shardHdrOk (m : List Byte) (r : ShardRef) (b : List Byte) : Bool :=
  leAt b 0 2 == 0x4853 && leAt b 2 1 == r.kind && leAt b 3 1 == 1 && leAt b 4 4 == leAt m 8 4 && leAt b 8 1 == leAt m 32 1
    && leAt b 12 4 ≤ 512 && allZero (sliceOf b 9 3) && allZero (sliceOf b 20 44)

/-- TRACK_IDs of a TRACK or GALLERY shard. -/
def shardIds (b : List Byte) (start step : Nat) : List Nat :=
  (List.range (leAt b 12 4)).map (fun i => leAt b (start + step * i) 4)

/-- TRACKPAR lies in the ranges of STREAM_TRACK. -/
def trackParOk (b : List Byte) : Bool :=
  leAt b 104 1 ≤ 1 && 1 ≤ leAt b 105 1 && 1 ≤ leAt b 106 2 && leAt b 106 2 ≤ 4096 && 1 ≤ leAt b 112 2 && leAt b 112 2 ≤ 1024
    && 1 ≤ leAt b 114 2

/-- Check 4 of R537: the tracks, TRACKPAR and the gallery's IDs. -/
def tracksOk (h : List Byte) : Bool :=
  let st := (shardOf h 3).getD []
  let ids := match shardOf h 1 with | some b => shardIds b 64 96 | none => []
  ids.all (· != 0) && (ids.zip (ids.drop 1)).all (fun p => p.1 < p.2) && trackParOk st
    && (match shardOf h 1 with
        | some b => (List.range ids.length).all (fun i => leAt b (64 + 96 * i + 6) 1 ≤ 1)
        | none => true)
    && (match shardOf h 2 with | some g => shardIds g 576 1032 == ids | none => true)

/-- The checks on a candidate, in order (R537). -/
def State.ckVerify (s : State) (n : Nat) (h : List Byte) (half : Nat) : Option Status :=
  let rs := shardRefs h
  let a := (s.slotN n).ana
  let st := (shardOf h 3).getD []
  if !refsOk h half then some .invalidField
  else if rs.any (fun r => sha256 (sliceOf h r.off r.len) != r.digest) then some .digestMismatch
  else if !rs.all (fun r => shardHdrOk h r (sliceOf h r.off r.len)) then some .invalidField
  else if !tracksOk h then some .invalidField
  else if a.isNone || sliceOf st 144 32 != s.digestOf (a.map AnaCfg.det) then some .invalidField
  else if (shardOf h 2).isSome && ((a.bind AnaCfg.emb).isNone || sliceOf st 176 32 != s.digestOf (a.bind AnaCfg.emb)) then
    some .invalidField
  else none

/-- Which half passes, or the status of the failure (R537). -/
def State.ckChoose (s : State) (n : Nat) (w : List Byte) (half : Nat) : Except Status (List Byte) :=
  let h0 := sliceOf w 0 half
  let h1 := sliceOf w half half
  let c0 := ckCandidate h0 0
  let c1 := ckCandidate h1 1
  let newer1 := (leAt h1 8 4 + 2 ^ 32 - leAt h0 8 4) % 2 ^ 32 < 2 ^ 31
  let order := if c0 && c1 then (if newer1 then [h1, h0] else [h0, h1]) else if c0 then [h0] else if c1 then [h1] else []
  match order with
  | [] => .error (if leAt h0 0 4 = 0x4D4B435A ∨ leAt h1 0 4 = 0x4D4B435A then .digestMismatch else .invalidField)
  | x :: _ =>
    match order.find? (fun h => (s.ckVerify n h half).isNone) with
    | some h => .ok h
    | none => .error ((s.ckVerify n x half).getD .invalidField)

/-- A stored covariance, expanded exactly (R538). -/
def covOf (b : List Byte) (o : Nat) : U32 := fMul (fOfHalf (BitVec.ofNat 16 (leAt b o 2))) (fOfRatio 1 65536)

/-- Axis `i` of a TRACK entry at `e`; b is brought within sqrt(a × c) (R538). -/
def axisOf (b : List Byte) (e i : Nat) : Axis :=
  let a := covOf b (e + 56 + 6 * i)
  let bb := covOf b (e + 58 + 6 * i)
  let c := covOf b (e + 60 + 6 * i)
  let lim := fSqrt (fMul a c)
  { p := BitVec.ofNat 32 (leAt b (e + 24 + 8 * i) 4), v := BitVec.ofNat 32 (leAt b (e + 28 + 8 * i) 4), a := a, c := c
    b := if fLt (fMul a c) (fMul bb bb) then (if fNeg bb then fNegate lim else lim) else bb }

/-- Gallery slot `k` of entry `i` (R538). -/
def galOf (g : List Byte) (i k : Nat) : Option (List U16) :=
  let e := 576 + 1032 * i
  if bitOf (leAt g (e + 4) 1) k then
    some ((List.range 128).map (fun j => BitVec.ofNat 16 (leAt g (64 + 2 * leAt g (e + 8 + 128 * k + j) 1) 2)))
  else none

/-- The tracks of a checkpoint, as loaded at device time `now` (R538). -/
def tracksFrom (h : List Byte) (now : Nat) : List Track :=
  match shardOf h 1 with
  | none => []
  | some b =>
    (List.range (leAt b 12 4)).map (fun i =>
      let e := 64 + 96 * i
      { id := BitVec.ofNat 32 (leAt b e 4), cls := leAt b (e + 4) 2, confirmed := leAt b (e + 6) 1 == 1, hits := leAt b (e + 7) 1
        age := leAt b (e + 8) 2, misses := leAt b (e + 10) 2, score := leAt b (e + 12) 2
        time := BitVec.ofNat 64 (min now (leAt b (e + 16) 8))
        cx := axisOf b e 0, cy := axisOf b e 1, w := axisOf b e 2, h := axisOf b e 3
        written := BitVec.ofNat 32 (leAt b (e + 80) 4)
        gal := match shardOf h 2 with
          | some g => (List.range 8).map (galOf g i)
          | none => List.replicate 8 none })

/-- The format of a STREAM shard (18). -/
def fmtFrom (b : List Byte) : Option Fmt :=
  if leAt b 140 1 = 0 then none
  else some
    { w := leAt b 120 2, h := leAt b 122 2, depth := leAt b 124 1
      chroma := match leAt b 125 1 with | 1 => .yuv420 | 2 => .yuv400 | 3 => .yuv422 | _ => .rgb
      matrix := match leAt b 126 1 with | 0 => .none | 1 => .bt601 | _ => .bt709
      full := leAt b 127 1 == 1, sarW := leAt b 128 2, sarH := leAt b 130 2
      conf := (List.range 4).map (fun i => leAt b (132 + 2 * i) 2) }

/-- TRACKPAR of a STREAM shard. -/
def trackParFrom (b : List Byte) : TrackPar :=
  { nmsMode := leAt b 104 1, minHits := leAt b 105 1, topK := leAt b 106 2, scoreMin := leAt b 108 2, iouNms := leAt b 110 2
    nmsMax := leAt b 112 2, maxAge := leAt b 114 2, wEmb := leAt b 116 2 }

/-- A passing checkpoint is loaded (R538, R459). -/
def State.ckLoad (s : State) (n : Nat) (h : List Byte) : State :=
  let st := (shardOf h 3).getD []
  let ts := tracksFrom h s.devTime.toNat
  let time : Option U64 := match ts with
    | [] => none
    | _ => some (BitVec.ofNat 64 ((ts.map (fun t => t.time.toNat)).foldl max 0))
  (s.updSlotN n (fun sl => { sl with
    tracks := ts, nextTrack := BitVec.ofNat 32 (leAt st 96 4), par := trackParFrom st, trackFmt := fmtFrom st, trackTime := time })).updCk n
    (fun c => { c with number := BitVec.ofNat 32 (leAt h 8 4) + 1 })

/-! ### Commands (06, Checkpoint group) -/

/-- The entries of a host scatter list. -/
def extentsOf (b : List Byte) (count : Nat) : List (Nat × Nat) :=
  (List.range count).map (fun i => (leAt b (16 + 16 * i) 8, leAt b (24 + 16 * i) 4))

/-- Reserved bytes of a CKPT_WINDOW buffer are not zero (R12, R193; log entry 100). -/
def windowReserved (b : List Byte) : Bool :=
  leAt b 2 2 != 0 || leAt b 9 7 != 0 ||
    (leAt b 1 1 == 0 && (List.range (min 65536 (leAt b 4 4))).any (fun i => leAt b (28 + 16 * i) 4 != 0))

/-- The window a descriptor buffer of BYTES `n` describes: none when a field is out of range (R15, R193). -/
def windowOf (b : List Byte) (n : Nat) : Option (Option CkptWin) :=
  let kind := leAt b 1 1
  let count := leAt b 4 4
  if 15 < leAt b 0 1 then none
  else if kind = 0 then
    let xs := extentsOf b count
    if count = 0 || 65536 < count || n != 16 + 16 * count || xs.any (fun x => x.1 % 4096 != 0 || x.2 % 4096 != 0 || x.2 = 0) then none
    else some (some (.host xs))
  else if count != 0 || n != 32 then none
  else if kind = 1 then
    if 126 < leAt b 8 1 || leAt b 16 8 % 4096 != 0 || leAt b 24 8 % 4096 != 0 || leAt b 24 8 = 0 then none
    else some (some (.peer (leAt b 8 1) (leAt b 16 8) (leAt b 24 8)))
  else if kind = 255 then some none
  else none

/-- A restore from this window, as context × 16 + index, has not posted its final response. -/
def State.restores (s : State) (key : Nat) : Bool :=
  s.running.any (fun r => match r.wait with | .ckptRestore _ k => k == key | _ => false)

/-- CKPT_WINDOW (R193). -/
def cmdCkptWindow : Command :=
  { spec := { op := 0x0801, lenLo := 2, lenHi := 2, desc := true }
    own := fun c s =>
      let b := match c.host with | .data bs => bs | _ => []
      let key := 16 * c.ctxN + leAt b 0 1
      if windowReserved b then .st s .reservedNonzero
      else if !s.ctxLive c.ctxN then .st s .notFound
      else match windowOf b (c.f 16 4) with
        | none => .st s .invalidField
        | some w =>
          if s.ckpt.run.any (fun r => 16 * r.ctx + r.win == key) || s.restores key then .st s .busy
          else match w with
            | some w => .ok { s with ckpt := { s.ckpt with win := insertN s.ckpt.win key w } } []
            | none =>
              if (lookupN s.ckpt.win key).isNone then .st s .notFound
              else .ok { s with ckpt := { s.ckpt with win := eraseN s.ckpt.win key } } [] }

/-- CKPT_WINDOW. -/
def execCkptWindow (c : HostCmd) (s : State) : Res := direct cmdCkptWindow c s

/-- CKPT_CONFIG (R182, R187, R528, R530). -/
def cmdCkptConfig : Command :=
  { spec := { op := 0x0802, lenLo := 2, lenHi := 2,
              fields := [slotField, rangeField 9 1 0 15, rangeField 10 1 0 2, { off := 11, size := 1, resv := 0xFC }, anyField 12 4] }
    own := fun c s =>
      let p := c.f 12 4
      match s.slotCheck c false (slotTable (some .notFound) none none (some .busy)) with
      | some st => .st s st
      | none =>
        if (bitOf (c.f 11 1) 1 && !bitOf (c.f 11 1) 0) || (c.f 10 1 = 1 && (p < 100 || 60000 < p))
            || (c.f 10 1 = 2 && (p = 0 || 65535 < p)) then .st s .invalidField
        else if (lookupN s.ckpt.win (16 * c.ctxN + c.f 9 1)).isNone then .st s .notFound
        else
          .ok (s.updCk (c.f 8 1) (fun k => { k with
            win := some (c.f 9 1), trigger := c.f 10 1, period := p, shards := c.f 11 1, t0 := s.devTime.toNat, k := 1
            skipped := 0, failed := 0 })) [] }

/-- CKPT_CONFIG. -/
def execCkptConfig (c : HostCmd) (s : State) : Res := direct cmdCkptConfig c s

/-- CKPT_NOW (R182, R195, R531, R535). -/
def cmdCkptNow : Command :=
  { spec := { op := 0x0803, lenLo := 1, lenHi := 1, async := .may, fields := [slotField] }
    own := fun c s =>
      let n := c.f 8 1
      match s.slotCheck c false (slotTable (some .notFound) none none (some .busy)) with
      | some st => .st s st
      | none =>
        let cfg := (s.ckN n).cfg
        if (s.ckWin n cfg).isNone then .st s .notFound
        else if s.ckBusy n then .st s .busy
        else .wait (s.ckFire n true cfg) (.ckptNow n) }

/-- CKPT_NOW. -/
def execCkptNow (c : HostCmd) (s : State) : Res := direct cmdCkptNow c s

/-- CKPT_RESTORE: `host` holds the window's bytes as read; a failed read gives INVALID_FIELD, and of a host window also
DESC_FAULT, an uncorrectable error DIGEST_MISMATCH (R182, R195, R196, R206, R537, R538). -/
def cmdCkptRestore : Command :=
  { spec := { op := 0x0804, lenLo := 1, lenHi := 1, async := .must, fields := [slotField, rangeField 9 1 0 15] }
    own := fun c s =>
      let n := c.f 8 1
      let key := 16 * c.ctxN + c.f 9 1
      match s.slotCheck c true (slotTable (some .notFound) none (some .busy) (some .busy)) with
      | some st => .st s st
      | none =>
        match lookupN s.ckpt.win key with
        | none => .st s .notFound
        | some w =>
          if s.ckBusy n then .st s .busy
          else match c.host with
            | .data bs =>
              (match s.ckChoose n bs w.half with
               | .ok h => .waitThen (s.ckLoad n h) (.ckptRestore n key) []
                  (fun s => s.finishOne c.mbx c.seq (.ckptRestore n key) .ok (leBytes 4 (leAt h 8 4) ++ leBytes 4 (leAt h 12 4)))
               | .error st => .waitThen s (.ckptRestore n key) [] (fun s => s.finishOne c.mbx c.seq (.ckptRestore n key) st []))
            | .ue => .waitThen s (.ckptRestore n key) [] (fun s => s.finishOne c.mbx c.seq (.ckptRestore n key) .digestMismatch [])
            | _ =>
              let s := match w with | .host _ => s.mbxError c.mbx .descFault | _ => s
              .waitThen s (.ckptRestore n key) [] (fun s => s.finishOne c.mbx c.seq (.ckptRestore n key) .invalidField []) }

/-- CKPT_RESTORE. -/
def execCkptRestore (c : HostCmd) (s : State) : Res := direct cmdCkptRestore c s

/-- CKPT_QUERY (R194). Before the first checkpoint the spec states no NUMBER, FRAME_SEQ, TIME or STATUS: free values. -/
def cmdCkptQuery : Command :=
  { spec := { op := 0x0805, lenLo := 1, lenHi := 1, safe := true, fields := [slotField] }
    own := fun c s =>
      let k := s.ckN (c.f 8 1)
      match s.slotCheck c false (slotTable (some .notFound) none none none) with
      | some st => .st s st
      | none =>
        let tail := zeros 2 ++ leBytes 4 k.skipped.toNat ++ leBytes 4 k.failed.toNat
        match k.last with
        | some (num, fseq, time, st) =>
          .ok s (leBytes 4 num.toNat ++ leBytes 4 fseq.toNat ++ leBytes 8 time.toNat ++ leBytes 2 st.code ++ tail)
        | none =>
          let a := s.free
          .ok { s with free := a + 18 } ((List.range 18).map (fun i => Config.freeByte (a + i)) ++ tail) }

/-- CKPT_QUERY. -/
def execCkptQuery (c : HostCmd) (s : State) : Res := direct cmdCkptQuery c s

end Sys2Proof.Machine
end

