-- ==== Sys2Proof/Machine/Lofin.lean ====
section
/-!
DEFINITION. Lofin Link events and the commands of the Link group (16; 06 R200–R202; 09 R281–R284).
-/
namespace Sys2Proof.Machine
open Sys2Proof

/-! ### Outcomes at the initiator (R491, R494, R500) -/

/-- The running item of an engine that serves this work item. -/
def State.runningFor (s : State) (o : Origin) : Option Nat :=
  (List.range 32).find? (fun e => ((s.engN e).running).any (fun i => i.origin == o))

/-- A work item whose remote read failed is discarded: a job completes with the status, a frame becomes a GAP with
FAULT (R491, R500). -/
def State.workFail (s : State) (by_ : RemoteBy) (st : Status) : State :=
  let cut := fun (s : State) (o : Origin) (other : State → State) =>
    match s.runningFor o with
    | some e => (match (s.engN e).running with | some i => (s.engineDone e).itemDiscard i st | none => s)
    | none => other s
  match by_ with
  | .job id => cut s (.job id) (fun s => match s.mem.jobs.find? (fun j => j.id == id) with
      | some j => ((s.dropQueued (fun i => i.origin == Origin.job id) st).jobDone j st).instCut (64, id)
      | none => s)
  | .frame n seq => cut s (.frame n seq) (fun s => match (s.slotN n).frame? seq with
      | some f => if f.gap.isSome || 8 ≤ f.stage then s else (s.discard n seq .fault).advance n
      | none => s)
  | _ => s

/-- A flush completes with FAILED, or without an answer with a status (R202, R494). -/
def State.flushDone (s : State) (d : Nat) (by_ : RemoteBy) (r : Except Status Nat) : State :=
  match by_, r with
  | .flushCmd m seq, .ok f => s.finishOne m seq (.linkFlush d) .ok (leBytes 4 f)
  | .flushCmd m seq, .error st => s.finishOne m seq (.linkFlush d) st []
  | .ckpt n, .ok f => s.ckFlushed n f
  | .ckpt n, .error st => s.ckEnd n st
  | _, _ => s

/-- Requests held for a WINDOW go out, with WEPOCH 0 when none came; a request whose target no longer has a route fails
with UNREACHABLE (R488, R500). -/
def State.releaseHeld (s : State) (d : Nat) : State :=
  let mine := s.lfn.held.filter (fun h => h.dst == d)
  let s := s.updLofin (fun l => { l with held := l.held.filter (fun h => h.dst != d), query := eraseN l.query d })
  let w := match lookupN s.lfn.known d with | some w => w.epoch.toNat | none => 0
  mine.foldl (fun s h =>
    if s.routeUp d then (if h.pkt.type = 5 then s.flushSend d h.pkt h.by_ else s.sendReq d w h.pkt)
    else if h.pkt.type = 5 then s.flushDone d h.by_ (.error .unreachable)
    else
      let s := match h.pkt.fence with
        | some p => s.pipApply p .poison (BitVec.ofNat 32 Status.unreachable.code)
        | none => s
      if h.pkt.type = 2 then s.workFail h.by_ .unreachable else s) s

/-- One READ_REQ and its entry among the outstanding reads (R491). -/
def State.readSend (s : State) (by_ : RemoteBy) (d ctx offset len : Nat) : State :=
  let t := s.takeTag
  let now := s.clock
  let s := t.2.updLofin (fun l => { l with reads := l.reads ++ [{ tag := t.1, dst := d, by_ := by_, due := now + 3000 }] })
  s.remoteSend d { hdr := mkHdr 2 0 d s.lfn.devId.toNat 0 0 ctx t.1.toNat len (leBytes 4 offset) } by_

/-- The target, context and fence of a request. -/
def RemoteReq.dst : RemoteReq → Nat
  | .write d _ _ _ _ => d | .read d _ _ _ => d | .signal d _ _ _ _ _ => d
/-- The fence pip of a request. -/
def RemoteReq.fence : RemoteReq → Option Nat
  | .write _ _ _ f _ => f | .read _ _ _ _ => none | .signal _ _ _ _ f _ => f
/-- The offset in the target's window; a signal has none. -/
def RemoteReq.offset : RemoteReq → Nat
  | .write _ o _ _ _ => o | .read _ o _ _ => o | .signal _ _ _ _ _ _ => 0
/-- The unit that issues a request: the engine that runs the work, firmware's Hyldo otherwise. -/
def State.remoteUnit (s : State) : RemoteBy → Nat
  | .job id => ((s.runningFor (.job id)).map unitOfEng).getD 0x34
  | .frame n seq => ((s.runningFor (.frame n seq)).map unitOfEng).getD 0x34
  | _ => 0x34
/-- The context a work item serves: its job's or its stream's; firmware's and the checkpoint writer's are items of context
0 (R487). -/
def State.remoteCtx (s : State) : RemoteBy → Nat
  | .job id => ((s.mem.jobs.find? (fun j => j.id == id)).map (·.ctx)).getD 0
  | .frame n _ => (s.slotN n).ctx
  | _ => 0
/-- A request to an address in a window: a write or a read. -/
def RemoteReq.isAccess : RemoteReq → Bool
  | .signal _ _ _ _ _ _ => false | _ => true
/-- A read. -/
def RemoteReq.isRead : RemoteReq → Bool
  | .read _ _ _ _ => true | _ => false

/-- REMOTE_REQUEST_ISSUE: an engine or firmware issues a request to a remote window; with no port up towards the device
it fails with UNREACHABLE. To the device's own ID, or to any window for work of another context than 0, whose pages
never map one, it fails as a translation fault (R211, R219, R284, R483, R487, R488, R500). -/
def execRemoteRequestIssue (by_ : RemoteBy) (req : RemoteReq) (s : State) : Res :=
  whenLive s fun s =>
    let d := req.dst
    if 128 ≤ d then s
    else if (s.lfn.devId != 0x7F && d = s.lfn.devId.toNat) || (req.isAccess && s.remoteCtx by_ != 0) then
      ((s.faultLog (s.remoteUnit by_) Status.notFound.code
        (BitVec.ofNat 32 (bitsOf (0x040000000000 + d * 2 ^ 32 + req.offset) 12 27))).workFail by_ .notFound)
    else if s.lfn.devId = 0x7F || !s.routeUp d then
      let s := match req.fence with
        | some p => s.pipApply p .poison (BitVec.ofNat 32 Status.unreachable.code)
        | none => s
      if req.isRead then s.workFail by_ .unreachable else s
    else match req with
      | .write _ off bs fence ctx =>
        let t := s.takeTag
        t.2.remoteWrite by_ d off bs fence ctx t.1.toNat
      | .read _ off len ctx => (piecesOf off len).foldl (fun s x => s.readSend by_ d ctx x.1 x.2) s
      | .signal _ pip op v fence ctx =>
        let t := s.takeTag
        let rest := leBytes 4 v.toNat ++ zeros 4 ++ leBytes 4 (fence.getD 0) ++ leBytes 3 pip ++ leBytes 1 op
        t.2.remoteSend d { hdr := mkHdr 4 (b2n fence.isSome) d s.lfn.devId.toNat 0 0 ctx t.1.toNat 0 rest } by_

/-! ### Training (R476, R477, R479, R499) -/

/-- The width a port trains to: the widest of 4, 2 and 1 for which enough lanes pass; a lane with a bad line does not
(R476, R518). -/
def trainedWidth (bad : BitVec 8) (lanes : List Nat) : Nat :=
  let ok := (List.range 4).filter (fun l => lanes.contains l && !bad.getLsbD (2 * l) && !bad.getLsbD (2 * l + 1))
  if 4 ≤ ok.length then 4 else if 2 ≤ ok.length then 2 else ok.length

/-- LINK_TRAINING_DONE: training or a retrain succeeds on these lanes; a port that reaches up sends HELLO, and windows are
announced on the routes that come up (R477, R479, R489). -/
def execLinkTrainingDone (p : Fin 4) (lanes : List Nat) (s : State) : Res :=
  whenLive s fun s =>
    let x := s.lfn.port[p]
    let w := trainedWidth x.badLines lanes
    if w = 0 || x.trainDue.isNone then s
    else if x.retraining then
      (s.updLfn p (fun x => { x with retraining := false, trainDue := none, lanes := BitVec.ofNat 3 w })).pump p
    else if x.state == .training then
      let before := s.routesUp
      let s := s.updLfn p (fun x => { x with state := .up, trainDue := none, attempts := 0, lanes := BitVec.ofNat 3 w })
      (s.hello p).routesChanged before
    else s

/-- LINK_TRAINING_TIMEOUT: an attempt has not succeeded in 200 µs: it is repeated, and after three in a row the port has
failed (R477). -/
def execLinkTrainingTimeout (p : Fin 4) (s : State) : Res :=
  whenLive s fun s =>
    let x := s.lfn.port[p]
    let now := s.clock
    if x.state == .training && x.trainDue.any (· ≤ now) then
      if x.attempts + 1 < 3 then s.updLfn p (fun x => { x with attempts := x.attempts + 1, trainDue := some (now + 200) })
      else s.updLfn p (fun x => { x with attempts := 0, trainDue := none, state := .failed })
    else s

/-- RETRAIN_TIMEOUT: a retrain has not succeeded within 200 µs: the link goes down (R479, R499). -/
def execRetrainTimeout (p : Fin 4) (s : State) : Res :=
  whenLive s fun s =>
    let x := s.lfn.port[p]
    let now := s.clock
    if x.retraining && x.trainDue.any (· ≤ now) then s.linkDown p .down else s

/-- LFN_LOSS_OF_LOCK: the receiver has lost lock for 2 µs: the link goes down (R499). -/
def execLfnLossOfLock (p : Fin 4) (s : State) : Res :=
  whenLive s fun s => if s.lfn.port[p].state == .up then s.linkDown p .down else s

/-! ### Flits (R478–R480) -/

/-- Data flits that follow a header. -/
def Packet.dataDue (k : Packet) : Nat :=
  if k.type = 1 then dataFlits k.offset k.len else if k.type = 3 && k.f 24 1 = 0 then dataFlits 0 k.len else 0

/-- A good header or data flit extends the packet being received; a whole packet enters the VC buffer. A READ_RSP does not
carry OFFSET, so a data flit after its last expected one still belongs to it (R481). -/
def LfnPort.assemble (x : LfnPort) (header : Bool) (content : List Byte) : LfnPort :=
  if header then
    let k : Packet := { hdr := content }
    if k.dataDue = 0 then { x with inbox := x.inbox ++ [k], partial_ := none } else { x with partial_ := some (k, k.dataDue) }
  else match x.partial_ with
    | some (k, n) =>
      let k := { k with data := k.data ++ content }
      if n ≤ 1 then { x with inbox := x.inbox ++ [k], partial_ := none } else { x with partial_ := some (k, n - 1) }
    | none =>
      match x.inbox.getLast? with
      | some k => if k.type = 3 then { x with inbox := x.inbox.dropLast ++ [{ k with data := k.data ++ content }] } else x
      | none => x

/-- An ACK releases the flits up to it; whether it made progress (R479). -/
def LfnPort.acked (x : LfnPort) (ack : BitVec 12) : LfnPort × Bool :=
  match x.replay.findIdx? (fun f => f.fseq == ack) with
  | some i => ({ x with replay := x.replay.drop (i + 1), stuck := 0 }, true)
  | none => (x, false)

/-- A link-control flit: ACK, credits, and on NAK a replay of every flit after the last good one; after eight replays
without progress the port retrains (R478, R479). -/
def State.linkControl (s : State) (p : Fin 4) (c : List Byte) : State :=
  let a := s.lfn.port[p].acked (BitVec.ofNat 12 (leAt c 0 2))
  let back := fun (i : Nat) => leAt c (4 + 2 * i) 2
  let s := s.updLfn p (fun _ => { a.1 with credits := a.1.credits.zipIdx.map (fun x => x.1 + back x.2) })
  let s :=
    if leAt c 2 1 = 1 then
      let x := s.lfn.port[p]
      let s := s.updLfn p (fun x => { x with
        replays := satInc x.replays, stuck := if a.2 then 1 else x.stuck + 1, tx := x.tx + BitVec.ofNat 32 x.replay.length })
      let s := x.replay.foldl (fun s f => s.emit (.flit p.val f.fseq.toNat)) s
      if 8 ≤ s.lfn.port[p].stuck then s.retrain p else s
    else s
  s.pump p

/-- A header or data flit with a good CRC: accepted in order, otherwise discarded with every later one until the replay
arrives, and a NAK is due (R479). -/
def State.flitIn (s : State) (p : Fin 4) (header : Bool) (fseq : BitVec 12) (content : List Byte) : State :=
  s.updLfn p (fun x =>
    if fseq = x.lastGood + 1 then
      ({ x with lastGood := fseq, waitReplay := false, nakDue := false, ackDue := true, rx := x.rx + 1 } : LfnPort).assemble header content
    else if x.waitReplay then x
    else { x with waitReplay := true, nakDue := true })

/-- A packet is taken out of the port's buffer, when it is there: its credits are owed (R480). -/
def State.takeIn (s : State) (p : Fin 4) (k : Packet) : State :=
  s.updLfn p (fun x =>
    if x.inbox.contains k then
      { x with inbox := x.inbox.erase k, owed := x.owed.set (vcOf k.type) (x.owed.getD (vcOf k.type) 0 + k.flits) }
    else x)

/-- An uncorrectable error in a VC buffer discards the newest packet that it holds with BAD_PACKET, one in the replay
buffer takes the link down (R498). -/
def State.linkBufUe (s : State) (p : Fin 4) (b : LinkBuf) : State :=
  match b with
  | .replay => s.linkDown p .down
  | .vc =>
    match s.lfn.port[p].inbox.getLast? with
    | some k => (s.takeIn p k).discardPkt p k 8
    | none => s

/-- 36 bytes from the wire: content, link word, CRC-16 (R478, R479). -/
def State.flitFrom (s : State) (p : Fin 4) (flit : List Byte) : State :=
    if crc16 (flit.take 34) ≠ BitVec.ofNat 16 (leAt flit 34 2) then
      s.updLfn p (fun x => { x with crcErr := satInc x.crcErr, waitReplay := true, nakDue := x.nakDue || !x.waitReplay })
    else
      let w := leAt flit 32 2
      let content := flit.take 32
      match bitsOf w 14 2 with
      | 0 => s.flitIn p true (BitVec.ofNat 12 w) content
      | 1 => s.flitIn p false (BitVec.ofNat 12 w) content
      | 2 => s.linkControl p content
      | _ => s

/-- FLIT_RECEIVE: a flit of an up port; `ue` is the buffer in which an uncorrectable error shows (R478, R479, R498). -/
def execFlitReceive (p : Fin 4) (flit : List Byte) (ue : Option LinkBuf) (s : State) : Res :=
  whenLive s fun s =>
    if s.lfn.port[p].state != .up || flit.length ≠ 36 then s
    else
      let s := s.flitFrom p flit
      match ue with
      | some b => s.linkBufUe p b
      | none => s

/-- LINK_CONTROL_FLIT_SEND: what there is to acknowledge, reject or return is sent; credits are held during a retrain
(R478, R479; 16, When things fall together). -/
def execLinkControlFlitSend (p : Fin 4) (s : State) : Res :=
  whenLive s fun s =>
    let x := s.lfn.port[p]
    if x.state != .up || x.retraining || !(x.ackDue || x.nakDue || x.owed.any (· != 0)) then s
    else
      (s.updLfn p (fun x => { x with ackDue := false, nakDue := false, owed := [0, 0, 0] })).emit
        (.linkControl p.val x.lastGood.toNat x.nakDue x.owed)

/-! ### Arriving packets -/

/-- The answer to a READ_REQ: the data, poisoned or not, or a cause (R491). -/
def State.readRsp (s : State) (k : Packet) (cause : Nat) (data : List Byte) (poison : Bool) : State :=
  let len := if k.len = 0 ∨ 256 < k.len then 1 else k.len
  s.sendOwn { hdr := mkHdr 3 (2 * b2n poison) k.src s.lfn.devId.toNat 0 0 k.ctx k.tag.toNat len (zeros 12 ++ leBytes 1 cause)
              data := if cause = 0 then flitData k.offset data else [] }

/-- A bad packet is discarded and counted; a VC0 one is answered (R483, R490, R491). -/
def State.badPacket (s : State) (p : Fin 4) (k : Packet) : State :=
  let s := (s.updLofin (fun l => { l with badPacket := satInc l.badPacket })).discards p 1
  if k.type = 2 && k.dst = s.lfn.devId.toNat then s.readRsp k 8 [] false
  else if vcOf k.type = 0 then s.failVc0 k 8 else s

/-- A packet of this type arrives for this device: while the ID is 0x7F everything but MGMT is discarded and counted;
a bad packet is discarded (R483, R484). -/
def State.arrives (s : State) (p : Fin 4) (k : Packet) (type : Nat) (f : State → State) : State :=
  if !s.lfnUp p.val then s
  else if s.lfn.devId = 0x7F && bitsOf k.type 0 4 ≠ 8 then (s.takeIn p k).discards p 1
  else if k.bad then (s.takeIn p k).badPacket p k
  else if k.type ≠ type then s
  else if type ≠ 8 && k.dst ≠ s.lfn.devId.toNat then s
  else f (s.takeIn p k)

/-- LFN_PACKET_FORWARD: a packet for another device goes on (R484, R485). -/
def execLfnPacketForward (p : Fin 4) (k : Packet) (s : State) : Res :=
  whenLive s fun s =>
    if !s.lfnUp p.val then s
    else if s.lfn.devId = 0x7F && bitsOf k.type 0 4 ≠ 8 then (s.takeIn p k).discards p 1
    else if k.bad then (s.takeIn p k).badPacket p k
    else if k.dst = s.lfn.devId.toNat || (k.type = 8 && k.f 12 1 = 1) then s
    else
      let s := s.takeIn p k
      if k.hops = 0 then s.discardPkt p k 10
      else
        match s.routePort k.dst (some p.val) with
        | none => s.discardPkt p k 9
        | some q => s.queueOut q { k with hdr := hdrPut k.hdr 4 (leBytes 1 (k.hops - 1)) } (some p.val)

/-- CREDIT_WAIT_TIMEOUT: packets that have waited 25 µs at an output port are discarded with CONGESTION (R485). -/
def execCreditWaitTimeout (p : Fin 4) (s : State) : Res :=
  whenLive s fun s =>
    let x := s.lfn.port[p]
    let now := s.clock
    if x.state != .up || x.retraining then s
    else
      let late := fun (o : OutPkt) => decide (o.at_ + 25 ≤ now)
      let gone := (x.q2 ++ x.q1 ++ x.q0).filter late
      let s := s.updLfn p (fun x => { x with q0 := x.q0.filter (fun o => !late o), q1 := x.q1.filter (fun o => !late o)
                                             q2 := x.q2.filter (fun o => !late o) })
      (gone.foldl (fun s o => s.discardPkt p o.pkt 11) s).pump p

/-- P and J of a source and generation (R493). -/
def State.countOf (s : State) (src : Nat) (g : BitVec 8) : GenCount :=
  (s.lfn.counts.find? (fun c => c.src == src && c.gen == g)).getD { src := src, gen := g }

/-- Count a write as performed or failed. -/
def State.countWrite (s : State) (src : Nat) (g : BitVec 8) (ok : Bool) : State :=
  let c := s.countOf src g
  let c := if ok then { c with p := c.p + 1 } else { c with j := c.j + 1 }
  s.updLofin (fun l => { l with counts := l.counts.filter (fun x => !(x.src == src && x.gen == g)) ++ [c] })

/-- Checks 2 to 6 of R490 on a request of `src`: the cause of the first failure, 0 for none. -/
def State.winCheck (s : State) (src wepoch bit off len : Nat) (pipOk : Window → Bool) : Nat × Window :=
  let w := (lookupN s.lfn.win src).getD {}
  (if !w.open_ then 1
   else if wepoch ≠ w.epoch.toNat then 2
   else if !bitOf w.perm.toNat bit || !pipOk w then 3
   else if w.pages * 4096 < off + len then 4
   else if !s.ctxServes w.ctx then 5
   else 0, w)

/-- A checked write of a peer that port `p` delivered is performed, unless it fails to translate or its merge meets an
uncorrectable error; the cause (R219, R239, R490). -/
def State.peerWrite (s : State) (p : Fin 4) (ctx a : Nat) (bs : List Byte) : State × Nat :=
  let r := s.ctxPut (0x2E + p.val) ctx a bs
  (r.1, match r.2 with | none => 0 | some .discardedFault => 7 | some _ => 6)

/-- WRITE_POSTED_ARRIVE: late writes of a closed generation are dropped; another is checked and performed, counted in P
or J, and noticed on a failure (R490, R493–R495). -/
def execWritePostedArrive (p : Fin 4) (k : Packet) (s : State) : Res :=
  whenLive s fun s =>
    s.arrives p k 1 fun s =>
      if (lookupN s.lfn.closed k.src).any (fun g => (g - k.fgen).toNat < 128) then
        s.updLofin (fun l => { l with lateDrop := satInc l.lateDrop })
      else
        let c := s.winCheck k.src k.wepoch 0 k.offset k.len (fun _ => true)
        let r := if c.1 ≠ 0 then (s, c.1) else s.peerWrite p c.2.ctx (c.2.va + k.offset) (k.payload k.offset)
        if r.2 = 0 then r.1.countWrite k.src k.fgen true
        else ((r.1.countWrite k.src k.fgen false).discards p 1).failVc0 k r.2

/-- A request enters the wait of R493. -/
def State.waitCount (s : State) (p : Fin 4) (k : Packet) : State :=
  let now := s.clock
  s.updLofin (fun l => { l with waiting := l.waiting ++ [{ pkt := k, at_ := now, port := p.val }] })

/-- READ_REQ_ARRIVE: it waits for its write count (R491, R493). -/
def execReadReqArrive (p : Fin 4) (k : Packet) (s : State) : Res :=
  whenLive s fun s => s.arrives p k 2 (fun s => s.waitCount p k)

/-- PIP_SIGNAL_PACKET_ARRIVE: it waits for its write count (R281, R493). -/
def execPipSignalPacketArrive (p : Fin 4) (k : Packet) (s : State) : Res :=
  whenLive s fun s => s.arrives p k 4 (fun s => s.waitCount p k)

/-- FLUSH_ARRIVE: it waits for its write count (R493, R494). -/
def execFlushArrive (p : Fin 4) (k : Packet) (s : State) : Res :=
  whenLive s fun s => s.arrives p k 5 (fun s => s.waitCount p k)

/-- A READ_REQ that port `p` delivered is served; data with an uncorrectable error goes back poisoned (R219, R238, R490,
R491). -/
def State.serveRead (s : State) (p : Nat) (k : Packet) : State :=
  let c := s.winCheck k.src k.wepoch 1 k.offset k.len (fun _ => true)
  if c.1 ≠ 0 then s.readRsp k c.1 [] false
  else
    let a := c.2.va + k.offset
    let t := s.reach (0x2E + p) c.2.ctx a k.len false
    if t.2.isSome then t.1.readRsp k 6 [] false
    else
      let x := t.1.spansOf c.2.ctx a k.len
      let ue := x.any (fun y => t.1.readUe y.1 y.2.2)
      let s := x.foldl (fun s y => s.readSense y.1 y.2.2) t.1
      s.readRsp k 0 (x.flatMap (fun y => s.memRead y.1 y.2.2)) ue

/-- A PIP_SIGNAL is served: with a write of its generation missing it is applied as POISON with REMOTE_ERROR (R281, R490,
R493). One that is refused is counted, a POISON of a stage pip among them (R286; 09, Registers). -/
def State.serveSignal (s : State) (k : Packet) : State :=
  let pip := k.f 24 3
  let v : U32 := BitVec.ofNat 32 (k.f 12 4)
  let op := pipOpOf (k.f 27 1)
  let okOp := match op with
    | some o => (o == .add || o == .set || o == .poison) && pipOperandOk o v.toNat
    | none => false
  let c := s.winCheck k.src k.wepoch 2 0 0 (fun w => okOp && w.pipFirst ≤ pip && pip < w.pipFirst + w.pipCount)
  let late := decide ((s.countOf k.src k.fgen).p < k.wcount)
  let stage := 130496 ≤ pip && (late || op == some .poison)
  let cause := if c.1 = 0 && stage then 3 else c.1
  if cause ≠ 0 then
    ({ s with pip := { s.pip with remoteRefused := satInc s.pip.remoteRefused } } : State).failVc0 k cause
  else if late then s.pipApply pip .poison (BitVec.ofNat 32 Status.remoteError.code)
  else match op with
    | some o => s.pipApply pip o v
    | none => s

/-- A FLUSH is served: FAILED counts every write of the generation not performed; the generation is closed (R494). -/
def State.serveFlush (s : State) (k : Packet) : State :=
  let c := s.countOf k.src k.fgen
  let s := s.updLofin (fun l => { l with
    counts := l.counts.filter (fun x => !(x.src == k.src && x.gen == k.fgen)), closed := insertN l.closed k.src k.fgen })
  s.sendOwn { hdr := mkHdr 6 0 k.src s.lfn.devId.toNat 0 k.fgen k.ctx k.tag.toNat 0 (zeros 4 ++ leBytes 4 (k.wcount - c.p)) }

/-- WCOUNT_SERVE: a waiting request is served when P + J ≥ WCOUNT, or when 1 ms has passed (R493). -/
def execWcountServe (k : Packet) (s : State) : Res :=
  whenLive s fun s =>
    match s.lfn.waiting.find? (fun w => w.pkt == k) with
    | none => s
    | some w =>
      let c := s.countOf k.src k.fgen
      if k.wcount ≤ c.p + c.j || w.at_ + 1000 ≤ s.clock then
        let s := s.updLofin (fun l => { l with waiting := l.waiting.erase w })
        if k.type = 2 then s.serveRead w.port k else if k.type = 4 then s.serveSignal k else s.serveFlush k
      else s

/-- READ_RSP_ARRIVE: the read it answers completes; STATUS or POISON fails its work item; one that answers no read is
counted (R491). -/
def execReadRspArrive (p : Fin 4) (k : Packet) (s : State) : Res :=
  whenLive s fun s =>
    s.arrives p k 3 fun s =>
      match s.lfn.reads.find? (fun r => r.tag == k.tag && r.dst == k.src) with
      | none => s.updLofin (fun l => { l with staleRsp := satInc l.staleRsp })
      | some r =>
        let s := s.updLofin (fun l => { l with reads := l.reads.erase r })
        if k.f 24 1 ≠ 0 || bitOf (k.f 1 1) 1 then s.workFail r.by_ .remoteError else s

/-- READ_TIMEOUT: a read without a response for 3 ms fails with UNREACHABLE (R491). -/
def execReadTimeout (tag : BitVec 16) (s : State) : Res :=
  whenLive s fun s =>
    match s.lfn.reads.find? (fun r => r.tag == tag && decide (r.due ≤ s.clock)) with
    | none => s
    | some r => (s.updLofin (fun l => { l with reads := l.reads.erase r })).workFail r.by_ .unreachable

/-- FLUSH_ACK_ARRIVE: the flush completes with FAILED, and the next to that device waits 10 µs (R494). -/
def execFlushAckArrive (p : Fin 4) (k : Packet) (s : State) : Res :=
  whenLive s fun s =>
    s.arrives p k 6 fun s =>
      match s.lfn.flushes.find? (fun f => f.dst == k.src && f.gen == k.fgen) with
      | none => s
      | some f =>
        let now := s.clock
        (s.updLofin (fun l => { l with flushes := l.flushes.erase f, spacing := insertN l.spacing k.src (now + 10) })).flushDone
          k.src f.by_ (.ok (k.f 16 4))

/-- FLUSH_ACK_TIMEOUT: a FLUSH without a FLUSH_ACK for 3 ms completes with UNREACHABLE (R494). -/
def execFlushAckTimeout (dst : Nat) (s : State) : Res :=
  whenLive s fun s =>
    match s.lfn.flushes.find? (fun f => f.dst == dst && decide (f.due ≤ s.clock)) with
    | none => s
    | some f => (s.updLofin (fun l => { l with flushes := l.flushes.erase f })).flushDone dst f.by_ (.error .unreachable)

/-- FLUSH_SPACING_END: 10 µs after a FLUSH_ACK a waiting FLUSH to that device is sent (R494). -/
def execFlushSpacingEnd (dst : Nat) (s : State) : Res :=
  whenLive s fun s =>
    if (lookupN s.lfn.spacing dst).any (· ≤ s.clock) then
      let s := s.updLofin (fun l => { l with spacing := eraseN l.spacing dst })
      match s.lfn.flushWait.find? (fun w => w.dst == dst) with
      | none => s
      | some w =>
        let s := s.updLofin (fun l => { l with flushWait := l.flushWait.erase w })
        if s.routeUp dst then
          let t := s.takeTag
          t.2.remoteFlush w.by_ dst 0 t.1.toNat
        else s.flushDone dst w.by_ (.error .unreachable)
    else s

/-- ERR_NOTICE_ARRIVE: ring entry, REMOTE_ERR, fence pip; EPOCH_MISMATCH queries the window; a FLUSH refused as bad
completes with REMOTE_ERROR (R490, R496). -/
def execErrNoticeArrive (p : Fin 4) (k : Packet) (s : State) : Res :=
  whenLive s fun s =>
    s.arrives p k 7 fun s =>
      let cause := k.f 24 1
      let target := k.f 26 1
      let s := s.noticed { reporter := k.src, target := target, cause := cause, type := k.f 25 1, tag := k.tag.toNat, ctx := k.ctx,
                           local_ := false, fence := if k.fenceValid then some (k.f 20 4) else none, count := k.f 16 4, offset := k.f 12 4 }
      let now := s.clock
      let s := if cause = 2 then
          (s.updLofin (fun l => { l with query := insertN l.query target (now + 100) })).sendOwn (s.mgmt target 0 3 [])
        else s
      if k.f 25 1 = 5 && cause = 8 then
        match s.lfn.flushes.find? (fun f => f.dst == target) with
        | some f => (s.updLofin (fun l => { l with flushes := l.flushes.erase f })).flushDone target f.by_ (.error .remoteError)
        | none => s
      else s

/-- ERR_NOTICE_SEND: the oldest waiting notice is sent (R495). -/
def execErrNoticeSend (s : State) : Res :=
  whenLive s fun s =>
    match s.lfn.noticeQ with
    | [] => s
    | n :: rest =>
      let k : Packet := { hdr := n.hdr }
      let tail := leBytes 4 k.noticeOffset ++ leBytes 4 n.count ++ leBytes 4 (k.fence.getD 0) ++ leBytes 1 n.cause
        ++ leBytes 1 k.type ++ leBytes 1 k.dst
      let s := s.updLofin (fun l => { l with noticeQ := rest, notices := l.notices + 1 })
      s.sendOwn { hdr := mkHdr 7 (b2n k.fence.isSome) k.src s.lfn.devId.toNat 0 0 k.ctx k.tag.toNat 0 tail }

/-- HELLO_ARRIVE: the port records the neighbour's ID (R484). -/
def execHelloArrive (p : Fin 4) (k : Packet) (s : State) : Res :=
  whenLive s fun s =>
    s.arrives p k 8 fun s =>
      if k.f 12 1 = 1 then s.updLfn p (fun x => { x with peer := BitVec.ofNat 7 k.src }) else s

/-- WINDOW_ARRIVE: the peer's window is known, and requests held for it go out (R488, R489). -/
def execWindowArrive (p : Fin 4) (k : Packet) (s : State) : Res :=
  whenLive s fun s =>
    s.arrives p k 8 fun s =>
      if k.f 12 1 = 2 && k.dst = s.lfn.devId.toNat then
        let w : PeerWin := { epoch := BitVec.ofNat 8 k.wepoch, perm := BitVec.ofNat 8 (k.f 13 1), pages := k.f 16 4
                             pipFirst := k.f 20 4, pipCount := k.f 24 2 }
        let s := if s.routeUp k.src then s.updLofin (fun l => { l with known := insertN l.known k.src w }) else s
        s.releaseHeld k.src
      else s

/-- WINDOW_QUERY_ARRIVE: it is answered with WINDOW (R489). -/
def execWindowQueryArrive (p : Fin 4) (k : Packet) (s : State) : Res :=
  whenLive s fun s =>
    s.arrives p k 8 fun s => if k.f 12 1 = 3 && k.dst = s.lfn.devId.toNat then s.sendWindow k.src else s

/-- WINDOW_QUERY_TIMEOUT: requests held for 100 µs go out with WEPOCH 0 (R488). -/
def execWindowQueryTimeout (dst : Nat) (s : State) : Res :=
  whenLive s fun s => if (lookupN s.lfn.query dst).any (· ≤ s.clock) then s.releaseHeld dst else s

/-- CONSUMER is to be read: an entry waits for it, or REMOTE_ERR is 1 and 100 µs have passed (R497). -/
def State.rerReads (s : State) : Bool :=
  s.lfn.rer.isSome && s.canRequest
    && (!s.lfn.rerHeld.isEmpty || (s.lfn.remoteErr && s.lfn.rerDue.all (· ≤ s.clock)))

/-- CONSUMER reads as `c`: REMOTE_ERR falls when it equals PRODUCER; then the entries that waited for it are written or
dropped, which sets REMOTE_ERR again (R497). -/
def State.rerRead (s : State) (c : U32) : State :=
  let s := s.updLofin (fun l => { l with consumer := c, remoteErr := l.remoteErr && c != l.producer })
  let held := s.lfn.rerHeld
  let p := s.lfn.producer
  let s := s.rerDrain held true
  let s := if s.lfn.producer != p then s.raising (·.updLofin (fun l => { l with remoteErr := true })) else s
  s.updLofin (fun l => { l with rerDue := if l.remoteErr then some (s.clock + 100) else none })

/-- RER_CONSUMER_POLL: the device reads CONSUMER; a failed read leaves all as it is and is made again 100 µs later
(R497). -/
def execRerConsumerPoll (consumer : Option U32) (s : State) : Res :=
  whenLive s fun s =>
    if s.rerReads then
      match consumer with
      | some c => s.rerRead c
      | none => s.updLofin (fun l => { l with rerDue := some (s.clock + 100) })
    else s

/-! ### Commands (06, Link group) -/

/-- LINK_ID (R200, R484). -/
def cmdLinkId : Command :=
  { spec := { op := 0x0A01, lenLo := 1, lenHi := 1, m0 := true, fields := [rangeField 8 1 0 126] }
    own := fun c s =>
      if s.lfn.win.any (fun w => w.2.open_) ||
          !s.lfn.flushes.isEmpty || !s.lfn.flushWait.isEmpty || s.lfn.held.any (fun h => h.pkt.type == 5) then .st s .busy
      else
        let before := s.routesUp
        let s := s.updLofin (fun l => { l with devId := BitVec.ofNat 7 (c.f 8 1) })
        let s := (List.finRange 4).foldl (fun s p => if s.lfnUp p.val then s.hello p else s) s
        .ok (s.routesChanged before) [] }

/-- LINK_ID. -/
def execLinkId (c : HostCmd) (s : State) : Res := direct cmdLinkId c s

/-- LINK_PORT OP 1 (R477, R519). -/
def State.portUp (s : State) (p : Fin 4) : State :=
  let now := s.clock
  let s := s.updLfn p (fun x => { x with wantUp := true })
  if s.lfnUp p.val || !s.unitLive (0x2E + p.val) then s
  else
    let s := if h : p.val < 2 then
        let t : Fin 2 := ⟨p.val, h⟩
        if !s.optical p.val || !s.unitLive (0x32 + p.val) || s.ltn[t].state == .locked then s
        else s.updLtn t (fun t => if t.state == .off then t.toCal now (some now) else { t with upAt := some now })
      else s
    s.trainStart p

/-- Lines without a working ring (R523). -/
def faultyLines (t : Ltn) : BitVec 8 :=
  (List.finRange 16).foldl (fun m r => if t.ring[r].faulty then m ||| (1#8 <<< (r.val % 8)) else m) 0

/-- LINK_PORT OP 2 (R499, R519). -/
def State.portDown (s : State) (p : Fin 4) : State :=
  let s := (s.updLfn p (fun x => { x with wantUp := false })).linkDown p .down
  if h : p.val < 2 then
    if s.optical p.val then
      let s := s.updLtn ⟨p.val, h⟩ Ltn.toOff
      s.updLfn p (fun x => { x with badLines := faultyLines s.ltn[(⟨p.val, h⟩ : Fin 2)] })
    else s
  else s

/-- LINK_PORT (R477, R499, R519). -/
def cmdLinkPort : Command :=
  { spec := { op := 0x0A02, lenLo := 1, lenHi := 1, m0 := true, safe := true, fields := [rangeField 8 1 0 3, rangeField 9 1 0 2] }
    own := fun c s =>
      let p : Fin 4 := ⟨c.f 8 1 % 4, Nat.mod_lt _ (by decide)⟩
      let s := if c.f 9 1 = 1 then s.portUp p else if c.f 9 1 = 2 then s.portDown p else s
      let x := s.lfn.port[p]
      .ok s (zeros 1 ++ leBytes 1 x.state.code ++ leBytes 1 x.lanes.toNat ++ leBytes 1 x.peer.toNat) }

/-- LINK_PORT. -/
def execLinkPort (c : HostCmd) (s : State) : Res := direct cmdLinkPort c s

/-- LINK_ROUTE (R200, R485). -/
def cmdLinkRoute : Command :=
  { spec := { op := 0x0A03, lenLo := 7, lenHi := 7, m0 := true, listAt := some (10, 9),
              fields := [rangeField 8 1 0 127, rangeField 9 1 1 46] ++
                (List.range 46).map (fun i => { off := 10 + i, size := 1, resv := 0xF0 }) }
    own := fun c s =>
      let first := c.f 8 1
      let n := c.f 9 1
      if 128 < first + n then .st s .invalidField
      else
        let before := s.routesUp
        let s := s.updLofin (fun l => { l with route := l.route.mapIdx (fun d m =>
          if first ≤ d ∧ d < first + n then BitVec.ofNat 4 (c.f (10 + (d - first)) 1) else m) })
        .ok (s.routesChanged before) [] }

/-- LINK_ROUTE. -/
def execLinkRoute (c : HostCmd) (s : State) : Res := direct cmdLinkRoute c s

/-- The next window epoch: 1 to 255, then 1 (R489). -/
def nextEpoch (e : BitVec 8) : BitVec 8 := if e = 255 then 1 else e + 1

/-- LINK_EXPORT (R201, R489). -/
def cmdLinkExport : Command :=
  { spec := { op := 0x0A04, lenLo := 3, lenHi := 3, m0 := true,
              fields := [rangeField 8 1 0 126, { off := 9, size := 1, resv := 0xF8 }, rangeField 10 2 0 63, rangeField 12 4 1 1048576,
                anyField 16 8, rangeField 24 4 0 131071, rangeField 28 4 0 4096] }
    own := fun c s =>
      let d := c.f 8 1
      let x := c.f 10 2
      let old := (lookupN s.lfn.win d).getD {}
      if c.f 9 1 = 0 then
        if old.open_ then
          let w := { old with open_ := false, perm := 0, epoch := nextEpoch old.epoch }
          .ok ((s.updLofin (fun l => { l with win := insertN l.win d w })).sendWindow d) []
        else .ok s []
      else if !s.ctxLive x || !s.mapped x (c.f 16 8) (4096 * c.f 12 4)
          || (List.range (c.f 28 4)).any (fun i => !s.ownPip x (c.f 24 4 + i)) then .st s .notFound
      else
        let w : Window := { open_ := true, perm := BitVec.ofNat 8 (c.f 9 1), ctx := x, pages := c.f 12 4, va := c.f 16 8
                            pipFirst := c.f 24 4, pipCount := c.f 28 4, epoch := nextEpoch old.epoch }
        .ok ((s.updLofin (fun l => { l with win := insertN l.win d w })).sendWindow d) [] }

/-- LINK_EXPORT. -/
def execLinkExport (c : HostCmd) (s : State) : Res := direct cmdLinkExport c s

/-- LINK_FLUSH (R202, R494, R500). -/
def cmdLinkFlush : Command :=
  { spec := { op := 0x0A05, lenLo := 1, lenHi := 1, m0 := true, async := .must, safe := true, fields := [rangeField 8 1 0 126] }
    own := fun c s =>
      let d := c.f 8 1
      if s.lfn.devId = 0x7F || !s.routeUp d then .st s .unreachable
      else if !(s.flushers d).isEmpty then .st s .busy
      else
        .waitThen s (.linkFlush d) [] (fun s =>
          let t := s.takeTag
          t.2.remoteFlush (.flushCmd c.mbx c.seq) d 0 t.1.toNat) }

/-- LINK_FLUSH. -/
def execLinkFlush (c : HostCmd) (s : State) : Res := direct cmdLinkFlush c s

/-- LINK_ERR_RING (R202, R497). -/
def cmdLinkErrRing : Command :=
  { spec := { op := 0x0A06, lenLo := 2, lenHi := 2, m0 := true, fields := [anyField 8 8, rangeField 16 1 4 12] }
    own := fun c s =>
      if c.f 8 8 % 4096 ≠ 0 then .st s .invalidField
      else if s.lfn.rer.isSome && s.lfn.producer != s.lfn.consumer then .st s .busy
      else
        .ok (s.updLofin (fun l => { l with
          rer := some (BitVec.ofNat 64 (c.f 8 8), c.f 16 1), producer := 0, consumer := 0, dropped := 0, rerHeld := [] })) [] }

/-- LINK_ERR_RING. -/
def execLinkErrRing (c : HostCmd) (s : State) : Res := direct cmdLinkErrRing c s

end Sys2Proof.Machine
end

