-- ==== Sys2Proof/Machine/Lantern.lean ====
section
/-!
DEFINITION. Lantern optical ports: lock loop, ranges, acquisition, relock, loss of light, faults (17).
-/
namespace Sys2Proof.Machine
open Sys2Proof

/-- Chain index: 0 TX, 1 RX. -/
def chainIx (rx : Bool) : Fin 2 := if rx then 1 else 0

/-- Ring `i` of a chain: 0–7 on the TX bus, 8–15 on the RX bus. -/
def ringIx (rx : Bool) (i : Fin 8) : Fin 16 := if rx then ⟨8 + i.val, by omega⟩ else ⟨i.val, by omega⟩

/-- The rings of a chain. -/
def ringsOf (rx : Bool) : List (Fin 16) := (List.finRange 8).map (ringIx rx)

/-- Change a chain. -/
def Ltn.updChain (t : Ltn) (rx : Bool) (f : Chain → Chain) : Ltn := { t with chain := updAt t.chain (chainIx rx) f }

/-- Change a ring. -/
def Ltn.updRing (t : Ltn) (r : Fin 16) (f : Ring → Ring) : Ltn := { t with ring := updAt t.ring r f }

/-- The Lofin port that a Lantern port carries. -/
def lfnOf (t : Fin 2) : Fin 4 := ⟨t.val, by omega⟩

/-! ### The loop (R505, R508–R510) -/

/-- Line spacing of 0.2 THz at the line of ring `r`, in units of 0.1 pm, as numerator and denominator (R503, R508):
c × 0.2 THz / f². -/
def spacingOf (r : Nat) : Nat × Nat := (59958491600, (2286 + 2 * (r % 8)) ^ 2)

/-- d = e × ν / S in units of 0.1 pm, as numerator and denominator, the latter positive (R508). -/
def detuneOf (r : Nat) (x : Ring) (y : Int) : Int × Nat :=
  let e := y - x.target
  let s := signed 32 x.slope.toNat
  let sp := spacingOf r
  ((if s < 0 then -e else e) * sp.1, s.natAbs * x.codes * sp.2)

/-- DETUNE: d rounded to 0.1 pm, saturating at ±32,767. -/
def detuneReg (d : Int × Nat) : BitVec 16 := BitVec.ofInt 16 (clampInt (-32767) 32767 (roundHalfUp d.1 (max 1 d.2)))

/-- In the lock window: |d| ≤ 0.08 nm (R509). -/
def inWindow (d : Int × Nat) : Bool := decide (d.1.natAbs ≤ 800 * d.2) && d.2 != 0

/-- The new heater code (R508). -/
def heaterNext (gain : Nat) (x : Ring) (y : Int) : BitVec 14 :=
  let e := y - x.target
  let s := signed 32 x.slope.toNat
  let step := roundHalfUp ((if s < 0 then -e else e) * gain) (16 * max 1 s.natAbs)
  BitVec.ofInt 14 (clampInt 0 16383 ((x.heater.toNat : Int) - step))

/-- One ring's loop at the end of an interval of `tint` dither periods (R508). -/
def Ring.loop (x : Ring) (r gain tint : Nat) (y : Int) : Ring :=
  let d := detuneOf r x y
  { x with heater := heaterNext gain x y, detune := detuneReg d, good := if inWindow d then x.good + tint else 0 }

/-- LTN_LIMIT follows the heater codes (R510). -/
def Ltn.limits (t : Ltn) : Ltn :=
  { t with limit := BitVec.ofNat 16 (((List.finRange 16).filter (fun r =>
      !t.ring[r].faulty && t.ring[r].slope != 0 && (t.ring[r].heater == 0 || t.ring[r].heater == 16383))).foldl
        (fun m r => m + 2 ^ r.val) 0) }

/-! ### Lock, unlock, faults -/

/-- Every working ring of the port is locked. -/
def Ltn.allLocked (t : Ltn) : Bool := t.ring.toList.all (fun r => r.locked || r.faulty)

/-- A line of the port goes bad: the Lofin port retrains without its lane (R518). -/
def State.lineBad (s : State) (t : Fin 2) (r : Fin 16) : State :=
  (s.updLfn (lfnOf t) (fun x => { x with badLines := x.badLines ||| (1#8 <<< (r.val % 8)) })).retrain (lfnOf t)

/-- A ring is declared unlocked and begins to relock (R509, R518). -/
def State.ringUnlock (s : State) (t : Fin 2) (r : Fin 16) : State :=
  let now := s.clock
  (s.updLtn t (fun x => { x.updRing r (fun g => { g with locked := false, relock := .hold 0, good := 0, unlockedAt := now }) with
    unlocks := satInc x.unlocks })).lineBad t r

/-- A ring has relocked; with every ring locked the Lofin port retrains at full width (R518). -/
def State.ringRelocked (s : State) (t : Fin 2) (r : Fin 16) : State :=
  let s := s.updLtn t (fun x => { x.updRing r (fun g => { g with locked := true, relock := .none }) with relocks := x.relocks + 1 })
  if s.ltn[t].allLocked then
    let bad := faultyLines s.ltn[t]
    (s.updLfn (lfnOf t) (fun x => { x with badLines := bad })).retrain (lfnOf t)
  else s

/-- The port is LOCKED: its Lofin port trains when it is to be up (R477, R519). -/
def State.ltnLock (s : State) (t : Fin 2) : State :=
  let s := s.updLtn t (fun x => { x with
    state := .locked, warm := none, upAt := none
    ring := x.ring.map (fun r => { r with locked := !r.faulty, relock := .none })
    chain := x.chain.map (fun c => { c with phase := .locked, sinceChange := none }) })
  let bad := faultyLines s.ltn[t]
  let s := s.updLfn (lfnOf t) (fun x => { x with badLines := bad })
  if s.lfn.port[lfnOf t].wantUp then s.trainStart (lfnOf t) else s

/-- The port goes to FAULT; a link that is up goes down (R517, R518, R524, R526). -/
def State.ltnFault (s : State) (t : Fin 2) (c : LtnCause) : State :=
  let s := s.updLtn t (fun x => { x with state := .fault, cause := c, warm := none })
  if s.lfnUp t.val then s.linkDown (lfnOf t) .down else s

/-- LTN_CAL_DONE: after 4 ms of CAL the ratios are stored and the port enters ACQUIRE; one outside ±10 % of nominal is a fault of the
monitor (R507, R515, R524). -/
def execLtnCalDone (t : Fin 2) (ratios : Vector U32 6) (s : State) : Res :=
  whenLive s fun s =>
    if s.ltn[t].state != .cal || s.clock < s.ltn[t].calAt + 4000 then s
    else
      let now := s.clock
      let nominal := [64, 16, 4, 64, 16, 4].map (· * 65536)
      let ok := (ratios.toList.zip nominal).all (fun x => 9 * x.2 ≤ 10 * x.1.toNat && 10 * x.1.toNat ≤ 11 * x.2)
      let s := s.updLtn t (fun x =>
        (x.updChain false (fun c => { c with ratio := Vector.ofFn (fun j : Fin 3 => ratios.toList.getD j.val 0) })).updChain true
          (fun c => { c with ratio := Vector.ofFn (fun j : Fin 3 => ratios.toList.getD (3 + j.val) 0) }))
      if ok then s.updLtn t (fun x => { x with state := .acquire, acquireAt := now })
      else
        let f := s.takeFree
        (f.2.ltnFault t .monitor).faultLog (0x32 + t.val) (Config.freeNat f.1 % 65536) (BitVec.ofNat 32 LtnCause.monitor.code)

/-! ### Acquisition (R516, R517) -/

/-- The millisecond of device time (R506). -/
def State.ditherMs (s : State) : Nat := s.devTime.toNat / 1000000

/-- The millisecond of device time of the next dither-period boundary, this one if it is now (R506). -/
def State.ditherNext (s : State) : Nat := (s.devTime.toNat + 999999) / 1000000

/-- The first ring from `i` on of a chain that has a working heater. -/
def Ltn.nextRing (t : Ltn) (rx : Bool) (i : Nat) : Option Nat :=
  (List.range 8).find? (fun k => i ≤ k && !((t.ring.toList.getD (k + if rx then 8 else 0) {}).faulty))

/-- The heaters of a chain's working rings take these codes. -/
def Ltn.heat (t : Ltn) (rx : Bool) (code : Ring → BitVec 14) : Ltn :=
  (ringsOf rx).foldl (fun t r => t.updRing r (fun g => if g.faulty then g else { g with heater := code g })) t

/-- A chain sweeps ring `i` next with every ring of the bus at code 0, its first dwell beginning at clock `now`; or, all
swept, its rings take their targets and it goes to fine lock, its first interval beginning at boundary `ms` (R516). -/
def Ltn.sweepFrom (t : Ltn) (rx : Bool) (i now ms : Nat) : Ltn :=
  match t.nextRing rx i with
  | some k => (t.heat rx (fun _ => 0)).updChain rx (fun c => { c with phase := .sweep k 0, dwellAt := now })
  | none => ((t.heat rx Ring.rest).updChain rx (fun c => { c with phase := .fine, frozen := false, again := false, since := ms })).limits

/-- LTN_LIGHT_QUALIFIED: a chain of a port in ACQUIRE has had light for 100 µs: its sweeps begin (R516). -/
def execLtnLightQualified (t : Fin 2) (rx : Bool) (s : State) : Res :=
  whenLive s fun s =>
    let x := s.ltn[t]
    let since := s.clock - 100
    if x.state == .acquire && x.chain[chainIx rx].phase == .idle then
      s.updLtn t (fun x => (x.updChain rx (fun c => { c with qualifiedAt := some since })).sweepFrom rx 0 s.clock s.ditherNext)
    else s

/-- What a sweep leaves in a ring; Y is 0 for a drop filter (R508, R516). -/
def Ring.found (x : Ring) (rx : Bool) (f : SweepFound) : Ring :=
  { x with heater := f.d, rest := f.d, slope := f.slope, codes := f.codes, target := if rx then 0 else f.y, good := 0 }

/-- A range change between two dwells of a sweep: no blanking, and the dwell that follows is repeated (R516). -/
def Ltn.sweepRange (t : Ltn) (rx : Bool) (r : BitVec 2) : Ltn :=
  if r = t.chain[chainIx rx].range then t.updChain rx (fun c => { c with request := none })
  else { t.updChain rx (fun c => { c with range := r, request := none, again := true }) with switches := t.switches + 1 }

/-- The range after a dwell whose largest raw sample is `raw`: one lower where it exceeds 58,982, which in range 0 sets
OVERLOAD; else the one requested (R512, R516). -/
def Ltn.dwellRange (t : Ltn) (rx : Bool) (raw : Nat) : Ltn :=
  let c := t.chain[chainIx rx]
  let t := if 58982 < raw && c.range == 0 then { t with overload := true } else t
  if 58982 < raw && c.range != 0 && t.autoRange then t.sweepRange rx (c.range - 1)
  else match c.request with
    | some r => t.sweepRange rx r
    | none => t

/-- A swept ring's code at step `k`. -/
def sweepCode (k : Nat) : BitVec 14 := BitVec.ofNat 14 (32 * k)

/-- A dwell of ACQUIRE ended, of ring `i` at step `k`: the next step; after 512 of them the ring takes what its sweep
found, or the port goes to FAULT (R516, R517). -/
def State.acquireDwell (s : State) (t : Fin 2) (rx : Bool) (i : Fin 8) (k : Nat) (found : Option SweepFound) : State :=
  let r := ringIx rx i
  if k + 1 < 512 then
    s.updLtn t (fun x => (x.updRing r (fun g => { g with heater := sweepCode (k + 1) })).updChain rx
      (fun c => { c with phase := .sweep i.val (k + 1) }))
  else match found with
    | some f => s.updLtn t (fun x => (x.updRing r (·.found rx f)).sweepFrom rx (i.val + 1) s.clock s.ditherNext)
    | none => s.ltnFault t .acquire

/-- A dwell of a ring's sweep of its own ended (R518). -/
def State.relockDwell (s : State) (t : Fin 2) (rx : Bool) (r : Fin 16) (k : Nat) (found : Option SweepFound) : State :=
  if k + 1 < 512 then
    s.updLtn t (fun x => x.updRing r (fun g => { g with heater := sweepCode (k + 1), relock := .sweep (k + 1) }))
  else match found with
    | some f => s.updLtn t (fun x => (x.updRing r (fun g => { g.found rx f with relock := .fine })).limits)
    | none => s.ltnFault t .ring

/-- The step of a ring's own sweep. -/
def Ring.sweepStep (x : Ring) : Option Nat :=
  match x.relock with
  | .sweep k => some k
  | _ => none

/-- LTN_SWEEP_DWELL_END: a dwell of 10 µs ends; the one after a change of range is repeated (R516–R518). -/
def execLtnSweepDwellEnd (t : Fin 2) (rx : Bool) (raw : Nat) (found : Option SweepFound) (s : State) : Res :=
  whenLive s fun s =>
    let x := s.ltn[t]
    let c := x.chain[chainIx rx]
    if s.clock < c.dwellAt + 10 then s
    else match x.state, c.phase with
    | .acquire, .sweep i k =>
      if h : i < 8 then
        let now := s.clock
        let s := s.updLtn t (fun x => (x.updChain rx (fun c => { c with again := false, dwellAt := now })).dwellRange rx raw)
        if c.again then s else s.acquireDwell t rx ⟨i, h⟩ k found
      else s
    | .locked, _ =>
      (match (ringsOf rx).find? (fun r => x.ring[r].sweepStep.isSome) with
       | none => s
       | some r =>
         let now := s.clock
         let s := s.updLtn t (fun x => x.updChain rx (fun c => { c with dwellAt := now }))
         s.relockDwell t rx r (x.ring[r].sweepStep.getD 0) found)
    | _, _ => s

/-- LTN_ACQUIRE_TIMEOUT: a chain has not locked within 75 ms of its light and of ACQUIRE (R517). -/
def execLtnAcquireTimeout (t : Fin 2) (s : State) : Res :=
  whenLive s fun s =>
    let x := s.ltn[t]
    let late := x.chain.toList.any (fun c => c.phase != .locked &&
      c.qualifiedAt.any (fun q => decide (max q x.acquireAt + 75000 ≤ s.clock)))
    if x.state == .acquire && late then s.ltnFault t .acquire else s

/-! ### Integration intervals (R508, R509, R514, R516, R518, R522) -/

/-- Dither periods of an interval. -/
def Ltn.tint (t : Ltn) : Nat := if t.tint10 then 10 else 1

/-- A chain in fine lock is locked when every working ring has been in its window for 10 consecutive periods. -/
def Ltn.chainGood (t : Ltn) (rx : Bool) : Bool := (ringsOf rx).all (fun r => t.ring[r].faulty || 10 ≤ t.ring[r].good)

/-- One ring of a locked port at the end of an interval: `judged` says that its window counts (R514). -/
def State.ringInterval (s : State) (t : Fin 2) (r : Fin 16) (y : Int) (judged : Bool) : State :=
  let x := s.ltn[t]
  let g := x.ring[r]
  if g.faulty then s
  else match g.relock with
    | .sweep _ => s
    | .none =>
      let s := s.updLtn t (fun x => x.updRing r (·.loop r.val x.gain.toNat x.tint y))
      if judged && g.locked && !inWindow (detuneOf r.val g y) then s.ringUnlock t r else s
    | .hold n =>
      let m := n + x.tint
      let s := s.updLtn t (fun x => x.updRing r (fun g => { g.loop r.val x.gain.toNat x.tint y with relock := .hold m }))
      if m < 20 then s
      else if inWindow (detuneOf r.val g y) then s.ringRelocked t r
      else
        let now := s.clock
        let rx := decide (8 ≤ r.val)
        s.updLtn t (fun x => (x.updRing r (fun g => { g with relock := .sweep 0, heater := 0 })).updChain rx (fun c =>
          { c with dwellAt := if (ringsOf rx).any (fun q => x.ring[q].sweepStep.isSome) then c.dwellAt else now }))
    | .fine =>
      let s := s.updLtn t (fun x => x.updRing r (·.loop r.val x.gain.toNat x.tint y))
      if 10 ≤ s.ltn[t].ring[r].good then s.ringRelocked t r else s

/-- The loops of a chain that is not yet locked run. -/
def State.fineInterval (s : State) (t : Fin 2) (rx : Bool) (y : Vector Int 8) : State :=
  s.updLtn t (fun x => ((List.finRange 8).foldl (fun x i =>
    let r := ringIx rx i
    if x.ring[r].faulty then x else x.updRing r (·.loop r.val x.gain.toNat (if x.state == .dark then x.tint else 1) y[i])) x))

/-- Chain rings whose S is 0 have no stated result (R508 divides by it): code and detuning are free values. -/
def State.slopeless (s : State) (t : Fin 2) (rx : Bool) : State :=
  (ringsOf rx).foldl (fun s r =>
    let g := s.ltn[t].ring[r]
    if g.slope != 0 && g.codes != 0 || g.faulty || (match g.relock with | .sweep _ => true | _ => false) then s
    else
      let f := s.takeFree
      f.2.updLtn t (fun x => x.updRing r (fun g => { g with
        heater := (Config.freeWord f.1).setWidth 14, detune := ((Config.freeWord f.1) >>> 16).setWidth 16 }))) s

/-- An integration interval of a chain ends: its dither periods have passed since it began; an interval that begins
later than the next boundary, device time having stepped back, ends too (R506, R508). -/
def State.intervalOver (s : State) (t : Fin 2) (rx : Bool) : Bool :=
  let x := s.ltn[t]
  let since := x.chain[chainIx rx].since
  since + (if x.state == .acquire then 1 else x.tint) ≤ s.ditherMs || s.ditherNext < since

/-- LTN_INTEGRATION_END: an interval of a chain ends with these lock-in results; a frozen chain's result is discarded
(R508, R509, R513, R514, R516, R518, R522). -/
def execLtnIntegrationEnd (t : Fin 2) (rx : Bool) (y : Vector Int 8) (peak : Nat) (overload : Bool) (s : State) : Res :=
  whenLive s fun s =>
    if !s.intervalOver t rx then s else
    let x := s.ltn[t]
    let c := x.chain[chainIx rx]
    let ms := s.ditherMs
    let s := s.updLtn t (fun x => x.updChain rx (fun c => { c with since := ms }))
    let tooMuch := overload || (58982 < peak && c.range == 0)
    let s := if tooMuch then s.updLtn t (fun x => { x with overload := true }) else s
    if c.frozen then s
    else match x.state, c.phase with
      | .acquire, .fine =>
        let s := s.fineInterval t rx y
        let s := (s.slopeless t rx).updLtn t Ltn.limits
        if s.ltn[t].chainGood rx then
          let s := s.updLtn t (fun x => x.updChain rx (fun c => { c with phase := .locked }))
          if s.ltn[t].chain.toList.all (fun c => c.phase == .locked) then s.ltnLock t else s
        else s
      | .acquire, .locked => ((s.fineInterval t rx y).slopeless t rx).updLtn t Ltn.limits
      | .locked, _ =>
        let judged := c.sinceChange != some 1
        let s := (List.finRange 8).foldl (fun s i => s.ringInterval t (ringIx rx i) y[i] judged) s
        let s := (s.slopeless t rx).updLtn t Ltn.limits
        s.updLtn t (fun x => x.updChain rx (fun c => { c with
          sinceChange := if c.sinceChange == some 1 then some 2 else none }))
      | .dark, _ =>
        if x.warm.isNone then s
        else
          let s := s.fineInterval t rx y
          let s := (s.slopeless t rx).updLtn t Ltn.limits
          if s.ltn[t].chainGood false && s.ltn[t].chainGood true then
            (s.updLtn t (fun x => { x with relocks := x.relocks + 1 })).ltnLock t
          else s
      | _, _ => s

/-! ### Gain ranges (R512–R514) -/

/-- The loops of a chain run: fine lock, locked, warm relock. -/
def Ltn.runs (t : Ltn) (rx : Bool) : Bool :=
  match t.state, t.chain[chainIx rx].phase with
  | .acquire, .fine => true
  | .acquire, .locked => true
  | .locked, _ => true
  | .dark, _ => t.warm.isSome
  | _, _ => false

/-- The range a chain asks for at the end of a dither period whose largest raw sample is `peak` (R512). -/
def Ltn.wanted (t : Ltn) (rx : Bool) (peak : Nat) : Option (BitVec 2) :=
  let c := t.chain[chainIx rx]
  if !t.autoRange then c.request
  else if 58982 < peak then (if c.range = 0 then none else some (c.range - 1))
  else if peak ≤ 13107 then (if c.range = 3 then none else some (c.range + 1))
  else none

/-- A chain is being swept in ACQUIRE. -/
def Ltn.sweeps (t : Ltn) (rx : Bool) : Bool :=
  t.state == .acquire && (match t.chain[chainIx rx].phase with | .sweep _ _ => true | _ => false)

/-- LTN_DITHER_BOUNDARY: at a whole millisecond of device time the period before ends the freeze of an earlier change,
and the interval begins anew; a requested range is taken, the integrators freeze and blanking starts. During a sweep the
request waits for the end of the dwell (R506, R512, R513, R516). -/
def execLtnDitherBoundary (t : Fin 2) (rx : Bool) (peak : Nat) (s : State) : Res :=
  whenLive s fun s =>
    let x := s.ltn[t]
    let c := x.chain[chainIx rx]
    let ms := s.ditherMs
    let now := s.clock
    if c.period = ms then s
    else if x.sweeps rx then
      s.updLtn t (fun x => x.updChain rx (fun c => { c with period := ms, request := x.wanted rx (min peak 58982) }))
    else if !x.runs rx then s
    else
      let s := s.updLtn t (fun x => x.updChain rx (fun c => { c with period := ms }))
      let s := if 58982 < peak && c.range == 0 then s.updLtn t (fun x => { x with overload := true }) else s
      let s := if c.frozen then s.updLtn t (fun x => x.updChain rx (fun c => { c with
          frozen := false, blank := false, since := ms, sinceChange := if x.tint10 then none else some 1 })) else s
      match x.wanted rx peak with
      | none => s
      | some r =>
        if r = c.range then s.updLtn t (fun x => x.updChain rx (fun c => { c with request := none }))
        else
          s.updLtn t (fun x => { x.updChain rx (fun c => { c with
            range := r, request := none, frozen := true, blank := true, blankAt := now, sinceChange := some 0 }) with switches := x.switches + 1 })

/-- LTN_BLANKING_END: 64 µs after the change samples are taken again, in the new range (R513). -/
def execLtnBlankingEnd (t : Fin 2) (rx : Bool) (s : State) : Res :=
  whenLive s fun s =>
    let c := s.ltn[t].chain[chainIx rx]
    if c.blank && c.blankAt + 64 ≤ s.clock then s.updLtn t (fun x => x.updChain rx (fun c => { c with blank := false })) else s

/-- A chain's range is written: taken at the next boundary, ignored while ranging is automatic (R512; 17, When things fall
together). -/
def State.rangeWrite (s : State) (t : Fin 2) (rx : Bool) (v : BitVec 2) : State :=
  s.updLtn t (fun x => if x.autoRange then x else x.updChain rx (fun c => { c with request := some v }))

/-! ### Relock, loss of light, faults (R518–R524) -/

/-- LTN_RELOCK_TIMEOUT: a ring has not relocked within 100 ms (R518). -/
def execLtnRelockTimeout (t : Fin 2) (r : Fin 16) (s : State) : Res :=
  whenLive s fun s =>
    let x := s.ltn[t]
    let g := x.ring[r]
    if x.state == .locked && !g.locked && !g.faulty && g.relock != .none && g.unlockedAt + 100000 ≤ s.clock then s.ltnFault t .ring else s

/-- LTN_LOCK_DEADLINE: not LOCKED 1 s after LINK_PORT OP 1: the port returns to OFF and LINK_PORT reports failed (R519). -/
def execLtnLockDeadline (t : Fin 2) (s : State) : Res :=
  whenLive s fun s =>
    let x := s.ltn[t]
    if x.state != .locked && x.upAt.any (fun u => decide (u + 1000000 ≤ s.clock)) then
      (s.updLtn t Ltn.toOff).updLfn (lfnOf t) (fun p => if p.state == .training then { p with state := .failed, trainDue := none } else p)
    else s

/-- A port enters DARK: integrators frozen, dither stopped, the link down; a range change under way is abandoned, its range
stays (R520, R521). -/
def State.goDark (s : State) (t : Fin 2) (rx : Bool) (resume : Bool) : State :=
  let s := s.updLtn t (fun x =>
    let x : Ltn := { x with
                      darkCount := if x.state == LtnState.dark then x.darkCount else satInc x.darkCount
                      state := .dark, warm := none, resumeCal := x.resumeCal || resume
                      chain := x.chain.map (fun c => { c with frozen := true, blank := false, request := none, sinceChange := none }) }
    x.updChain rx (fun c => { c with dark := true }))
  if s.lfnUp t.val then s.linkDown (lfnOf t) .down else s

/-- LTN_LIGHT_LOSS: a chain is dark. A dark TX chain is a lost laser, which takes both ports dark; one that was acquiring
resumes from CAL; a dark RX chain concerns its port once it has locked and so has a threshold (R520, R521; 17, When things fall together). -/
def execLtnLightLoss (t : Fin 2) (rx : Bool) (s : State) : Res :=
  whenLive s fun s =>
    let st := s.ltn[t].state
    let inAcq := st == .acquire && s.ltn[t].chain[chainIx rx].phase == .locked
    if rx then (if st == .locked || st == .dark || inAcq then s.goDark t true inAcq else s)
    else if st == .locked || st == .dark || st == .acquire then
      (List.finRange 2).foldl (fun s u =>
        let x := s.ltn[u].state
        if x == .locked || x == .dark || x == .acquire then s.goDark u false (x == .acquire) else s) s
    else s

/-- LTN_WARM_RELOCK_START: every dark chain has had light for 100 µs: the loops run from the held codes (R522). -/
def execLtnWarmRelockStart (t : Fin 2) (s : State) : Res :=
  whenLive s fun s =>
    let x := s.ltn[t]
    let now := s.clock
    if x.state != .dark || x.warm.isSome then s
    else if x.resumeCal then s.updLtn t (fun x => x.toCal s.clock x.upAt)
    else
      let ms := s.ditherNext
      s.updLtn t (fun x => { x with
        warm := some now, chain := x.chain.map (fun c => { c with dark := false, frozen := false, since := ms })
        ring := x.ring.map (fun r => { r with good := 0, relock := .none }) })

/-- LTN_WARM_RELOCK_TIMEOUT: not locked within 20 ms: the port acquires from CAL (R522). -/
def execLtnWarmRelockTimeout (t : Fin 2) (s : State) : Res :=
  whenLive s fun s =>
    let x := s.ltn[t]
    if x.state == .dark && x.warm.any (fun w => decide (w + 20000 ≤ s.clock)) then s.updLtn t (fun x => x.toCal s.clock x.upAt) else s

/-- LTN_HEATER_FAULT: a heater is faulty: its ring is unlocked and not relocked, its line is dropped (R523). -/
def execLtnHeaterFault (t : Fin 2) (r : Fin 16) (s : State) : Res :=
  whenLive s fun s =>
    let x := s.ltn[t]
    if x.state == .off || x.ring[r].faulty then s
    else
      let s := s.updLtn t (fun x => ({ x.updRing r (fun g => { g with
        faulty := true, locked := false, heater := 0, relock := .none, good := 0 }) with
          unlocks := satInc x.unlocks, cause := .heater }).limits)
      s.lineBad t r

/-- LTN_MONITOR_FAULT: a monitor chain is faulty: the port goes to FAULT and firmware logs it (R524). -/
def execLtnMonitorFault (t : Fin 2) (rx : Bool) (s : State) : Res :=
  whenLive s fun s =>
    let x := s.ltn[t]
    if x.state == .off || x.chain[chainIx rx].dark then s
    else
      let f := s.takeFree
      (f.2.ltnFault t .monitor).faultLog (0x32 + t.val) (Config.freeNat f.1 % 65536) (BitVec.ofNat 32 LtnCause.monitor.code)

/-- LTN_RANGE_WRITE: firmware writes both chains' ranges (R512). -/
def execLtnRangeWrite (t : Fin 2) (tx rx : BitVec 2) (s : State) : Res :=
  whenLive s fun s => (s.rangeWrite t false tx).rangeWrite t true rx

/-- Dither frequency of ring `r` of port `t` in kHz (R506). -/
def ditherKhz (t : Fin 2) (r : Fin 16) : Nat := 20 + 16 * t.val + r.val

/-- The two lines that carry a Lofin lane of a Lantern port (R502). -/
def linesOfLane (l : Nat) : Nat × Nat := (2 * l, 2 * l + 1)

end Sys2Proof.Machine
end

