-- ==== Sys2Proof/Machine/CmdSafety.lean ====
section
/-!
DEFINITION. Safety and unit commands (06 R196–R199, R206; 19 R549–R554; 20 R585).
-/

namespace Sys2Proof.Machine
open Sys2Proof

/-- SAFETY_ARM (R196, R580, R581). -/
def cmdSafetyArm : Command :=
  { spec := { op := 0x0901, lenLo := 1, lenHi := 1, m0 := true, fields := [rangeField 8 1 0 1] }
    own := fun c s =>
      let on := c.f 8 1 == 1
      let s := s.updKpr (fun k => { k with armed := on })
      .ok (if on then s else s.safeDrop) [] }

/-- SAFETY_ARM. -/
def execSafetyArm (c : HostCmd) (s : State) : Res := direct cmdSafetyArm c s

/-- SAFETY_LOCK (R196). -/
def cmdSafetyLock : Command :=
  { spec := { op := 0x0902, lenLo := 1, lenHi := 1, m0 := true, fields := [rangeField 8 4 1 0xFFFFFFFF] }
    own := fun c s =>
      if s.locked then .st s .busy
      else .ok (s.updKpr (fun k => { k with lock := some (BitVec.ofNat 64 (c.f 8 4)) })) [] }

/-- SAFETY_LOCK. -/
def execSafetyLock (c : HostCmd) (s : State) : Res := direct cmdSafetyLock c s

/-- SAFETY_UNLOCK (R196). -/
def cmdSafetyUnlock : Command :=
  { spec := { op := 0x0903, lenLo := 1, lenHi := 1, m0 := true, fields := [anyField 8 4] }
    own := fun c s =>
      match s.kpr.lock with
      | none => .ok s []
      | some code =>
        if code.toNat = c.f 8 4 then .ok (s.updKpr (fun k => { k with lock := none })) []
        else .st (s.faultLogOpen 0x34) .denied }

/-- SAFETY_UNLOCK. -/
def execSafetyUnlock (c : HostCmd) (s : State) : Res := direct cmdSafetyUnlock c s

/-- A slot whose latched stream fault's cause is gone leaves FAULT, for STARTING before its first OK record (R571,
R574). -/
def KprSlot.cleared (k : KprSlot) : KprSlot :=
  if k.cause != 0 && k.okSince then
    { k with
      cause := 0, okSince := false
      state := if k.state != .fault then k.state else if k.lastOkAt.isSome then .ok else .starting }
  else k

/-- Stream faults whose cause persists. -/
def Keeper.streamLive (k : Keeper) : Bool := k.slot.toList.any (fun x => x.state == .fault && !x.okSince)

/-- KPR_CAUSE: the causes that persist now. -/
def Keeper.causes (k : Keeper) : BitVec 11 := (k.live &&& 0x3FE#11) ||| BitVec.ofNat 11 (b2n k.streamLive)

/-- The Keeper after SAFETY_CLEAR: latched faults whose cause is gone are cleared; INJECTED goes with the last (R197). -/
def Keeper.clear (k : Keeper) : Keeper :=
  let stay := k.fault &&& k.causes
  { k with
    fault := if stay == 0 then 0 else stay ||| (k.fault &&& 0x400#11)
    live := k.causes
    slot := k.slot.map KprSlot.cleared }

/-- SAFETY_CLEAR (R197, R574). -/
def cmdSafetyClear : Command :=
  { spec := { op := 0x0904, lenLo := 1, lenHi := 1, m0 := true }
    own := fun _ s =>
      let s := s.updKpr Keeper.clear
      let left := (s.kpr.fault &&& 0x3FF#11).toNat
      if left = 0 then .ok s (zeros 4) else .done s .busy (leBytes 4 left) id }

/-- SAFETY_CLEAR. -/
def execSafetyClear (c : HostCmd) (s : State) : Res := direct cmdSafetyClear c s

/-- A mechanism accepts a target (R585). -/
def State.injectTarget (s : State) (mech target : Nat) : Bool :=
  if mech ≤ 3 then (s.kpr.slot.toList[target]?).any KprSlot.supervised
  else if mech ≤ 5 then target ≤ 7
  else if mech = 6 then target ≤ 4
  else if mech = 7 then target ≤ (if s.sup.fuses.variantL then 8 else 7)
  else if mech = 0x0A ∨ mech = 0x0B then target = 0x37
  else target = 0

/-- Injection 0x01: arrival reports of the slot are ignored for 3 periods (R585). -/
def State.injectIgnore (s : State) (mech target : Nat) : State :=
  let now := s.clock
  if h : mech = 1 ∧ target < 64 then
    s.updKslot ⟨target, h.2⟩ (fun k => { k with ignoreUntil := some (now + 3 * k.periodUs.toNat) })
  else s

/-- SAFETY_INJECT (R196, R197, R585). -/
def cmdSafetyInject : Command :=
  { spec := { op := 0x0905, lenLo := 1, lenHi := 1, m0 := true, fields := [rangeField 8 1 1 0x0C, anyField 9 1] }
    own := fun c s =>
      let mech := c.f 8 1
      let target := c.f 9 1
      if s.locked then .st s .safetyLocked
      else if !s.injectTarget mech target then .st s .invalidField
      else if s.kpr.inject.isSome then .st s .busy
      else .ok ((s.updKpr (fun k => { k with inject := some (mech, target) })).injectIgnore mech target) [] }

/-- SAFETY_INJECT. -/
def execSafetyInject (c : HostCmd) (s : State) : Res := direct cmdSafetyInject c s

/-! ### Unit commands -/

/-- What a unit command answers before its own checks: locked, AON or TOP, absent (R2, R60, R196, R198). -/
def State.unitRefused (s : State) (u : Nat) : Option Status :=
  if s.locked then some .safetyLocked
  else if !unitGateable u then some .denied
  else if s.unitAbsent u then some .notFound
  else none

/-- UNIT of a unit command (R618). -/
def unitField : Field := rangeField 8 1 0 0x37

/-- RESET_UNIT (R198, R549). -/
def cmdResetUnit : Command :=
  { spec := { op := 0x0910, lenLo := 1, lenHi := 1, m0 := true, async := .may, fields := [unitField] }
    own := fun c s =>
      let u := c.f 8 1
      match s.unitRefused u with
      | some st => .st s st
      | none =>
        if !(s.gateN u).powered || (s.gateN u).seq.isSome then .st s .busy
        else .wait (s.resetStart u) (.resetUnit u) }

/-- RESET_UNIT. -/
def execResetUnit (c : HostCmd) (s : State) : Res := direct cmdResetUnit c s

/-- The S-class load already admitted still fits without the unit; a unit that serves no group, or is out of service
already, takes no capacity with it (R199, R316). -/
def State.sOkWithout (s : State) (u : Nat) : Bool :=
  let f := fun x => x != u && s.unitLive x
  let vs := (List.range 4).filter (fun v => f (0x18 + v))
  let away := fun (d : Demand) => d.decoded && 0x18 ≤ u && d.vde == some (u - 0x18)
  let ds := rebind (s.sched.demand.filter (fun d => !away d)) (s.sched.demand.filter away) vs
  (unitEngines u).isEmpty || !s.unitLive u || sOk f ds false

/-- Ports of routes that are open: the port's link is up and a route names it. -/
def State.routeOpen (s : State) (p : Nat) : Bool :=
  s.lfnUp p && s.lfn.route.toList.any (fun m => m.getLsbD p)

/-- A unit that POWER_UNIT must not turn off now (R199; 17, When things fall together). -/
def State.unitInUse (s : State) (u : Nat) : Bool :=
  let runs := fun n => (s.slotN n).state == .running || (s.slotN n).state == .stale || (s.slotN n).state == .stopping
  if u = 0x1F ∨ u = 0x20 then s.streaming
  else if 0x28 ≤ u ∧ u < 0x2E then (s.csiSlots (u - 0x28)).any runs
  else if u = 0x26 ∨ u = 0x27 then
    (s.ethSlots (u - 0x26)).any runs || s.io.sess.toList.any (fun x => x.cfg.any (fun c => c.port == u - 0x26)) ||
      s.io.flow.any (fun x => x.2.port == u - 0x26)
  else if 0x2E ≤ u ∧ u < 0x32 then s.routeOpen (u - 0x2E)
  else if u = 0x1C then s.str.view.toList.any View.en
  else if h : 0x32 ≤ u ∧ u < 0x34 then s.lfn.port[u - 0x32].state != .down
  else false

/-- A unit is powered off: steps 1 to 3 of a reset, then its switch opens (R199, R550). -/
def State.unitOff (s : State) (u : Nat) : State :=
  let s := s.unitClose u .abortedReset
  let s := s.updGate u (fun g => { g with powered := false, userOff := true, draining := false })
  let s := s.raiseUnit
  (s.dispatch.reevaluate).advanceAll

/-- A unit's switch waits its turn, in ascending unit ID (R61). -/
def State.unitOnStart (s : State) (u : Nat) : State :=
  let now := s.clock
  let s := s.updSup (fun p => { p with switchOn := (p.switchOn.filter (· < u)) ++ [u] ++ p.switchOn.filter (u < ·) })
  (s.updGate u (fun g => { g with seq := some .powerOn, seqAt := now, userOff := false })).raiseUnit

/-- Microseconds from the closure of a gate to the opening of its domain's switch (R550). -/
def powerOffUs : Nat := 10

/-- A unit that its power state keeps off (02, Power states). -/
def State.stateOff (s : State) (u : Nat) : Bool := s.sup.power != .active && (powerUnits s.sup.power).contains u

/-- POWER_UNIT (R60, R61, R199, R550). -/
def cmdPowerUnit : Command :=
  { spec := { op := 0x0911, lenLo := 1, lenHi := 1, m0 := true, async := .may, fields := [unitField, rangeField 9 1 0 1] }
    own := fun c s =>
      let u := c.f 8 1
      let g := s.gateN u
      match s.unitRefused u with
      | some st => .st s st
      | none =>
        if g.seq.isSome then .st s .busy
        else if c.f 9 1 = 1 then
          if g.powered then .ok s (s.powerData u 0)
          else if s.stateOff u then .ok (s.updGate u (fun g => { g with userOff := false })) (s.powerData u 0)
          else .wait (s.unitOnStart u) (.powerUnit u)
        else if g.userOff then .ok s (s.powerData u 0)
        else if s.unitInUse u then .st s .busy
        else if !s.sOkWithout u then .st s .noResource
        else
          let t := s.unitOff u
          .ok t (t.powerData u powerOffUs) }

/-- POWER_UNIT. -/
def execPowerUnit (c : HostCmd) (s : State) : Res := direct cmdPowerUnit c s

/-- The result of a unit's boot self-test run again: a free value for a unit that has one; a unit that is off cannot
pass; a pending injection fails a Tower's probe (R101, R199, R585). -/
def State.unitSelfTest (s : State) (u : Nat) : State × Bool :=
  if !(s.gateN u).powered then (s, false)
  else if 0x21 ≤ u then (s, true)
  else
    let inj := s.injected 5 u
    let f := (s.injectDone inj).takeFree
    (f.2, !inj && Config.freeNat f.1 % 2 == 0)

/-- A unit leaves its fence: the gate opens with a further epoch advance (R552). -/
def State.unfence (s : State) (u : Nat) : State :=
  (s.updGate u (fun g => { g with fenced := false, epoch := g.epoch + 1 })).unitOpen u

/-- The unit's self-test runs, and a fenced unit that passes leaves its fence: RESULT (R199). -/
def State.unfenceTry (s : State) (u : Nat) : State × Byte :=
  let t := s.unitSelfTest u
  if !t.2 then (t.1, 1) else (if (t.1.gateN u).fenced then t.1.unfence u else t.1, 0)

/-- UNIT_FENCE (R199, R552). -/
def cmdUnitFence : Command :=
  { spec := { op := 0x0912, lenLo := 1, lenHi := 1, m0 := true, async := .may, fields := [unitField, rangeField 9 1 0 1] }
    own := fun c s =>
      let u := c.f 8 1
      let g := s.gateN u
      match s.unitRefused u with
      | some st => .st s st
      | none =>
        if c.f 9 1 = 1 then (if !s.sOkWithout u then .st s .noResource else .ok (s.fence u 0) [])
        else if g.seq.isSome then .st s .busy
        else if c.async then .wait s (.unitFence u)
        else
          let t := s.unfenceTry u
          .ok t.1 [t.2] }

/-- An asynchronous UNIT_FENCE with FENCE = 0 ends: the self-test's result is answered. -/
def State.unfenceEnd (s : State) (r : Running) (u : Nat) : State :=
  let t := ({ s with running := s.running.erase r } : State).unfenceTry u
  (t.1.respond r.mbx r.op r.seq r.noIrq .ok [t.2]).settleMbx r.mbx

/-- UNIT_FENCE. -/
def execUnitFence (c : HostCmd) (s : State) : Res := direct cmdUnitFence c s

end Sys2Proof.Machine
end

