-- ==== Sys2Proof/Machine/Ingest.lean ====
section
/-!
DEFINITION. Ingest: open frames, CSI-2 receivers, source timers, loss of source, stale records, host rings
(11 R323–R325, R331–R336, R343–R356).
-/

namespace Sys2Proof.Machine
open Sys2Proof

/-! ### Open frames -/

/-- Change a slot's ingest state. -/
def State.updIng (s : State) (n : Nat) (f : Ingest → Ingest) : State := s.updSlotN n (fun sl => { sl with ing := f sl.ing })

/-- Change a slot's open frame. -/
def State.updOpen (s : State) (n : Nat) (f : OpenFrame → OpenFrame) : State :=
  s.updIng n (fun i => { i with open_ := i.open_.map f })

/-- The open frame is damaged. -/
def State.damage (s : State) (n : Nat) : State := s.updOpen n (fun o => { o with damaged := true })

/-- Microseconds of the line timer: LINE_T nominal line times, a free value where HEIGHT is 0 (R346; log entry 22). -/
def State.lineUs (s : State) (x : SrcCfg) : Nat × State :=
  if x.height = 0 then
    let f := s.takeFree
    (Config.freeNat f.1, f.2)
  else (ceilDiv (x.lineT * x.periodUs) x.height, s)

/-- The frame timer restarts at a frame start (R346). -/
def State.frameStart (s : State) (n : Nat) (x : SrcCfg) (start : Nat) : State :=
  s.updIng n (fun i => { i with frameDue := some (max (i.frameDue.getD 0) (start + x.frameUs)) })

/-- A frame that started at `start` opens: its buffer is requested, the frame timer has restarted (R325, R346). -/
def State.frameOpen (s : State) (n : Nat) (x : SrcCfg) (o : OpenFrame) (start port size : Nat) : State :=
  let s := s.frameStart n x start
  let s := s.updIng n (fun i => { i with open_ := some { o with shed := i.shed } })
  s.sourceRequest n port size

/-- The source buffer's size: the granted buffer's, or the source pool's while the request waits. -/
def State.openRoom (s : State) (n : Nat) (o : OpenFrame) : Nat :=
  let p := match o.buf with
    | some h => handlePool h
    | none => match (s.slotN n).ana with | some a => a.srcPool | none => 0
  (s.poolN p).bufBytes.toNat

/-- Bytes of a frame reach its buffer; what lies past its end is dropped and the frame damaged (R335, R341). -/
def State.openWrite (s : State) (n off : Nat) (bs : List Byte) : State :=
  match (s.slotN n).ing.open_ with
  | none => s
  | some o =>
    if o.lost then s
    else
      let room := s.openRoom n o
      let fit := bs.take (room - off)
      let s := if room < off + bs.length then s.damage n else s
      match o.buf with
      | some h =>
        let w := s.bufWrites n h [(off, fit)]
        if w.2 then w.1 else w.1.updOpen n (fun o => { o with refused := true })
      | none => s.updOpen n (fun o => { o with held := o.held ++ [(off, fit)] })

/-- A request still waiting at a pool that is being rebuilt now serves the frame that completed INGEST (R267). -/
def State.lateRequest (s : State) (n : Nat) (seq : U32) : State :=
  { s with bpm := { s.bpm with pool := s.bpm.pool.map (fun p => { p with
      waiting := p.waiting.map (fun r => if r.use == .source n then { r with use := .late n seq } else r) }) } }

/-- The gap reason of an open frame that ends: not captured, damaged, or none (R318, R324, R325). -/
def OpenFrame.gap (o : OpenFrame) : Option GapReason :=
  if o.lost then some (if o.shed then .shed else .noBuffer) else if o.refused then some .fault
  else if o.damaged then some .sourceError else none

/-- The open frame completes INGEST (R324). -/
def State.frameDone (s : State) (n : Nat) (fmt : Option Fmt) (pitch : Nat) (discont : Bool) : State :=
  match (s.slotN n).ing.open_ with
  | none => s
  | some o =>
    let seq := (s.slotN n).nextSeq
    let wait := o.buf.isNone && !o.lost
    let s := if wait then s.lateRequest n seq else s
    let time := o.endAt.getD s.devTime
    let s := s.updIng n (fun i => { i with open_ := none, lineDue := none, assyDue := none })
    s.ingestDone n
      { seq := seq, stage := 1, capture := o.capture, endTime := time, gap := o.gap, damaged := o.damaged
        discont := discont, src := o.buf, auBytes := o.size, fmt := fmt, pitch := pitch, waitBuf := wait, held := o.held }

/-! ### Loss of source (R348–R350) -/

/-- CSI_LANE_FAULT and a burst on other lanes: every slot bound to the receiver loses its source (R348). -/
def State.laneFault (s : State) (n : Fin 6) : State :=
  let s := s.updCsi n (fun c => { c with laneFault := true, lanes := 0, locked := false })
  (s.csiSlots n.val).foldl (fun s k => s.sourceLost k .monitor) s

/-- LINE_TIMER_EXPIRY (R346, R348). -/
def execLineTimerExpiry (n : Fin 64) (s : State) : Res :=
  whenLive s fun s =>
    let i := (s.slotN n).ing
    if i.open_.isSome && i.lineDue.any (· ≤ s.clock) then s.sourceLost n .line else s

/-- A host ring that the device does not read because its slot is shed or paused: no frame can start (R262, R318). -/
def State.ringIdle (s : State) (n : Nat) : Bool :=
  let sl := s.slotN n
  sl.src.any (fun x => x.type == .host) && (sl.ing.shed || s.paused n)

/-- FRAME_TIMER_EXPIRY: applies while RUNNING (R346, R348). A host ring that the device itself leaves unread stays RUNNING,
its timer restarted (R262, R318; log entry 129). -/
def execFrameTimerExpiry (n : Fin 64) (s : State) : Res :=
  whenLive s fun s =>
    let sl := s.slotN n
    let now := s.clock
    if !(sl.state == .running && sl.ing.frameDue.any (· ≤ s.clock)) then s
    else if s.ringIdle n then
      match sl.src with
      | some x => s.updIng n (fun i => { i with frameDue := some (now + x.frameUs) })
      | none => s
    else s.sourceLost n .frame

/-- Due times of R350 that device time has reached. -/
def Ingest.dueCount (i : Ingest) (now : U64) (periodUs : Nat) : Nat :=
  (now.toNat - i.lastEnd.toNat) / (max 1 periodUs * 1000)

/-- The stale record's frame (R350, R354, R554). -/
def staleFrame (seq : U32) (due : U64) (fenced : Bool) (par : TrackPar) : Frame :=
  { seq := seq, stage := 1, capture := due, endTime := due, stale := true, par := par
    gap := some (if fenced then .fault else .sourceLost) }

/-- STALE_RECORD_DUE: at a due time a stale record enters the ingest queue; none while a frame is open (R350). The first
one after the last frame has the first due time. -/
def execStaleRecordDue (n : Fin 64) (s : State) : Res :=
  whenLive s fun s =>
    let sl := s.slotN n
    let i := sl.ing
    let m := i.dueCount s.devTime sl.periodUs
    if sl.state != .stale || m ≤ i.k then s
    else
      let s := s.updIng n (fun i => { i with k := if i.k = 0 then m else i.k + 1 })
      if i.open_.isSome then s
      else
        let due := i.lastEnd + BitVec.ofNat 64 ((i.k + 1) * sl.periodUs * 1000)
        let r := s.number n
        r.2.enqueueFrame n (staleFrame r.1 due i.fenced sl.par)

/-! ### CSI-2 receivers (R332–R336) -/

/-- The lane field of a burst on these lanes (R332, R333). -/
def lanesOf (l : List Nat) : Option (BitVec 2) :=
  if l = [0] then some 1 else if l = [0, 1] then some 2 else if l = [0, 1, 2, 3] then some 3 else none

/-- A row of a receiver: no effect while its unit is out of service. -/
def whenCsi (n : Fin 6) (s : State) (f : State → State) : Res :=
  whenLive s fun s => if s.unitLive (0x28 + n.val) then f s else s

/-- CSI_HS_BURST_START: the lane count is learned, or must be the learned one (R333, R348). -/
def execCsiHsBurstStart (n : Fin 6) (lanes : List Nat) (s : State) : Res :=
  whenCsi n s fun s =>
    match lanesOf lanes with
    | none => s.laneFault n
    | some l =>
      if s.io.csi[n].lanes = 0 || s.io.csi[n].lanes = l then s.updCsi n (fun c => { c with lanes := l, locked := true })
      else s.laneFault n

/-- The slot that accepts frames from a virtual channel, with its source. -/
def State.csiSlot (s : State) (n : Fin 6) (vc : Nat) : Option (Nat × SrcCfg) :=
  (List.range 64).findSome? (fun k =>
    let sl := s.slotN k
    match sl.src with
    | some x => if x.type == .csi && x.port == n.val && x.vc == vc && sl.accepts then some (k, x) else none
    | none => none)

/-- A packet is ignored and counted (R323, R332). -/
def State.csiUnbound (s : State) (n : Fin 6) : State := s.updCsi n (fun c => { c with unbound := satInc c.unbound })

/-- The header of a packet counts (11, Registers). -/
def State.csiHeader (s : State) (n : Fin 6) (h : CsiHdr) : State :=
  match h with
  | .good true => s.updCsi n (fun c => { c with eccCe := satInc c.eccCe })
  | .good false => s
  | .bad => s.updCsi n (fun c => { c with eccUe := satInc c.eccUe })

/-- Bytes of a pixel in the format of a CSI frame, and the descriptor of the frame (R336; 12 R364). -/
def csiFmt (dt lineBytes lines : Nat) : Fmt :=
  let rgb := dt = 0x24
  { w := lineBytes / dtBytes dt, h := lines, depth := 8, chroma := if rgb then .rgb else .yuv422
    matrix := if rgb then .none else .bt709, full := rgb, sarW := 1, sarH := 1, conf := [0, 0, 0, 0] }

/-- Pitch of a CSI frame (R335). -/
def csiPitch (lineBytes : Nat) : Nat := ceilDiv lineBytes 64 * 64

/-- The open CSI frame of a slot completes INGEST with its descriptor (R334, R336). -/
def State.csiDone (s : State) (k : Nat) (x : SrcCfg) : State :=
  match (s.slotN k).ing.open_ with
  | none => s
  | some o => s.frameDone k (some (csiFmt x.dt o.lineBytes o.lines)) (csiPitch o.lineBytes) false

/-- The line timer of a slot restarts (R346). -/
def State.lineStart (s : State) (k : Nat) (x : SrcCfg) : State :=
  let l := s.lineUs x
  let due := l.2.clock + l.1
  l.2.updIng k (fun i => { i with lineDue := if i.open_.isSome then some due else none })

/-- CSI_FRAME_START: a Frame Start that passes its header ECC closes an open frame as damaged and opens a new one
(R334). -/
def execCsiFrameStart (n : Fin 6) (vc : Nat) (hdr : CsiHdr) (s : State) : Res :=
  whenCsi n s fun s =>
    let s := s.csiHeader n hdr
    match s.csiSlot n vc with
    | none => s.csiUnbound n
    | some (k, x) =>
      if hdr == .bad then s.damage k
      else
        let s := (s.damage k).csiDone k x
        (s.frameOpen k x { capture := s.devTime } s.clock n.val 0).lineStart k x

/-- The data types a receiver takes: YUV422 8-bit, RGB888, and embedded data, which it ignores (R332). -/
def csiImage (dt : Nat) : Bool := dt = 0x1E || dt = 0x24

/-- A line of the slot's data type: checked, and written at its offset (R334, R335). -/
def State.csiLine (s : State) (k : Nat) (data : List Byte) (crcOk : Bool) : State :=
  match (s.slotN k).ing.open_ with
  | none => s
  | some o =>
    let first := if o.lines = 0 then data.length else o.lineBytes
    let s := s.openWrite k (o.lines * csiPitch first) data
    s.updOpen k (fun o => { o with
      lines := o.lines + 1, lineBytes := first, damaged := o.damaged || !crcOk || data.length != first })

/-- CSI_LONG_PACKET (R332, R334, R335). -/
def execCsiLongPacket (n : Fin 6) (vc dt : Nat) (hdr : CsiHdr) (data : List Byte) (crcOk : Bool) (s : State) : Res :=
  whenCsi n s fun s =>
    let s := s.csiHeader n hdr
    match s.csiSlot n vc with
    | none => s.csiUnbound n
    | some (k, x) =>
      if hdr == .bad then s.damage k
      else
        let s := if crcOk then s else s.updCsi n (fun c => { c with crcErr := satInc c.crcErr })
        let s := s.lineStart k x
        if !csiImage dt then s.csiUnbound n
        else if dt != x.dt then s
        else s.csiLine k data crcOk

/-- CSI_FRAME_END (R334). -/
def execCsiFrameEnd (n : Fin 6) (vc : Nat) (hdr : CsiHdr) (s : State) : Res :=
  whenCsi n s fun s =>
    let s := s.csiHeader n hdr
    match s.csiSlot n vc with
    | none => s.csiUnbound n
    | some (k, x) => if hdr == .bad then s.damage k else s.csiDone k x

/-- CSI_LANE_FAULT (R348). -/
def execCsiLaneFault (n : Fin 6) (s : State) : Res := whenCsi n s fun s => s.laneFault n

/-! ### Host rings (R343–R345, R354) -/

/-- Bytes of a ring's data area (R343). -/
def SrcCfg.ringArea (x : SrcCfg) : Nat := 2 ^ x.ringLog2 - 64

/-- A slot that reads its ring: accepting, not halted, not paused or shed (R262, R318, R345, R354). -/
def State.ringReads (s : State) (n : Nat) : Option SrcCfg :=
  let sl := s.slotN n
  match sl.src with
  | some x => if x.type == .host && sl.accepts && !sl.ing.ringHalt && !s.paused n && !sl.ing.shed && s.canRequest then some x else none
  | none => none

/-- The ring halts: one damaged frame for the entry, then loss of source (R354). -/
def State.ringStop (s : State) (n : Nat) (x : SrcCfg) : State :=
  let now := s.clock
  let s := s.updIng n (fun i => { i with ringHalt := true, frameDue := some (now + x.frameUs) })
  let time := s.devTime
  let s := s.ingestDone n
    { seq := (s.slotN n).nextSeq, stage := 1, capture := time, endTime := time, gap := some .sourceError, damaged := true }
  s.sourceLost n (s.slotN n).ing.cause

/-- HOST_RING_POLL: PRODUCER is read, every 100 µs and at once after the last entry known (R345). -/
def execHostRingPoll (n : Fin 64) (host : HostRead) (s : State) : Res :=
  whenLive s fun s =>
    match s.ringReads n with
    | none => s
    | some x =>
      let now := s.clock
      if now < (s.slotN n).ing.pollDue then s
      else match host with
        | .none => s
        | .failed | .ue => s.ringStop n x
        | .data bs =>
          s.updIng n (fun i => { i with producer := leAt bs 0 4 % max 1 x.ringArea, pollDue := now + 100 })

/-- An entry header passes its checks but for LENGTH (R343, R345). -/
def ringHeaderOk (h : List Byte) : Bool :=
  leAt h 0 2 == 0x4155 && leAt h 2 1 < 4 && leAt h 3 1 == 0 && leAt h 16 16 == 0

/-- CONSUMER and CONSUMED advance and are written to the ring's control block (R343, R345). -/
def State.ringConsume (s : State) (n : Nat) (x : SrcCfg) (next : Nat) : State :=
  let now := s.clock
  let c := next % max 1 x.ringArea
  let s := s.updIng n (fun i => { i with
    consumer := c, consumed := i.consumed + 1, pollDue := if c = i.producer then now else i.pollDue })
  let i := (s.slotN n).ing
  s.emit (.hostWrite (x.ringBase + 8) (leBytes 4 i.consumer ++ leBytes 4 i.consumed.toNat))

/-- One entry of the ring is taken (R345). -/
def State.ringEntry (s : State) (n : Nat) (x : SrcCfg) (bs : List Byte) : State :=
  let h := padTo 32 bs
  let len := leAt h 4 4
  let wrap := bitOf (leAt h 2 1) 0
  let at_ := (s.slotN n).ing.consumer
  let next := if wrap then 0 else at_ + 32 + ceilDiv len 32 * 32
  let size := match (s.slotN n).ana with | some a => (s.poolN a.srcPool).bufBytes.toNat | none => 0
  if (wrap && len ≠ 0) || (!wrap && (len = 0 || size < len)) || x.ringArea ≤ at_ then s.ringStop n x
  else if wrap && ringHeaderOk h then s.ringConsume n x next
  else
    let cap := leAt h 8 8
    let o : OpenFrame := { capture := if cap = 0 then s.devTime else BitVec.ofNat 64 cap, size := len }
    let s := s.frameOpen n x o s.clock 8 len
    let s := if ringHeaderOk h then s.openWrite n 0 (padTo len (bs.drop 32)) else s.damage n
    let s := s.ringConsume n x next
    s.frameDone n none 0 (bitOf (leAt h 2 1) 1)

/-- HOST_RING_ENTRY_COPY: the next entry is read and copied (R325, R345, R354). -/
def execHostRingEntryCopy (n : Fin 64) (host : HostRead) (s : State) : Res :=
  whenLive s fun s =>
    match s.ringReads n with
    | none => s
    | some x =>
      if (s.slotN n).ing.consumer = (s.slotN n).ing.producer then s
      else match host with
        | .none => s
        | .failed | .ue => s.ringStop n x
        | .data bs => s.ringEntry n x bs

/-- HOST_RING_HALT: a bad LENGTH or a host read failure halts the ring (R354). -/
def execHostRingHalt (n : Fin 64) (s : State) : Res :=
  whenLive s fun s =>
    match s.ringReads n with
    | none => s
    | some x => s.ringStop n x

end Sys2Proof.Machine
end

