-- ==== Sys2Proof/Machine/Rtp.lean ====
section
/-!
DEFINITION. Ethernet receive and the RTP depacketiser (11 R337–R342; RFC 3550, 6184 and 7798 as R338 takes them).
-/

namespace Sys2Proof.Machine
open Sys2Proof

/-! ### Frames and packets (R337) -/

/-- Why a frame is dropped (ING_ETH_DROP). -/
inductive EthDrop where
  /-- No matching session, VLAN or address. -/
  | filter
  /-- Fragment, extension header, checksum, oversize. -/
  | ip
  /-- R338 and refused payload modes. -/
  | rtp
  /-- Late or repeated. -/
  | late
  deriving DecidableEq, Repr

/-- A drop counts. -/
def Eth.drop (e : Eth) : EthDrop → Eth
  | .filter => { e with dropFilter := satInc e.dropFilter }
  | .ip => { e with dropIp := satInc e.dropIp }
  | .rtp => { e with dropRtp := satInc e.dropRtp }
  | .late => { e with dropLate := satInc e.dropLate }

/-- A UDP payload with the fields that sessions match. -/
structure UdpIn where
  /-- VLAN tag; 0xFFFF untagged. -/
  vlan : Nat
  /-- Source address. -/
  src : Nat
  /-- Destination address. -/
  dst : Nat
  /-- Destination port. -/
  port : Nat
  /-- Payload. -/
  data : List Byte
  deriving DecidableEq, Repr

/-- `n` bytes at an offset, most significant first (R8). -/
def beAt (bs : List Byte) (off n : Nat) : Nat := beNat ((bs.drop off).take n)

/-- A UDP datagram: its length and its checksum, verified when non-zero over IPv4 and always over IPv6 (R337). -/
def udpParse (v4 : Bool) (vlan src dst : Nat) (u : List Byte) : Except EthDrop UdpIn :=
  let len := beAt u 4 2
  let d := u.take len
  if len < 8 || u.length < len then .error .ip
  else if !(v4 && beAt u 6 2 = 0) && (beAt u 6 2 = 0 || inetSum (pseudo v4 src dst len ++ d) ≠ 0) then .error .ip
  else .ok { vlan := vlan, src := src, dst := dst, port := beAt u 2 2, data := d.drop 8 }

/-- An IPv4 packet: options are skipped, fragments and bad checksums dropped (R337). -/
def ip4Parse (vlan : Nat) (p : List Byte) : Except EthDrop UdpIn :=
  let hl := bitsOf (byteAt p 0).toNat 0 4 * 4
  let total := beAt p 2 2
  if bitsOf (byteAt p 0).toNat 4 4 ≠ 4 || hl < 20 || total < hl || p.length < total || inetSum (p.take hl) ≠ 0 then .error .ip
  else if beAt p 6 2 % 0x4000 ≠ 0 then .error .ip
  else if byteAt p 9 ≠ 17 then .error .filter
  else udpParse true vlan (0xFFFF * 2 ^ 32 + beAt p 12 4) (0xFFFF * 2 ^ 32 + beAt p 16 4) ((p.take total).drop hl)

/-- Next Header values of IPv6 extension headers. -/
def extHeaders : List Nat := [0, 43, 44, 50, 51, 60, 135, 139, 140]

/-- An IPv6 packet: none with an extension header (R337). -/
def ip6Parse (vlan : Nat) (p : List Byte) : Except EthDrop UdpIn :=
  let len := beAt p 4 2
  let nh := (byteAt p 6).toNat
  if bitsOf (byteAt p 0).toNat 4 4 ≠ 6 || p.length < 40 + len then .error .ip
  else if extHeaders.contains nh then .error .ip
  else if nh ≠ 17 then .error .filter
  else if isV4 (beAt p 24 16) then .error .filter
  else udpParse false vlan (beAt p 8 16) (beAt p 24 16) ((p.drop 40).take len)

/-- An Ethernet frame, after its frame check sequence (R337). -/
def etherParse (bs : List Byte) : Except EthDrop UdpIn :=
  let tagged := beAt bs 12 2 = 0x8100
  let at_ := if tagged then 16 else 12
  let vlan := if tagged then beAt bs 14 2 else 0xFFFF
  let p := bs.drop (at_ + 2)
  if beAt bs at_ 2 = 0x0800 then ip4Parse vlan p
  else if beAt bs at_ 2 = 0x86DD then ip6Parse vlan p
  else .error .filter

/-- A session matches a datagram (R337). -/
def SessCfg.matches (c : SessCfg) (e : Fin 2) (u : UdpIn) : Bool :=
  c.port == e.val && c.vlan == u.vlan && c.laddr == u.dst && c.udp == u.port && (c.raddr == 0 || c.raddr == u.src)

/-- The lowest-numbered session that matches. -/
def State.sessionFor (s : State) (e : Fin 2) (u : UdpIn) : Option (Fin 64) :=
  (List.finRange 64).find? (fun k => s.io.sess[k].cfg.any (fun c => c.matches e u))

/-- The slot that accepts frames from a session, with its source (R323). -/
def State.rtpSlot (s : State) (k : Fin 64) : Option (Nat × SrcCfg) :=
  (List.range 64).findSome? (fun n =>
    let sl := s.slotN n
    match sl.src with
    | some x => if x.type == .rtp && x.session == k.val && sl.accepts then some (n, x) else none
    | none => none)

/-! ### RTP packets (R338) -/

/-- Change a session. -/
def State.updSess (s : State) (k : Fin 64) (f : Sess → Sess) : State := { s with io := { s.io with sess := updAt s.io.sess k f } }

/-- The payload of an RTP packet: CSRC list, header extension and padding skipped; `none` when the lengths do not fit. -/
def rtpPayload (d : List Byte) : Option (List Byte) :=
  let b := (byteAt d 0).toNat
  let h := 12 + 4 * bitsOf b 0 4
  let h := if bitOf b 4 then h + 4 + 4 * beAt d (h + 2) 2 else h
  let pad := if bitOf b 5 then (d.getLast?.getD 0).toNat else 0
  if d.length < h + pad || (bitOf b 5 && pad = 0) || d.length = h + pad then none
  else some ((d.drop h).take (d.length - h - pad))

/-- The payload type byte is an accepted mode (R338). -/
def modeOk (c : Codec) (p : List Byte) : Bool :=
  let t := nalType c p
  match c with
  | .h264 => (1 ≤ t && t ≤ 23) || t == 24 || t == 28
  | .h265 => t ≤ 49 && 2 ≤ p.length

/-- A packet that passes the checks of R338, for the session. -/
def rtpCheck (c : SessCfg) (z : Sess) (d : List Byte) (sof : U64) (now : Nat) : Option (U32 × RtpPkt) :=
  let ssrc := beAt d 8 4
  let want := if c.ssrc ≠ 0 then some (BitVec.ofNat 32 c.ssrc) else z.ssrc
  if d.length < 12 || bitsOf (byteAt d 0).toNat 6 2 ≠ 2 || bitsOf (byteAt d 1).toNat 0 7 ≠ c.pt
      || want.any (fun w => w.toNat != ssrc) then none
  else match rtpPayload d with
    | none => none
    | some p =>
      if !modeOk c.codec p then none
      else some (BitVec.ofNat 32 ssrc,
        { seq := BitVec.ofNat 16 (beAt d 2 2), ts := BitVec.ofNat 32 (beAt d 4 4), marker := bitOf (byteAt d 1).toNat 7
          payload := p, sof := sof, at_ := now })

/-! ### NAL units (R339) -/

/-- The units of an aggregation packet; the flag says that its lengths fit. -/
def splitAgg : Nat → List Byte → List (List Byte) × Bool
  | 0, bs => ([], bs.isEmpty)
  | k + 1, bs =>
    if bs.isEmpty then ([], true)
    else
      let n := beAt bs 0 2
      if bs.length < 2 || n = 0 || bs.length < 2 + n then ([], false)
      else
        let r := splitAgg k (bs.drop (2 + n))
        ((bs.drop 2).take n :: r.1, r.2)

/-- The parts of a fragment: start, end, the NAL unit header it stands for, and its data. -/
def fuParts (c : Codec) (p : List Byte) : Bool × Bool × List Byte × List Byte :=
  match c with
  | .h264 =>
    let h := (byteAt p 1).toNat
    (bitOf h 7, bitOf h 6, [BitVec.ofNat 8 ((byteAt p 0).toNat / 32 * 32 + h % 32)], p.drop 2)
  | .h265 =>
    let h := (byteAt p 2).toNat
    let b := (byteAt p 0).toNat
    (bitOf h 7, bitOf h 6, [BitVec.ofNat 8 (b / 128 * 128 + h % 64 * 2 + b % 2), byteAt p 1], p.drop 3)

/-- A NAL unit is written behind its start code (R339). -/
def State.nalWrite (s : State) (n : Nat) (nal : List Byte) : State :=
  match (s.slotN n).ing.open_ with
  | none => s
  | some o =>
    let bs := [0, 0, 0, 1] ++ nal
    (s.openWrite n o.size bs).updOpen n (fun o => { o with size := min (o.size + bs.length) (s.openRoom n o) })

/-- A fragment that is not complete is dropped and damages the access unit (R339). -/
def State.fuDrop (s : State) (k : Fin 64) (n : Nat) : State :=
  if s.io.sess[k].fu.isSome then (s.updSess k (fun z => { z with fu := none })).damage n else s

/-- A fragment (R339). -/
def State.fuTake (s : State) (k : Fin 64) (n : Nat) (c : Codec) (p : List Byte) : State :=
  let (first, last, head, data) := fuParts c p
  let s := if first then s.fuDrop k n else s
  match (if first then some head else s.io.sess[k].fu) with
  | none => s.damage n
  | some got =>
    if last then (s.updSess k (fun z => { z with fu := none })).nalWrite n (got ++ data)
    else s.updSess k (fun z => { z with fu := some (got ++ data) })

/-- The NAL units of a packet reach the access unit (R338, R339). -/
def State.nalTake (s : State) (k : Fin 64) (n : Nat) (c : Codec) (p : List Byte) : State :=
  let t := nalType c p
  let agg := match c with | .h264 => t == 24 | .h265 => t == 48
  let fu := match c with | .h264 => t == 28 | .h265 => t == 49
  if fu then s.fuTake k n c p
  else
    let s := s.fuDrop k n
    if agg then
      let r := splitAgg p.length (p.drop (match c with | .h264 => 1 | .h265 => 2))
      let s := r.1.foldl (fun s u => s.nalWrite n u) s
      if r.2 then s else s.damage n
    else s.nalWrite n p

/-! ### Access units and order (R340–R342) -/

/-- The open access unit completes INGEST; a fragment left open damages it (R339, R341). -/
def State.auDone (s : State) (k : Fin 64) (n : Nat) : State := (s.fuDrop k n).frameDone n none 0 false

/-- The packet by which the access unit of `p` opened: the first accepted one of its timestamp (R341, R331). -/
def Sess.firstOf (z : Sess) (p : RtpPkt) : RtpPkt :=
  (argMin (fun q => ([(q.at_ : Int)] : List Int)) (p :: z.held.filter (fun q => q.ts == p.ts))).getD p

/-- The packet that ends the open access unit came at this device time (R331). -/
def State.auEnd (s : State) (k : Fin 64) (n : Nat) (at_ : U64) : State :=
  (s.updOpen n (fun o => { o with endAt := some at_ })).auDone k n

/-- A packet that is next in order (R341, R342). The access unit's times are those of its first accepted packet, its end
that of the packet that closes it (R331, R346; log entry 130). -/
def State.auTake (s : State) (k : Fin 64) (n : Nat) (x : SrcCfg) (c : SessCfg) (p : RtpPkt) : State :=
  let first := s.io.sess[k].firstOf p
  let s := if (s.slotN n).ing.open_.any (fun o => o.ts != p.ts) then (s.damage n).auEnd k n first.sof else s
  let s :=
    if (s.slotN n).ing.open_.isSome then s
    else
      (s.frameOpen n x { capture := first.sof, ts := p.ts } first.at_ (6 + c.port) 0).updIng n
        (fun i => { i with assyDue := some (first.at_ + x.assyUs) })
  let s := if s.io.sess[k].gap then (s.fuDrop k n).damage n else s
  let s := s.updSess k (fun z => { z with gap := false })
  let s := s.nalTake k n c.codec p.payload
  if p.marker then s.auEnd k n p.sof else s

/-- Distance of a held packet from the next number in order. -/
def Sess.ahead (z : Sess) (p : RtpPkt) : Nat := (p.seq - z.next.getD p.seq).toNat

/-- The nearest held packet. -/
def Sess.nearest (z : Sess) : Option RtpPkt := argMin (fun p => ([(z.ahead p : Int)] : List Int)) z.held

/-- Missing numbers before the nearest held packet that are declared gaps now: by the packet 32 numbers on, or 1 ms after
the first packet that follows them (R340). -/
def Sess.expired (z : Sess) (now : Nat) : Nat :=
  match z.nearest with
  | none => 0
  | some p =>
    let d := z.ahead p
    let far := (z.held.map z.ahead).foldl max 0
    if z.held.any (fun q => q.at_ + 1000 ≤ now) then d else min d (far + 1 - 32)

/-- Packets leave the reorder window: those in order are taken, numbers declared missing are counted and passed (R340,
R342). -/
def State.settle : Nat → State → Fin 64 → Nat → SrcCfg → SessCfg → State
  | 0, s, _, _, _, _ => s
  | f + 1, s, k, n, x, c =>
    let z := s.io.sess[k]
    match z.nearest with
    | none => s
    | some p =>
      if z.ahead p = 0 then
        let s := s.updSess k (fun z => { z with held := z.held.filter (· != p), next := some (p.seq + 1) })
        State.settle f (s.auTake k n x c p) k n x c
      else
        let g := z.expired s.clock
        if g = 0 then s
        else
          let s := s.updSess k (fun z => { z with next := z.next.map (· + BitVec.ofNat 16 g), gap := true })
          let s := if h : c.port < 2 then s.updEth ⟨c.port, h⟩ (·.count 2 g) else s
          State.settle f s k n x c

/-- A packet enters the reorder window (R340). -/
def State.reorder (s : State) (e : Fin 2) (k : Fin 64) (n : Nat) (x : SrcCfg) (c : SessCfg) (ssrc : U32) (p : RtpPkt) : State :=
  let z := s.io.sess[k]
  let late := z.next.any (fun m => 2 ^ 15 ≤ (p.seq - m).toNat) || z.held.any (fun q => q.seq == p.seq)
  if late then s.updEth e (·.drop .late)
  else
    let new := !z.held.any (fun q => q.ts == p.ts) && !(s.slotN n).ing.open_.any (fun o => o.ts == p.ts)
    let s := if new then s.frameStart n x s.clock else s
    let s := s.updSess k (fun z => { z with
      ssrc := if c.ssrc = 0 then some (z.ssrc.getD ssrc) else z.ssrc
      next := some (z.next.getD p.seq), held := z.held ++ [p] })
    s.settle (2 * (z.held.length + 1) + 2) k n x c

/-- A datagram reaches the depacketiser (R338). -/
def State.rtpTake (s : State) (e : Fin 2) (k : Fin 64) (d : List Byte) : State :=
  match s.io.sess[k].cfg, s.rtpSlot k with
  | some c, some (n, x) =>
    match rtpCheck c s.io.sess[k] d s.devTime s.clock with
    | none => s.updEth e (·.drop .rtp)
    | some (ssrc, p) => s.reorder e k n x c ssrc p
  | _, _ => s.updEth e (·.drop .filter)

/-- A port receives: its link is up and its unit in service. -/
def State.ethUp (s : State) (e : Fin 2) : Bool := s.io.eth[e].up && s.unitLive (0x26 + e.val)

/-- ETH_FRAME_RECEIVE: a frame as it stands on the line, from the destination address to the frame check sequence
(R337). -/
def execEthFrameReceive (e : Fin 2) (bytes : List Byte) (s : State) : Res :=
  whenLive s fun s =>
    if !s.ethUp e then s
    else
      let body := bytes.take (bytes.length - 4)
      if bytes.length < 18 || leAt bytes (bytes.length - 4) 4 ≠ (crc32 body).toNat then s.updEth e (·.count 1 1)
      else
        let s := s.updEth e (·.count 0 1)
        if 9216 < bytes.length then s.updEth e (·.drop .ip)
        else match etherParse body with
          | .error d => s.updEth e (·.drop d)
          | .ok u =>
            match s.sessionFor e u with
            | none => s.updEth e (·.drop .filter)
            | some k => s.rtpTake e k u.data

/-- RTP_GAP_TIMER: 1 ms after the packet that follows them, missing numbers are declared gaps (R340). -/
def execRtpGapTimer (k : Fin 64) (s : State) : Res :=
  whenLive s fun s =>
    match s.io.sess[k].cfg, s.rtpSlot k with
    | some c, some (n, x) => s.settle (2 * s.io.sess[k].held.length + 2) k n x c
    | _, _ => s

/-- ASSEMBLY_TIMER_EXPIRY: the open access unit is damaged and completes; counted (R341, R346). -/
def execAssemblyTimerExpiry (n : Fin 64) (s : State) : Res :=
  whenLive s fun s =>
    let sl := s.slotN n
    match sl.src with
    | none => s
    | some x =>
      if h : x.session < 64 then
        if x.type == .rtp && sl.ing.open_.isSome && sl.ing.assyDue.any (· ≤ s.clock) then
          let s := match s.slotEth n with
            | some p => if h : p < 2 then s.updEth ⟨p, h⟩ (·.count 3 1) else s
            | none => s
          (s.damage n).auDone ⟨x.session, h⟩ n
        else s
      else s

end Sys2Proof.Machine
end

