-- ==== Sys2Proof/Machine/TimeBase.lean ====
section
/-!
DEFINITION. The device time base: PTP, PTM, PPS, the servo (11 R326–R330; 19 R554).
-/

namespace Sys2Proof.Machine
open Sys2Proof

/-- PTP is available: enabled on a port in service, a Sync accepted within the last 2 s (R327, R554). -/
def State.ptpOn (s : State) : Bool :=
  match s.io.tbs.sync with
  | some (t, e) =>
    if h : e < 2 then s.io.eth[e].ptp.en && s.unitLive (0x26 + e) && decide (s.clock ≤ t + 2000000) else false
  | none => false

/-- PTM is available (R327). -/
def State.ptmOn (s : State) : Bool :=
  s.io.tbs.ptmEnable && s.io.tbs.ptm.any (fun t => decide (s.clock ≤ t + 100000))

/-- The first source available (R327). -/
def State.bestSource (s : State) : TbsSource :=
  if s.ptpOn then .ptp else if s.ptmOn then .ptm else if s.io.tbs.pps then .pps else .free

/-- The source in use is chosen; one that is lost leaves HOLDOVER (R327, R330). -/
def State.chooseSource (s : State) : State :=
  let best := s.bestSource
  let old := s.io.tbs.source
  if best = old then s
  else
    let lost := match old with
      | .ptp => !s.ptpOn
      | .ptm => !s.ptmOn
      | .pps => !s.io.tbs.pps
      | .free => false
    s.updTbs (fun t => { t with source := best, locked := false, within := none, holdover := t.holdover || lost })

/-- Device time may go backward: no stream is RUNNING or STALE (R330). -/
def State.mayGoBack (s : State) : Bool := s.str.slot.toList.all (fun x => !x.accepts)

/-- ±500 ppm of the nominal step, in units of 2^-32 ns (R326). -/
def stepSpan : Nat := 2684354

/-- The servo's new step, a free value within ±500 ppm of nominal (R326, R330; log entry 23). -/
def freeStep (k : Nat) : BitVec 40 := BitVec.ofNat 40 (0x0140000000 - stepSpan + Config.freeNat k % (2 * stepSpan + 1))

/-- A measured offset, local time less the source's, is corrected: stepped beyond 1 ms, else slewed (R329, R330). -/
def State.servo (s : State) (off : Int) : State :=
  let now := s.clock
  let back := s.mayGoBack
  let s := s.updTbs (fun t =>
    let near := decide (off.natAbs ≤ 1000)
    { t with
      offset := BitVec.ofInt 32 (clampInt (-2147483647) 2147483647 off), holdover := false
      within := if near then some (t.within.getD now) else none, locked := t.locked && near })
  if 1000000 < off.natAbs && (off < 0 || back) then s.updTbs (fun t => { t with now := t.now - BitVec.ofInt 64 off })
  else
    let f := s.takeFree
    f.2.updTbs (fun t => { t with step := freeStep f.1 })

/-- What a message of the configured domain and transport does (R327, R329): a Sync is stamped and makes PTP available, its
Follow_Up gives the offset, a Delay_Resp the path delay. -/
def State.ptpTake (s : State) (e : Fin 2) (msg : PtpMsg) : State :=
  let now := s.clock
  let stamp : Int := s.devTime.toNat
  match msg with
  | .sync => (s.updTbs (fun t => { t with sync := some (now, e.val), syncAt := some stamp })).chooseSource
  | .followUp t1 =>
    match s.io.tbs.syncAt with
    | some t2 =>
      let s := s.updTbs (fun t => { t with syncTimes := some (t1, t2), syncAt := none })
      if s.io.tbs.source = .ptp then s.servo (t2 - t1 - s.io.tbs.delay) else s
    | none => s
  | .delayResp t4 =>
    match s.io.tbs.syncTimes, s.io.tbs.reqAt with
    | some (t1, t2), some t3 => s.updTbs (fun t => { t with delay := ((t2 - t1) + (t4 - t3)) / 2, reqAt := none })
    | _, _ => s
  | .other => s

/-- PTP_MESSAGE_RECEIVE: a message of the configured domain over the configured transport is taken (R327, R329). -/
def execPtpMessageReceive (e : Fin 2) (domain : Nat) (msg : PtpIn) (s : State) : Res :=
  whenLive s fun s =>
    let c := s.io.eth[e].ptp
    if !s.ethUp e || !c.en || c.domain ≠ domain || c.transport ≠ msg.transport then s else s.ptpTake e msg.msg

/-- PTP_DELAY_REQ_SEND: a slave that has timed a Sync sends a Delay_Req; the port stamps it (R329). -/
def execPtpDelayReqSend (e : Fin 2) (s : State) : Res :=
  whenLive s fun s =>
    if s.ethUp e && s.io.eth[e].ptp.en && s.io.tbs.syncTimes.isSome then
      let stamp : Int := s.devTime.toNat
      (s.updTbs (fun t => { t with reqAt := some stamp })).emit (.delayReq e.val s.io.eth[e].ptp.transport)
    else s

/-- PTM_REQUEST: one request every 10 ms while PTM is enabled (R329). -/
def execPtmRequest (s : State) : Res :=
  whenLive s fun s =>
    let now := s.clock
    if s.io.tbs.ptmEnable && s.io.tbs.ptmDue ≤ now && s.canRequest then
      (s.updTbs (fun t => { t with ptmDue := now + 10000 })).emit .ptmRequest
    else s

/-- PTM_DIALOGUE_DONE: a dialogue that succeeds makes PTM available and gives an offset (R327, R329). -/
def execPtmDialogueDone (ok : Bool) (offset : Int) (s : State) : Res :=
  whenLive s fun s =>
    if !ok || !s.io.tbs.ptmEnable then s
    else
      let now := s.clock
      let s := (s.updTbs (fun t => { t with ptm := some now })).chooseSource
      if s.io.tbs.source = .ptm then s.servo offset else s

/-- An interval of the band of R328, in ns. -/
def ppsBand (n : Nat) : Bool := 999000000 ≤ n && n ≤ 1001000000

/-- The qualification after an edge: four in a row qualify, two bad intervals in a row lose PPS (R328). -/
def Tbs.ppsEdge (t : Tbs) : Tbs :=
  let good := t.ppsSeen && ppsBand (t.now - t.ppsIn).toNat
  let g := if good then t.ppsGood + 1 else 0
  let b := if good || !t.ppsSeen then 0 else t.ppsBad + 1
  let lost := t.pps && 2 ≤ b
  { t with
    ppsIn := t.now, ppsSeen := true, ppsGood := if lost then 0 else g, ppsBad := if lost then 0 else b
    pps := (t.pps && !lost) || 3 ≤ g }

/-- The offset of a time from the nearest whole second, in ns. -/
def secondOffset (t : Nat) : Int :=
  let r := t % 1000000000
  if r < 500000000 then (r : Int) else (r : Int) - 1000000000

/-- PPS_EDGE: a rising edge qualifies PPS or steers the servo (R327, R328, R330). -/
def execPpsEdge (s : State) : Res :=
  whenLive s fun s =>
    let time := s.io.tbs.now
    let good := s.io.tbs.ppsSeen && ppsBand (time - s.io.tbs.ppsIn).toNat
    let now := s.clock
    let s := (s.updTbs (fun t => { t.ppsEdge with ppsAt := now })).chooseSource
    if s.io.tbs.source = .pps && good then s.servo (secondOffset time.toNat) else s

/-- PPS_TIMEOUT: no edge within 1,500 ms of the last (R328). -/
def execPpsTimeout (s : State) : Res :=
  whenLive s fun s =>
    if s.io.tbs.ppsSeen && s.io.tbs.ppsAt + 1500000 ≤ s.clock then
      (s.updTbs (fun t => { t with pps := false, ppsSeen := false, ppsGood := 0, ppsBad := 0 })).chooseSource
    else s

/-- DISCIPLINE_SOURCE_LOSS: the source in use has expired; the next one is chosen (R327, R330). -/
def execDisciplineSourceLoss (s : State) : Res := whenLive s State.chooseSource

/-- TBS_LOCK_TIMER: the offset has stayed within 1 µs for 10 s (R329). -/
def execTbsLockTimer (s : State) : Res :=
  whenLive s fun s =>
    if s.io.tbs.within.any (fun t => decide (t + 10000000 ≤ s.clock)) then s.updTbs (fun t => { t with locked := true }) else s

/-- PPS_OUT_PULSE: PTP_PPS_OUT is high for 1 ms from each whole second of device time (R330). -/
def execPpsOutPulse (rise : Bool) (s : State) : Res :=
  whenLive s fun s =>
    let r := s.io.tbs.now.toNat % 1000000000
    let on := if rise then s.pins.ppsOut || r < 1000000 else s.pins.ppsOut && r < 1000000
    { s with pins := { s.pins with ppsOut := on } }

/-- ETH_PCS_LOCK_CHANGE: a port that is on comes up or goes down; what a port that is down holds is dropped and counted
(R469). -/
def execEthPcsLockChange (e : Fin 2) (up : Bool) (s : State) : Res :=
  whenLive s fun s =>
    if !s.unitLive (0x26 + e.val) || s.io.eth[e].speed = 0 then s
    else if up then s.updEth e (fun x => { x with up := true })
    else s.updEth e (fun x => { x.count 5 x.queue.length with up := false, queue := [] })

end Sys2Proof.Machine
end

