-- ==== Sys2Proof/Machine/CmdEth.lean ====
section
/-!
DEFINITION. Commands of the Ethernet group (06 R203, R204).
-/

namespace Sys2Proof.Machine
open Sys2Proof

/-- A field in network byte order (R203). -/
def HostCmd.be (c : HostCmd) (off n : Nat) : Nat := beAt c.payload (off - 8) n

/-- A slot that a running stream holds: RUNNING, STALE or STOPPING. -/
def Slot.running (sl : Slot) : Bool := sl.accepts || sl.state == .stopping

/-- A running stream takes its frames from the session. -/
def State.sessionUsed (s : State) (k : Nat) : Bool :=
  s.str.slot.toList.any (fun sl => sl.running && (match sl.src with
    | some x => x.type == .rtp && x.session == k
    | none => false))

/-- A running stream or an enabled view sends on the flow. -/
def State.flowUsed (s : State) (k : Nat) : Bool :=
  s.str.slot.toList.any (fun sl => sl.running && sl.res == some (.flow k)) || s.str.view.toList.any (fun v => v.en && v.flow == k)

/-- The port named by a field. -/
def portOf (n : Nat) : Fin 2 := ⟨n % 2, Nat.mod_lt _ (by decide)⟩

/-- A port carries a session of a running stream or a flow in use (R204). -/
def State.ethUsed (s : State) (e : Nat) : Bool :=
  s.io.sess.toList.zipIdx.any (fun x => x.1.cfg.any (fun c => c.port == e) && s.sessionUsed x.2)
    || s.io.flow.any (fun x => x.2.port == e && s.flowUsed x.1)

/-- A port is set: a change of speed starts its PCS afresh. -/
def Eth.set (x : Eth) (speed : BitVec 2) (maxFrame : Nat) (mac : BitVec 48) : Eth :=
  if x.speed = speed then { x with maxFrame := maxFrame, mac := mac }
  else { x.count 5 x.queue.length with speed := speed, maxFrame := maxFrame, mac := mac, up := false, queue := [] }

/-- ETH_PORT (R204). -/
def cmdEthPort : Command :=
  { spec := { op := 0x0B01, lenLo := 2, lenHi := 2, m0 := true,
              fields := [rangeField 8 1 0 1, rangeField 9 1 0 2, rangeField 10 2 64 9216, anyField 12 6] }
    own := fun c s =>
      let e := portOf (c.f 8 1)
      let speed := BitVec.ofNat 2 (c.f 9 1)
      let mac := BitVec.ofNat 48 (c.be 12 6)
      let x := s.io.eth[e]
      if (x.speed != speed || x.mac != mac) && s.ethUsed e.val then .st s .busy
      else .ok (s.updEth e (fun x => x.set speed (c.f 10 2) mac)) [] }

/-- ETH_PORT. -/
def execEthPort (c : HostCmd) (s : State) : Res := direct cmdEthPort c s

/-- ETH_NEIGHBOUR (R204). -/
def cmdEthNeighbour : Command :=
  { spec := { op := 0x0B02, lenLo := 4, lenHi := 4, m0 := true, safe := true,
              fields := [anyField 8 1, rangeField 9 1 0 1, anyField 10 6, anyField 16 2, anyField 24 16] }
    own := fun c s =>
      let i := c.f 8 1
      let n : Neigh := { mac := BitVec.ofNat 48 (c.be 10 6), vlan := c.f 16 2, ip := c.be 24 16 }
      let l := if c.f 9 1 = 1 then insertN s.io.neigh i n else eraseN s.io.neigh i
      .ok { s with io := { s.io with neigh := l } } [] }

/-- ETH_NEIGHBOUR. -/
def execEthNeighbour (c : HostCmd) (s : State) : Res := direct cmdEthNeighbour c s

/-- The session an ETH_SESSION sets. -/
def HostCmd.session (c : HostCmd) : SessCfg :=
  { port := c.f 9 1, codec := if c.f 11 1 = 2 then .h265 else .h264, pt := c.f 12 1, vlan := c.f 14 2, udp := c.f 16 2
    ssrc := c.f 20 4, laddr := c.be 24 16, raddr := c.be 40 16 }

/-- ETH_SESSION (R204). -/
def cmdEthSession : Command :=
  { spec := { op := 0x0B03, lenLo := 6, lenHi := 6, m0 := true,
              fields := [rangeField 8 1 0 63, rangeField 9 1 0 1, rangeField 10 1 0 1, rangeField 11 1 1 2, rangeField 12 1 96 127,
                anyField 14 2, anyField 16 2, anyField 20 4, anyField 24 16, anyField 40 16] }
    own := fun c s =>
      let k := c.f 8 1
      let new := if c.f 10 1 = 1 then some c.session else none
      let old := (s.io.sess.toList.getD k {}).cfg
      if old != new && s.sessionUsed k then .st s .busy
      else if h : k < 64 then
        .ok (if old == new then s else s.updSess ⟨k, h⟩ (fun _ => { cfg := new })) []
      else .st s .invalidField }

/-- ETH_SESSION. -/
def execEthSession (c : HostCmd) (s : State) : Res := direct cmdEthSession c s

/-- The flow an ETH_FLOW sets; its identification counter starts at 0 (R469). -/
def HostCmd.flow (c : HostCmd) : Flow :=
  { port := c.f 9 1, neigh := c.f 10 1, dscp := c.f 11 1, sport := c.f 12 2, dport := c.f 14 2, src := c.be 24 16, dst := c.be 40 16 }

/-- ETH_FLOW (R204). -/
def cmdEthFlow : Command :=
  { spec := { op := 0x0B04, lenLo := 6, lenHi := 6, m0 := true,
              fields := [rangeField 8 1 0 63, rangeField 9 1 0 1, anyField 10 1, rangeField 11 1 0 63, anyField 12 2, anyField 14 2,
                anyField 24 16, anyField 40 16] }
    own := fun c s =>
      let k := c.f 8 1
      let new := c.flow
      let same := (lookupN s.io.flow k).any (fun f => { f with ident := 0 } == new)
      if !same && s.flowUsed k then .st s .busy
      else if (lookupN s.io.neigh new.neigh).isNone then .st s .notFound
      else
        .ok (if same && s.flowUsed k then s else { s with io := { s.io with flow := insertN s.io.flow k new } }) [] }

/-- ETH_FLOW. -/
def execEthFlow (c : HostCmd) (s : State) : Res := direct cmdEthFlow c s

/-- ETH_PTP (R204, R329). -/
def cmdEthPtp : Command :=
  { spec := { op := 0x0B05, lenLo := 1, lenHi := 1, m0 := true,
              fields := [rangeField 8 1 0 1, rangeField 9 1 0 1, rangeField 10 1 0 127, rangeField 11 1 0 1] }
    own := fun c s =>
      let e := portOf (c.f 8 1)
      let new : PtpCfg := { en := c.f 9 1 == 1, domain := c.f 10 1, transport := c.f 11 1 }
      if s.io.eth[portOf (e.val + 1)].ptp.en then .st s .busy
      else if s.io.eth[e].ptp = new then .ok s []
      else
        let s := s.updEth e (fun x => { x with ptp := new })
        .ok ((s.updTbs (fun t => { t with sync := none, syncAt := none, reqAt := none, syncTimes := none, delay := 0 })).chooseSource) [] }

/-- ETH_PTP. -/
def execEthPtp (c : HostCmd) (s : State) : Res := direct cmdEthPtp c s

/-- ETH_STATS (R204). -/
def cmdEthStats : Command :=
  { spec := { op := 0x0B06, lenLo := 1, lenHi := 1, m0 := true, safe := true, fields := [rangeField 8 1 0 1, rangeField 9 1 0 1] }
    own := fun c s =>
      let e := portOf (c.f 8 1)
      let data := s.io.eth[e].stat.toList.flatMap (fun x => leBytes 8 x.toNat)
      .ok (if c.f 9 1 = 1 then s.updEth e (fun x => { x with stat := Vector.replicate 6 0 }) else s) data }

/-- ETH_STATS. -/
def execEthStats (c : HostCmd) (s : State) : Res := direct cmdEthStats c s

end Sys2Proof.Machine
end

