-- ==== Sys2Proof/Machine/Consume.lean ====
section
/-!
DEFINITION. How firmware takes commands from the mailboxes, final responses of asynchronous commands, completion
timeouts of the device's own reads (04 R122–R132, R139, R140, R144, R145, R147, R148).
-/

namespace Sys2Proof.Machine
open Sys2Proof

/-- The commands of the opcode table (22, Opcodes). -/
def commandTable : List Command :=
  [cmdDeviceNop, cmdDeviceInfo, cmdDevicePower] ++
  [cmdCtxCreate, cmdCtxDestroy, cmdMbxBind, cmdMemAlloc, cmdMemFree, cmdBar2Window] ++
  [cmdModelLoad, cmdModelUnload, cmdInstanceCreate, cmdInstanceDestroy, cmdModelQuery] ++
  [cmdStreamSource, cmdStreamAnalytics, cmdStreamResult, cmdStreamStart, cmdStreamStop, cmdStreamStatus, cmdStreamReprocess,
    cmdStreamClear, cmdStreamTrack, cmdStreamView] ++
  [cmdJobSubmit, cmdJobCancel, cmdJobQuery] ++
  [cmdPipAlloc, cmdPipFree, cmdPipSignal, cmdPipRead, cmdPipWait] ++
  [cmdPoolCreate, cmdPoolDestroy, cmdPoolAlloc, cmdPoolFree, cmdPoolQuery, cmdPoolBuoys] ++
  [cmdCkptWindow, cmdCkptConfig, cmdCkptNow, cmdCkptRestore, cmdCkptQuery] ++
  [cmdSafetyArm, cmdSafetyLock, cmdSafetyUnlock, cmdSafetyClear, cmdSafetyInject, cmdResetUnit, cmdPowerUnit, cmdUnitFence] ++
  [cmdLinkId, cmdLinkPort, cmdLinkRoute, cmdLinkExport, cmdLinkFlush, cmdLinkErrRing] ++
  [cmdEthPort, cmdEthNeighbour, cmdEthSession, cmdEthFlow, cmdEthPtp, cmdEthStats] ++
  [cmdDiagFaultLog, cmdDiagProbe, cmdDiagUnit] ++
  [cmdFlashRead, cmdFlashWrite, cmdFwSwitch, cmdFuseSecver, cmdFuseKey, cmdFuseRevoke]

/-- The command with this OPCODE (R14). -/
def commandOf (op : Nat) : Option Command := commandTable.find? (fun k => k.spec.op == op)

/-- A mailbox holds a command. -/
def Mbx.holds (x : Mbx) : Bool := x.cmdHead != x.cmdTail

/-- Mailbox `m` is served and holds a command. -/
def State.mbxReady (s : State) (m : Fin 16) : Bool := s.served m && s.host.mbx[m].holds

/-- The next mailbox of 1 to 15 in ascending order with wrap (R132). -/
def State.nextOther (s : State) : Option (Fin 16) :=
  let all := (List.finRange 16).filter (fun m => m ≠ 0 && s.mbxReady m)
  match all.find? (fun m => s.host.lastServed < m.val) with
  | some m => some m
  | none => all.head?

/-- The mailbox whose turn it is: mailbox 0 and the others take turns (R132). -/
def State.turn (s : State) : Option (Fin 16) :=
  let zero : Option (Fin 16) := if s.mbxReady 0 then some 0 else none
  if s.host.turnZero then zero.or s.nextOther else s.nextOther.or zero

/-- The turn passes on from mailbox `m`. -/
def State.passTurn (s : State) (m : Fin 16) : State :=
  { s with host := { s.host with turnZero := m ≠ 0, lastServed := if m = 0 then s.host.lastServed else m.val } }

/-- A command as its 64-byte entry spells it. -/
def entryCmd (m : Fin 16) (bs : List Byte) (host : HostRead) : HostCmd :=
  { mbx := m, seq := BitVec.ofNat 16 (leAt bs 2 2), flags := byteAt bs 4, len := byteAt bs 5
    ctx := BitVec.ofNat 16 (leAt bs 6 2), payload := bs.drop 8, host := host }

/-- MBX_CMD_HEAD advances; the switch mark is dropped once the head has reached it. -/
def State.headNext (s : State) (m : Fin 16) : State :=
  s.updMbx m (fun x => { x with
    cmdHead := BitVec.ofNat 12 ((x.cmdHead.toNat + 1) % ringLen x.cmdSize), rspStall := false
    switchMark := x.switchMark.filter (· != x.cmdHead) })

/-- The command at the head lies before its mailbox's switch mark (R140). -/
def Mbx.beforeMark (x : Mbx) : Bool := x.switchMark.any (· != x.cmdHead)

/-- What consuming an entry leads to; `none` when the command stays in its ring (R14, R126, R140). -/
def State.consumeEntry (s : State) (m : Fin 16) (bs : List Byte) (host : HostRead) : Option State :=
  let op := leAt bs 0 2
  let before := s.host.mbx[m].beforeMark
  let c := entryCmd m bs host
  let s := s.headNext m
  match commandOf op with
  | some k => s.command k c before
  | none =>
    if s.fw.phase == .handover then (if before then none else some (s.answer c op .updating []))
    else some (s.answer c op .invalidOpcode [])

/-- The read of a command entry fails: the mailbox halts with CMD_FAULT, its head stays (R144). -/
def State.entryFault (s : State) (m : Fin 16) : State :=
  (s.mbxError m .cmdFault).updMbx m (fun x => { x with halted := true })

/-- Mailbox `m` has its turn with this entry; `none` is a failed read (R122, R124, R132). -/
def State.serve (s : State) (m : Fin 16) (entry : Option (List Byte)) (host : HostRead) : State :=
  match entry with
  | none => (s.entryFault m).passTurn m
  | some e =>
    let bs := padTo 64 e
    if !s.hasRoom m (bitOf (byteAt bs 4).toNat 0) then (s.updMbx m (fun x => { x with
      rspStall := true, stallAsync := bitOf (byteAt bs 4).toNat 0 })).passTurn m
    else ((s.consumeEntry m bs host).getD s).passTurn m

/-- COMMAND_CONSUME: firmware takes the next command of a served mailbox in turn (R132). -/
def execCommandConsume (entry : Option (List Byte)) (host : HostRead) (s : State) : Res :=
  whenLive s fun s =>
    match s.turn with
    | none => s
    | some m => s.serve m entry host

/-- ASYNC_FINAL_RESPONSE: the final response of a completed asynchronous command is posted (R130, R147). -/
def execAsyncFinalResponse (m : Fin 16) (seq : BitVec 16) (s : State) : Res :=
  whenLive s fun s =>
    if !s.canRequest then s
    else match s.running.find? (fun r => r.mbx == m && r.seq == seq && r.async && r.final) with
      | none => s
      | some r =>
        if r.done.isSome then s.postFinal r
        else match r.wait with
          | .unitFence u => s.unfenceEnd r u
          | _ => s.modelLoaded r

/-- PCIE_COMPLETION_TIMEOUT: a read of the host gets no completion: it is reported through AER and fails (R144, R145,
R148, R354, R497). -/
def execPcieCompletionTimeout (by_ : PcieRead) (s : State) : Res :=
  whenLive s fun s =>
    let s := s.aerReport .completionTimeout
    match by_ with
    | .command m => if s.mbxReady m then s.serve m none .none else s
    | .desc m e => if s.mbxReady m then s.serve m (some e) .failed else s
    | .ring n => match s.ringReads n.val with
      | none => s
      | some x => s.ringStop n.val x
    | .rer => if s.rerReads then s.updLofin (fun l => { l with rerDue := some (s.clock + 100) }) else s

end Sys2Proof.Machine
end

