-- ==== Sys2Proof/Machine/RegWrite.lean ====
section
/-!
DEFINITION. Writes of registers (00 R10, R11; 02, 03, 04, 07, 08, 09, 11, 14, 16, 17, 20, Registers and fields). A field
with a row of its own takes that row's meaning.
-/

namespace Sys2Proof.Machine
open Sys2Proof

/-- One half of a 64-bit register is written. -/
def setHalf (old : U64) (hi : Bool) (v : U32) : U64 :=
  if hi then BitVec.ofNat 64 (old.toNat % 2 ^ 32 + v.toNat * 2 ^ 32)
  else BitVec.ofNat 64 (old.toNat / 2 ^ 32 * 2 ^ 32 + v.toNat)

/-- One half of a register of `n` bits is written; bits it does not have are ignored (R11). -/
def halfInto {n : Nat} (old : BitVec n) (hi : Bool) (v : U32) : BitVec n :=
  (setHalf (old.setWidth 64) hi v).setWidth n

/-- The field `[lo + w - 1 : lo]` of a written word. -/
def field (v : U32) (lo w : Nat) : BitVec w := BitVec.ofNat w (v.toNat / 2 ^ lo)

/-! ### BAR0 -/

/-- Ring registers of a disabled mailbox, and MBX_STATUS.ERR (R119, R120; 04, At the edges). -/
def Mbx.write (x : Mbx) (o : Nat) (v : U32) : Mbx :=
  let size (old : BitVec 4) : BitVec 4 := if 4 ≤ (field v 0 4).toNat && (field v 0 4).toNat ≤ 12 then field v 0 4 else old
  if o = 0x034 then (if v.getLsbD 8 then { x with err := false, errCode := .none } else x)
  else if x.enabled then x
  else if o = 0x000 then { x with cmdBase := setHalf x.cmdBase false (v &&& 0xFFFFF000) }
  else if o = 0x004 then { x with cmdBase := setHalf x.cmdBase true v }
  else if o = 0x008 then { x with cmdSize := size x.cmdSize }
  else if o = 0x018 then { x with rspBase := setHalf x.rspBase false (v &&& 0xFFFFF000) }
  else if o = 0x01C then { x with rspBase := setHalf x.rspBase true v }
  else if o = 0x020 then { x with rspSize := size x.rspSize }
  else x

/-- Supply registers (02, At the edges, Registers and fields). -/
def Supply.write (p : Supply) (o : Nat) (v : U32) : Supply :=
  if o = 0x004 then { p with event := p.event &&& ~~~(field v 0 7) }
  else if o = 0x008 then { p with eventEn := field v 0 7 }
  else if o = 0x018 then
    let f := (field v 0 9).toNat
    let c := (field v 16 9).toNat
    if 260 ≤ f && f ≤ c && c ≤ 360 then { p with floor := field v 0 9, ceil := field v 16 9 } else p
  else if o = 0x01C then (if (field v 0 4).toNat ≤ 8 then { p with margin := field v 0 4 } else p)
  else if o = 0x080 then
    let t := (field v 0 8).toNat
    let h := (field v 8 8).toNat
    { p with
      throttleC := if 85 ≤ t && t ≤ 100 then field v 0 8 else p.throttleC
      hystC := if 2 ≤ h && h ≤ 10 then field v 8 8 else p.hystC }
  else p

/-- Keeper registers (20, Registers and fields). -/
def Keeper.write (k : Keeper) (o : Nat) (v : U32) : Keeper :=
  if o = 0x00C then { k with event := k.event &&& ~~~(field v 0 4) }
  else if o = 0x010 then { k with eventEn := field v 0 4 }
  else k

/-- An MSI-X table entry (R149). -/
def MsixEntry.write (e : MsixEntry) (o : Nat) (v : U32) : MsixEntry :=
  if o = 0 then { e with addr := setHalf e.addr false v }
  else if o = 4 then { e with addr := setHalf e.addr true v }
  else if o = 8 then { e with data := v }
  else { e with mask := v.getLsbD 0 }

/-- Block, index and offset of a BAR0 word that a write may reach. -/
inductive Bar0Block where
  /-- BOOT_HOST_LEN. -/
  | hostLen
  /-- ID_SCRATCH. -/
  | scratch
  /-- The supply block. -/
  | sup (o : Nat)
  /-- The Keeper block. -/
  | kpr (o : Nat)
  /-- A mailbox. -/
  | mbx (m : Fin 16) (o : Nat)
  /-- The interrupt block. -/
  | int (o : Nat)
  /-- BOOT_HOST_CTRL. -/
  | hostCtrl
  /-- A result ring. -/
  | rrg (n : Fin 64) (o : Nat)
  /-- An MSI-X entry. -/
  | msix (v : Fin 64) (o : Nat)
  /-- Nothing that this row writes. -/
  | none
  deriving DecidableEq, Repr

/-- Where the supply block lies in BAR0 (22, BAR0 map). -/
def supBlock : Nat := 0x3000
/-- Where the Keeper block lies in BAR0. -/
def kprRegs : Nat := 0x2000
/-- Where BOOT_HOST_LEN lies in BAR0. -/
def hostLenAt : Nat := 0x124

/-- The block that a BAR0 offset names. -/
def bar0Block (o : Nat) : Bar0Block :=
  if o = 0x020 then .scratch
  else if o = hostLenAt then .hostLen
  else if o = 0x120 then .hostCtrl
  else if 0x1000 ≤ o ∧ o < 0x2000 then .int (o - 0x1000)
  else if 0x20000 ≤ o ∧ o < 0x24000 then .rrg ⟨(o - 0x20000) / 0x100 % 64, Nat.mod_lt _ (by decide)⟩ (o % 0x100)
  else if supBlock ≤ o ∧ o < supBlock + 0x1000 then .sup (o - supBlock)
  else if kprRegs ≤ o ∧ o < kprRegs + 0x1000 then .kpr (o - kprRegs)
  else if 0x10000 ≤ o ∧ o < 0x20000 then .mbx (mbxOf ((o - 0x10000) / 0x1000)) (o % 0x1000)
  else if 0x100000 ≤ o ∧ o < 0x100400 then .msix ⟨(o - 0x100000) / 16 % 64, Nat.mod_lt _ (by decide)⟩ (o % 16)
  else .none

/-- The state after a row that always answers a next state. -/
def Res.orElse (r : Res) (s : State) : State := match r with | .next t => t | _ => s

/-- MBX_CTRL is written: RESET acts on the mailbox as it was before the write, then EN and IRQ_EN (R120, R136, R142, R143;
log entry 123). -/
def State.mbxCtrl (s : State) (m : Fin 16) (v : U32) : State :=
  let s := if v.getLsbD 2 then Res.orElse (execMbxIndexReset m s) s else s
  let s := Res.orElse (execMbxIrqEnWrite m (v.getLsbD 1) s) s
  Res.orElse (if v.getLsbD 0 then execMbxEnable m s else execMbxDisable m s) s

/-- A mailbox register is written (R120, R121, R136, R142). -/
def State.mbxWord (s : State) (m : Fin 16) (o : Nat) (v : U32) : State :=
  if o = 0x00C then Res.orElse (execMbxCmdTailWrite m v s) s
  else if o = 0x024 then Res.orElse (execMbxRspHeadWrite m v s) s
  else if o = 0x030 then s.mbxCtrl m v
  else if s.barUp then s.updMbx m (·.write o v) else s

/-- SUP_AVS_CTRL is written: CLEAR_FAULT, then EN (R73, R97). -/
def State.avsCtrl (s : State) (v : U32) : State :=
  let s := if v.getLsbD 1 then Res.orElse (execSupAvsClearFault s) s else s
  Res.orElse (execSupAvsEnable (v.getLsbD 0) s) s

/-- A BAR0 word is written, when its block is writable now (R82, R92, R149). -/
def State.bar0Word (s : State) (o : Nat) (v : U32) : State :=
  match bar0Block o with
  | .hostLen => if s.boot.hostWait then s.updBoot (fun b => { b with hostLen := v }) else s
  | .scratch => if s.barUp then s.updInt (fun i => { i with scratch := v }) else s
  | .sup o => if o = 0x014 then (if s.barUp then s.avsCtrl v else s)
    else if s.barUp then s.raising (·.updSup (·.write o v)) else s
  | .kpr o => if s.barUp then s.raising (·.updKpr (·.write o v)) else s
  | .mbx m o => s.mbxWord m o v
  | .int o =>
    if o = 0x000 then Res.orElse (execIntStatusWrite v s) s else if o = 0x004 then Res.orElse (execIntEnableWrite v s) s else s
  | .hostCtrl => if v.getLsbD 0 then Res.orElse (execBootHostGo s) s else s
  | .rrg n o =>
    if o = 0x014 then Res.orElse (execRrgReadWrite n v s) s else if o = 0x018 then Res.orElse (execRrgIrqWrite n v s) s else s
  | .msix n o =>
    if s.enablesUp then
      ({ s with host := { s.host with msix := updAt s.host.msix n (·.write o v) } } : State).flushMsix
    else s
  | .none => s

/-! ### Control space -/

/-- DRAM controller registers (07). -/
def Dmc.write (d : Dmc) (o : Nat) (v : U32) : Dmc :=
  if o = 0x000 then { d with
    strict := v.getLsbD 0, pageIdle := field v 8 8, wqHigh := field v 16 6, wqLow := field v 24 6 }
  else if o = 0x004 then { d with driftLimit := d.driftLimit && !v.getLsbD 4, mr4Fail := d.mr4Fail && !v.getLsbD 5 }
  else if o = 0x008 then { d with trefipb := field v 0 16 }
  else if o = 0x01C then { d with ueValid := d.ueValid && !v.getLsbD 31 }
  else d

/-- MEM_REGIONn (07). -/
def MemRegion.write (r : MemRegion) (o : Nat) (v : U32) : MemRegion :=
  if o = 0x00 || o = 0x04 then { r with base := halfInto r.base (o = 0x04) v }
  else if o = 0x08 || o = 0x0C then { r with size := halfInto r.size (o = 0x0C) v }
  else if o = 0x10 then { r with en := v.getLsbD 0, grain := field v 4 4, ways := field v 8 2, chFirst := field v 10 2 }
  else if o = 0x18 || o = 0x1C then { r with chOffset := halfInto r.chOffset (o = 0x1C) v }
  else r

/-- MMU_CTX_ROOTn as a word: EN in bit 0, ROOT from bit 12 (07). -/
def MmuRoot.word (r : MmuRoot) : U64 := BitVec.ofNat 64 (b2n r.en + r.root.toNat * 4096)

/-- MMU_CTX_ROOTn (07). -/
def MmuRoot.write (r : MmuRoot) (hi : Bool) (v : U32) : MmuRoot :=
  let w := setHalf r.word hi v
  { en := w.getLsbD 0, root := BitVec.ofNat 36 (w.toNat / 4096) }

/-- The registers of a pool that is off, and its enable (08). -/
def Pool.writeOff (p : Pool) (o : Nat) (v : U32) : Pool :=
  if o = 0x04 then { p with bufBytes := field v 0 25 }
  else if o = 0x08 then { p with count := field v 0 21 }
  else if o = 0x10 || o = 0x14 then { p with base := halfInto p.base (o = 0x14) v }
  else if o = 0x18 || o = 0x1C then { p with ring := halfInto p.ring (o = 0x1C) v }
  else if o = 0x20 || o = 0x24 then { p with stateAddr := halfInto p.stateAddr (o = 0x24) v }
  else p

/-- POOL_CFG of a pool that is off (08). -/
def Pool.writeCfg (p : Pool) (v : U32) : Pool :=
  { p with
    list := v.getLsbD 1, chain := v.getLsbD 2, fallback := v.getLsbD 3, adapt := v.getLsbD 4
    next := if v.getLsbD 12 then some (field v 8 4) else none, nextIdle := if v.getLsbD 12 then 0 else field v 8 4
    ctx := field v 16 6 }

/-- A pool's registers: RW fields while EN is 0, the buoys always, CLR_STATS (08). -/
def Pool.write (p : Pool) (o : Nat) (v : U32) : Pool :=
  if o = 0x28 || o = 0x2C || o = 0x30 then
    let q := if o = 0x28 then { p with buoy1 := field v 0 21 } else if o = 0x2C then { p with buoy2 := field v 0 21 }
      else { p with buoy3 := field v 0 21 }
    { q with b2 := q.b2Of }
  else if o = 0x60 then (if v.getLsbD 0 then { p with minFree := p.free, fails := 0 } else p)
  else if o = 0x00 then
    let q := if p.en then p else p.writeCfg v
    { q with en := v.getLsbD 0, b2 := q.b2Of }
  else if p.en then p else p.writeOff o v

/-- Device-wide BPM registers (08). -/
def Bpm.write (b : Bpm) (o : Nat) (v : U32) : Bpm :=
  if o = 0x00 then { b with event := b.event &&& ~~~(field v 0 16) }
  else if o = 0x04 then { b with freeErr := b.freeErr &&& ~~~(field v 0 16) }
  else if o = 0x14 then { b with freeErrLast := if v.getLsbD 31 then none else b.freeErrLast }
  else b

/-- LTN_STATUS.OVERLOAD and LTN_CFG (17). -/
def Ltn.write (t : Ltn) (o : Nat) (v : U32) : Ltn :=
  if o = 0x000 then { t with overload := t.overload && !v.getLsbD 5 }
  else if o = 0x004 then { t with
    autoRange := v.getLsbD 0, tint10 := v.getLsbD 1, gain := if field v 4 4 = (0 : BitVec 4) then t.gain else field v 4 4, dither := field v 8 6
    modOffset := field v 16 6, lightMin := field v 24 8 }
  else t

/-- Firmware runs: from stage 0x07, while the device is not stopped or off (03, 19 R563). -/
def State.fwRuns (s : State) : Bool :=
  7 ≤ s.boot.stage.toNat && !s.boot.stopped && !s.kpr.stopped && s.sup.power != .off

/-- A route entry is written through its byte (16). -/
def State.routeByte (s : State) (d : Nat) (v : Nat) : State :=
  if h : d < 128 then s.updLofin (fun l => { l with route := updAt l.route ⟨d, h⟩ (fun _ => BitVec.ofNat 4 v) }) else s

/-- A register of a pool is written: its windows begin with its enable, new levels are evaluated at once (R259, R263, R264). -/
def State.poolWrite (s : State) (n o : Nat) (v : U32) : State :=
  let old := s.poolN n
  let now := s.clock
  let s := s.updPoolN n (·.write o v)
  let s := if !old.en && (s.poolN n).en then s.updPoolN n (fun p => { p with windowEnd := now + 1000, grants := 0 }) else s
  if o = 0x28 || o = 0x2C || o = 0x30 then (s.poolLevels n).relieve n else s

/-- Registers from 0x0130_0000_8000 on: BPM, pips, sources, Towers and the Feature Store (08, 09, 11, 14). -/
def State.ctlDevice (s : State) (o : Nat) (v : U32) : State :=
  if 0x8000 ≤ o ∧ o < 0x8800 then s.poolWrite ((o - 0x8000) / 0x80) (o % 0x80) v
  else if 0x8800 ≤ o ∧ o < 0x9000 then { s with bpm := s.bpm.write (o - 0x8800) v }
  else if o = 0x9000 then
    (if v.getLsbD 31 then { s with pip := { s.pip with peak := BitVec.ofNat 15 s.pip.watch.length } } else s)
  else if 0xA000 ≤ o ∧ o < 0xA600 ∧ o % 0x100 = 0 then
    (if v.getLsbD 3 then s.updCsi ⟨(o - 0xA000) / 0x100 % 6, Nat.mod_lt _ (by decide)⟩ (fun c => { c with laneFault := false }) else s)
  else if o = 0xB008 || o = 0xB00C then s.updTbs (fun t => { t with step := halfInto t.step (o = 0xB00C) v })
  else if o = 0xE00C then
    (if v.getLsbD 31 then { s with str := { s.str with fs := { s.str.fs with ueValid := false } } } else s)
  else s

/-- A control-space word at an offset from 0x0130_0000_0000 is written (07, 08, 09, 11, 14, 16, 17). -/
def State.ctlWord (s : State) (o : Nat) (v : U32) : State :=
  if o < 0x4000 then s.updDmc ⟨o / 0x1000 % 4, Nat.mod_lt _ (by decide)⟩ (·.write (o % 0x1000) v)
  else if o < 0x4100 then
    let n : Fin 8 := ⟨(o - 0x4000) / 0x20 % 8, Nat.mod_lt _ (by decide)⟩
    { s with mem := { s.mem with region := updAt s.mem.region n (·.write (o % 0x20) v) } }
  else if 0x5008 ≤ o ∧ o < 0x5200 then
    let n : Fin 64 := ⟨(o - 0x5000) / 8 % 64, Nat.mod_lt _ (by decide)⟩
    { s with mem := { s.mem with root := updAt s.mem.root n (·.write (o % 8 = 4) v) } }
  else if o = 0x13000 then Res.orElse (execKprWdogKick (field v 0 8) s) s
  else if o = 0x11008 ∨ o = 0x11408 then
    Res.orElse (execLtnRangeWrite ⟨(o - 0x11000) / 0x400 % 2, Nat.mod_lt _ (by decide)⟩ (field v 0 2) (field v 2 2) s) s
  else if o = 0x10100 then s.updLofin (fun l => { l with devId := field v 0 7 })
  else if 0x10200 ≤ o ∧ o < 0x10280 then
    (List.range 4).foldl (fun s i => s.routeByte (o - 0x10200 + i) (v.toNat / 256 ^ i)) s
  else if 0x11000 ≤ o ∧ o < 0x11800 then s.updLtn ⟨(o - 0x11000) / 0x400 % 2, Nat.mod_lt _ (by decide)⟩ (·.write (o % 0x400) v)
  else s.ctlDevice o v

/-- The words of an access of 4 or 8 bytes, naturally aligned (R113). -/
def accessWords (o bytes value : Nat) : List (Nat × U32) :=
  if !bar0Good o bytes then []
  else (o, BitVec.ofNat 32 value) :: (if bytes = 8 then [(o + 4, BitVec.ofNat 32 (value / 2 ^ 32))] else [])

/-- REGISTER_WRITE: each field under its access type (R10, R11), a field with a row of its own by that row's meaning; a BAR0
write of another size or alignment is a bad access (R113); a poisoned BAR0 write is discarded and reported (R148); the
MSI-X and PTM capability bits and Device Control 2 (R134, R148, R327). -/
def execRegisterWrite (w : RegWrite) (s : State) : Res :=
  .next (match w with
    | .bar0 o bytes value poisoned =>
      if poisoned then s.aerReport .poisonedTlp
      else if !bar0Good o bytes then s.badAccess (BitVec.ofNat 24 o) bytes true
      else (accessWords o bytes value).foldl (fun s x => s.bar0Word x.1 x.2) s
    | .control a bytes value =>
      if !s.fwRuns || a < 0x013000000000 then s
      else if a = 0x013000005200 && bytes = 8 then Res.orElse (execMmuInvalWrite (BitVec.ofNat 64 value) s) s
      else (accessWords (a - 0x013000000000) bytes value).foldl (fun s x => s.ctlWord x.1 x.2) s
    | .msixEnable on => (s.updPcie (fun p => { p with msixEnable := on })).flushMsix
    | .funcMask on => (s.updPcie (fun p => { p with funcMask := on })).flushMsix
    | .completionTimeout us => s.updPcie (fun p => { p with cplTimeoutUs := us })
    | .ptmEnable on =>
      let now := s.clock
      s.updTbs (fun t => { t with
        ptmEnable := on, ptmDue := if on && !t.ptmEnable then now else t.ptmDue, ptm := if on then t.ptm else none }))

end Sys2Proof.Machine
end

