-- ==== Sys2Proof/Machine/Dispatch.lean ====
section
/-!
DEFINITION. One arm per command: each calls its meaning.
-/
namespace Sys2Proof.Machine
open Sys2Proof

/-- The effect of a command on everything but the queue. -/
def exec (i : Instr) (s : State) : Host.Outcome State Fault Refusal :=
  match i with
  | .deviceNop c => Sys2Proof.Machine.execDeviceNop c s
  | .deviceInfo c => Sys2Proof.Machine.execDeviceInfo c s
  | .devicePower c => Sys2Proof.Machine.execDevicePower c s
  | .ctxCreate c => Sys2Proof.Machine.execCtxCreate c s
  | .ctxDestroy c => Sys2Proof.Machine.execCtxDestroy c s
  | .mbxBind c => Sys2Proof.Machine.execMbxBind c s
  | .memAlloc c => Sys2Proof.Machine.execMemAlloc c s
  | .memFree c => Sys2Proof.Machine.execMemFree c s
  | .bar2Window c => Sys2Proof.Machine.execBar2Window c s
  | .modelLoad c => Sys2Proof.Machine.execModelLoad c s
  | .modelUnload c => Sys2Proof.Machine.execModelUnload c s
  | .instanceCreate c => Sys2Proof.Machine.execInstanceCreate c s
  | .instanceDestroy c => Sys2Proof.Machine.execInstanceDestroy c s
  | .modelQuery c => Sys2Proof.Machine.execModelQuery c s
  | .pipAlloc c => Sys2Proof.Machine.execPipAlloc c s
  | .pipFree c => Sys2Proof.Machine.execPipFree c s
  | .pipSignal c => Sys2Proof.Machine.execPipSignal c s
  | .pipRead c => Sys2Proof.Machine.execPipRead c s
  | .pipWait c => Sys2Proof.Machine.execPipWait c s
  | .poolCreate c => Sys2Proof.Machine.execPoolCreate c s
  | .poolDestroy c => Sys2Proof.Machine.execPoolDestroy c s
  | .poolAlloc c => Sys2Proof.Machine.execPoolAlloc c s
  | .poolFree c => Sys2Proof.Machine.execPoolFree c s
  | .poolQuery c => Sys2Proof.Machine.execPoolQuery c s
  | .poolBuoys c => Sys2Proof.Machine.execPoolBuoys c s
  | .diagFaultLog c => Sys2Proof.Machine.execDiagFaultLog c s
  | .diagProbe c => Sys2Proof.Machine.execDiagProbe c s
  | .diagUnit c => Sys2Proof.Machine.execDiagUnit c s
  | .flashRead c => Sys2Proof.Machine.execFlashRead c s
  | .flashWrite c => Sys2Proof.Machine.execFlashWrite c s
  | .fwSwitch c => Sys2Proof.Machine.execFwSwitch c s
  | .fuseSecver c => Sys2Proof.Machine.execFuseSecver c s
  | .fuseKey c => Sys2Proof.Machine.execFuseKey c s
  | .fuseRevoke c => Sys2Proof.Machine.execFuseRevoke c s
  | .streamSource c => Sys2Proof.Machine.execStreamSource c s
  | .streamAnalytics c => Sys2Proof.Machine.execStreamAnalytics c s
  | .streamResult c => Sys2Proof.Machine.execStreamResult c s
  | .streamStart c => Sys2Proof.Machine.execStreamStart c s
  | .streamStop c => Sys2Proof.Machine.execStreamStop c s
  | .streamStatus c => Sys2Proof.Machine.execStreamStatus c s
  | .streamReprocess c => Sys2Proof.Machine.execStreamReprocess c s
  | .streamClear c => Sys2Proof.Machine.execStreamClear c s
  | .streamTrack c => Sys2Proof.Machine.execStreamTrack c s
  | .streamView c => Sys2Proof.Machine.execStreamView c s
  | .jobSubmit c => Sys2Proof.Machine.execJobSubmit c s
  | .jobCancel c => Sys2Proof.Machine.execJobCancel c s
  | .jobQuery c => Sys2Proof.Machine.execJobQuery c s
  | .ckptWindow c => Sys2Proof.Machine.execCkptWindow c s
  | .ckptConfig c => Sys2Proof.Machine.execCkptConfig c s
  | .ckptNow c => Sys2Proof.Machine.execCkptNow c s
  | .ckptRestore c => Sys2Proof.Machine.execCkptRestore c s
  | .ckptQuery c => Sys2Proof.Machine.execCkptQuery c s
  | .safetyArm c => Sys2Proof.Machine.execSafetyArm c s
  | .safetyLock c => Sys2Proof.Machine.execSafetyLock c s
  | .safetyUnlock c => Sys2Proof.Machine.execSafetyUnlock c s
  | .safetyClear c => Sys2Proof.Machine.execSafetyClear c s
  | .safetyInject c => Sys2Proof.Machine.execSafetyInject c s
  | .resetUnit c => Sys2Proof.Machine.execResetUnit c s
  | .powerUnit c => Sys2Proof.Machine.execPowerUnit c s
  | .unitFence c => Sys2Proof.Machine.execUnitFence c s
  | .linkId c => Sys2Proof.Machine.execLinkId c s
  | .linkPort c => Sys2Proof.Machine.execLinkPort c s
  | .linkRoute c => Sys2Proof.Machine.execLinkRoute c s
  | .linkExport c => Sys2Proof.Machine.execLinkExport c s
  | .linkFlush c => Sys2Proof.Machine.execLinkFlush c s
  | .linkErrRing c => Sys2Proof.Machine.execLinkErrRing c s
  | .ethPort c => Sys2Proof.Machine.execEthPort c s
  | .ethNeighbour c => Sys2Proof.Machine.execEthNeighbour c s
  | .ethSession c => Sys2Proof.Machine.execEthSession c s
  | .ethFlow c => Sys2Proof.Machine.execEthFlow c s
  | .ethPtp c => Sys2Proof.Machine.execEthPtp c s
  | .ethStats c => Sys2Proof.Machine.execEthStats c s
  | .commandConsume entry host => Sys2Proof.Machine.execCommandConsume entry host s
  | .asyncFinalResponse m seq => Sys2Proof.Machine.execAsyncFinalResponse m seq s
  | .mbxCmdTailWrite m value => Sys2Proof.Machine.execMbxCmdTailWrite m value s
  | .mbxRspHeadWrite m value => Sys2Proof.Machine.execMbxRspHeadWrite m value s
  | .mbxEnable m => Sys2Proof.Machine.execMbxEnable m s
  | .mbxDisable m => Sys2Proof.Machine.execMbxDisable m s
  | .mbxIndexReset m => Sys2Proof.Machine.execMbxIndexReset m s
  | .mbxIrqEnWrite m on => Sys2Proof.Machine.execMbxIrqEnWrite m on s
  | .rrgReadWrite slot value => Sys2Proof.Machine.execRrgReadWrite slot value s
  | .rrgIrqWrite slot value => Sys2Proof.Machine.execRrgIrqWrite slot value s
  | .rrgIrqTimeout slot => Sys2Proof.Machine.execRrgIrqTimeout slot s
  | .intStatusWrite value => Sys2Proof.Machine.execIntStatusWrite value s
  | .intEnableWrite value => Sys2Proof.Machine.execIntEnableWrite value s
  | .msixUnmask v => Sys2Proof.Machine.execMsixUnmask v s
  | .bar0BadAccess offset bytes write => Sys2Proof.Machine.execBar0BadAccess offset bytes write s
  | .bar2Read offset len => Sys2Proof.Machine.execBar2Read offset len s
  | .bar2Write offset bytes poisoned => Sys2Proof.Machine.execBar2Write offset bytes poisoned s
  | .bar4DoorbellWrite offset bytes poisoned => Sys2Proof.Machine.execBar4DoorbellWrite offset bytes poisoned s
  | .bootHostGo => Sys2Proof.Machine.execBootHostGo s
  | .supAvsEnable on => Sys2Proof.Machine.execSupAvsEnable on s
  | .supAvsClearFault => Sys2Proof.Machine.execSupAvsClearFault s
  | .ltnRangeWrite t tx rx => Sys2Proof.Machine.execLtnRangeWrite t tx rx s
  | .mmuInvalWrite value => Sys2Proof.Machine.execMmuInvalWrite value s
  | .kprWdogKick token => Sys2Proof.Machine.execKprWdogKick token s
  | .registerWrite w => Sys2Proof.Machine.execRegisterWrite w s
  | .pmD3hotEntry => Sys2Proof.Machine.execPmD3hotEntry s
  | .pmD0Return => Sys2Proof.Machine.execPmD0Return s
  | .busMasterEnableChange on => Sys2Proof.Machine.execBusMasterEnableChange on s
  | .porNAssert => Sys2Proof.Machine.execPorNAssert s
  | .porNRelease bootSel => Sys2Proof.Machine.execPorNRelease bootSel s
  | .perstNAssert => Sys2Proof.Machine.execPerstNAssert s
  | .perstNRelease bootSel => Sys2Proof.Machine.execPerstNRelease bootSel s
  | .hotReset bootSel => Sys2Proof.Machine.execHotReset bootSel s
  | .linkDownReset bootSel => Sys2Proof.Machine.execLinkDownReset bootSel s
  | .bootStageComplete r => Sys2Proof.Machine.execBootStageComplete r s
  | .bootStageTimeout => Sys2Proof.Machine.execBootStageTimeout s
  | .pllNoLock => Sys2Proof.Machine.execPllNoLock s
  | .flashNoResponse => Sys2Proof.Machine.execFlashNoResponse s
  | .unitInitFail unit => Sys2Proof.Machine.execUnitInitFail unit s
  | .lockstepFail => Sys2Proof.Machine.execLockstepFail s
  | .supplyGuardActivate sag warn => Sys2Proof.Machine.execSupplyGuardActivate sag warn s
  | .supplyGuardRelease => Sys2Proof.Machine.execSupplyGuardRelease s
  | .guardWaitTimeout => Sys2Proof.Machine.execGuardWaitTimeout s
  | .flashOpComplete ok => Sys2Proof.Machine.execFlashOpComplete ok s
  | .droopTrip => Sys2Proof.Machine.execDroopTrip s
  | .droopBlockEnd e => Sys2Proof.Machine.execDroopBlockEnd e s
  | .avsEvaluation worst => Sys2Proof.Machine.execAvsEvaluation worst s
  | .avsLowerTimer => Sys2Proof.Machine.execAvsLowerTimer s
  | .avsSettleWaitEnd => Sys2Proof.Machine.execAvsSettleWaitEnd s
  | .avsDroopHoldoffEnd => Sys2Proof.Machine.execAvsDroopHoldoffEnd s
  | .avsbusFrameDone ok measMv => Sys2Proof.Machine.execAvsbusFrameDone ok measMv s
  | .tempSensorRead temps valid => Sys2Proof.Machine.execTempSensorRead temps valid s
  | .throttleDwellExpiry => Sys2Proof.Machine.execThrottleDwellExpiry s
  | .throttleReleaseExpiry => Sys2Proof.Machine.execThrottleReleaseExpiry s
  | .sensorStuckTimeout n => Sys2Proof.Machine.execSensorStuckTimeout n s
  | .powerSwitchOnStep => Sys2Proof.Machine.execPowerSwitchOnStep s
  | .keeperClockWindow counts => Sys2Proof.Machine.execKeeperClockWindow counts s
  | .keeperSupplyFault supply mv => Sys2Proof.Machine.execKeeperSupplyFault supply mv s
  | .keeperSelfTest pass => Sys2Proof.Machine.execKeeperSelfTest pass s
  | .keeperSmMismatch => Sys2Proof.Machine.execKeeperSmMismatch s
  | .watchdogTimeout => Sys2Proof.Machine.execWatchdogTimeout s
  | .hylLockstepMismatch => Sys2Proof.Machine.execHylLockstepMismatch s
  | .deviceFaultReport unit detail value => Sys2Proof.Machine.execDeviceFaultReport unit detail value s
  | .sourceWatchExpiry slot => Sys2Proof.Machine.execSourceWatchExpiry slot s
  | .deadlineWatchExpiry slot => Sys2Proof.Machine.execDeadlineWatchExpiry slot s
  | .noResultWatchExpiry slot => Sys2Proof.Machine.execNoResultWatchExpiry slot s
  | .startWatchExpiry slot => Sys2Proof.Machine.execStartWatchExpiry slot s
  | .safeNRelease => Sys2Proof.Machine.execSafeNRelease s
  | .beaconToggle => Sys2Proof.Machine.execBeaconToggle s
  | .csiHsBurstStart n lanes => Sys2Proof.Machine.execCsiHsBurstStart n lanes s
  | .csiFrameStart n vc hdr => Sys2Proof.Machine.execCsiFrameStart n vc hdr s
  | .csiLongPacket n vc dt hdr data crcOk => Sys2Proof.Machine.execCsiLongPacket n vc dt hdr data crcOk s
  | .csiFrameEnd n vc hdr => Sys2Proof.Machine.execCsiFrameEnd n vc hdr s
  | .csiLaneFault n => Sys2Proof.Machine.execCsiLaneFault n s
  | .lineTimerExpiry slot => Sys2Proof.Machine.execLineTimerExpiry slot s
  | .frameTimerExpiry slot => Sys2Proof.Machine.execFrameTimerExpiry slot s
  | .ethFrameReceive e bytes => Sys2Proof.Machine.execEthFrameReceive e bytes s
  | .rtpGapTimer session => Sys2Proof.Machine.execRtpGapTimer session s
  | .assemblyTimerExpiry slot => Sys2Proof.Machine.execAssemblyTimerExpiry slot s
  | .hostRingPoll slot host => Sys2Proof.Machine.execHostRingPoll slot host s
  | .hostRingEntryCopy slot host => Sys2Proof.Machine.execHostRingEntryCopy slot host s
  | .hostRingHalt slot => Sys2Proof.Machine.execHostRingHalt slot s
  | .staleRecordDue slot => Sys2Proof.Machine.execStaleRecordDue slot s
  | .ptpMessageReceive e domain msg => Sys2Proof.Machine.execPtpMessageReceive e domain msg s
  | .ptmRequest => Sys2Proof.Machine.execPtmRequest s
  | .ptmDialogueDone ok offset => Sys2Proof.Machine.execPtmDialogueDone ok offset s
  | .ppsEdge => Sys2Proof.Machine.execPpsEdge s
  | .ppsTimeout => Sys2Proof.Machine.execPpsTimeout s
  | .disciplineSourceLoss => Sys2Proof.Machine.execDisciplineSourceLoss s
  | .tbsLockTimer => Sys2Proof.Machine.execTbsLockTimer s
  | .ppsOutPulse rise => Sys2Proof.Machine.execPpsOutPulse rise s
  | .workItemEligible item => Sys2Proof.Machine.execWorkItemEligible item s
  | .saveRestoreDone e err => Sys2Proof.Machine.execSaveRestoreDone e err s
  | .unitYield e => Sys2Proof.Machine.execUnitYield e s
  | .engineItemComplete e r => Sys2Proof.Machine.execEngineItemComplete e r s
  | .weightImageLoadDone t ok books => Sys2Proof.Machine.execWeightImageLoadDone t ok books s
  | .vpuLocalLoadDone v ok => Sys2Proof.Machine.execVpuLocalLoadDone v ok s
  | .tileRunComplete t r faults => Sys2Proof.Machine.execTileRunComplete t r faults s
  | .tileRunRetryDone t faults => Sys2Proof.Machine.execTileRunRetryDone t faults s
  | .runLimitExceeded e => Sys2Proof.Machine.execRunLimitExceeded e s
  | .probeDue t => Sys2Proof.Machine.execProbeDue t s
  | .probeComplete t passes => Sys2Proof.Machine.execProbeComplete t passes s
  | .referenceVectorDue e => Sys2Proof.Machine.execReferenceVectorDue e s
  | .referenceVectorComplete e pass => Sys2Proof.Machine.execReferenceVectorComplete e pass s
  | .level3Promotion e id => Sys2Proof.Machine.execLevel3Promotion e id s
  | .quantumEnd vpu => Sys2Proof.Machine.execQuantumEnd vpu s
  | .admissionReevaluate => Sys2Proof.Machine.execAdmissionReevaluate s
  | .fsScrubAccess err => Sys2Proof.Machine.execFsScrubAccess err s
  | .decodeComplete v pic => Sys2Proof.Machine.execDecodeComplete v pic s
  | .decodeStopTimeout v => Sys2Proof.Machine.execDecodeStopTimeout v s
  | .veeEncodeComplete err => Sys2Proof.Machine.execVeeEncodeComplete err s
  | .veeSliceSend v nals lastSlice => Sys2Proof.Machine.execVeeSliceSend v nals lastSlice s
  | .prepComplete p ue => Sys2Proof.Machine.execPrepComplete p ue s
  | .cropComplete p ue => Sys2Proof.Machine.execCropComplete p ue s
  | .ppeStopTimeout p region => Sys2Proof.Machine.execPpeStopTimeout p region s
  | .selectComplete slot poisoned => Sys2Proof.Machine.execSelectComplete slot poisoned s
  | .trackComplete slot ue => Sys2Proof.Machine.execTrackComplete slot ue s
  | .ssuTrkStopTimeout trk => Sys2Proof.Machine.execSsuTrkStopTimeout trk s
  | .resultPost slot => Sys2Proof.Machine.execResultPost slot s
  | .resultRingFullTimeout slot => Sys2Proof.Machine.execResultRingFullTimeout slot s
  | .udpDatagramSend e => Sys2Proof.Machine.execUdpDatagramSend e s
  | .bpmAllocDecision p => Sys2Proof.Machine.execBpmAllocDecision p s
  | .bpmFree unit epoch free => Sys2Proof.Machine.execBpmFree unit epoch free s
  | .bpmCacheRefill p => Sys2Proof.Machine.execBpmCacheRefill p s
  | .bpmCacheSpill p => Sys2Proof.Machine.execBpmCacheSpill p s
  | .bpmRebuildDone p => Sys2Proof.Machine.execBpmRebuildDone p s
  | .adaptiveWindowEnd p => Sys2Proof.Machine.execAdaptiveWindowEnd p s
  | .pipSignalApply by_ pip op value err => Sys2Proof.Machine.execPipSignalApply by_ pip op value err s
  | .pipWaitRegister w => Sys2Proof.Machine.execPipWaitRegister w s
  | .pipOverflowPoll => Sys2Proof.Machine.execPipOverflowPoll s
  | .pipWaitTimeout m seq => Sys2Proof.Machine.execPipWaitTimeout m seq s
  | .dmcReadRequest n line mask req => Sys2Proof.Machine.execDmcReadRequest n line mask req s
  | .dmcWriteRequest n line mask data req => Sys2Proof.Machine.execDmcWriteRequest n line mask data req s
  | .pageIdleClose n bank => Sys2Proof.Machine.execPageIdleClose n bank s
  | .dramRefresh n issued => Sys2Proof.Machine.execDramRefresh n issued s
  | .mr4Poll n code req => Sys2Proof.Machine.execMr4Poll n code req s
  | .driftUpdate n lane rd wr => Sys2Proof.Machine.execDriftUpdate n lane rd wr s
  | .patrolScrubStep n err => Sys2Proof.Machine.execPatrolScrubStep n err s
  | .dmcUnansweredTimeout n => Sys2Proof.Machine.execDmcUnansweredTimeout n s
  | .mmuTranslate ctx unit addr len write walkUe => Sys2Proof.Machine.execMmuTranslate ctx unit addr len write walkUe s
  | .teardownDrainDone ctx => Sys2Proof.Machine.execTeardownDrainDone ctx s
  | .staleEpochDrop unit epoch => Sys2Proof.Machine.execStaleEpochDrop unit epoch s
  | .unitResetComplete unit => Sys2Proof.Machine.execUnitResetComplete unit s
  | .unitPowerOnDone unit => Sys2Proof.Machine.execUnitPowerOnDone unit s
  | .epochDrainTimeout unit => Sys2Proof.Machine.execEpochDrainTimeout unit s
  | .fwImageCheckDone => Sys2Proof.Machine.execFwImageCheckDone s
  | .fwSwitchDrainDone => Sys2Proof.Machine.execFwSwitchDrainDone s
  | .fwSwitchDrainTimeout => Sys2Proof.Machine.execFwSwitchDrainTimeout s
  | .fwSwitchHandoverDone => Sys2Proof.Machine.execFwSwitchHandoverDone s
  | .fwSwitchRevert => Sys2Proof.Machine.execFwSwitchRevert s
  | .ckptTimerTrigger slot => Sys2Proof.Machine.execCkptTimerTrigger slot s
  | .ckptSnapshot slot => Sys2Proof.Machine.execCkptSnapshot slot s
  | .ckptCopyDone slot ue => Sys2Proof.Machine.execCkptCopyDone slot ue s
  | .ckptReductionDone slot ue => Sys2Proof.Machine.execCkptReductionDone slot ue s
  | .linkTrainingDone p lanes => Sys2Proof.Machine.execLinkTrainingDone p lanes s
  | .linkTrainingTimeout p => Sys2Proof.Machine.execLinkTrainingTimeout p s
  | .flitReceive p flit ue => Sys2Proof.Machine.execFlitReceive p flit ue s
  | .linkControlFlitSend p => Sys2Proof.Machine.execLinkControlFlitSend p s
  | .retrainTimeout p => Sys2Proof.Machine.execRetrainTimeout p s
  | .lfnLossOfLock p => Sys2Proof.Machine.execLfnLossOfLock p s
  | .lfnPacketForward p pkt => Sys2Proof.Machine.execLfnPacketForward p pkt s
  | .creditWaitTimeout p => Sys2Proof.Machine.execCreditWaitTimeout p s
  | .writePostedArrive p pkt => Sys2Proof.Machine.execWritePostedArrive p pkt s
  | .readReqArrive p pkt => Sys2Proof.Machine.execReadReqArrive p pkt s
  | .pipSignalPacketArrive p pkt => Sys2Proof.Machine.execPipSignalPacketArrive p pkt s
  | .flushArrive p pkt => Sys2Proof.Machine.execFlushArrive p pkt s
  | .wcountServe pkt => Sys2Proof.Machine.execWcountServe pkt s
  | .readRspArrive p pkt => Sys2Proof.Machine.execReadRspArrive p pkt s
  | .readTimeout tag => Sys2Proof.Machine.execReadTimeout tag s
  | .flushAckArrive p pkt => Sys2Proof.Machine.execFlushAckArrive p pkt s
  | .flushAckTimeout dst => Sys2Proof.Machine.execFlushAckTimeout dst s
  | .errNoticeArrive p pkt => Sys2Proof.Machine.execErrNoticeArrive p pkt s
  | .errNoticeSend => Sys2Proof.Machine.execErrNoticeSend s
  | .helloArrive p pkt => Sys2Proof.Machine.execHelloArrive p pkt s
  | .windowArrive p pkt => Sys2Proof.Machine.execWindowArrive p pkt s
  | .windowQueryArrive p pkt => Sys2Proof.Machine.execWindowQueryArrive p pkt s
  | .windowQueryTimeout dst => Sys2Proof.Machine.execWindowQueryTimeout dst s
  | .remoteRequestIssue by_ req => Sys2Proof.Machine.execRemoteRequestIssue by_ req s
  | .rerConsumerPoll consumer => Sys2Proof.Machine.execRerConsumerPoll consumer s
  | .ltnCalDone t ratios => Sys2Proof.Machine.execLtnCalDone t ratios s
  | .ltnLightQualified t rx => Sys2Proof.Machine.execLtnLightQualified t rx s
  | .ltnSweepDwellEnd t rx raw found => Sys2Proof.Machine.execLtnSweepDwellEnd t rx raw found s
  | .ltnIntegrationEnd t rx y peak overload => Sys2Proof.Machine.execLtnIntegrationEnd t rx y peak overload s
  | .ltnDitherBoundary t rx peak => Sys2Proof.Machine.execLtnDitherBoundary t rx peak s
  | .ltnBlankingEnd t rx => Sys2Proof.Machine.execLtnBlankingEnd t rx s
  | .ltnAcquireTimeout t => Sys2Proof.Machine.execLtnAcquireTimeout t s
  | .ltnRelockTimeout t r => Sys2Proof.Machine.execLtnRelockTimeout t r s
  | .ltnLockDeadline t => Sys2Proof.Machine.execLtnLockDeadline t s
  | .ltnLightLoss t rx => Sys2Proof.Machine.execLtnLightLoss t rx s
  | .ltnWarmRelockStart t => Sys2Proof.Machine.execLtnWarmRelockStart t s
  | .ltnWarmRelockTimeout t => Sys2Proof.Machine.execLtnWarmRelockTimeout t s
  | .ltnHeaterFault t r => Sys2Proof.Machine.execLtnHeaterFault t r s
  | .ltnMonitorFault t rx => Sys2Proof.Machine.execLtnMonitorFault t rx s
  | .pcieCompletionTimeout by_ => Sys2Proof.Machine.execPcieCompletionTimeout by_ s
  | .pcieTlpError kind => Sys2Proof.Machine.execPcieTlpError kind s
  | .flushSpacingEnd dst => Sys2Proof.Machine.execFlushSpacingEnd dst s
  | .unitInternalFault unit => Sys2Proof.Machine.execUnitInternalFault unit s
  | .unitReadyTimeout unit => Sys2Proof.Machine.execUnitReadyTimeout unit s
  | .vddIo18Loss => Sys2Proof.Machine.execVddIo18Loss s
  | .ptpDelayReqSend e => Sys2Proof.Machine.execPtpDelayReqSend e s
  | .ethPcsLockChange e up => Sys2Proof.Machine.execEthPcsLockChange e up s

end Sys2Proof.Machine
end

