-- ==== Sys2Proof/Machine/Tick.lean ====
section
/-!
DEFINITION. What time does when no command waits: one microsecond of the model's clock (log entry 3).
-/
namespace Sys2Proof.Machine
open Sys2Proof

/-- One microsecond is 800 cycles of CLK_FABRIC, each of which adds STEP to device time (R326). -/
def tbsTick (t : Tbs) : Tbs :=
  if t.running then
    let n := t.now.toNat * 2 ^ 32 + t.frac.toNat + 800 * t.step.toNat
    { t with now := BitVec.ofNat 64 (n / 2 ^ 32), frac := BitVec.ofNat 32 n }
  else t

/-- KPR_TICK counts 100 µs from the release of POR_N (R569). -/
def kprTick (clock : Nat) (k : Keeper) : Keeper :=
  if (clock - k.tickFrom) % 100 = 0 then { k with tick := k.tick + 1 } else k

/-- CLK_CORE cycles of one microsecond, in fifteenths, at the divider that the throttle and the AVS controller ask for; a
droop stretch takes its part off when its block ends (R41, R44; log entry 17). -/
def coreFifteenths (s : State) : Nat :=
  if s.sup.throttle = 2 then 12000 else if s.sup.throttle = 1 || s.sup.avsLimit || s.sup.avsFault then 16000 else 19200

/-- The Keeper's 100 µs window of CLK_CORE: it ends with KPR_TICK, and one that began before the clocks were checked is
not compared (R44; log entry 17). -/
def winTick (s : State) (k : Keeper) : Keeper :=
  if s.boot.stage < 3 || s.sup.power == .off then { k with winExp := none, winDone := none }
  else
    let w := k.winExp.map (· + coreFifteenths s)
    if (s.clock + 1 - k.tickFrom) % 100 = 0 then { k with winExp := some 0, winDone := w } else { k with winExp := w }

/-- The item that engine `e` runs has run one microsecond more (R299, R383, R408). -/
def runTick (s : State) (e : Nat) (x : Engine) : Engine :=
  { x with running := x.running.map (fun i => { i with ran := i.ran + (if e < 24 then coreFifteenths s else 1) }) }

/-- One idle microsecond; the engines run only while the device is live (R563). -/
def State.idleTick (s : State) : State :=
  ({ s with
    clock := s.clock + 1
    kpr := if s.kprRuns then winTick s (kprTick (s.clock + 1) s.kpr) else s.kpr
    sched := if s.live then { s.sched with eng := Vector.ofFn (fun e => runTick s e.val s.sched.eng[e]) } else s.sched } : State).updTbs tbsTick

end Sys2Proof.Machine
end

