-- ==== Sys2Proof/Machine/Step.lean ====
section
/-!
DEFINITION. One step: the command at the front of the queue runs on the state with the rest of the queue; with an
empty queue the clocks advance (log entry 3).
-/
namespace Sys2Proof.Machine
open Sys2Proof

/-- The word's command, put at the front of the queue. -/
def State.withFetchWord (s : State) (nbits w : Nat) : State :=
  match decodeTableWord nbits w with
  | some i => { s with pending := i :: s.pending }
  | none => s

/-- One step. -/
def step (s : State) : Host.Outcome State Fault Refusal :=
  match s.pending with
  | [] => .next s.idleTick
  | i :: rest => exec i { s with pending := rest }

end Sys2Proof.Machine
end

