-- ==== Sys2Proof/Safety.lean ====
section
/-!
DEFINITION. What the statements say of states and commands: when a command passes its checks, when a step goes on, and
what counts as a sound state.
-/
namespace Sys2Proof.Machine
open Sys2Proof

/-- The step answers a next state. -/
def stepsOn (s : State) : Prop := ∃ t, step s = .next t

/-- A flash command that waits in its mailbox for the one whose final response is to come (R173). -/
def Command.waits (k : Command) (s : State) : Bool := (k.spec.op == 0x0D01 || k.spec.op == 0x0D02) && s.flashBusy

/-- A consumed command passes every check before its own part: its mailbox is served and the response ring has room
(R124, R131), no firmware handover (R139) and no flash command before it (R173) holds it, its header passes (R126, steps 2
to 4), its listed fields lie in their ranges (R15), and an asynchronous one finds fewer than 8 outstanding (R130). `desc` is
the D mark. -/
def Command.passes (k : Command) (desc : Bool) (c : HostCmd) (s : State) : Bool :=
  s.served c.mbx && s.hasRoom c.mbx c.async && s.fw.phase != .handover && !k.waits s && k.spec.headerError s c == none
    && c.desc == desc && (desc || k.spec.rangesOk c) && (!c.async || s.asyncOut c.mbx < 8)

/-- It passes them, with ASYNC or without. -/
def Command.takes (k : Command) (c : HostCmd) (s : State) : Bool := k.passes false c s

/-- A command completes with a status and data: with ASYNC, a success is answered PENDING now and with its final response
later (R130); anything else is one response. -/
def State.reply (s : State) (c : HostCmd) (op : Nat) (st : Status) (data : List Byte) : State :=
  if c.async && st = .ok then
    let t := s.respond c.mbx op c.seq c.noIrq .pending []
    { t with running := t.running ++
      [{ mbx := c.mbx, op := op, seq := c.seq, noIrq := c.noIrq, async := true, wait := .flashWrite, done := some (st, data) }] }
  else s.answer c op st data

/-- It passes them and is executed synchronously. -/
def Command.accepts (k : Command) (c : HostCmd) (s : State) : Bool := k.passes false c s && !c.async

/-- It passes them and is executed asynchronously (R130). -/
def Command.acceptsAsync (k : Command) (c : HostCmd) (s : State) : Bool := k.passes false c s && c.async

/-- A descriptor command whose descriptor was read: it lies on 64 bytes and has 1 to 2^24 bytes (R125, R145). -/
def Command.acceptsDesc (k : Command) (c : HostCmd) (bytes : List Byte) (s : State) : Bool :=
  k.passes true c s && !c.async && c.f 8 8 % 64 == 0 && c.f 16 4 != 0 && c.f 16 4 ≤ 16777216 && c.host == .data bytes

/-- The command with its descriptor's bytes cut or zero-filled to the length that its payload gives (R125). -/
def HostCmd.withDesc (c : HostCmd) (bytes : List Byte) : HostCmd := { c with host := .data (padTo (c.f 16 4) bytes) }

/-- A reset row is not among these commands. -/
def resetFree : List Instr → Bool
  | [] => true
  | i :: is => (match i with
    | .porNAssert | .porNRelease _ | .perstNAssert | .perstNRelease _ | .hotReset _ | .linkDownReset _ | .vddIo18Loss => false
    | _ => true) && resetFree is

/-- The device has stopped after a device fault: booted, DEVICE latched, SAFE_N low (R563, R581). -/
def State.halted (s : State) : Bool :=
  s.kpr.stopped && s.kpr.fault.getLsbD 1 && !s.kpr.safe && s.boot.stage == 0xF && !s.boot.hostWait

/-- A message that a stopped device may still send: a set point of the supply, the answer to a read of BAR0 or BAR2. -/
def Out.whenHalted : Out → Bool
  | .avsbus _ _ _ _ | .bar2Data _ _ | .barData _ => true
  | _ => false

end Sys2Proof.Machine
end

