-- ==== Sys2Proof/Certificates/Slice0/Obligations.lean ====
section
/-!
DEFINITION. The statements about the model, for the provers. Rules R<n> are those of spec/.
-/
open Sys2Proof Sys2Proof.Machine

/-! ### One step and the commands -/

/-- A step takes the command at the front of the queue and runs it on the state with the rest of the queue; with an empty
queue the clocks advance (the model's choice, log entry 3). -/
def Obligations.StepRunsFront : Prop :=
  (∀ (i : Instr) (rest : List Instr) (s : State),
    step { s with pending := i :: rest } = exec i { s with pending := rest })
  ∧ ∀ s : State, step { s with pending := [] } = .next ({ s with pending := [] } : State).idleTick

/-- A response is one 64-byte message at RSP_BASE + 64 × RSP_TAIL with the command's OPCODE and SEQ and the status; RSP_TAIL
advances round the ring, and nothing but the host interface and what has been sent out changes (R123, R136). -/
def Obligations.ResponsePosted : Prop :=
  ∀ (s : State) (m : Fin 16) (op : Nat) (seq : BitVec 16) (ni : Bool) (st : Status) (data : List Byte),
    let t := s.respond m op seq ni st data
    .hostWrite (s.host.mbx[m].rspBase.toNat + 64 * s.host.mbx[m].rspTail.toNat)
        (leBytes 2 op ++ leBytes 2 seq.toNat ++ leBytes 2 st.code ++ zeros 2 ++ padTo 56 data) ∈ t.out
    ∧ t.host.mbx[m].rspTail = BitVec.ofNat 12 ((s.host.mbx[m].rspTail.toNat + 1) % 2 ^ s.host.mbx[m].rspSize.toNat)
    ∧ (∀ i : Fin 16, i ≠ m → t.host.mbx[i] = s.host.mbx[i])
    ∧ ({ t with host := s.host, out := s.out } : State) = s

/-- A command of a mailbox that is not served changes nothing, nor does a flash command while an earlier one's final response is to
come (R131, R173); one whose responses find no room in the response ring sets RSP_STALL and keeps for which room it waits (R124).
During a handover, a command without the H mark answers UPDATING and has no effect (R139).
The header checks of R126 in their order: a reserved bit that is set, of FLAGS or of the payload, answers RESERVED_NONZERO, a byte behind
LINK_ROUTE's masks among them (R12); a LEN above 7 or outside the
command's range answers INVALID_FIELD; a command marked M0 through another mailbox answers DENIED; a ninth asynchronous
command answers BUSY (R130); an accepted field out of its range answers INVALID_FIELD (R15); each without any effect. -/
def Obligations.CommandTurnedAway : Prop :=
  (∀ (k : Command) (c : HostCmd) (s : State),
    (s.served c.mbx = false → direct k c s = .next s)
    ∧ (s.served c.mbx = true → s.hasRoom c.mbx c.async = true → s.fw.phase ≠ .handover → k.waits s = true → direct k c s = .next s)
    ∧ (s.served c.mbx = true → s.hasRoom c.mbx c.async = false →
      direct k c s = .next (s.updMbx c.mbx (fun x => { x with rspStall := true, stallAsync := c.async }))))
  ∧ (∀ (k : Command) (c : HostCmd) (s : State), s.served c.mbx = true → s.hasRoom c.mbx c.async = true →
    s.fw.phase = .handover → k.spec.safe = false → direct k c s = .next (s.answer c k.spec.op .updating []))
  ∧ (∀ (k : Command) (c : HostCmd) (s : State), s.served c.mbx = true → s.hasRoom c.mbx c.async = true →
    s.fw.phase ≠ .handover → k.waits s = false →
    (8 ≤ c.flags.toNat → direct k c s = .next (s.answer c k.spec.op .reservedNonzero []))
    ∧ (k.spec.headerError s c = some .reservedNonzero → direct k c s = .next (s.answer c k.spec.op .reservedNonzero []))
    ∧ (∀ i, c.f 9 1 ≤ i → i < 46 → c.f (10 + i) 1 ≠ 0 → cmdLinkRoute.spec.headerError s c = some .reservedNonzero)
    ∧ (k.spec.headerError s c ≠ some .reservedNonzero → (7 < c.len.toNat ∨ c.len.toNat < k.spec.lenLo ∨ k.spec.lenHi < c.len.toNat) →
        direct k c s = .next (s.answer c k.spec.op .invalidField []))
    ∧ (k.spec.headerError s c ≠ some .reservedNonzero → k.spec.headerError s c ≠ some .invalidField →
        c.mbx ≠ 0 → k.spec.m0 = true → direct k c s = .next (s.answer c k.spec.op .denied []))
    ∧ (k.spec.headerError s c = none → c.desc = false → c.async = true → 8 ≤ s.asyncOut c.mbx →
        direct k c s = .next (s.answer c k.spec.op .busy []))
    ∧ (k.spec.headerError s c = none → c.desc = false → c.async = false ∨ s.asyncOut c.mbx < 8 → k.spec.rangesOk c = false →
        direct k c s = .next (s.answer c k.spec.op .invalidField [])))

/-! ### Host commands: device, contexts, memory, models -/

/-- DEVICE_NOP returns its payload (R154); DEVICE_INFO the device's data (R153). DEVICE_POWER to the present state answers its code at
once; a transition the table lacks answers DENIED; leaving ACTIVE or LOW while work runs answers BUSY, as does OFF with an erase
suspended or a program in progress; LOW and STANDBY are entered before the response, OFF after it; ACTIVE turns the units on, and
goes on until they are in service where one was off (R62, R155).
DIAG_FAULT_LOG writes the entries from the index asked for, or the oldest held, to the host buffer and answers their
count, the next index and the oldest index (NEXT after no entry is a free value, log entry 44), INVALID_FIELD where the buffer does not
lie on 64 bytes or cannot be written, the latter with DESC_FAULT; DIAG_PROBE places a probe and goes on until it is done, BUSY where
the device or the Tower is not in service; DIAG_UNIT reports a unit's power, fence, epoch and stale drops, NOT_FOUND for a unit that
the variant lacks (R169, R170). -/
def Obligations.DeviceCommands : Prop :=
  ((∀ (c : HostCmd) (s : State), cmdDeviceNop.accepts c s = true →
    exec (.deviceNop c) s = .next (s.answer c 0x0100 .ok (padTo 56 c.payload)))
  ∧ (∀ (c : HostCmd) (s : State), cmdDeviceInfo.accepts c s = true →
    exec (.deviceInfo c) s = .next (s.answer c 0x0101 .ok s.deviceInfo))
  ∧ (∀ (c : HostCmd) (s : State) (t : PowerState), cmdDevicePower.accepts c s = true → powerNamed (c.f 8 1) = t →
    (t = s.sup.power → exec (.devicePower c) s = .next (s.answer c 0x0102 .ok (leBytes 1 s.sup.power.code)))
    ∧ (s.sup.power = .standby → t = .low → exec (.devicePower c) s = .next (s.answer c 0x0102 .denied []))
    ∧ (t ≠ s.sup.power → ¬ (s.sup.power = .standby ∧ t = .low) → s.sup.power ≠ .off →
      (t ≠ .active → s.atWork = true → exec (.devicePower c) s = .next (s.answer c 0x0102 .busy []))
      ∧ (s.atWork = false → (t = .low ∨ t = .standby) →
        exec (.devicePower c) s = .next ((s.enterLow t).answer c 0x0102 .ok (leBytes 1 t.code)))
      ∧ (s.atWork = false → t = .off → (s.sup.eraseSusp.isSome = true ∨ s.sup.programming = true) →
        exec (.devicePower c) s = .next (s.answer c 0x0102 .busy []))
      ∧ (s.atWork = false → t = .off → s.sup.eraseSusp = none → s.sup.programming = false →
        exec (.devicePower c) s = .next ((s.answer c 0x0102 .ok (leBytes 1 3)).updSup (fun p => { p with power := .off })))
      ∧ (t = .active → (∀ u, u < 56 → s.wanted u = true → (s.gateN u).powered = true) →
        exec (.devicePower c) s = .next (s.startActive.answer c 0x0102 .ok [0]))
      ∧ (∀ u, t = .active → u < 56 → s.wanted u = true → (s.gateN u).powered = false →
        exec (.devicePower c) s = .next (c.proceed 0x0102 s.startActive (.power .active) [])))))
  ∧ ((∀ (c : HostCmd) (s : State), cmdDiagFaultLog.accepts c s = true →
    (c.f 8 8 % 64 ≠ 0 → exec (.diagFaultLog c) s = .next (s.answer c 0x0C01 .invalidField []))
    ∧ (c.f 8 8 % 64 = 0 → c.host = .failed →
      exec (.diagFaultLog c) s = .next ((s.mbxError c.mbx .descFault).answer c 0x0C01 .invalidField []))
    ∧ (c.f 8 8 % 64 = 0 → c.host ≠ .failed →
      let oldest := s.mem.logNext - s.mem.log.length
      let first := max (c.f 20 4) oldest
      let entries := ((s.mem.log.reverse).drop (first - oldest)).take (c.f 16 4)
      (entries ≠ [] →
        exec (.diagFaultLog c) s = .next ((s.emit (.hostWrite (c.f 8 8) (entries.flatMap FaultEntry.bytes))).answer c 0x0C01 .ok
          (leBytes 4 entries.length ++ leBytes 4 (first + entries.length) ++ leBytes 4 oldest)))
      ∧ (entries = [] → ∃ next : U32, exec (.diagFaultLog c) s = .next (s.takeFree.2.answer c 0x0C01 .ok
          (leBytes 4 0 ++ leBytes 4 next.toNat ++ leBytes 4 oldest)))))
  ∧ (∀ (c : HostCmd) (s : State), cmdDiagProbe.takes c s = true →
    (s.sup.power = .active → s.unitLive (c.f 8 1) = true →
      exec (.diagProbe c) s = .next (c.proceed 0x0C02 (s.placeProbe (c.f 8 1) .diag) (.probe (c.f 8 1)) []))
    ∧ (s.sup.power ≠ .active ∨ s.unitLive (c.f 8 1) = false →
      exec (.diagProbe c) s = .next (s.answer c 0x0C02 .busy [])))
  ∧ (∀ (c : HostCmd) (s : State), cmdDiagUnit.accepts c s = true →
    (s.unitAbsent (c.f 8 1) = true → exec (.diagUnit c) s = .next (s.answer c 0x0C03 .notFound []))
    ∧ (s.unitAbsent (c.f 8 1) = false →
      exec (.diagUnit c) s = .next (s.answer c 0x0C03 .ok
        (leBytes 1 (b2n (s.gateN (c.f 8 1)).powered) ++ leBytes 1 (b2n (s.gateN (c.f 8 1)).fenced)
          ++ leBytes 1 (s.gateN (c.f 8 1)).epoch.toNat ++ zeros 1 ++ leBytes 4 (s.gateN (c.f 8 1)).staleDrops.toNat)))))

/-- MBX_BIND answers NOT_FOUND for a context that does not exist and BUSY for an enabled mailbox, otherwise binds it or, with
CONTEXT 255, releases it; BAR2_WINDOW refuses a base that is not a multiple of 1 GiB or lies past Lofin's window base, and
otherwise moves the window and answers the old base (R158, R115).
CTX_CREATE makes the context asked for, or with 255 the lowest that is free (the choice of the lowest is the model's, log entry 40),
with its class limit, its quota and an empty page table, and answers BUSY for one that exists, NO_RESOURCE where none is free (R156).
CTX_DESTROY refuses context 0 with DENIED, an absent one with NOT_FOUND, one that owns an S-class slot under SAFETY_LOCK with
SAFETY_LOCKED, and otherwise starts the teardown, which goes on until the memory is free; TEARDOWN_DRAIN_DONE, once the streams and
jobs are gone, removes the context with its regions and page tables and completes the command with the counts (R157, R196, R241). -/
def Obligations.ContextCommands : Prop :=
  ((∀ (c : HostCmd) (s : State), cmdMbxBind.accepts c s = true →
    (c.f 9 1 ≠ 255 → s.ctxLive (c.f 9 1) = false → exec (.mbxBind c) s = .next (s.answer c 0x0203 .notFound []))
    ∧ ((c.f 9 1 = 255 ∨ s.ctxLive (c.f 9 1) = true) → s.host.mbx[mbxOf (c.f 8 1)].enabled = true →
      exec (.mbxBind c) s = .next (s.answer c 0x0203 .busy []))
    ∧ (s.ctxLive (c.f 9 1) = true → c.f 9 1 ≠ 255 → s.host.mbx[mbxOf (c.f 8 1)].enabled = false →
      exec (.mbxBind c) s = .next ((s.updMbx (mbxOf (c.f 8 1)) (fun b => { b with
        bound := true, context := BitVec.ofNat 6 (c.f 9 1), ctxGone := false })).answer c 0x0203 .ok
          (leBytes 1 (mbxOf (c.f 8 1)).val ++ leBytes 1 (c.f 9 1))))
    ∧ (c.f 9 1 = 255 → s.host.mbx[mbxOf (c.f 8 1)].enabled = false →
      exec (.mbxBind c) s = .next ((s.updMbx (mbxOf (c.f 8 1)) (fun b => { b with
        bound := false, context := 0, ctxGone := false })).answer c 0x0203 .ok
          (leBytes 1 (mbxOf (c.f 8 1)).val ++ leBytes 1 255))))
  ∧ (∀ (c : HostCmd) (s : State), cmdBar2Window.accepts c s = true →
    (c.f 8 8 % 2 ^ 30 ≠ 0 ∨ 0x020000000000 ≤ c.f 8 8 → exec (.bar2Window c) s = .next (s.answer c 0x0206 .invalidField []))
    ∧ (c.f 8 8 % 2 ^ 30 = 0 → c.f 8 8 < 0x020000000000 →
      exec (.bar2Window c) s = .next ((s.updInt (fun i => { i with bar2Base := BitVec.ofNat 64 (c.f 8 8) })).answer c 0x0206 .ok
        (leBytes 8 s.host.int.bar2Base.toNat)))))
  ∧ ((∀ (c : HostCmd) (s : State), cmdCtxCreate.accepts c s = true →
    (c.f 8 1 ≠ 255 → (s.ctxN (c.f 8 1)).exists_ = true → exec (.ctxCreate c) s = .next (s.answer c 0x0201 .busy []))
    ∧ (∀ n, (c.f 8 1 = n ∧ n ≠ 255 ∧ (s.ctxN n).exists_ = false)
        ∨ (c.f 8 1 = 255 ∧ 1 ≤ n ∧ n < 64 ∧ (s.ctxN n).exists_ = false ∧ ∀ i, 1 ≤ i → i < n → (s.ctxN i).exists_ = true) →
      ∃ (t : State) (root : BitVec 36), exec (.ctxCreate c) s = .next (t.answer c 0x0201 .ok
          (leBytes 1 n ++ leBytes 1 ((Cls.ofNat? (c.f 9 1)).getD .s).code ++ zeros 2 ++ leBytes 4 (c.f 12 4)))
        ∧ t.mem.ctx = updAt s.mem.ctx (ctxOf n)
          (fun _ => { exists_ := true, maxClass := (Cls.ofNat? (c.f 9 1)).getD .s, quotaMib := c.f 12 4 })
        ∧ t.mem.root = updAt s.mem.root (ctxOf n) (fun _ => { en := true, root := root })
        ∧ t.memRead (root.toNat * 4096) 4096 = zeros 4096
        ∧ ({ t with mem := s.mem, free := s.free, str := s.str } : State) = s)
    ∧ (c.f 8 1 = 255 → (∀ i : Nat, i < 64 → 1 ≤ i → (s.ctxN i).exists_ = true) →
        exec (.ctxCreate c) s = .next (s.answer c 0x0201 .noResource [])))
  ∧ (∀ (c : HostCmd) (s : State), cmdCtxDestroy.takes c s = true →
    (c.f 8 1 = 0 → exec (.ctxDestroy c) s = .next (s.answer c 0x0202 .denied []))
    ∧ (c.f 8 1 ≠ 0 → s.ctxLive (c.f 8 1) = false → exec (.ctxDestroy c) s = .next (s.answer c 0x0202 .notFound []))
    ∧ (c.f 8 1 ≠ 0 → s.ctxLive (c.f 8 1) = true → s.locked = true → s.ctxHasS (c.f 8 1) = true →
      exec (.ctxDestroy c) s = .next (s.answer c 0x0202 .safetyLocked []))
    ∧ (c.f 8 1 ≠ 0 → s.ctxLive (c.f 8 1) = true → (s.locked = false ∨ s.ctxHasS (c.f 8 1) = false) →
      exec (.ctxDestroy c) s = .next ((c.proceed 0x0202 (s.teardownBegin (c.f 8 1)) (.ctxDestroy (c.f 8 1)) []).teardownTry (c.f 8 1))))
  ∧ (∀ (x : Fin 64) (s u : State), s.live = true → (s.ctxN x.val).teardown ≠ .none →
    u = (s.teardownJobs x.val).teardownTry x.val →
    ((u.ctxN x.val).teardown ≠ .draining → exec (.teardownDrainDone x) s = .next u)
    ∧ ((u.ctxN x.val).teardown = .draining → ∃ t v : State, exec (.teardownDrainDone x) s = .next t
      ∧ v.mem = { u.mem with ctx := updAt u.mem.ctx x (fun _ => {}), root := updAt u.mem.root x (fun _ => {})
                             tables := u.mem.tables.filter (fun k => k.1 != x.val) }
      ∧ ({ v with mem := u.mem } : State) = u
      ∧ t = v.finish (.ctxDestroy x.val) .ok (leBytes 2 (u.ctxN x.val).counts.1 ++ leBytes 2 (u.ctxN x.val).counts.2.1
        ++ leBytes 2 (u.ctxN x.val).counts.2.2))))

/-- MEM_ALLOC refuses a length of 0 or one that is no multiple of the page size with INVALID_FIELD, an absent context with NOT_FOUND,
and a length beyond the quota or for which no room is left with NO_RESOURCE; otherwise the DRAM that firmware picks is cleared, the
context lists the region, outside context 0 its pages are mapped, and the response gives the context address and the device address,
equal in context 0; a cleared range reads zero. MEM_FREE refuses an address that no region begins at and a region in use, and
otherwise takes the region from the context (R159, R160). -/
def Obligations.MemoryCommands : Prop :=
  (∀ (c : HostCmd) (s : State), cmdMemAlloc.takes c s = true →
    (c.f 8 8 = 0 ∨ c.f 8 8 % pageSize (c.f 16 1) ≠ 0 → exec (.memAlloc c) s = .next (s.answer c 0x0204 .invalidField []))
    ∧ (c.f 8 8 ≠ 0 → c.f 8 8 % pageSize (c.f 16 1) = 0 → s.ctxLive c.ctxN = false →
      exec (.memAlloc c) s = .next (s.answer c 0x0204 .notFound []))
    ∧ (c.f 8 8 ≠ 0 → c.f 8 8 % pageSize (c.f 16 1) = 0 → s.ctxLive c.ctxN = true → (s.ctxN c.ctxN).allows (c.f 8 8) = false →
      exec (.memAlloc c) s = .next (s.answer c 0x0204 .noResource []))
    ∧ (∀ u : State, c.f 8 8 ≠ 0 → c.f 8 8 % pageSize (c.f 16 1) = 0 → s.ctxLive c.ctxN = true →
      (s.ctxN c.ctxN).allows (c.f 8 8) = true → s.pickDram (c.f 8 8) (pageSize (c.f 16 1)) = (none, u) →
      exec (.memAlloc c) s = .next (s.answer c 0x0204 .noResource []))
    ∧ (∀ (pa : Nat) (u : State), c.f 8 8 ≠ 0 → c.f 8 8 % pageSize (c.f 16 1) = 0 → s.ctxLive 0 = true → c.ctxN = 0 →
      (s.ctxN 0).allows (c.f 8 8) = true → s.pickDram (c.f 8 8) (pageSize (c.f 16 1)) = (some pa, u) →
      exec (.memAlloc c) s = .next (((u.memClear pa (c.f 8 8)).updCtx (ctxOf 0) (fun k => { k with
        regions := k.regions ++ [{ va := pa, pa := pa, bytes := c.f 8 8, page := pageSize (c.f 16 1) }] })).reply c 0x0204 .ok
          (leBytes 8 pa ++ leBytes 8 pa)))
    ∧ (∀ (pa va : Nat) (u : State), c.f 8 8 ≠ 0 → c.f 8 8 % pageSize (c.f 16 1) = 0 → s.ctxLive c.ctxN = true → c.ctxN ≠ 0 →
      (s.ctxN c.ctxN).allows (c.f 8 8) = true → s.pickDram (c.f 8 8) (pageSize (c.f 16 1)) = (some pa, u) →
      u.pickVa c.ctxN (c.f 8 8) (pageSize (c.f 16 1)) pa = some va →
      exec (.memAlloc c) s = .next ((((u.memClear pa (c.f 8 8)).updCtx (ctxOf c.ctxN) (fun k => { k with
        regions := k.regions ++ [{ va := va, pa := pa, bytes := c.f 8 8, page := pageSize (c.f 16 1) }] })).mapRegion c.ctxN va pa
          (c.f 8 8) (pageSize (c.f 16 1))).reply c 0x0204 .ok (leBytes 8 va ++ leBytes 8 pa))))
  ∧ (∀ (s : State) (a n : Nat), (s.memClear a n).memRead a n = zeros n)
  ∧ (∀ (c : HostCmd) (s : State), cmdMemFree.accepts c s = true →
    (s.ctxLive c.ctxN = false → exec (.memFree c) s = .next (s.answer c 0x0205 .notFound []))
    ∧ (s.ctxLive c.ctxN = true → (s.ctxN c.ctxN).regions.find? (fun r => r.va == c.f 8 8) = none →
      exec (.memFree c) s = .next (s.answer c 0x0205 .notFound []))
    ∧ (∀ r, s.ctxLive c.ctxN = true → (s.ctxN c.ctxN).regions.find? (fun r => r.va == c.f 8 8) = some r →
      (s.regionBusy c.ctxN r = true → exec (.memFree c) s = .next (s.answer c 0x0205 .busy []))
      ∧ (s.regionBusy c.ctxN r = false → exec (.memFree c) s = .next
        (((if c.ctxN = 0 then s else s.unmapRegion c.ctxN r).updCtx (ctxOf c.ctxN)
          (fun k => { k with regions := k.regions.erase r })).answer c 0x0205 .ok []))))

/-- MODEL_LOAD answers NOT_FOUND for a package outside the context's regions and INVALID_FIELD for a bad header. Then its pages are
write-protected; without ASYNC the package is read whole (`readSense` counts what the reads correct), and it answers DIGEST_MISMATCH
for a digest that differs or a package that cannot be read, NO_RESOURCE where no MODEL_ID is free, both with the pages as they were,
and otherwise records the model, keeps its pages write-protected and answers MODEL_ID, ROLE and FS_PEAK; with ASYNC it goes on until
its final response. MODEL_UNLOAD answers BUSY while an instance of the model exists, otherwise no model has the ID any more and no
engine an image of it; MODEL_QUERY returns header bytes 48 to 103 (R161, R162, R163, R218).
INSTANCE_CREATE takes the granules that the model's FS_PEAK needs, clears them and the instance's plan pips and answers
the partition, NO_RESOURCE where they do not fit or no INST_ID is free; INSTANCE_DESTROY answers BUSY while a slot or a job names the
instance, and otherwise removes it and gives the granules back (R163, R423, R424). -/
def Obligations.ModelCommands : Prop :=
  ((∀ (c : HostCmd) (s : State), cmdModelLoad.takes c s = true →
    (s.ctxLive c.ctxN = false ∨ s.regionOf c.ctxN (c.f 8 8) (max (c.f 16 8) 1) = none →
      exec (.modelLoad c) s = .next (s.answer c 0x0301 .notFound []))
    ∧ (∀ (r : Region) (pa : Nat) (h : List Byte) (v : State), s.ctxLive c.ctxN = true →
      s.regionOf c.ctxN (c.f 8 8) (max (c.f 16 8) 1) = some r → pa = r.pa + (c.f 8 8 - r.va) → h = s.memRead pa 128 →
      v = s.protect c.ctxN r ((c.f 8 8, c.f 16 8) :: s.packages c.ctxN) →
      (packageOk h (c.f 16 8) = false → exec (.modelLoad c) s = .next (s.answer c 0x0301 .invalidField []))
      ∧ (packageOk h (c.f 16 8) = true → c.async = true →
        exec (.modelLoad c) s = .next (c.proceed 0x0301 v (.modelLoad c.ctxN (c.f 8 8) (c.f 16 8)) []))
      ∧ (∀ w : State, packageOk h (c.f 16 8) = true → c.async = false → w = v.readSense pa (c.f 16 8) →
        (w.readUe pa (c.f 16 8) = true ∨ sha256 ((w.memRead pa (c.f 16 8)).drop 48) ≠ ((v.memRead pa 128).drop 16).take 32 →
          exec (.modelLoad c) s = .next ((w.protect c.ctxN r (w.packages c.ctxN)).answer c 0x0301 .digestMismatch []))
        ∧ (w.readUe pa (c.f 16 8) = false → sha256 ((w.memRead pa (c.f 16 8)).drop 48) = ((v.memRead pa 128).drop 16).take 32 →
          (∀ u, w.pickKey w.mem.models 64 = (none, u) →
            exec (.modelLoad c) s = .next ((u.protect c.ctxN r (w.packages c.ctxN)).answer c 0x0301 .noResource []))
          ∧ (∀ (id : Nat) (u t : State), w.pickKey w.mem.models 64 = (some id, u) →
            t = { u with mem := { u.mem with models := insertN u.mem.models id (modelOf c.ctxN (c.f 8 8) pa (v.memRead pa 128)) } } →
            exec (.modelLoad c) s = .next ((t.protect c.ctxN r (t.packages c.ctxN)).answer c 0x0301 .ok
              (leBytes 2 id ++ ((v.memRead pa 128).drop 50).take 1 ++ zeros 1 ++ ((v.memRead pa 128).drop 52).take 4)))))))
  ∧ (∀ (c : HostCmd) (s : State), cmdModelUnload.accepts c s = true →
    (s.modelIn c.ctxN (c.f 8 2) = none → exec (.modelUnload c) s = .next (s.answer c 0x0302 .notFound []))
    ∧ (∀ m, s.modelIn c.ctxN (c.f 8 2) = some m →
      (s.mem.insts.any (fun i => i.2.model == c.f 8 2) = true → exec (.modelUnload c) s = .next (s.answer c 0x0302 .busy []))
      ∧ (s.mem.insts.any (fun i => i.2.model == c.f 8 2) = false → ∃ t : State,
        exec (.modelUnload c) s = .next (t.answer c 0x0302 .ok [])
        ∧ t.mem.models = eraseN s.mem.models (c.f 8 2)
        ∧ (∀ e : Fin 8, ∀ i ∈ t.str.tower[e].images, i.model ≠ c.f 8 2)
        ∧ (∀ e : Fin 16, ∀ i ∈ t.str.vpu[e].images, i.model ≠ c.f 8 2))))
  ∧ (∀ (c : HostCmd) (s : State), cmdModelQuery.accepts c s = true →
    (s.modelIn c.ctxN (c.f 8 2) = none → exec (.modelQuery c) s = .next (s.answer c 0x0305 .notFound []))
    ∧ (∀ m, s.modelIn c.ctxN (c.f 8 2) = some m →
      exec (.modelQuery c) s = .next (s.answer c 0x0305 .ok ((m.header.drop 48).take 56)))))
  ∧ ((∀ (c : HostCmd) (s : State), cmdInstanceCreate.accepts c s = true →
    (s.modelIn c.ctxN (c.f 8 2) = none → exec (.instanceCreate c) s = .next (s.answer c 0x0303 .notFound []))
    ∧ (∀ m i g u, s.modelIn c.ctxN (c.f 8 2) = some m → s.pickKey s.mem.insts 256 = (some i, u) →
      s.str.fs.fit (ceilDiv m.fsPeak 65536) = some g →
      exec (.instanceCreate c) s = .next
        (((({ u with
              mem := { u.mem with insts := insertN u.mem.insts i ({ ctx := c.ctxN, model := c.f 8 2, granule := g, granules := ceilDiv m.fsPeak 65536 } : Inst) },
              str := { u.str with fs := u.str.fs.take g (ceilDiv m.fsPeak 65536) } } : State).memClear
              (0x010000000000 + g * 65536) (ceilDiv m.fsPeak 65536 * 65536)).pipsZero (16 * i) 16).answer c 0x0303 .ok
          (leBytes 2 i ++ zeros 2 ++ leBytes 4 (ceilDiv m.fsPeak 65536 * 65536) ++ leBytes 8 (0x010000000000 + g * 65536))))
    ∧ (∀ m, s.modelIn c.ctxN (c.f 8 2) = some m →
      (s.str.fs.fit (ceilDiv m.fsPeak 65536) = none ∨ (s.pickKey s.mem.insts 256).1 = none) →
      exec (.instanceCreate c) s = .next (s.answer c 0x0303 .noResource [])))
  ∧ (∀ (c : HostCmd) (s : State), cmdInstanceDestroy.accepts c s = true →
    (s.instIn c.ctxN (c.f 8 2) = none → exec (.instanceDestroy c) s = .next (s.answer c 0x0304 .notFound []))
    ∧ (∀ i, s.instIn c.ctxN (c.f 8 2) = some i →
      (s.instNamed (c.f 8 2) = true ∨ s.mem.jobs.any (fun j => j.inst == c.f 8 2) = true →
        exec (.instanceDestroy c) s = .next (s.answer c 0x0304 .busy []))
      ∧ (∀ u, s.instNamed (c.f 8 2) = false → s.mem.jobs.any (fun j => j.inst == c.f 8 2) = false →
        u = (s.releaseRange (16 * c.f 8 2) 16 .abortedReset).pipsZero (16 * c.f 8 2) 16 →
        exec (.instanceDestroy c) s = .next (({ u with
          mem := { u.mem with insts := eraseN u.mem.insts (c.f 8 2) }
          str := { u.str with fs := u.str.fs.give i.granule i.granules } } : State).answer c 0x0304 .ok [])))))

/-! ### Pips and buffer pools -/

/-- What one operation makes of a pip of the store (R274): ADD adds modulo 2^32 and SET replaces the value, both without changing the error
and on a poisoned pip like on any other, where they release no waiter that the error does not release; POISON records its status where the
error is clear and changes nothing where it is not; CLEAR_ERR clears the error, leaves the value and releases no waiter. Where no waiter waits
on the pip, no other pip changes. ADD and SET release the PIP_WAITs on the pip whose condition then holds, in the order of the table. A
POISON aimed at a stage pip is refused, and no operation changes a pip outside the store (R286, R271). -/
def Obligations.PipOperations : Prop :=
  (∀ (s : State) (p : Nat) (v : U32), pipKind p ≠ .outside → (∀ w ∈ s.pip.watch, w.pip ≠ p) →
    ((s.pipApply p .add v).pipGet p = { s.pipGet p with value := (s.pipGet p).value + v })
    ∧ ((s.pipApply p .set v).pipGet p = { s.pipGet p with value := v })
    ∧ (pipKind p ≠ .stage → (s.pipGet p).err = 0 →
        (s.pipApply p .poison v).pipGet p = { s.pipGet p with err := BitVec.ofNat 16 v.toNat })
    ∧ (pipKind p ≠ .stage → (s.pipGet p).err ≠ 0 → (s.pipApply p .poison v).pipGet p = s.pipGet p)
    ∧ (∀ q, q ≠ p → ∀ o, (s.pipApply p o v).pipGet q = s.pipGet q))
  ∧ (∀ (s : State) (p : Nat) (v : U32), pipKind p ≠ .outside →
    (s.pipApply p .clearErr v).pipGet p = { s.pipGet p with err := 0 }
    ∧ (∀ q, q ≠ p → (s.pipApply p .clearErr v).pipGet q = s.pipGet q)
    ∧ (∀ w ∈ s.pip.watch ++ s.pip.overflow, w ∈ (s.pipApply p .clearErr v).pip.watch ++ (s.pipApply p .clearErr v).pip.overflow)
    ∧ ({ s.pipApply p .clearErr v with pip := s.pip } : State) = s)
  ∧ (∀ (x : Pip) (v : U32) (w : Waiter), x.err ≠ 0 →
    waitResult w (pipStep .add v x) = waitResult w x ∧ waitResult w (pipStep .set v x) = waitResult w x)
  ∧ (∀ (s : State) (p : Nat) (o : PipOp) (v : U32) (x : Pip), pipKind p ≠ .outside → o = .add ∨ o = .set → s.pip.overflow = [] →
    (∀ w ∈ s.pip.watch, w.pip = p → ∃ m q d, w.by_ = .command m q d) → x = pipStep o v (s.pipGet p) →
    s.pipApply p o v =
      (s.pip.watch.filter (fun w => w.pip == p && (waitResult w x).isSome)).foldl
        (fun t w => t.releaseNow w ((waitResult w x).getD 0) x.value)
        { s.pipSet p x with pip := { (s.pipSet p x).pip with
            watch := s.pip.watch.filter (fun w => !(w.pip == p && (waitResult w x).isSome)) } })
  ∧ (∀ (s : State) (p : Nat) (v : U32) (q : Nat),
    (pipKind p = .stage → (s.pipApply p .poison v).pipGet q = s.pipGet q)
    ∧ (pipKind p = .outside → ∀ o, (s.pipApply p o v).pipGet q = s.pipGet q))

/-- PIP_ALLOC takes the lowest run of free general pips with value 0 and clear errors, and answers NOT_FOUND for an absent context and
NO_RESOURCE where no run is free; PIP_FREE answers NOT_FOUND for a block that the context has not, BUSY for one with a waiter or a job that
names it, and otherwise frees it; PIP_SIGNAL answers INVALID_FIELD for an operand outside R273, applies its operation to a general pip of its
context and answers value and error; PIP_READ answers them with the number of waiters; PIP_WAIT goes on until the wait is released, which
starts as its PENDING response leaves; a pip that the command may not reach answers what its kind gives: NOT_FOUND, or DENIED where the
party sees it (R164, R165, R166, R272, R280). -/
def Obligations.PipCommands : Prop :=
  (∀ (c : HostCmd) (s : State), cmdPipAlloc.accepts c s = true →
    (s.ctxLive c.ctxN = false → exec (.pipAlloc c) s = .next (s.answer c 0x0601 .notFound []))
    ∧ (∀ a, s.ctxLive c.ctxN = true →
      fitFrom (c.f 8 4) 1 130496 4096 (sortRanges (s.pip.blocks.map (fun b => (b.first, b.count)))) = some a →
      exec (.pipAlloc c) s = .next (({ s.pipsZero a (c.f 8 4) with pip := { (s.pipsZero a (c.f 8 4)).pip with
        blocks := s.pip.blocks ++ [{ first := a, count := c.f 8 4, open_ := bitOf (c.f 12 1) 0, ctx := c.ctxN }] } } : State).answer
          c 0x0601 .ok (leBytes 4 a))
      ∧ ∀ q, a ≤ q → q < a + c.f 8 4 → (s.pipsZero a (c.f 8 4)).pipGet q = { value := 0, err := 0 })
    ∧ (s.ctxLive c.ctxN = true →
      fitFrom (c.f 8 4) 1 130496 4096 (sortRanges (s.pip.blocks.map (fun b => (b.first, b.count)))) = none →
      exec (.pipAlloc c) s = .next (s.answer c 0x0601 .noResource [])))
  ∧ (∀ (c : HostCmd) (s : State), cmdPipFree.accepts c s = true →
    (s.pip.blocks.find? (fun b => b.first == c.f 8 4 && b.ctx == c.ctxN) = none →
      exec (.pipFree c) s = .next (s.answer c 0x0602 .notFound []))
    ∧ (∀ b, s.pip.blocks.find? (fun b => b.first == c.f 8 4 && b.ctx == c.ctxN) = some b →
      (s.pipWaited b.first b.count = true ∨ s.pipNamed b.first b.count = true →
        exec (.pipFree c) s = .next (s.answer c 0x0602 .busy []))
      ∧ (s.pipWaited b.first b.count = false → s.pipNamed b.first b.count = false →
        exec (.pipFree c) s = .next (({ s with pip := { s.pip with blocks := s.pip.blocks.erase b } } : State).answer c 0x0602 .ok []))))
  ∧ (∀ (c : HostCmd) (s : State) (o : PipOp), cmdPipSignal.accepts c s = true → pipOpOf (c.f 12 1) = some o →
    (pipOperandOk o (c.f 16 4) = false → exec (.pipSignal c) s = .next (s.answer c 0x0603 .invalidField []))
    ∧ (∀ u, pipOperandOk o (c.f 16 4) = true → u = s.pipApply (c.f 8 4) o (BitVec.ofNat 32 (c.f 16 4)) →
      s.pipAccess c (c.f 8 4) (some .denied) (some .denied) = none →
      exec (.pipSignal c) s = .next (u.answer c 0x0603 .ok
        (leBytes 4 (u.pipGet (c.f 8 4)).value.toNat ++ leBytes 2 (u.pipGet (c.f 8 4)).err.toNat)))
    ∧ (∀ st, pipOperandOk o (c.f 16 4) = true → s.pipAccess c (c.f 8 4) (some .denied) (some .denied) = some st →
      exec (.pipSignal c) s = .next (s.answer c 0x0603 st [])))
  ∧ (∀ (c : HostCmd) (s : State), cmdPipRead.accepts c s = true →
    (∀ st, s.pipAccess c (c.f 8 4) none none = some st → exec (.pipRead c) s = .next (s.answer c 0x0604 st []))
    ∧ (s.pipAccess c (c.f 8 4) none none = none → exec (.pipRead c) s = .next (s.answer c 0x0604 .ok
      (leBytes 4 (s.pipGet (c.f 8 4)).value.toNat ++ leBytes 2 (s.pipGet (c.f 8 4)).err.toNat ++ zeros 2
        ++ leBytes 4 ((s.pip.watch ++ s.pip.overflow).filter (fun w => w.pip == c.f 8 4)).length))))
  ∧ (∀ (c : HostCmd) (s : State), cmdPipWait.acceptsAsync c s = true →
    (∀ st, s.pipAccess c (c.f 8 4) (some .denied) none = some st → exec (.pipWait c) s = .next (s.answer c 0x0605 st []))
    ∧ (s.pipAccess c (c.f 8 4) (some .denied) none = none →
      exec (.pipWait c) s = .next ((c.proceed 0x0605 s (.pip (c.f 8 4)) []).pipWait
        { pip := c.f 8 4, eq := c.f 12 1 == 4, x := BitVec.ofNat 32 (c.f 16 4),
          by_ := .command c.mbx c.seq (if c.f 20 4 = 0 then none else some (s.clock + c.f 20 4)) })))
  ∧ (∀ (c : HostCmd) (s : State) (p : Nat) (a b : Option Status),
    (pipKind p = .plan → s.pipAccess c p a b = if c.mbx = 0 ∧ c.ctxN = 0 then a else some .notFound)
    ∧ (pipKind p = .general → s.pipAccess c p a b = if ∃ k, s.pipBlock p = some k ∧ k.ctx = c.ctxN then none else some .notFound)
    ∧ (pipKind p = .stage → s.pipAccess c p a b =
        if c.mbx = 0 ∨ ((s.slotN ((p - 130496) / 9)).state ≠ .free ∧ (s.slotN ((p - 130496) / 9)).ctx = c.ctxN) then b
        else some .notFound))

/-- When a waiting waiter is released: an error releases it with that error's status; otherwise WAIT_EQ by the equal value and
WAIT_GE by a value at most 2^31 − 1 ahead of X modulo 2^32 (R275).
A signal of a unit under its present epoch, or of firmware, is applied to a pip of the store; one under another epoch is dropped and counted at
the pip store and at the unit, and so is a wait (R291); plan steps that a poison releases are discarded (`settleCut`, R285). A correctable error
met in the entry is counted and the operation goes on; an uncorrectable one sets the pip to value 0 and error INTERNAL and is counted (R292). A
wait that the pip already satisfies is released and one that it does not is entered in the table while it has room, outside it while it has none,
which is counted (R275, R288); held waiters are tested again (R288); a PIP_WAIT whose TIMEOUT_US has passed is removed and completes
with BUSY (R166).
A doorbell entry applies one signal operation to a pip that is open to host signalling; one that names a pip which is not,
or has a reserved bit set, is dropped and counted (R118, R279). -/
def Obligations.PipEvents : Prop :=
  (∀ (w : Waiter) (x : Pip),
    (x.err ≠ 0 → waitResult w x = some x.err.toNat)
    ∧ (x.err = 0 → w.eq = true → (waitResult w x = some 0 ↔ x.value = w.x) ∧ (waitResult w x = none ↔ x.value ≠ w.x))
    ∧ (x.err = 0 → w.eq = false →
        (waitResult w x = some 0 ↔ (x.value.toNat + 2 ^ 32 - w.x.toNat) % 2 ^ 32 < 2 ^ 31)
        ∧ (waitResult w x = none ↔ 2 ^ 31 ≤ (x.value.toNat + 2 ^ 32 - w.x.toNat) % 2 ^ 32)))
  ∧ (∀ (b : PipBy) (p op : Nat) (o : PipOp) (v : U32) (s : State), s.live = true → pipOpOf op = some o →
    (s.pipFresh b = true → o.signal = true → p < 131072 →
      exec (.pipSignalApply b p op v none) s = .next (s.pipApply p o v).settleCut
      ∧ exec (.pipSignalApply b p op v (some .correctable)) s =
          .next ((({ s with pip := { s.pip with eccCe := satInc s.pip.eccCe } } : State).pipApply p o v).settleCut)
      ∧ exec (.pipSignalApply b p op v (some .uncorrectable)) s = .next (s.pipUncorrectable p).settleCut)
    ∧ (∀ u e err, b = .unit u e → (s.gateN u).epoch ≠ e → exec (.pipSignalApply b p op v err) s =
        .next (({ s with pip := { s.pip with staleDrop := satInc s.pip.staleDrop } } : State).updGate u
          (fun g => { g with staleDrops := satInc g.staleDrops })))
    ∧ (∀ u e, b = .unit u e → (s.pipFresh b = true ↔ (s.gateN u).epoch = e)) ∧ s.pipFresh .firmware = true)
  ∧ (∀ (p : Nat) (s : State), (∀ w ∈ s.pip.watch ++ s.pip.overflow, w.pip ≠ p) →
    (s.pipUncorrectable p).pipGet p = { value := 0, err := BitVec.ofNat 16 Status.internal.code }
    ∧ (s.pipUncorrectable p).pip.eccUe = satInc s.pip.eccUe)
  ∧ (∀ (w : WaitReq) (s : State), s.live = true → w.waiter.pip < 131072 →
    (∀ u e, w.by_ = .unit u e → (s.gateN u).epoch ≠ e → exec (.pipWaitRegister w) s =
      .next (({ s with pip := { s.pip with staleDrop := satInc s.pip.staleDrop } } : State).updGate u
        (fun g => { g with staleDrops := satInc g.staleDrops })))
    ∧ (s.pipFresh w.by_ = true → w.item = none → w.err = none → s.sched.cut = [] → s.pipAllocated w.waiter.pip = true →
      (waitResult w.waiter (s.pipGet w.waiter.pip) = none → s.pip.watch.length < 16384 →
        ∃ t, exec (.pipWaitRegister w) s = .next t ∧ t.pip.watch = s.pip.watch ++ [w.waiter] ∧ t.pip.overflow = s.pip.overflow
          ∧ t.pip.pips = s.pip.pips ∧ ({ t with pip := s.pip } : State) = s)
      ∧ (waitResult w.waiter (s.pipGet w.waiter.pip) = none → 16384 ≤ s.pip.watch.length →
        exec (.pipWaitRegister w) s = .next { s with pip := { s.pip with
          overflow := s.pip.overflow ++ [w.waiter], watchFull := satInc s.pip.watchFull } })
      ∧ (∀ code, waitResult w.waiter (s.pipGet w.waiter.pip) = some code →
        exec (.pipWaitRegister w) s = .next (s.releaseNow w.waiter code (s.pipGet w.waiter.pip).value).settleCut))
    ∧ (s.pipFresh w.by_ = true → w.item = none → w.err = none → s.pipAllocated w.waiter.pip = false →
      exec (.pipWaitRegister w) s = .next (s.releaseNow w.waiter Status.abortedReset.code 0).settleCut))
  ∧ (∀ s : State, s.sched.cut = [] → s.settleCut = s)
  ∧ (∀ s : State, s.live = true → exec .pipOverflowPoll s = .next s.pipPoll)
  ∧ (∀ (s : State) (w : Waiter), s.pip.overflow = [w] →
    (∀ code, waitResult w (s.pipGet w.pip) = some code →
      s.pipPoll = ({ s with pip := { s.pip with overflow := [] } } : State).releaseNow w code (s.pipGet w.pip).value)
    ∧ (waitResult w (s.pipGet w.pip) = none →
      (s.pip.watch.length < 16384 → s.pipPoll = ({ s with pip := { s.pip with overflow := [] } } : State).watchEnter w)
      ∧ (16384 ≤ s.pip.watch.length → s.pipPoll = s)))
  ∧ (∀ (m : Fin 16) (q : BitVec 16) (w : Waiter) (s : State), s.live = true →
    s.pip.watch.find? (fun w => w.ofCommand m q && w.expired s.clock) = some w →
    exec (.pipWaitTimeout m q) s = .next (({ s with pip := { s.pip with watch := s.pip.watch.erase w } } : State).watchFill.finishOne m q
      (.pip w.pip) .busy []))
  ∧ (∀ (off : Nat) (bytes : List Byte) (s : State), s.live = true → s.host.pcie.dstate = .d0 → s.sup.power ≠ .standby →
    bytes.length = 8 → off % 8 = 0 →
    (∀ o, off / 8 < 131072 → bitsOf (leAt bytes 0 8) 36 28 = 0 → pipOpOf (bitsOf (leAt bytes 0 8) 32 4) = some o →
      o.signal = true → pipOperandOk o (bitsOf (leAt bytes 0 8) 0 32) = true → s.pipOpen (off / 8) = true →
      exec (.bar4DoorbellWrite off bytes false) s = .next (s.pipApply (off / 8) o (BitVec.ofNat 32 (leAt bytes 0 8))))
    ∧ (s.pipOpen (off / 8) = false → exec (.bar4DoorbellWrite off bytes false) s = .next s.doorbellDrop)
    ∧ (bitsOf (leAt bytes 0 8) 36 28 ≠ 0 → exec (.bar4DoorbellWrite off bytes false) s = .next s.doorbellDrop)
    ∧ s.doorbellDrop.host.int.dbDropCount = satInc s.host.int.dbDropCount
    ∧ s.doorbellDrop.host.int.dbDrop = true)

/-- The checks of a free in their order (R256): a handle of no pool of the context or past its count answers NOT_FOUND, a stale
generation STALE_HANDLE, a buffer that is free DOUBLE_FREE. A free that passes clears ALLOC and HOST, keeps the generation, and returns the
buffer to the free store of the handle's pool; one that fails changes no pool and no memory, sets the pool's bit in BPM_FREE_ERR and is
counted (R257). The parts of a handle are POOL in bits [31:28], INDEX in [27:8] and GEN in [7:0] (R245). -/
def Obligations.FreeChecks : Prop :=
  (∀ (s : State) (h : U32) (ctx port unit : Nat),
    let p := s.poolN (handlePool h)
    let r := s.bufFree h ctx port unit
    let q := r.1.poolN (handlePool h)
    (p.en = false ∨ p.ctx.toNat ≠ ctx ∨ p.count.toNat ≤ handleIndex h → r.2 = some .notFound)
    ∧ (p.en = true → p.ctx.toNat = ctx → handleIndex h < p.count.toNat → (p.buf (handleIndex h)).gen.toNat ≠ handleGen h →
        r.2 = some .staleHandle)
    ∧ (p.en = true → p.ctx.toNat = ctx → handleIndex h < p.count.toNat → (p.buf (handleIndex h)).gen.toNat = handleGen h →
        (p.buf (handleIndex h)).alloc = false → r.2 = some .doubleFree)
    ∧ (p.en = true → p.ctx.toNat = ctx → handleIndex h < p.count.toNat → (p.buf (handleIndex h)).gen.toNat = handleGen h →
        (p.buf (handleIndex h)).alloc = true → r.2 = none
        ∧ q.buf (handleIndex h) = { gen := (p.buf (handleIndex h)).gen, alloc := false, host := false }
        ∧ (∀ i, i ≠ handleIndex h → q.buf i = p.buf i) ∧ q.free = p.free + 1
        ∧ (p.rebuild = false → p.list = true → q.listHead.toNat = handleIndex h ∧ q.listEmpty = false)
        ∧ (p.rebuild = false → p.list = false → p.cache.length < 64 → q.cache = p.cache ++ [h])
        ∧ ∀ n : Fin 16, n.val ≠ handlePool h → r.1.bpm.pool[n] = s.bpm.pool[n])
    ∧ (r.2 ≠ none → r.1.bpm.pool = s.bpm.pool ∧ r.1.mem.cells = s.mem.cells
        ∧ r.1.bpm.freeErrCount = satInc s.bpm.freeErrCount ∧ r.1.bpm.freeErr = s.bpm.freeErr ||| (1#16 <<< handlePool h)))
  ∧ (∀ h : U32, handlePool h = h.toNat / 2 ^ 28 ∧ handleIndex h = h.toNat / 2 ^ 8 % 2 ^ 20 ∧ handleGen h = h.toNat % 2 ^ 8)
  ∧ (∀ p i g : Nat, p < 16 → i < 2 ^ 20 → g < 256 →
    handlePool (handleOf p i g) = p ∧ handleIndex (handleOf p i g) = i ∧ handleGen (handleOf p i g) = g)

/-- POOL_CREATE makes a pool of the fields given, all its buffers free, in the two regions given or, for FS, in a run of the Feature
Store, and answers its buffers' address; it answers INVALID_FIELD for fields out of order, NOT_FOUND for an absent context or a range outside
its regions, BUSY for a POOL in use and NO_RESOURCE where the Feature Store has no room. Every other command answers NOT_FOUND for a pool
that the context has not. POOL_DESTROY answers BUSY while a buffer is allocated or the pool is named, and otherwise disables it; POOL_ALLOC
answers INVALID_FIELD for bytes asked of a pool that is no chain, DENIED above the context's class, the handle with its address, or
POOL_EMPTY, and goes on while the pool is being rebuilt; POOL_FREE answers the status of its check; POOL_QUERY answers FREE, MIN_FREE,
FAILS and B2 and clears the statistics; POOL_BUOYS sets levels that are in order and answers INVALID_FIELD for others (R167, R168, R256,
R264, R267). -/
def Obligations.PoolCommands : Prop :=
  (∀ (c : HostCmd) (s : State), cmdPoolCreate.accepts c s = true →
    (s.poolFieldsOk c = false → exec (.poolCreate c) s = .next (s.answer c 0x0701 .invalidField []))
    ∧ (s.poolFieldsOk c = true → s.ctxLive c.ctxN = false → exec (.poolCreate c) s = .next (s.answer c 0x0701 .notFound []))
    ∧ (s.poolFieldsOk c = true → s.ctxLive c.ctxN = true → (s.poolN (c.f 8 1)).en = true →
      exec (.poolCreate c) s = .next (s.answer c 0x0701 .busy []))
    ∧ (∀ r q, s.poolFieldsOk c = true → s.ctxLive c.ctxN = true → (s.poolN (c.f 8 1)).en = false → bitOf (c.f 12 1) 2 = false →
      s.regionOf c.ctxN (c.f 24 8) (c.f 16 4 * c.f 20 4) = some r → s.regionOf c.ctxN (c.f 32 8) (4 * c.f 20 4) = some q →
      exec (.poolCreate c) s = .next ((s.poolMake c (r.pa + (c.f 24 8 - r.va)) (c.f 24 8) (q.pa + (c.f 32 8 - q.va))).answer c
        0x0701 .ok (leBytes 8 (c.f 24 8))))
    ∧ (s.poolFieldsOk c = true → s.ctxLive c.ctxN = true → (s.poolN (c.f 8 1)).en = false → bitOf (c.f 12 1) 2 = false →
      (s.regionOf c.ctxN (c.f 24 8) (c.f 16 4 * c.f 20 4) = none ∨ s.regionOf c.ctxN (c.f 32 8) (4 * c.f 20 4) = none) →
      exec (.poolCreate c) s = .next (s.answer c 0x0701 .notFound []))
    ∧ (∀ g, s.poolFieldsOk c = true → s.ctxLive c.ctxN = true → (s.poolN (c.f 8 1)).en = false → bitOf (c.f 12 1) 2 = true →
      s.str.fs.fit (ceilDiv (c.f 16 4 * c.f 20 4) 65536) = some g →
      exec (.poolCreate c) s = .next
        ((({ s with str := { s.str with fs := s.str.fs.take g (ceilDiv (c.f 16 4 * c.f 20 4) 65536) } } : State).poolMake c
          (0x010000000000 + g * 65536) (0x010000000000 + g * 65536) 0).answer c 0x0701 .ok
            (leBytes 8 (0x010000000000 + g * 65536))))
    ∧ (s.poolFieldsOk c = true → s.ctxLive c.ctxN = true → (s.poolN (c.f 8 1)).en = false → bitOf (c.f 12 1) 2 = true →
      s.str.fs.fit (ceilDiv (c.f 16 4 * c.f 20 4) 65536) = none → exec (.poolCreate c) s = .next (s.answer c 0x0701 .noResource [])))
  ∧ (∀ (c : HostCmd) (s : State) (base va ring : Nat), c.f 8 1 < 16 →
    let p := (s.poolMake c base va ring).poolN (c.f 8 1)
    p.en = true ∧ p.list = (c.f 9 1 == 1) ∧ p.chain = (c.f 10 1 == 1) ∧ p.fallback = bitOf (c.f 12 1) 0 ∧ p.adapt = bitOf (c.f 12 1) 1
    ∧ p.next = (if c.f 11 1 = 255 then none else some (BitVec.ofNat 4 (c.f 11 1))) ∧ p.ctx = BitVec.ofNat 6 c.ctxN
    ∧ p.bufBytes = BitVec.ofNat 25 (c.f 16 4) ∧ p.count = BitVec.ofNat 21 (c.f 20 4) ∧ p.base = BitVec.ofNat 48 base ∧ p.va = va
    ∧ p.ring = BitVec.ofNat 48 ring ∧ p.buoy1 = BitVec.ofNat 21 (c.f 40 4) ∧ p.buoy2 = BitVec.ofNat 21 (c.f 44 4)
    ∧ p.buoy3 = BitVec.ofNat 21 (c.f 48 4) ∧ p.b2 = p.b2Of ∧ p.inFs = bitOf (c.f 12 1) 2
    ∧ p.free = p.count ∧ p.minFree = p.count ∧ p.fails = 0 ∧ p.waiting = [] ∧ ∀ i, p.buf i = { gen := 0, alloc := false, host := false })
  ∧ (∀ (c : HostCmd) (s : State), s.poolIn c.ctxN (c.f 8 1) = none →
    (cmdPoolDestroy.accepts c s = true → exec (.poolDestroy c) s = .next (s.answer c 0x0702 .notFound []))
    ∧ (cmdPoolAlloc.accepts c s = true → exec (.poolAlloc c) s = .next (s.answer c 0x0703 .notFound []))
    ∧ (cmdPoolQuery.accepts c s = true → exec (.poolQuery c) s = .next (s.answer c 0x0705 .notFound []))
    ∧ (cmdPoolBuoys.accepts c s = true → exec (.poolBuoys c) s = .next (s.answer c 0x0706 .notFound [])))
  ∧ (∀ (c : HostCmd) (s : State) (p : Pool), cmdPoolDestroy.accepts c s = true → s.poolIn c.ctxN (c.f 8 1) = some p →
    (p.free.toNat < p.count.toNat ∨ s.poolNamed (c.f 8 1) = true → exec (.poolDestroy c) s = .next (s.answer c 0x0702 .busy []))
    ∧ (p.count.toNat ≤ p.free.toNat → s.poolNamed (c.f 8 1) = false → ∃ t,
      exec (.poolDestroy c) s = .next (t.answer c 0x0702 .ok []) ∧ t = s.poolDrop (c.f 8 1)
      ∧ (p.waiting = [] → (t.poolN (c.f 8 1)).en = false ∧ ∀ n, n ≠ c.f 8 1 → t.poolN n = s.poolN n)))
  ∧ (∀ (c : HostCmd) (s : State) (p : Pool), cmdPoolAlloc.accepts c s = true → s.poolIn c.ctxN (c.f 8 1) = some p →
    (p.chain = false → c.f 12 4 ≠ 0 → exec (.poolAlloc c) s = .next (s.answer c 0x0703 .invalidField []))
    ∧ ((p.chain = true ∨ c.f 12 4 = 0) → ((Cls.ofNat? (c.f 9 1)).getD .b).code < (s.ctxN c.ctxN).maxClass.code →
      exec (.poolAlloc c) s = .next (s.answer c 0x0703 .denied []))
    ∧ (∀ t o, (p.chain = true ∨ c.f 12 4 = 0) → (s.ctxN c.ctxN).maxClass.code ≤ ((Cls.ofNat? (c.f 9 1)).getD .b).code →
      s.bufNow (c.f 8 1) (c.f 12 4) ((Cls.ofNat? (c.f 9 1)).getD .b) 16 (.command c.mbx c.seq) = (t, o) →
      (∀ u h, o = some (.grant u h) →
        exec (.poolAlloc c) s = .next (t.answer c 0x0703 .ok (leBytes 4 h.toNat ++ zeros 4 ++ leBytes 8 (t.bufVa h))))
      ∧ (∀ u, o = some (.empty u) → exec (.poolAlloc c) s = .next (t.answer c 0x0703 .poolEmpty []))
      ∧ (o = none → exec (.poolAlloc c) s = .next (c.proceed 0x0703 t (.poolAlloc (c.f 8 1)) []))))
  ∧ (∀ (c : HostCmd) (s : State), cmdPoolFree.accepts c s = true →
    ((s.bufFree (BitVec.ofNat 32 (c.f 8 4)) c.ctxN 16 0x34).2 = none →
      exec (.poolFree c) s = .next ((s.bufFree (BitVec.ofNat 32 (c.f 8 4)) c.ctxN 16 0x34).1.answer c 0x0704 .ok []))
    ∧ (∀ e, (s.bufFree (BitVec.ofNat 32 (c.f 8 4)) c.ctxN 16 0x34).2 = some e →
      exec (.poolFree c) s = .next ((s.bufFree (BitVec.ofNat 32 (c.f 8 4)) c.ctxN 16 0x34).1.answer c 0x0704 e.status [])))
  ∧ (∀ (c : HostCmd) (s : State) (p : Pool), cmdPoolQuery.accepts c s = true → s.poolIn c.ctxN (c.f 8 1) = some p →
    exec (.poolQuery c) s = .next ((s.updPoolN (c.f 8 1) (fun p => { p with minFree := p.free, fails := 0 })).answer c 0x0705 .ok
      (leBytes 4 p.free.toNat ++ leBytes 4 p.minFree.toNat ++ leBytes 4 p.fails.toNat ++ leBytes 4 p.b2.toNat)))
  ∧ (∀ (c : HostCmd) (s : State) (p : Pool), cmdPoolBuoys.accepts c s = true → s.poolIn c.ctxN (c.f 8 1) = some p →
    (c.f 12 4 ≤ p.count.toNat → c.f 16 4 ≤ c.f 12 4 → c.f 20 4 ≤ c.f 16 4 →
      exec (.poolBuoys c) s = .next ((((s.updPoolN (c.f 8 1) (fun p => { p with
        buoy1 := BitVec.ofNat 21 (c.f 12 4), buoy2 := BitVec.ofNat 21 (c.f 16 4), buoy3 := BitVec.ofNat 21 (c.f 20 4)
        b2 := ({ p with buoy1 := BitVec.ofNat 21 (c.f 12 4), buoy2 := BitVec.ofNat 21 (c.f 16 4),
                        buoy3 := BitVec.ofNat 21 (c.f 20 4) } : Pool).b2Of })).poolLevels (c.f 8 1)).relieve (c.f 8 1)).answer c
          0x0706 .ok []))
    ∧ (p.count.toNat < c.f 12 4 ∨ c.f 12 4 < c.f 16 4 ∨ c.f 16 4 < c.f 20 4 →
      exec (.poolBuoys c) s = .next (s.answer c 0x0706 .invalidField [])))

/-- The sequencer's own events. A decision is applied and the queues that the pool holds up go on (`relieve`): a lone request above Buoy-3 of a
pool with a free buffer that can be taken gets it (R253), and a pool being rebuilt decides nothing (R267). A free under the unit's present epoch
is checked for its context and done, one under another epoch only counted (R256, R547). A RING pool's cache below 16 handles reads up to 32
from the ring and one above 48 writes 32 (R249); a rebuild ends with every buffer that the state table gives as free (R267); when 1 ms has
passed since it began, the adaptive window recomputes RATE and B2 and the next begins (R263). -/
def Obligations.PoolEvents : Prop :=
  (∀ (p : Fin 16) (s : State), s.live = true →
    exec (.bpmAllocDecision p) s = .next (((s.allocDecide p.val).1.applyBuf (s.allocDecide p.val).2).relieve p.val)
    ∧ (s.bpm.pool[p].rebuild = true → s.allocDecide p.val = (s, .wait))
    ∧ (∀ r h t, s.bpm.pool[p].rebuild = false → s.bpm.pool[p].waiting = [r] → r.reserve = none →
      s.bpm.pool[p].buoy3.toNat < s.bpm.pool[p].free.toNat →
      (s.updPoolN p.val (fun x => { x with waiting := [], rr := BitVec.ofNat 5 ((r.port + 1) % 17) })).poolTake p.val
        (match r.use with | .command _ _ => true | _ => false) = (some h, t) →
      s.allocDecide p.val = (t.poolLevels p.val, .grant r.use h)))
  ∧ (∀ (u : Nat) (e : BitVec 8) (h : U32) (ctx : Nat) (s : State), s.live = true →
    ((s.gateN u).epoch ≠ e →
      exec (.bpmFree u e { handle := h, ctx := ctx }) s = .next (s.updGate u (fun g => { g with staleDrops := satInc g.staleDrops })))
    ∧ ((s.gateN u).epoch = e → exec (.bpmFree u e { handle := h, ctx := ctx }) s = .next (s.bufFree h ctx (unitPort u) u).1))
  ∧ (∀ (p : Fin 16) (s : State), s.live = true → s.bpm.pool[p].en = true → s.bpm.pool[p].list = false →
    s.bpm.pool[p].rebuild = false →
    (s.bpm.pool[p].cache.length < 16 → exec (.bpmCacheRefill p) s = .next (s.poolRefill p.val 32))
    ∧ (16 ≤ s.bpm.pool[p].cache.length → exec (.bpmCacheRefill p) s = .next s)
    ∧ (48 < s.bpm.pool[p].cache.length → exec (.bpmCacheSpill p) s = .next (s.poolSpill p.val 32)
        ∧ ((s.poolSpill p.val 32).poolN p.val).cache = s.bpm.pool[p].cache.drop 32)
    ∧ (s.bpm.pool[p].cache.length ≤ 48 → exec (.bpmCacheSpill p) s = .next s))
  ∧ (∀ (p : Fin 16) (s : State), s.live = true → s.bpm.pool[p].rebuild = true →
    exec (.bpmRebuildDone p) s = .next ((s.poolRebuild p.val).poolLevels p.val)
    ∧ ((s.poolRebuild p.val).poolN p.val).rebuild = false
    ∧ ((s.poolRebuild p.val).poolN p.val).free =
        BitVec.ofNat 21 ((List.range s.bpm.pool[p].count.toNat).filter (fun i => !(s.bpm.pool[p].buf i).alloc)).length)
  ∧ (∀ (p : Fin 16) (s : State), s.live = true → s.bpm.pool[p].en = true → s.bpm.pool[p].windowEnd ≤ s.clock →
    (s.bpm.pool[p].adapt = true → ∃ x : Pool, exec (.adaptiveWindowEnd p) s = .next ((s.updPool p (fun _ => x)).poolLevels p.val)
      ∧ x = { s.bpm.pool[p] with rate := x.rate, grants := 0, windowEnd := s.bpm.pool[p].windowEnd + 1000, b2 := x.b2Of }
      ∧ x.rate = BitVec.ofNat 20 (min 0xFFFFF
        (Int.toNat (s.bpm.pool[p].rate.toNat + ((16 * s.bpm.pool[p].grants : Int) - s.bpm.pool[p].rate.toNat).fdiv 8))))
    ∧ (s.bpm.pool[p].adapt = false → exec (.adaptiveWindowEnd p) s =
      .next (s.updPool p (fun x => { x with grants := 0, windowEnd := x.windowEnd + 1000 }))))

/-! ### DRAM and translation -/

/-- A controller that serves requests. Its reads and writes carry their requester's page hint (R224). In STRICT mode a read issues the queued
writes of its bank and row and then goes to the DRAM (R226); in FORWARD mode it is answered from a queued write that covers it, waits for one
that covers a part, and otherwise goes to the DRAM (R227); the answer is the line's bytes asked for, as the last writes left them (R225). A
whole-line write stores its 64 bytes and joins the write queue, a partial write merges with the line unless that read is uncorrectable,
when it is not performed (R225, R236, R239). A row last accessed with no hint closes when it idles (R224). A refresh that falls due is issued with
those postponed, or postponed up to 4, 2 with 2× refresh (R229, R230). MR4 is read at its due time: a code that requires 2× gives 2× refresh, a
failed read too and counts, two in a row or an over-temperature code are a thermal fault (`dramHot`; R230, R231). A lane's offsets follow the
oscillator's change at its due time, clamped to the trained window (R233, R234). The patrol moves on by a line and reads it with
CLOSE (R240, R224). A request that is not answered in time is a device fault. -/
def Obligations.DramEvents : Prop :=
  (∀ (n : Fin 4) (line : Nat) (m : BitVec 64) (q : Requester) (h : Hint) (s u : State), s.dmcUp n = true → m ≠ 0 → s.hintOf q = (h, u) →
    (u.mem.dmc[n].strict = true → exec (.dmcReadRequest n line m q) s = .next
      ((u.issueWrites n (fun e => u.bankRow (64 * e.line) == u.bankRow (64 * line))).dramRead n line m h))
    ∧ (u.mem.dmc[n].strict = false →
      (u.mem.dmc[n].wq.find? (fun e => e.line == line) = none → exec (.dmcReadRequest n line m q) s = .next (u.dramRead n line m h))
      ∧ (∀ e, u.mem.dmc[n].wq.find? (fun e => e.line == line) = some e →
        (m &&& ~~~ e.mask = 0 → exec (.dmcReadRequest n line m q) s = .next (u.dmcAnswer n line m))
        ∧ (m &&& ~~~ e.mask ≠ 0 → exec (.dmcReadRequest n line m q) s = .next ((u.issueWrite n e).dramRead n line m h)))))
  ∧ (∀ (n : Fin 4) (line a : Nat) (m : BitVec 64) (s : State), s.deviceAddr n.val (64 * line) = some a →
    s.dmcAnswer n line m = s.emit (.dmcData n.val line m (((List.range 64).filter m.getLsbD).map (byteAt (s.memRead a 64))) (s.readUe a 64)))
  ∧ (∀ (n : Fin 4) (line a : Nat) (bs : List Byte) (q : Requester) (h : Hint) (s u : State), s.dmcUp n = true → s.hintOf q = (h, u) →
    s.deviceAddr n.val (64 * line) = some a →
    (∀ v, v = (u.eccTouch n line true).memWrite a (mergeLine ((u.eccTouch n line true).memRead a 64) bs (BitVec.allOnes 64)) →
      exec (.dmcWriteRequest n line (BitVec.allOnes 64) bs q) s = .next
        ((v.updDmc n (fun d => { d with wq := enqueueWrite d.wq line (BitVec.allOnes 64) h })).drain n))
    ∧ (∀ m v, m ≠ 0 → m ≠ BitVec.allOnes 64 → u.eccOf n line = none →
      v = (u.eccTouch n line true).memWrite a (mergeLine ((u.eccTouch n line true).memRead a 64) bs m) →
      exec (.dmcWriteRequest n line m bs q) s = .next
        ((v.updDmc n (fun d => { d with wq := enqueueWrite d.wq line m h })).drain n))
    ∧ (∀ m k, m ≠ 0 → m ≠ BitVec.allOnes 64 → u.eccOf n line = some (k, .uncorrectable) →
      exec (.dmcWriteRequest n line m bs q) s = .next (u.ueLine k)))
  ∧ (∀ s : State, s.hintOf .csiIngest = (.open_, s) ∧ s.hintOf .ethIngest = (.open_, s) ∧ s.hintOf .vde = (.open_, s)
    ∧ s.hintOf .ppeRead = (.open_, s) ∧ s.hintOf .weightLoad = (.open_, s) ∧ s.hintOf .resultDma = (.close, s) ∧ s.hintOf .trk = (.close, s)
    ∧ s.hintOf .bpmRing = (.close, s) ∧ s.hintOf .eccLine = (.close, s) ∧ s.hintOf .scrub = (.close, s) ∧ s.hintOf .firmware = (.none, s)
    ∧ s.hintOf .bar2 = (.none, s) ∧ s.hintOf .walk = (.none, s) ∧ s.hintOf .vee = (.none, s) ∧ s.hintOf .vpu = (.none, s)
    ∧ s.hintOf .ckpt = (.none, s))
  ∧ (∀ (n : Fin 4) (b : Nat) (s : State), s.dmcUp n = true →
    exec (.pageIdleClose n b) s = .next
      (s.updDmc n (fun d => { d with rows := d.rows.filter (fun r => !(r.bank == b && r.idleClose)) })))
  ∧ (∀ (n : Fin 4) (s : State), s.dmcOn n = true →
    exec (.dramRefresh n true) s = .next
        ((s.refreshes n (s.mem.dmc[n].postponed + 1)).updDmc n (fun d => { d with postponed := 0 }))
    ∧ (s.mem.dmc[n].postponed < (if s.mem.dmc[n].refreshX2 then 2 else 4) →
      exec (.dramRefresh n false) s = .next (s.updDmc n (fun d => { d with postponed := d.postponed + 1 })))
    ∧ ((if s.mem.dmc[n].refreshX2 then 2 else 4) ≤ s.mem.dmc[n].postponed → exec (.dramRefresh n false) s = .next (s.refreshOne n)))
  ∧ (∀ (n : Fin 4) (s u : State), s.dmcOn n = true → s.mem.dmc[n].mr4Due ≤ s.clock →
    u = s.updDmc n (fun d => { d with mr4Due := d.mr4Due + 16000, wakeMr4 := false }) →
    (∀ code, exec (.mr4Poll n (some code) .x2) s = .next
        ((u.updDmc n (fun d => { d with mr4Code := code, mr4Fails := 0 })).fasterRefresh n)
      ∧ exec (.mr4Poll n (some code) .over) s = .next
        ((u.updDmc n (fun d => { d with mr4Code := code, mr4Fails := 0 })).dramHot n code.toNat))
    ∧ (∀ req v, v = (u.fasterRefresh n).updDmc n (fun d => { d with mr4Fail := true, mr4Fails := s.mem.dmc[n].mr4Fails + 1 }) →
      (s.mem.dmc[n].mr4Fails = 0 → exec (.mr4Poll n none req) s = .next (v.faultLogOpen (0x22 + n.val)))
      ∧ (1 ≤ s.mem.dmc[n].mr4Fails → exec (.mr4Poll n none req) s = .next
        ((v.faultLogOpen (0x22 + n.val)).dramHot n s.mem.dmc[n].mr4Code.toNat))))
  ∧ (∀ (n l : Fin 4) (rd wr : Int) (s : State), s.dmcOn n = true → s.mem.dmc[n].driftDue[l] ≤ s.clock →
    ∃ (t u v : State) (r w : Int), exec (.driftUpdate n l rd wr) s = .next t
      ∧ s.toTaps (rd - s.mem.dmc[n].oscBase[l].1) s.mem.dmc[n].perTap[l] = (r, u)
      ∧ u.toTaps (wr - s.mem.dmc[n].oscBase[l].2) s.mem.dmc[n].perTap[l] = (w, v)
      ∧ t.mem.dmc[n].driftRd[l] = clampInt (-(driftLimit (s.boot.eyes.toList.getD (4 * n.val + l.val) {}).rdWidth))
        (driftLimit (s.boot.eyes.toList.getD (4 * n.val + l.val) {}).rdWidth) r
      ∧ t.mem.dmc[n].driftWr[l] = clampInt (-(driftLimit (s.boot.eyes.toList.getD (4 * n.val + l.val) {}).wrWidth))
        (driftLimit (s.boot.eyes.toList.getD (4 * n.val + l.val) {}).wrWidth) w
      ∧ t.mem.cells = s.mem.cells)
  ∧ (∀ (n : Fin 4) (s t : State), s.dmcUp n = true → s.mem.dmc[n].scrubPos < eccAt s.chLog2 0 / 64 →
    t = (s.updDmc n (fun d => { d with
      scrubPos := (s.mem.dmc[n].scrubPos + 1) % s.chLines
      scrub := if (s.mem.dmc[n].scrubPos + 1) % s.chLines = 0 then d.scrub + 1 else d.scrub })).dramAccess n s.mem.dmc[n].scrubPos .close →
    exec (.patrolScrubStep n none) s = .next (t.lineRead n s.mem.dmc[n].scrubPos)
    ∧ ∀ e, exec (.patrolScrubStep n (some e)) s =
        .next ((t.lineFound n s.mem.dmc[n].scrubPos (some e)).lineRead n s.mem.dmc[n].scrubPos))
  ∧ (∀ (n : Fin 4) (s : State), s.live = true →
    exec (.dmcUnansweredTimeout n) s = .next (s.latch .device 0 (0x22 + n.val) 0))

/-- A write of MMU_INVAL removes the cached translations of its context, all of them with ALL set, or those of the page that holds its
address, and nothing else changes (R217). A request of a unit that translates changes the cache alone, beside the entries that its walk reads,
and one that translates to the outbound window becomes a PCIe request to that host address (R210, R215); one that is refused is logged with its
status and the page's address, and discards the work it serves (R219). In context 0 an address is its own translation and one of no range is
refused (R208, R212). An uncorrectable error in a table lies in firmware's region and is a device fault. -/
def Obligations.TranslationEvents : Prop :=
  (∀ (v : U64) (s : State), s.live = true → ∃ t : State, exec (.mmuInvalWrite v) s = .next t
    ∧ (∀ e, e ∈ t.mem.tlb ↔ e ∈ s.mem.tlb ∧ ¬ (e.ctx = bitsOf v.toNat 0 6 ∧ (bitOf v.toNat 6 = true ∨
        (e.va ≤ bitsOf v.toNat 12 27 * 4096 ∧ bitsOf v.toNat 12 27 * 4096 < e.va + e.size))))
    ∧ ({ t with mem := { t.mem with tlb := s.mem.tlb } } : State) = s)
  ∧ (∀ (ctx unit addr len : Nat) (w : Bool) (s : State), s.live = true → ctx < 64 → 0 < len →
    ((s.translate ctx addr w).2 = none →
      (((s.translate ctx addr w).1.physOf ctx addr < 0x020000000000 ∨ 0x030000000000 ≤ (s.translate ctx addr w).1.physOf ctx addr) →
        exec (.mmuTranslate ctx unit addr len w false) s = .next (s.translate ctx addr w).1)
      ∧ (0x020000000000 ≤ (s.translate ctx addr w).1.physOf ctx addr → (s.translate ctx addr w).1.physOf ctx addr < 0x030000000000 →
        (s.translate ctx addr w).1.canRequest = true →
        exec (.mmuTranslate ctx unit addr len w false) s = .next ((s.translate ctx addr w).1.emit
          (.hostRequest ((s.translate ctx addr w).1.physOf ctx addr - 0x020000000000) len w))))
    ∧ (∀ st, (s.translate ctx addr w).2 = some st →
      exec (.mmuTranslate ctx unit addr len w false) s = .next (((s.translate ctx addr w).1.faultLog unit st.code
        (BitVec.ofNat 32 (bitsOf addr 12 27))).discardWork unit ctx st)))
  ∧ (∀ (s : State) (a : Nat) (w : Bool), s.translate 0 a w = (s, s.deviceRefusal a) ∧ s.physOf 0 a = a
    ∧ (a < s.dramSize → s.deviceRefusal a = none)
    ∧ (s.dramSize ≤ a → a < 0x010000000000 → s.deviceRefusal a = some .notFound)
    ∧ (0x020000000000 ≤ a → a < 0x030000000000 → s.deviceRefusal a = none))
  ∧ (∀ (ctx : Nat) (a : Nat) (w : Bool) (s : State), s.mem.tlb.find? (fun t => t.ctx == ctx && t.va ≤ a && a < t.va + t.size)
      ≠ none → ({ (s.translate ctx a w).1 with mem := { (s.translate ctx a w).1.mem with tlb := s.mem.tlb } } : State) = s)
  ∧ (∀ (ctx unit addr len : Nat) (w : Bool) (s : State), s.live = true → 0 < ctx → ctx < 64 → 0 < len →
    s.walkReads ((s.mem.root.toList.getD ctx {}).root.toNat * 4096) addr = [(s.mem.root.toList.getD ctx {}).root.toNat * 4096 + 8 * bitsOf addr 30 9] →
    (s.mem.root.toList.getD ctx {}).en = true → s.ctxClosed ctx = false → 0x40000000 ≤ addr → addr < 2 ^ 39 →
    (∀ t ∈ s.mem.tlb, ¬ (t.ctx = ctx ∧ t.va ≤ addr ∧ addr < t.va + t.size)) →
    (s.mem.root.toList.getD ctx {}).root.toNat * 4096 < 0x10000000 - 4096 →
    s.locate (((s.mem.root.toList.getD ctx {}).root.toNat * 4096 + 8 * bitsOf addr 30 9) / 64 * 64) ≠ none →
    ∃ t : State, exec (.mmuTranslate ctx unit addr len w true) s = .next t ∧ t.kpr.stopped = true)

/-! ### Host commands: streams and jobs -/

/-- What every command on a slot checks first: a slot of another context, or no context, answers NOT_FOUND; a locked S-class
slot SAFETY_LOCKED; then the slot's state by R182's table (R181, R182, R196).
The commands that configure a slot (R182 to R185, R187, R188): a check that fails answers its status. On a slot whose checks pass,
STREAM_SOURCE binds the source, with no tracks, analytics or result, and answers INVALID_FIELD for fields that do not go together, BUSY for a
source that another slot has, NOT_FOUND for a session that does not exist; STREAM_ANALYTICS records the analytics, or answers its own check's
status; STREAM_RESULT records the destination and the ring's registers, and answers INVALID_FIELD for fields that do not go together and
NOT_FOUND for a flow that has not been set; STREAM_TRACK records the parameters of new frames; STREAM_VIEW answers INVALID_FIELD for a size or
rate out of range, BUSY for another slot's view, NOT_FOUND for a flow that has not been set and NO_RESOURCE where the VEE is not in service or
has no room, and otherwise turns the view off, or on with an IDR picture first; a RUNNING slot answers BUSY to STREAM_SOURCE. -/
def Obligations.StreamConfiguration : Prop :=
  (∀ (s : State) (c : HostCmd) (lockable : Bool) (table : SlotState → Option Status),
    let sl := s.slotN (c.f 8 1)
    (s.ctxLive c.ctxN = false → s.slotCheck c lockable table = some .notFound)
    ∧ (sl.state ≠ .free → sl.ctx ≠ c.ctxN → s.slotCheck c lockable table = some .notFound)
    ∧ (s.ctxLive c.ctxN = true → sl.ctx = c.ctxN → sl.state ≠ .free → lockable = true → s.kpr.lock ≠ none → sl.cls = .s →
        s.slotCheck c lockable table = some .safetyLocked)
    ∧ (s.ctxLive c.ctxN = true → (sl.state = .free ∨ sl.ctx = c.ctxN) →
        (lockable = false ∨ s.kpr.lock = none ∨ sl.state = .free ∨ sl.cls ≠ .s) → s.slotCheck c lockable table = table sl.state))
  ∧ ((∀ (c : HostCmd) (s : State), cmdStreamSource.accepts c s = true →
    (∀ st, s.slotCheck c true (slotTable none none (some .busy) (some .busy)) = some st →
      exec (.streamSource c) s = .next (s.answer c 0x0401 st []))
    ∧ (s.slotCheck c true (slotTable none none (some .busy) (some .busy)) = none →
      (c.sourceOk = false → exec (.streamSource c) s = .next (s.answer c 0x0401 .invalidField []))
      ∧ (c.sourceOk = true → s.sourceTaken (c.f 8 1) c.source = true → exec (.streamSource c) s = .next (s.answer c 0x0401 .busy []))
      ∧ (c.sourceOk = true → s.sourceTaken (c.f 8 1) c.source = false → c.source.type = .rtp →
        (s.io.sess.toList.getD c.source.session {}).cfg = none → exec (.streamSource c) s = .next (s.answer c 0x0401 .notFound []))
      ∧ (c.sourceOk = true → s.sourceTaken (c.f 8 1) c.source = false →
        (c.source.type ≠ .rtp ∨ (s.io.sess.toList.getD c.source.session {}).cfg ≠ none) → ∃ t : State,
        exec (.streamSource c) s = .next (t.answer c 0x0401 .ok (leBytes 1 (c.f 8 1)))
        ∧ t = s.bindSource (c.f 8 1) c.ctxN c.source
        ∧ (t.slotN (c.f 8 1)).state = .configured ∧ (t.slotN (c.f 8 1)).ctx = c.ctxN ∧ (t.slotN (c.f 8 1)).src = some c.source
        ∧ (t.slotN (c.f 8 1)).ana = none ∧ (t.slotN (c.f 8 1)).res = none ∧ (t.slotN (c.f 8 1)).tracks = []))
    ∧ (s.ctxLive c.ctxN = true → s.kpr.lock = none → (s.slotN (c.f 8 1)).ctx = c.ctxN → (s.slotN (c.f 8 1)).state = .running →
      exec (.streamSource c) s = .next (s.answer c 0x0401 .busy [])))
  ∧ (∀ (c : HostCmd) (s : State), cmdStreamAnalytics.accepts c s = true →
    (∀ st, s.slotCheck c true (slotTable (some .notFound) none (some .busy) (some .busy)) = some st →
      exec (.streamAnalytics c) s = .next (s.answer c 0x0402 st []))
    ∧ (s.slotCheck c true (slotTable (some .notFound) none (some .busy) (some .busy)) = none →
      (∀ st, s.anaError c = some st → exec (.streamAnalytics c) s = .next (s.answer c 0x0402 st []))
      ∧ (s.anaError c = none →
        exec (.streamAnalytics c) s = .next ((s.updSlotN (c.f 8 1) (fun sl => { sl with ana := some c.analytics })).answer c 0x0402 .ok
          (leBytes 1 (c.f 8 1))))))
  ∧ (∀ (c : HostCmd) (s : State), cmdStreamResult.accepts c s = true →
    (∀ st, s.slotCheck c true (slotTable (some .notFound) none (some .busy) (some .busy)) = some st →
      exec (.streamResult c) s = .next (s.answer c 0x0403 st []))
    ∧ (s.slotCheck c true (slotTable (some .notFound) none (some .busy) (some .busy)) = none →
      (c.resultOk = false → exec (.streamResult c) s = .next (s.answer c 0x0403 .invalidField []))
      ∧ (c.resultOk = true → c.f 9 1 = 0 → exec (.streamResult c) s = .next
        (((s.setRrg (c.f 8 1) (Rrg.given (c.f 8 1) (c.f 16 8) (c.f 10 1) false)).updSlotN (c.f 8 1)
          (fun sl => { sl with res := some .ring })).answer c 0x0403 .ok (leBytes 1 (c.f 8 1))))
      ∧ (c.resultOk = true → c.f 9 1 = 1 → lookupN s.io.flow (c.f 11 1) = none →
        exec (.streamResult c) s = .next (s.answer c 0x0403 .notFound []))
      ∧ (c.resultOk = true → c.f 9 1 = 1 → lookupN s.io.flow (c.f 11 1) ≠ none → exec (.streamResult c) s = .next
        (((s.setRrg (c.f 8 1) (Rrg.given (c.f 8 1) (c.f 16 8) (c.f 10 1) true)).updSlotN (c.f 8 1)
          (fun sl => { sl with res := some (.flow (c.f 11 1)) })).answer c 0x0403 .ok (leBytes 1 (c.f 8 1))))))
  ∧ (∀ (c : HostCmd) (s : State), cmdStreamTrack.accepts c s = true →
    (∀ st, s.slotCheck c true (slotTable (some .notFound) none none (some .busy)) = some st →
      exec (.streamTrack c) s = .next (s.answer c 0x0409 st []))
    ∧ (s.slotCheck c true (slotTable (some .notFound) none none (some .busy)) = none →
      exec (.streamTrack c) s = .next ((s.updSlotN (c.f 8 1) (fun sl => { sl with par :=
        { nmsMode := c.f 9 1, minHits := c.f 20 1, topK := c.f 10 2, scoreMin := c.f 12 2, iouNms := c.f 14 2,
          nmsMax := c.f 16 2, maxAge := c.f 18 2, wEmb := c.f 22 2 } })).answer c 0x0409 .ok [])))
  ∧ (∀ (c : HostCmd) (s : State), cmdStreamView.accepts c s = true →
    (∀ st, s.slotCheck c false (slotTable (some .notFound) none none (some .busy)) = some st →
      exec (.streamView c) s = .next (s.answer c 0x040A st []))
    ∧ (s.slotCheck c false (slotTable (some .notFound) none none (some .busy)) = none →
      (c.viewOk = false → exec (.streamView c) s = .next (s.answer c 0x040A .invalidField []))
      ∧ (c.viewOk = true → (s.viewN (c.f 9 1)).en = true → (s.viewN (c.f 9 1)).slot ≠ c.f 8 1 →
        exec (.streamView c) s = .next (s.answer c 0x040A .busy []))
      ∧ (c.viewOk = true → ((s.viewN (c.f 9 1)).en = false ∨ (s.viewN (c.f 9 1)).slot = c.f 8 1) →
        (lookupN s.io.flow (c.f 17 1) = none → exec (.streamView c) s = .next (s.answer c 0x040A .notFound []))
        ∧ (lookupN s.io.flow (c.f 17 1) ≠ none → c.f 10 1 = 0 →
          exec (.streamView c) s = .next ((s.viewOff (c.f 9 1)).answer c 0x040A .ok []))
        ∧ (lookupN s.io.flow (c.f 17 1) ≠ none → c.f 10 1 = 1 →
          (s.veeThere = false ∨ 1 < s.veeLoad (c.f 9 1) + viewLoad (c.f 12 2) (c.f 14 2) (s.slotN (c.f 8 1)).periodUs →
            exec (.streamView c) s = .next (s.answer c 0x040A .noResource []))
          ∧ (s.veeThere = true → s.veeLoad (c.f 9 1) + viewLoad (c.f 12 2) (c.f 14 2) (s.slotN (c.f 8 1)).periodUs ≤ 1 →
            exec (.streamView c) s = .next ((s.updView (c.f 9 1) (fun w => { w with
              rtpSeq := if w.en then w.rtpSeq else 0, en := true, slot := c.f 8 1, codec := if c.f 11 1 = 2 then .h265 else .h264
              width := c.f 12 2, height := c.f 14 2, rc := c.f 16 1, flow := c.f 17 1, kbps := c.f 20 4, idr := true
              sweep := 0 })).answer c 0x040A .ok [])))))))

/-- The commands that run a slot (R182, R185, R186, R189): a slot check that fails answers its status. STREAM_START answers BUSY in a low power
state, NOT_FOUND for a slot not configured whole, INVALID_FIELD where a pool's buffers are too small and NO_RESOURCE where admission refuses,
and otherwise opens the stream: the slot is RUNNING with NEXT_SEQ 0 and no gap; STREAM_STOP of a CONFIGURED slot completes with its last posted
number, of a running slot it halts the source and goes on until the last record is posted; STREAM_STATUS answers the slot's state;
STREAM_REPROCESS re-issues the retained frames, and answers BUSY in a low power state, NOT_FOUND where one is no longer retained and BUSY where
the queue lacks room; STREAM_CLEAR frees the slot, does nothing to a free one, and answers BUSY during a checkpoint of it. -/
def Obligations.StreamOperation : Prop :=
  (∀ (c : HostCmd) (s : State), cmdStreamStart.accepts c s = true →
    (∀ st, s.slotCheck c false (slotTable (some .notFound) none (some .busy) (some .busy)) = some st →
      exec (.streamStart c) s = .next (s.answer c 0x0404 st []))
    ∧ (s.slotCheck c false (slotTable (some .notFound) none (some .busy) (some .busy)) = none →
      (s.lowPower = true → exec (.streamStart c) s = .next (s.answer c 0x0404 .busy []))
      ∧ (s.lowPower = false →
        ((s.slotN (c.f 8 1)).src = none ∨ (s.slotN (c.f 8 1)).ana = none ∨ (s.slotN (c.f 8 1)).res = none) →
        exec (.streamStart c) s = .next (s.answer c 0x0404 .notFound []))
      ∧ (∀ x a r, s.lowPower = false → (s.slotN (c.f 8 1)).src = some x → (s.slotN (c.f 8 1)).ana = some a →
        (s.slotN (c.f 8 1)).res = some r →
        (s.startSizesOk x a = false → exec (.streamStart c) s = .next (s.answer c 0x0404 .invalidField []))
        ∧ (s.startSizesOk x a = true → s.admitStream (s.demandOf (c.f 8 1) x a) = none →
          exec (.streamStart c) s = .next (s.answer c 0x0404 .noResource []))
        ∧ (∀ d, s.startSizesOk x a = true → s.admitStream (s.demandOf (c.f 8 1) x a) = some d → ∃ t : State,
          exec (.streamStart c) s = .next (t.answer c 0x0404 .ok
            (leBytes 1 (c.f 8 1) ++ zeros 3 ++ leBytes 4 0 ++ leBytes 4 (stagePip (c.f 8 1) 0)))
          ∧ t = s.streamOpen (c.f 8 1) x a d ∧ (t.slotN (c.f 8 1)).state = .running ∧ (t.slotN (c.f 8 1)).nextSeq = 0
          ∧ (t.slotN (c.f 8 1)).gaps = 0))))
  ∧ (∀ (c : HostCmd) (s : State), cmdStreamStop.takes c s = true →
    (∀ st, s.slotCheck c true (slotTable (some .notFound) none none (some .busy)) = some st →
      exec (.streamStop c) s = .next (s.answer c 0x0405 st []))
    ∧ (s.slotCheck c true (slotTable (some .notFound) none none (some .busy)) = none →
      ((s.slotN (c.f 8 1)).state = .configured → exec (.streamStop c) s = .next
        ((c.proceed 0x0405 s (.streamStop (c.f 8 1)) (leBytes 1 (c.f 8 1))).finishOne c.mbx c.seq (.streamStop (c.f 8 1)) .ok
          (leBytes 1 (c.f 8 1) ++ zeros 3 ++ leBytes 4 ((s.slotN (c.f 8 1)).lastPosted.getD 0xFFFFFFFF).toNat)))
      ∧ ((s.slotN (c.f 8 1)).state ≠ .configured → exec (.streamStop c) s = .next
        ((c.proceed 0x0405 (s.streamHalt (c.f 8 1)) (.streamStop (c.f 8 1)) (leBytes 1 (c.f 8 1))).stopDone (c.f 8 1))
        ∧ ((s.streamHalt (c.f 8 1)).slotN (c.f 8 1)).state = .stopping
        ∧ ((s.streamHalt (c.f 8 1)).slotN (c.f 8 1)).ing.open_ = none)))
  ∧ (∀ (c : HostCmd) (s : State), cmdStreamStatus.accepts c s = true →
    ((s.slotN (c.f 8 1)).state ≠ .free → (s.slotN (c.f 8 1)).ctx ≠ c.ctxN →
      exec (.streamStatus c) s = .next (s.answer c 0x0406 .notFound []))
    ∧ ((s.slotN (c.f 8 1)).state = .free ∨ (s.slotN (c.f 8 1)).ctx = c.ctxN →
      exec (.streamStatus c) s = .next (s.answer c 0x0406 .ok (leBytes 1 (c.f 8 1) ++ leBytes 1 (s.slotN (c.f 8 1)).state.code
        ++ leBytes 1 (match (s.slotN (c.f 8 1)).ana with | some a => a.cls.code | none => 0)
        ++ leBytes 1 ((s.slotN (c.f 8 1)).frames.filter (·.queued)).length ++ leBytes 4 (s.slotN (c.f 8 1)).nextSeq.toNat
        ++ (List.range 9).flatMap (fun k => leBytes 4 (s.pipGet (stagePip (c.f 8 1) k)).value.toNat)
        ++ leBytes 4 (s.slotN (c.f 8 1)).gaps.toNat))))
  ∧ (∀ (c : HostCmd) (s : State), cmdStreamReprocess.accepts c s = true →
    (∀ st, s.slotCheck c false (slotTable (some .notFound) (some .notFound) none (some .busy)) = some st →
      exec (.streamReprocess c) s = .next (s.answer c 0x0407 st []))
    ∧ (s.slotCheck c false (slotTable (some .notFound) (some .notFound) none (some .busy)) = none →
      (s.lowPower = true → exec (.streamReprocess c) s = .next (s.answer c 0x0407 .busy []))
      ∧ (∀ got : List Kept, s.lowPower = false →
        got = ((List.range (c.f 16 1)).map (fun i => BitVec.ofNat 32 (c.f 12 4 + i))).filterMap
          (fun q => (s.slotN (c.f 8 1)).kept.find? (fun x => x.seq == q)) →
        (got.length ≠ c.f 16 1 → exec (.streamReprocess c) s = .next (s.answer c 0x0407 .notFound []))
        ∧ (got.length = c.f 16 1 → 4 < c.f 16 1 + ((s.slotN (c.f 8 1)).frames.filter (·.queued)).length →
          exec (.streamReprocess c) s = .next (s.answer c 0x0407 .busy []))
        ∧ (got.length = c.f 16 1 → c.f 16 1 + ((s.slotN (c.f 8 1)).frames.filter (·.queued)).length ≤ 4 →
          exec (.streamReprocess c) s = .next ((got.foldl (fun s x => s.reissue (c.f 8 1) x) s).answer c 0x0407 .ok
            (zeros 4 ++ leBytes 4 (s.slotN (c.f 8 1)).nextSeq.toNat))))))
  ∧ (∀ (c : HostCmd) (s : State), cmdStreamClear.accepts c s = true →
    (∀ st, s.slotCheck c true (slotTable none none (some .busy) (some .busy)) = some st →
      exec (.streamClear c) s = .next (s.answer c 0x0408 st []))
    ∧ (s.slotCheck c true (slotTable none none (some .busy) (some .busy)) = none →
      (s.ckBusy (c.f 8 1) = true → exec (.streamClear c) s = .next (s.answer c 0x0408 .busy []))
      ∧ (s.ckBusy (c.f 8 1) = false → (s.slotN (c.f 8 1)).state = .free →
        exec (.streamClear c) s = .next (s.answer c 0x0408 .ok (leBytes 1 (c.f 8 1))))
      ∧ (s.ckBusy (c.f 8 1) = false → (s.slotN (c.f 8 1)).state ≠ .free → ∃ t : State,
        exec (.streamClear c) s = .next (t.answer c 0x0408 .ok (leBytes 1 (c.f 8 1)))
        ∧ t = s.slotFree (c.f 8 1) ∧ (t.slotN (c.f 8 1)).state = .free)))

/-- JOB_SUBMIT answers BUSY in a low power state and the first failed check's status, and otherwise queues the job under the
next JOB_ID and answers it, with ASYNC as PENDING's data and with a final response when the job ends; a job with a WAIT_PIP registers its wait
then. JOB_CANCEL answers NOT_FOUND for a job that the context has not, BUSY for one that runs, and completes any other with ABORTED_RESET, which poisons
its DONE_PIP; JOB_QUERY answers a job's state, and its result and run time once done (R190 to R192). -/
def Obligations.JobCommands : Prop :=
  (∀ (c : HostCmd) (s : State), cmdJobSubmit.takes c s = true →
    (s.lowPower = true → exec (.jobSubmit c) s = .next (s.answer c 0x0501 .busy []))
    ∧ (∀ st, s.lowPower = false → s.jobError c = some st → exec (.jobSubmit c) s = .next (s.answer c 0x0501 st []))
    ∧ (∀ t : State, s.lowPower = false → s.jobError c = none →
      t = { s with mem := { s.mem with jobs := s.mem.jobs ++ [s.jobOf c], nextJob := s.mem.nextJob + 1 } } →
      (c.async = false → exec (.jobSubmit c) s = .next
        ((t.answer c 0x0501 .ok (leBytes 4 s.mem.nextJob.toNat)).jobWait c s.mem.nextJob))
      ∧ (c.async = true → exec (.jobSubmit c) s = .next
        ((c.proceed 0x0501 t (.job s.mem.nextJob) (leBytes 4 s.mem.nextJob.toNat)).jobWait c s.mem.nextJob))))
  ∧ (∀ (c : HostCmd) (s : State), cmdJobCancel.accepts c s = true →
    (s.jobIn c.ctxN (c.f 8 4) = none → exec (.jobCancel c) s = .next (s.answer c 0x0502 .notFound []))
    ∧ (∀ j, s.jobIn c.ctxN (c.f 8 4) = some j → j.state = .running → exec (.jobCancel c) s = .next (s.answer c 0x0502 .busy []))
    ∧ (∀ j, s.jobIn c.ctxN (c.f 8 4) = some j → j.state ≠ .running →
      exec (.jobCancel c) s = .next ((s.jobRemove j).answer c 0x0502 .ok [])))
  ∧ (∀ (s : State) (j : Job), s.pip.overflow = [] → (∀ w ∈ s.pip.watch, w.by_ ≠ .job j.id) →
    (∀ i ∈ s.sched.guarded ++ s.sched.waiting, i.origin ≠ .job j.id) →
    (∀ e, e < 32 → ∀ i ∈ (s.engN e).queue.toList.flatten ++ (s.engN e).saved.toList ++ (s.engN e).incoming.toList, i.origin ≠ .job j.id) →
    (j.donePip = none → s.jobRemove j = (s.jobClose j .abortedReset).instCut (64, j.id))
    ∧ (∀ p, j.donePip = some p → s.jobRemove j =
      ((s.jobClose j .abortedReset).pipApply p .poison (BitVec.ofNat 32 Status.abortedReset.code)).instCut (64, j.id)))
  ∧ (∀ (c : HostCmd) (s : State), cmdJobQuery.accepts c s = true →
    (∀ j, s.jobIn c.ctxN (c.f 8 4) = some j → j.state ≠ .done →
      exec (.jobQuery c) s = .next (s.answer c 0x0503 .ok (leBytes 1 j.state.code ++ zeros 7)))
    ∧ (∀ j, s.jobIn c.ctxN (c.f 8 4) = none → s.mem.doneJobs.find? (fun j => j.id.toNat == c.f 8 4 && j.ctx == c.ctxN) = some j →
      j.state = .done → exec (.jobQuery c) s = .next (s.answer c 0x0503 .ok
        (leBytes 1 3 ++ zeros 1 ++ leBytes 2 j.result.code ++ leBytes 4 j.runUs)))
    ∧ (s.jobIn c.ctxN (c.f 8 4) = none → s.mem.doneJobs.find? (fun j => j.id.toNat == c.f 8 4 && j.ctx == c.ctxN) = none →
      exec (.jobQuery c) s = .next (s.answer c 0x0503 .notFound [])))

/-! ### Host commands: flash, fuses, firmware, safety, units -/

/-- FLASH_READ writes the bytes read to the host buffer, INVALID_FIELD past the end of the flash or for a buffer off 64 bytes, BUSY while a
firmware switch is outstanding, INVALID_FIELD with DESC_FAULT for a buffer that cannot be written; FLASH_WRITE answers INVALID_FIELD for a range
off its blocks and pages or outside the regions it may write, DENIED for one that touches the board configuration, the key store or the
log, BUSY during a firmware switch, SUPPLY_INHIBIT while the guard is active, INVALID_FIELD with DESC_FAULT for a buffer that cannot be read, and
otherwise lists the erases and page programs and goes on (R171 to R173, R178).
The fuse commands (R175, R91): the present minimum answers OK at once, a lower one or one above the running image's
DENIED, and another begins to blow; an empty hash answers INVALID_FIELD and a populated slot DENIED; a revocation that would leave no
usable slot answers DENIED; each answers SUPPLY_INHIBIT while the guard is active (R70) and waits in its mailbox while another is in
progress. -/
def Obligations.FlashAndFuseCommands : Prop :=
  ((∀ (c : HostCmd) (s : State), cmdFlashRead.takes c s = true →
    (c.f 16 8 % 64 ≠ 0 ∨ s.sup.flashSize < c.f 8 4 + c.f 12 4 → exec (.flashRead c) s = .next (s.answer c 0x0D01 .invalidField []))
    ∧ (c.f 16 8 % 64 = 0 → c.f 8 4 + c.f 12 4 ≤ s.sup.flashSize →
      (s.switching = true → exec (.flashRead c) s = .next (s.answer c 0x0D01 .busy []))
      ∧ (s.switching = false → c.host = .failed →
        exec (.flashRead c) s = .next ((s.mbxError c.mbx .descFault).answer c 0x0D01 .invalidField []))
      ∧ (s.switching = false → c.host ≠ .failed →
        exec (.flashRead c) s = .next (((s.flashBytes (c.f 8 4) (c.f 12 4)).2.emit
          (.hostWrite (c.f 16 8) (s.flashBytes (c.f 8 4) (c.f 12 4)).1)).reply c 0x0D01 .ok []))))
  ∧ (∀ (c : HostCmd) (s : State), cmdFlashWrite.takes c s = true →
    (c.f 8 4 % 65536 ≠ 0 ∨ c.f 12 4 % 256 ≠ 0 ∨ c.f 16 8 % 64 ≠ 0 → exec (.flashWrite c) s = .next (s.answer c 0x0D02 .invalidField []))
    ∧ (c.f 8 4 % 65536 = 0 → c.f 12 4 % 256 = 0 → c.f 16 8 % 64 = 0 →
      ((c.f 8 4 < 0x100000 ∧ 0x20000 < c.f 8 4 + c.f 12 4) ∨ (c.f 8 4 < 0x1200000 ∧ 0x1100000 < c.f 8 4 + c.f 12 4) →
        exec (.flashWrite c) s = .next (s.answer c 0x0D02 .denied []))
      ∧ (¬ (c.f 8 4 < 0x100000 ∧ 0x20000 < c.f 8 4 + c.f 12 4) → ¬ (c.f 8 4 < 0x1200000 ∧ 0x1100000 < c.f 8 4 + c.f 12 4) →
        ((flashRegions s.sup.flashSize).any (fun r => r.1 ≤ c.f 8 4 && c.f 8 4 + c.f 12 4 ≤ r.2) = false →
          exec (.flashWrite c) s = .next (s.answer c 0x0D02 .invalidField []))
        ∧ ((flashRegions s.sup.flashSize).any (fun r => r.1 ≤ c.f 8 4 && c.f 8 4 + c.f 12 4 ≤ r.2) = true →
          (s.switching = true → exec (.flashWrite c) s = .next (s.answer c 0x0D02 .busy []))
          ∧ (s.switching = false → s.sup.guard = true → exec (.flashWrite c) s = .next (s.answer c 0x0D02 .supplyInhibit []))
          ∧ (s.switching = false → s.sup.guard = false → (∀ bs, c.host ≠ .data bs) →
            exec (.flashWrite c) s = .next ((s.mbxError c.mbx .descFault).answer c 0x0D02 .invalidField []))
          ∧ (∀ bs, s.switching = false → s.sup.guard = false → c.host = .data bs → exec (.flashWrite c) s = .next (c.proceed 0x0D02
            (({ s with fw := { s.fw with
              flashTodo := flashOps (c.f 12 4 / 256) (c.f 8 4) (padTo (c.f 12 4) bs), flashAt := 0 } } : State).flashKick)
            .flashWrite [])))))))
  ∧ ((∀ (c : HostCmd) (s : State), cmdFuseSecver.accepts c s = true →
    (c.f 8 4 = s.sup.fuses.secverMin → exec (.fuseSecver c) s = .next (s.answer c 0x0D04 .ok []))
    ∧ (c.f 8 4 < s.sup.fuses.secverMin ∨ (c.f 8 4 ≠ s.sup.fuses.secverMin ∧ s.boot.secVersion.toNat < c.f 8 4) →
      exec (.fuseSecver c) s = .next (s.answer c 0x0D04 .denied []))
    ∧ (s.sup.fuses.secverMin < c.f 8 4 → c.f 8 4 ≤ s.boot.secVersion.toNat →
      (s.fusing = true → exec (.fuseSecver c) s = .next s)
      ∧ (s.fusing = false → s.sup.guard = true → exec (.fuseSecver c) s = .next (s.answer c 0x0D04 .supplyInhibit []))
      ∧ (s.fusing = false → s.sup.guard = false → exec (.fuseSecver c) s = .next (c.proceed 0x0D04
        (({ s with fw := { s.fw with fuseTodo := some (.secver (c.f 8 4)) } } : State).flashKick) (.fuse (.secver (c.f 8 4))) []))))
  ∧ (∀ (c : HostCmd) (s : State), cmdFuseKey.accepts c s = true →
    (BitVec.ofNat 384 (c.f 16 48) = 0 → exec (.fuseKey c) s = .next (s.answer c 0x0D05 .invalidField []))
    ∧ (BitVec.ofNat 384 (c.f 16 48) ≠ 0 → s.sup.fuses.keyHash[keySlot (c.f 8 1)] ≠ 0 →
      exec (.fuseKey c) s = .next (s.answer c 0x0D05 .denied []))
    ∧ (BitVec.ofNat 384 (c.f 16 48) ≠ 0 → s.sup.fuses.keyHash[keySlot (c.f 8 1)] = 0 →
      (s.fusing = true → exec (.fuseKey c) s = .next s)
      ∧ (s.fusing = false → s.sup.guard = true → exec (.fuseKey c) s = .next (s.answer c 0x0D05 .supplyInhibit []))
      ∧ (s.fusing = false → s.sup.guard = false → exec (.fuseKey c) s = .next (c.proceed 0x0D05
        (({ s with fw := { s.fw with fuseTodo := some (.key (keySlot (c.f 8 1)) (BitVec.ofNat 384 (c.f 16 48))) } } : State).flashKick)
        (.fuse (.key (keySlot (c.f 8 1)) (BitVec.ofNat 384 (c.f 16 48)))) []))))
  ∧ (∀ (c : HostCmd) (s : State), cmdFuseRevoke.accepts c s = true →
    (s.sup.fuses.lastKey (keySlot (c.f 8 1)) = true → exec (.fuseRevoke c) s = .next (s.answer c 0x0D06 .denied []))
    ∧ (s.sup.fuses.lastKey (keySlot (c.f 8 1)) = false →
      (s.fusing = true → exec (.fuseRevoke c) s = .next s)
      ∧ (s.fusing = false → s.sup.guard = true → exec (.fuseRevoke c) s = .next (s.answer c 0x0D06 .supplyInhibit []))
      ∧ (s.fusing = false → s.sup.guard = false → exec (.fuseRevoke c) s = .next (c.proceed 0x0D06
        (({ s with fw := { s.fw with fuseTodo := some (.revoke (keySlot (c.f 8 1))) } } : State).flashKick)
        (.fuse (.revoke (keySlot (c.f 8 1)))) []))))
  ∧ (∀ (f : Fuses) (i : Fin 4), f.lastKey i = true ↔ ∀ j : Fin 4, j ≠ i → f.keyHash[j] = 0 ∨ f.revoke.getLsbD j.val = true))

/-- The firmware switch (R139 to R141, R166, R174, R561): FW_SWITCH answers BUSY while another or a flash command is outstanding and otherwise
goes to the check; a refused image answers DIGEST_MISMATCH with its reason; a good one begins DRAIN: every mailbox is marked at its tail, the
outstanding PIP_WAITs complete with UPDATING and the source is raised; DRAIN goes to HANDOVER once only the switch itself is in progress and is
abandoned with BUSY after 100 ms; a handover that is done shows the new image, answers its version and raises the source; a revert answers
INTERNAL and raises it. -/
def Obligations.FirmwareSwitch : Prop :=
  (∀ (c : HostCmd) (s : State), cmdFwSwitch.acceptsAsync c s = true →
    (s.switching = true ∨ s.flashBusy = true → exec (.fwSwitch c) s = .next (s.answer c 0x0D03 .busy []))
    ∧ (s.switching = false → s.flashBusy = false →
      exec (.fwSwitch c) s = .next (c.proceed 0x0D03
        { s with fw := { s.fw with phase := .check, image := if c.f 8 1 = 0 then .a else .b, phaseAt := s.clock } } .fwSwitch [])))
  ∧ (∀ s : State, s.live = true → s.fw.phase = .check →
    (s.flashImageReason (s.fw.image == .b) ≠ .ok →
      exec .fwImageCheckDone s = .next (s.fwOver .digestMismatch (leBytes 1 (s.flashImageReason (s.fw.image == .b)).code)))
    ∧ (s.flashImageReason (s.fw.image == .b) = .ok → exec .fwImageCheckDone s = .next
      (({ s with
          fw := { s.fw with
            phase := .drain, version := BitVec.ofNat 32 (leAt (s.imageHeader (s.fw.image == .b)) 12 4)
            secVersion := BitVec.ofNat 8 (leAt (s.imageHeader (s.fw.image == .b)) 8 4), phaseAt := s.clock }
          host := { s.host with mbx := s.host.mbx.map (fun m => { m with switchMark := some m.cmdTail }) } } : State).waitsUpdating.raiseFw)))
  ∧ (∀ (s : State) (st : Status) (data : List Byte), ∃ t : State, s.fwOver st data = t.finish .fwSwitch st data
    ∧ t.fw = { s.fw with phase := .none, image := .none } ∧ ∀ m : Fin 16, t.host.mbx[m].switchMark = none)
  ∧ (∀ s : State, s.live = true → s.fw.phase = .drain →
    (s.running.all (fun r => r.wait == .fwSwitch) = true →
      exec .fwSwitchDrainDone s = .next { s with fw := { s.fw with phase := .handover, phaseAt := s.clock } })
    ∧ (s.running.all (fun r => r.wait == .fwSwitch) = false → exec .fwSwitchDrainDone s = .next s)
    ∧ (s.fw.phaseAt + 100000 ≤ s.clock → exec .fwSwitchDrainTimeout s = .next (s.fwOver .busy []))
    ∧ (s.clock < s.fw.phaseAt + 100000 → exec .fwSwitchDrainTimeout s = .next s))
  ∧ (∀ s : State, s.live = true → s.fw.phase = .handover →
    exec .fwSwitchHandoverDone s = .next (((s.updBoot (fun b => { b with
      image := s.fw.image, imgVersion := s.fw.version, secVersion := s.fw.secVersion })).fwOver .ok
        (zeros 4 ++ leBytes 4 s.fw.version.toNat)).raiseFw)
    ∧ exec .fwSwitchRevert s = .next ((s.fwOver .internal []).raiseFw))

/-- The safety commands (R196, R197, R585): SAFETY_ARM sets ARMED, and drives SAFE_N low when it disarms; SAFETY_LOCK locks under
its code and answers BUSY when locked; SAFETY_UNLOCK unlocks with the matching code and answers DENIED for another; SAFETY_CLEAR
answers OK when nothing stays latched and BUSY with what does; SAFETY_INJECT answers SAFETY_LOCKED, INVALID_FIELD or BUSY, and otherwise
sets the injection; injection 0x01 has the arrival reports of its slot ignored for 3 periods.
What SAFETY_CLEAR leaves: a fault bit stays when its cause persists, INJECTED with the last of them, and a supervised slot whose
cause is gone leaves FAULT (R197, R574). -/
def Obligations.SafetyCommands : Prop :=
  ((∀ (c : HostCmd) (s : State), cmdSafetyArm.accepts c s = true →
    (c.f 8 1 = 1 → exec (.safetyArm c) s = .next ((s.updKpr (fun k => { k with armed := true })).answer c 0x0901 .ok []))
    ∧ (c.f 8 1 = 0 → exec (.safetyArm c) s = .next ((s.updKpr (fun k => { k with armed := false })).safeDrop.answer c 0x0901 .ok [])))
  ∧ (∀ (c : HostCmd) (s : State), cmdSafetyLock.accepts c s = true →
    (s.kpr.lock = none → exec (.safetyLock c) s = .next ((s.updKpr (fun k => { k with
      lock := some (BitVec.ofNat 64 (c.f 8 4)) })).answer c 0x0902 .ok []))
    ∧ (s.kpr.lock ≠ none → exec (.safetyLock c) s = .next (s.answer c 0x0902 .busy [])))
  ∧ (∀ (c : HostCmd) (s : State), cmdSafetyUnlock.accepts c s = true →
    (s.kpr.lock = none → exec (.safetyUnlock c) s = .next (s.answer c 0x0903 .ok []))
    ∧ (∀ x : U64, s.kpr.lock = some x →
      (x.toNat = c.f 8 4 → exec (.safetyUnlock c) s = .next ((s.updKpr (fun k => { k with lock := none })).answer c 0x0903 .ok []))
      ∧ (x.toNat ≠ c.f 8 4 → exec (.safetyUnlock c) s = .next ((s.faultLogOpen 0x34).answer c 0x0903 .denied []))))
  ∧ (∀ (c : HostCmd) (s : State), cmdSafetyClear.accepts c s = true →
    (s.kpr.clear.fault &&& 0x3FF#11 = 0 → exec (.safetyClear c) s = .next ((s.updKpr Keeper.clear).answer c 0x0904 .ok (zeros 4)))
    ∧ (s.kpr.clear.fault &&& 0x3FF#11 ≠ 0 → exec (.safetyClear c) s = .next ((s.updKpr Keeper.clear).answer c 0x0904 .busy
      (leBytes 4 (s.kpr.clear.fault &&& 0x3FF#11).toNat))))
  ∧ (∀ (c : HostCmd) (s : State), cmdSafetyInject.accepts c s = true →
    (s.kpr.lock ≠ none → exec (.safetyInject c) s = .next (s.answer c 0x0905 .safetyLocked []))
    ∧ (s.kpr.lock = none → s.injectTarget (c.f 8 1) (c.f 9 1) = false →
      exec (.safetyInject c) s = .next (s.answer c 0x0905 .invalidField []))
    ∧ (s.kpr.lock = none → s.injectTarget (c.f 8 1) (c.f 9 1) = true → s.kpr.inject ≠ none →
      exec (.safetyInject c) s = .next (s.answer c 0x0905 .busy []))
    ∧ (s.kpr.lock = none → s.injectTarget (c.f 8 1) (c.f 9 1) = true → s.kpr.inject = none → c.f 8 1 ≠ 1 →
      exec (.safetyInject c) s = .next ((s.updKpr (fun k => { k with inject := some (c.f 8 1, c.f 9 1) })).answer c 0x0905 .ok []))
    ∧ (∀ n : Fin 64, s.kpr.lock = none → s.injectTarget 1 n.val = true → s.kpr.inject = none → c.f 8 1 = 1 → c.f 9 1 = n.val →
      exec (.safetyInject c) s = .next (((s.updKpr (fun k => { k with inject := some (1, n.val) })).updKslot n (fun k => { k with
        ignoreUntil := some (s.clock + 3 * k.periodUs.toNat) })).answer c 0x0905 .ok []))))
  ∧ (∀ k : Keeper,
    (k.fault &&& k.causes = 0 → k.clear.fault = 0)
    ∧ (k.fault &&& k.causes ≠ 0 → k.clear.fault = (k.fault &&& k.causes) ||| (k.fault &&& 0x400#11))
    ∧ (∀ n : Fin 64, (k.slot[n].cause = 0 ∨ k.slot[n].okSince = false) → k.clear.slot[n] = k.slot[n])
    ∧ (∀ n : Fin 64, k.slot[n].cause ≠ 0 → k.slot[n].okSince = true → k.clear.slot[n].cause = 0 ∧ k.clear.slot[n].state ≠ .fault))

/-- The unit commands (R198, R199, R549, R550, R552): locked, they answer SAFETY_LOCKED; on a unit of AON or TOP DENIED; on a unit that
the variant lacks NOT_FOUND; where a reset or power-on of the unit is in progress BUSY, but UNIT_FENCE with FENCE = 1 is done. RESET_UNIT of a
powered unit begins its reset and goes on, of one that is off it answers BUSY; POWER_UNIT of a unit that is as wanted answers OK; turning on goes
on until the unit is ready, unless the power state keeps it off, when only the wish is recorded; turning off answers BUSY for a unit in use,
NO_RESOURCE where the S-class load would not fit, and otherwise turns the unit off. UNIT_FENCE with FENCE = 1 fences, or answers NO_RESOURCE
where the S-class load would not fit; with FENCE = 0 the unit's self-test runs and its result is answered, and a fenced unit that passes leaves
its fence with a further epoch advance. A command that may be asynchronous and is answers its result in a final response. -/
def Obligations.UnitCommands : Prop :=
  (∀ s : State, ∀ u : Nat,
    (s.kpr.lock ≠ none → s.unitRefused u = some .safetyLocked)
    ∧ (s.kpr.lock = none → unitGateable u = false → s.unitRefused u = some .denied)
    ∧ (s.kpr.lock = none → unitGateable u = true → s.unitAbsent u = true → s.unitRefused u = some .notFound)
    ∧ (s.kpr.lock = none → unitGateable u = true → s.unitAbsent u = false → s.unitRefused u = none))
  ∧ (∀ (c : HostCmd) (s : State), cmdResetUnit.takes c s = true →
    (∀ st, s.unitRefused (c.f 8 1) = some st → exec (.resetUnit c) s = .next (s.answer c 0x0910 st []))
    ∧ (s.unitRefused (c.f 8 1) = none →
      ((s.gateN (c.f 8 1)).powered = false ∨ (s.gateN (c.f 8 1)).seq ≠ none → exec (.resetUnit c) s = .next (s.answer c 0x0910 .busy []))
      ∧ ((s.gateN (c.f 8 1)).powered = true → (s.gateN (c.f 8 1)).seq = none →
        exec (.resetUnit c) s = .next (c.proceed 0x0910 (s.resetStart (c.f 8 1)) (.resetUnit (c.f 8 1)) []))))
  ∧ (∀ (c : HostCmd) (s : State), cmdPowerUnit.takes c s = true →
    (∀ st, s.unitRefused (c.f 8 1) = some st → exec (.powerUnit c) s = .next (s.answer c 0x0911 st []))
    ∧ (s.unitRefused (c.f 8 1) = none → (s.gateN (c.f 8 1)).seq ≠ none → exec (.powerUnit c) s = .next (s.answer c 0x0911 .busy []))
    ∧ (s.unitRefused (c.f 8 1) = none → (s.gateN (c.f 8 1)).seq = none →
      (c.f 9 1 = 1 → (s.gateN (c.f 8 1)).powered = true →
        exec (.powerUnit c) s = .next (s.reply c 0x0911 .ok (s.powerData (c.f 8 1) 0)))
      ∧ (c.f 9 1 = 1 → (s.gateN (c.f 8 1)).powered = false → s.stateOff (c.f 8 1) = true →
        exec (.powerUnit c) s = .next ((s.updGate (c.f 8 1) (fun g => { g with userOff := false })).reply c 0x0911 .ok
          (s.powerData (c.f 8 1) 0)))
      ∧ (c.f 9 1 = 1 → (s.gateN (c.f 8 1)).powered = false → s.stateOff (c.f 8 1) = false →
        exec (.powerUnit c) s = .next (c.proceed 0x0911 (s.unitOnStart (c.f 8 1)) (.powerUnit (c.f 8 1)) []))
      ∧ (c.f 9 1 = 0 → (s.gateN (c.f 8 1)).userOff = true →
        exec (.powerUnit c) s = .next (s.reply c 0x0911 .ok (s.powerData (c.f 8 1) 0)))
      ∧ (c.f 9 1 = 0 → (s.gateN (c.f 8 1)).userOff = false →
        (s.unitInUse (c.f 8 1) = true → exec (.powerUnit c) s = .next (s.answer c 0x0911 .busy []))
        ∧ (s.unitInUse (c.f 8 1) = false → s.sOkWithout (c.f 8 1) = false → exec (.powerUnit c) s = .next (s.answer c 0x0911 .noResource []))
        ∧ (s.unitInUse (c.f 8 1) = false → s.sOkWithout (c.f 8 1) = true → exec (.powerUnit c) s =
          .next ((s.unitOff (c.f 8 1)).reply c 0x0911 .ok ((s.unitOff (c.f 8 1)).powerData (c.f 8 1) 10))))))
  ∧ (∀ (c : HostCmd) (s : State), cmdUnitFence.takes c s = true →
    (∀ st, s.unitRefused (c.f 8 1) = some st → exec (.unitFence c) s = .next (s.answer c 0x0912 st []))
    ∧ (s.unitRefused (c.f 8 1) = none → c.f 9 1 = 1 →
      (s.sOkWithout (c.f 8 1) = false → exec (.unitFence c) s = .next (s.answer c 0x0912 .noResource []))
      ∧ (s.sOkWithout (c.f 8 1) = true → exec (.unitFence c) s = .next ((s.fence (c.f 8 1) 0).reply c 0x0912 .ok [])))
    ∧ (s.unitRefused (c.f 8 1) = none → c.f 9 1 = 0 →
      ((s.gateN (c.f 8 1)).seq ≠ none → exec (.unitFence c) s = .next (s.answer c 0x0912 .busy []))
      ∧ ((s.gateN (c.f 8 1)).seq = none → c.async = true →
        exec (.unitFence c) s = .next (c.proceed 0x0912 s (.unitFence (c.f 8 1)) []))
      ∧ (∀ t pass, (s.gateN (c.f 8 1)).seq = none → c.async = false → s.unitSelfTest (c.f 8 1) = (t, pass) →
        (pass = false → exec (.unitFence c) s = .next (t.answer c 0x0912 .ok [1]))
        ∧ (pass = true → (t.gateN (c.f 8 1)).fenced = false → exec (.unitFence c) s = .next (t.answer c 0x0912 .ok [0]))
        ∧ (pass = true → (t.gateN (c.f 8 1)).fenced = true → exec (.unitFence c) s = .next
          (((t.updGate (c.f 8 1) (fun g => { g with fenced := false, epoch := g.epoch + 1 })).unitOpen (c.f 8 1)).answer c 0x0912 .ok [0])))))

/-! ### Lofin Link -/

/-- The commands of the Link group (R200, R201, R202): LINK_ID answers BUSY while a window is open or a flush is outstanding, waits for its
spacing or is held for a WINDOW, and otherwise takes the ID and says hello on every port that is up; LINK_PORT queries a port, brings it up or
takes it down; LINK_ROUTE replaces a run of the route table, and answers INVALID_FIELD for one past entry 127; LINK_EXPORT opens a window under
the next epoch, answers NOT_FOUND for a context, range or pips that do not exist, and closes a window, or does nothing to a closed one;
LINK_FLUSH sends a FLUSH, and answers UNREACHABLE without an ID or a route and BUSY behind another; LINK_ERR_RING answers INVALID_FIELD off 4 KiB
and BUSY while the ring holds entries, and otherwise places the ring with its indices at 0 and no entry waiting.
A port that is brought up starts training, and an optical one waits for its Lantern port; one that is taken down has no link any more, nor anything in it (R477,
R499, R519). Training: a success on enough lanes without a bad line brings the port up at the widest of 4, 2 and 1 and says hello; an
attempt that has not succeeded in 200 µs is repeated, and after three in a row the port has failed (R476, R477). A retrain that
succeeds lets the traffic go on, one that does not within 200 µs takes the link down, as a loss of lock does (R479, R499). -/
def Obligations.LinkPorts : Prop :=
  ((∀ (c : HostCmd) (s : State), cmdLinkId.accepts c s = true →
    ((∃ w ∈ s.lfn.win, w.2.open_ = true) ∨ s.lfn.flushes ≠ [] ∨ s.lfn.flushWait ≠ [] ∨ (∃ h ∈ s.lfn.held, h.pkt.type = 5) →
      exec (.linkId c) s = .next (s.answer c 0x0A01 .busy []))
    ∧ (∀ u, (∀ w ∈ s.lfn.win, w.2.open_ = false) → s.lfn.flushes = [] → s.lfn.flushWait = [] → (∀ h ∈ s.lfn.held, h.pkt.type ≠ 5) →
      u = (List.finRange 4).foldl (fun s p => if s.lfnUp p.val then s.hello p else s)
        { s with lfn := { s.lfn with devId := BitVec.ofNat 7 (c.f 8 1) } } →
      exec (.linkId c) s = .next ((u.routesChanged s.routesUp).answer c 0x0A01 .ok [])))
  ∧ (∀ (c : HostCmd) (s u : State) (p : Fin 4), cmdLinkPort.accepts c s = true → c.f 8 1 = p.val →
    u = (if c.f 9 1 = 0 then s else if c.f 9 1 = 1 then s.portUp p else s.portDown p) →
    exec (.linkPort c) s = .next (u.answer c 0x0A02 .ok
      (zeros 1 ++ leBytes 1 u.lfn.port[p].state.code ++ leBytes 1 u.lfn.port[p].lanes.toNat ++ leBytes 1 u.lfn.port[p].peer.toNat)))
  ∧ (∀ (s : State) (p : Fin 4), s.lfnUp p.val = false → s.unitLive (0x2E + p.val) = true →
    (s.portUp p).lfn.port[p].wantUp = true ∧ (s.portUp p).lfn.port[p].state = .training
    ∧ (s.optical p.val = false → (s.portUp p).lfn.port[p].trainDue = some (s.clock + 200))
    ∧ (s.optical p.val = true → s.ltnLocked p.val = false → (s.portUp p).lfn.port[p].trainDue = none))
  ∧ (∀ (s : State) (p : Fin 4), 2 ≤ p.val → s.portDown p = (s.updLfn p (fun x => { x with wantUp := false })).linkDown p .down)
  ∧ (∀ (s : State) (p : Fin 4) (st : LinkState), s.lfn.port[p].replay = [] → s.lfn.port[p].q0 = [] → s.lfn.port[p].q1 = [] →
    s.lfn.port[p].q2 = [] → ∃ u : State, s.linkDown p st = u.routesChanged s.routesUp
      ∧ u = s.updLfn p (fun x => { x with
          state := st, lanes := 0, retraining := false, trainDue := none, nextSeq := 0, replay := [], stuck := 0
          credits := [128, 128, 16], owed := [0, 0, 0], lastGood := 0xFFF, waitReplay := false, ackDue := false, nakDue := false
          partial_ := none, q0 := [], q1 := [], q2 := []
          linkDowns := if x.state == .up then satInc x.linkDowns else x.linkDowns }))
  ∧ (∀ (c : HostCmd) (s u : State), cmdLinkRoute.accepts c s = true →
    (128 < c.f 8 1 + c.f 9 1 → exec (.linkRoute c) s = .next (s.answer c 0x0A03 .invalidField []))
    ∧ (c.f 8 1 + c.f 9 1 ≤ 128 →
      u = { s with lfn := { s.lfn with route := s.lfn.route.mapIdx (fun d m =>
        if c.f 8 1 ≤ d ∧ d < c.f 8 1 + c.f 9 1 then BitVec.ofNat 4 (c.f (10 + (d - c.f 8 1)) 1) else m) } } →
      exec (.linkRoute c) s = .next ((u.routesChanged s.routesUp).answer c 0x0A03 .ok [])))
  ∧ (∀ (c : HostCmd) (s u : State) (w v : Window), cmdLinkExport.accepts c s = true → (lookupN s.lfn.win (c.f 8 1)).getD {} = w →
    (c.f 9 1 = 0 → w.open_ = false → exec (.linkExport c) s = .next (s.answer c 0x0A04 .ok []))
    ∧ (c.f 9 1 = 0 → w.open_ = true →
      v = { w with open_ := false, perm := 0, epoch := nextEpoch w.epoch } →
      u = { s with lfn := { s.lfn with win := insertN s.lfn.win (c.f 8 1) v } } →
      exec (.linkExport c) s = .next ((u.sendWindow (c.f 8 1)).answer c 0x0A04 .ok []))
    ∧ (c.f 9 1 ≠ 0 → (s.ctxLive (c.f 10 2) = false ∨ s.mapped (c.f 10 2) (c.f 16 8) (4096 * c.f 12 4) = false
        ∨ (∃ i < c.f 28 4, s.ownPip (c.f 10 2) (c.f 24 4 + i) = false)) →
      exec (.linkExport c) s = .next (s.answer c 0x0A04 .notFound []))
    ∧ (c.f 9 1 ≠ 0 → s.ctxLive (c.f 10 2) = true → s.mapped (c.f 10 2) (c.f 16 8) (4096 * c.f 12 4) = true →
      (∀ i < c.f 28 4, s.ownPip (c.f 10 2) (c.f 24 4 + i) = true) →
      v = { open_ := true, perm := BitVec.ofNat 8 (c.f 9 1), ctx := c.f 10 2, pages := c.f 12 4, va := c.f 16 8, pipFirst := c.f 24 4, pipCount := c.f 28 4, epoch := nextEpoch w.epoch } →
      u = { s with lfn := { s.lfn with win := insertN s.lfn.win (c.f 8 1) v } } →
      exec (.linkExport c) s = .next ((u.sendWindow (c.f 8 1)).answer c 0x0A04 .ok [])))
  ∧ (∀ e : BitVec 8, nextEpoch e = if e = 255 then 1 else e + 1)
  ∧ (∀ (c : HostCmd) (s t : State) (tag : BitVec 16), cmdLinkFlush.acceptsAsync c s = true →
    (s.lfn.devId = 0x7F ∨ s.routeUp (c.f 8 1) = false → exec (.linkFlush c) s = .next (s.answer c 0x0A05 .unreachable []))
    ∧ (s.lfn.devId ≠ 0x7F → s.routeUp (c.f 8 1) = true → s.flushers (c.f 8 1) ≠ [] →
      exec (.linkFlush c) s = .next (s.answer c 0x0A05 .busy []))
    ∧ (s.lfn.devId ≠ 0x7F → s.routeUp (c.f 8 1) = true → s.flushers (c.f 8 1) = [] →
      (c.proceed 0x0A05 s (.linkFlush (c.f 8 1)) []).takeTag = (tag, t) →
      exec (.linkFlush c) s = .next (t.remoteFlush (.flushCmd c.mbx c.seq) (c.f 8 1) 0 tag.toNat)))
  ∧ (∀ (c : HostCmd) (s : State), cmdLinkErrRing.accepts c s = true →
    (c.f 8 8 % 4096 ≠ 0 → exec (.linkErrRing c) s = .next (s.answer c 0x0A06 .invalidField []))
    ∧ (c.f 8 8 % 4096 = 0 → s.lfn.rer.isSome = true → s.lfn.producer ≠ s.lfn.consumer →
      exec (.linkErrRing c) s = .next (s.answer c 0x0A06 .busy []))
    ∧ (c.f 8 8 % 4096 = 0 → (s.lfn.rer = none ∨ s.lfn.producer = s.lfn.consumer) →
      exec (.linkErrRing c) s = .next (({ s with lfn := { s.lfn with
        rer := some (BitVec.ofNat 64 (c.f 8 8), c.f 16 1), producer := 0, consumer := 0, dropped := 0, rerHeld := [] } } : State).answer c
          0x0A06 .ok []))))
  ∧ ((∀ (p : Fin 4) (lanes : List Nat) (s u : State) (w : Nat), s.live = true → s.lfn.port[p].trainDue.isSome = true →
    trainedWidth s.lfn.port[p].badLines lanes = w → w ≠ 0 →
    (s.lfn.port[p].retraining = false → s.lfn.port[p].state = .training →
      u = s.updLfn p (fun x => { x with state := .up, trainDue := none, attempts := 0, lanes := BitVec.ofNat 3 w }) →
      exec (.linkTrainingDone p lanes) s = .next ((u.hello p).routesChanged s.routesUp))
    ∧ (s.lfn.port[p].retraining = true →
      u = s.updLfn p (fun x => { x with retraining := false, trainDue := none, lanes := BitVec.ofNat 3 w }) →
      exec (.linkTrainingDone p lanes) s = .next (u.pump p)))
  ∧ (∀ (bad : BitVec 8) (lanes : List Nat),
    let n := ((List.range 4).filter (fun l => lanes.contains l && !bad.getLsbD (2 * l) && !bad.getLsbD (2 * l + 1))).length
    trainedWidth bad lanes ∈ [0, 1, 2, 4] ∧ trainedWidth bad lanes ≤ n
      ∧ ∀ w, w ∈ [0, 1, 2, 4] → w ≤ n → w ≤ trainedWidth bad lanes)
  ∧ (∀ (p : Fin 4) (s : State) (d : Nat), s.live = true → s.lfn.port[p].trainDue = some d → d ≤ s.clock →
    (s.lfn.port[p].state = .training → s.lfn.port[p].attempts < 2 →
      exec (.linkTrainingTimeout p) s = .next (s.updLfn p (fun x => { x with attempts := x.attempts + 1, trainDue := some (s.clock + 200) })))
    ∧ (s.lfn.port[p].state = .training → 2 ≤ s.lfn.port[p].attempts →
      exec (.linkTrainingTimeout p) s = .next (s.updLfn p (fun x => { x with attempts := 0, trainDue := none, state := .failed })))
    ∧ (s.lfn.port[p].retraining = true → exec (.retrainTimeout p) s = .next (s.linkDown p .down)))
  ∧ (∀ (p : Fin 4) (s : State), s.live = true → s.lfn.port[p].state = .up →
    exec (.lfnLossOfLock p) s = .next (s.linkDown p .down)))

/-- A flit with a bad CRC is discarded and counted, and a NAK is due; one in order extends the packet being received; another is
discarded until the replay arrives (R479); a link-control flit releases, credits and replays what it says (`linkControl`); an uncorrectable error
in the replay buffer takes the link down, one in a VC buffer discards its newest packet with BAD_PACKET (R498). The link-control flit sends what
there is to acknowledge, reject or return, with the sequence number of the last good flit (R478).
A good packet for another device leaves on the lowest-numbered port of its route that is up, other than the one it came by, with
HOPS one lower; with HOPS 0 it is discarded with HOP_LIMIT, without such a port with NO_ROUTE (R484, R485, R495); while the device has no ID,
all but MGMT is discarded and counted (R484). A packet that has waited 25 µs at an output port is discarded there with CONGESTION, and no
other (R485). -/
def Obligations.LinkTraffic : Prop :=
  ((∀ (p : Fin 4) (flit : List Byte) (s : State), s.live = true → s.lfn.port[p].state = .up → flit.length = 36 →
    (crc16 (flit.take 34) ≠ BitVec.ofNat 16 (leAt flit 34 2) →
      exec (.flitReceive p flit none) s = .next (s.updLfn p (fun x =>
        { x with crcErr := satInc x.crcErr, waitReplay := true, nakDue := x.nakDue || !x.waitReplay })))
    ∧ (∀ h : Bool, crc16 (flit.take 34) = BitVec.ofNat 16 (leAt flit 34 2) → bitsOf (leAt flit 32 2) 14 2 = (if h then 0 else 1) →
      (BitVec.ofNat 12 (leAt flit 32 2) = s.lfn.port[p].lastGood + 1 →
        exec (.flitReceive p flit none) s = .next (s.updLfn p (fun x =>
          ({ x with lastGood := x.lastGood + 1, waitReplay := false, nakDue := false, ackDue := true, rx := x.rx + 1 } : LfnPort).assemble h
            (flit.take 32))))
      ∧ (BitVec.ofNat 12 (leAt flit 32 2) ≠ s.lfn.port[p].lastGood + 1 → s.lfn.port[p].waitReplay = false →
        exec (.flitReceive p flit none) s = .next (s.updLfn p (fun x => { x with waitReplay := true, nakDue := true })))
      ∧ (BitVec.ofNat 12 (leAt flit 32 2) ≠ s.lfn.port[p].lastGood + 1 → s.lfn.port[p].waitReplay = true →
        exec (.flitReceive p flit none) s = .next s))
    ∧ (crc16 (flit.take 34) = BitVec.ofNat 16 (leAt flit 34 2) → bitsOf (leAt flit 32 2) 14 2 = 2 →
      exec (.flitReceive p flit none) s = .next (s.linkControl p (flit.take 32)))
    ∧ (exec (.flitReceive p flit (some .replay)) s = .next ((s.flitFrom p flit).linkDown p .down))
    ∧ (∀ k, (s.flitFrom p flit).lfn.port[p].inbox.getLast? = some k →
      exec (.flitReceive p flit (some .vc)) s = .next (((s.flitFrom p flit).takeIn p k).discardPkt p k 8)))
  ∧ (∀ (p : Fin 4) (s : State), s.live = true → s.lfn.port[p].state = .up → s.lfn.port[p].retraining = false →
    s.lfn.port[p].ackDue = true ∨ s.lfn.port[p].nakDue = true ∨ (∃ n ∈ s.lfn.port[p].owed, n ≠ 0) →
    exec (.linkControlFlitSend p) s = .next
      ((s.updLfn p (fun x => { x with ackDue := false, nakDue := false, owed := [0, 0, 0] })).emit
        (.linkControl p.val s.lfn.port[p].lastGood.toNat s.lfn.port[p].nakDue s.lfn.port[p].owed))))
  ∧ ((∀ (p : Fin 4) (k : Packet) (s u : State), s.live = true → s.lfnUp p.val = true → s.lfn.devId ≠ 0x7F → k.bad = false →
    k.dst ≠ s.lfn.devId.toNat → (k.type ≠ 8 ∨ k.f 12 1 ≠ 1) → u = s.takeIn p k →
    (k.hops = 0 → exec (.lfnPacketForward p k) s = .next (u.discardPkt p k 10))
    ∧ (k.hops ≠ 0 → u.routePort k.dst (some p.val) = none → exec (.lfnPacketForward p k) s = .next (u.discardPkt p k 9))
    ∧ (∀ q, k.hops ≠ 0 → u.routePort k.dst (some p.val) = some q →
      exec (.lfnPacketForward p k) s = .next
        (u.queueOut q { k with hdr := hdrPut k.hdr 4 (leBytes 1 (k.hops - 1)) } (some p.val))
      ∧ p ≠ q ∧ (s.lfn.route.toList.getD k.dst 0).getLsbD q.val = true ∧ s.lfn.port[q].state = .up
      ∧ ∀ r : Fin 4, r < q → r = p ∨ (s.lfn.route.toList.getD k.dst 0).getLsbD r.val = false ∨ s.lfn.port[r].state ≠ .up))
  ∧ (∀ (p : Fin 4) (k : Packet) (s : State), s.live = true → s.lfnUp p.val = true →
    (s.lfn.devId = 0x7F → bitsOf k.type 0 4 ≠ 8 → exec (.lfnPacketForward p k) s = .next ((s.takeIn p k).discards p 1))
    ∧ (s.lfn.devId ≠ 0x7F → k.bad = true → exec (.lfnPacketForward p k) s = .next ((s.takeIn p k).badPacket p k)))
  ∧ (∀ (p : Fin 4) (s u : State) (late : OutPkt → Bool), s.live = true → s.lfn.port[p].state = .up → s.lfn.port[p].retraining = false →
    (∀ o, late o = true ↔ o.at_ + 25 ≤ s.clock) →
    u = s.updLfn p (fun x => { x with q0 := x.q0.filter (fun o => !late o), q1 := x.q1.filter (fun o => !late o),
                                      q2 := x.q2.filter (fun o => !late o) }) →
    exec (.creditWaitTimeout p) s = .next (((((s.lfn.port[p].q2 ++ s.lfn.port[p].q1 ++ s.lfn.port[p].q0).filter late).foldl
      (fun s o => s.discardPkt p o.pkt 11) u)).pump p)))

/-- A request of a peer reaches a window only when it is open, under its epoch, with its permission, inside its length, in a context whose
translation is not closed; otherwise it fails with cause 1 to 5, in that order (R490).
A write of a peer that passes the checks of R490 is performed and counted as performed; one that fails a check, or to translate, or meets an
uncorrectable line in its merge, is counted as failed, discarded and answered with its cause, a failed check leaving memory as it was; a late
write of a closed generation is only counted (R490, R493, R494, R495). A read, a signal and a flush wait for their write count, and are served
once it is reached or 1 ms has passed (R493): a read is answered with the data or a cause (R491); a signal is applied, or refused, counted and
answered with a cause, or, where a write of its generation is missing, applied as POISON with REMOTE_ERROR (R281, R493); a flush is answered
with the writes not performed and closes its generation (R494). -/
def Obligations.PeerRequests : Prop :=
  (∀ (s : State) (src wepoch bit off len : Nat) (ok : Window → Bool) (w : Window), lookupN s.lfn.win src = some w →
    (w.open_ = false → s.winCheck src wepoch bit off len ok = (1, w))
    ∧ (w.open_ = true → wepoch ≠ w.epoch.toNat → s.winCheck src wepoch bit off len ok = (2, w))
    ∧ (w.open_ = true → wepoch = w.epoch.toNat → (bitOf w.perm.toNat bit = false ∨ ok w = false) → s.winCheck src wepoch bit off len ok = (3, w))
    ∧ (w.open_ = true → wepoch = w.epoch.toNat → bitOf w.perm.toNat bit = true → ok w = true →
      (w.pages * 4096 < off + len → s.winCheck src wepoch bit off len ok = (4, w))
      ∧ (off + len ≤ w.pages * 4096 → s.ctxServes w.ctx = false → s.winCheck src wepoch bit off len ok = (5, w))
      ∧ (off + len ≤ w.pages * 4096 → s.ctxServes w.ctx = true → s.winCheck src wepoch bit off len ok = (0, w))))
  ∧ ((∀ (p : Fin 4) (k : Packet) (s u : State) (w : Window) (n : Nat), s.live = true → s.lfnUp p.val = true →
    s.lfn.devId ≠ 0x7F → k.bad = false → k.type = 1 → k.dst = s.lfn.devId.toNat → u = s.takeIn p k →
    (∀ g, lookupN s.lfn.closed k.src = some g → (g - k.fgen).toNat < 128 →
      exec (.writePostedArrive p k) s = .next { u with lfn := { u.lfn with lateDrop := satInc u.lfn.lateDrop } })
    ∧ ((∀ g, lookupN s.lfn.closed k.src = some g → 128 ≤ (g - k.fgen).toNat) →
      u.winCheck k.src k.wepoch 0 k.offset k.len (fun _ => true) = (n, w) →
      (n ≠ 0 → exec (.writePostedArrive p k) s = .next (((u.countWrite k.src k.fgen false).discards p 1).failVc0 k n)
        ∧ (((u.countWrite k.src k.fgen false).discards p 1).mem = s.mem))
      ∧ (∀ v c, n = 0 → u.peerWrite p w.ctx (w.va + k.offset) (k.payload k.offset) = (v, c) →
        (c = 0 → exec (.writePostedArrive p k) s = .next (v.countWrite k.src k.fgen true))
        ∧ (c ≠ 0 → exec (.writePostedArrive p k) s = .next (((v.countWrite k.src k.fgen false).discards p 1).failVc0 k c)))))
  ∧ (∀ (s : State) (src : Nat) (g : BitVec 8) (ok : Bool),
    (s.countWrite src g ok).countOf src g = (if ok then { s.countOf src g with p := (s.countOf src g).p + 1 }
      else { s.countOf src g with j := (s.countOf src g).j + 1 }))
  ∧ (∀ (p : Fin 4) (k : Packet) (s u : State), s.live = true → s.lfnUp p.val = true → s.lfn.devId ≠ 0x7F → k.bad = false →
    k.dst = s.lfn.devId.toNat → u = s.takeIn p k →
    (k.type = 2 → exec (.readReqArrive p k) s = .next (u.waitCount p k))
    ∧ (k.type = 4 → exec (.pipSignalPacketArrive p k) s = .next (u.waitCount p k))
    ∧ (k.type = 5 → exec (.flushArrive p k) s = .next (u.waitCount p k))
    ∧ (u.waitCount p k).lfn.waiting = s.lfn.waiting ++ [{ pkt := k, at_ := s.clock, port := p.val }])
  ∧ (∀ (k : Packet) (s u : State) (w : CountWait), s.live = true → s.lfn.waiting.find? (fun w => w.pkt == k) = some w →
    u = { s with lfn := { s.lfn with waiting := s.lfn.waiting.erase w } } →
    (k.wcount ≤ (s.countOf k.src k.fgen).p + (s.countOf k.src k.fgen).j ∨ w.at_ + 1000 ≤ s.clock →
      exec (.wcountServe k) s = .next (if k.type = 2 then u.serveRead w.port k else if k.type = 4 then u.serveSignal k else u.serveFlush k))
    ∧ ((s.countOf k.src k.fgen).p + (s.countOf k.src k.fgen).j < k.wcount → s.clock < w.at_ + 1000 →
      exec (.wcountServe k) s = .next s)))
  ∧ ((∀ (p : Nat) (k : Packet) (s : State) (n : Nat) (w : Window),
    s.winCheck k.src k.wepoch 1 k.offset k.len (fun _ => true) = (n, w) →
    (n ≠ 0 → s.serveRead p k = s.readRsp k n [] false)
    ∧ (∀ t st, n = 0 → s.reach (0x2E + p) w.ctx (w.va + k.offset) k.len false = (t, some st) → s.serveRead p k = t.readRsp k 6 [] false)
    ∧ (∀ t, n = 0 → s.reach (0x2E + p) w.ctx (w.va + k.offset) k.len false = (t, none) → t.mem.ecc = [] → t.str.fs.poison = [] →
      s.serveRead p k = t.readRsp k 0 ((t.spansOf w.ctx (w.va + k.offset) k.len).flatMap (fun x => t.memRead x.1 x.2.2)) false))
  ∧ (∀ (k : Packet) (s : State) (o : PipOp), pipOpOf (k.f 27 1) = some o → o = .add ∨ o = .set ∨ o = .poison →
    pipOperandOk o (k.f 12 4) = true → k.f 24 3 < 130496 →
    ((s.winCheck k.src k.wepoch 2 0 0 (fun w => w.pipFirst ≤ k.f 24 3 && k.f 24 3 < w.pipFirst + w.pipCount)).1 ≠ 0 →
      s.serveSignal k = ({ s with pip := { s.pip with remoteRefused := satInc s.pip.remoteRefused } } : State).failVc0 k
        (s.winCheck k.src k.wepoch 2 0 0 (fun w => w.pipFirst ≤ k.f 24 3 && k.f 24 3 < w.pipFirst + w.pipCount)).1)
    ∧ ((s.winCheck k.src k.wepoch 2 0 0 (fun w => w.pipFirst ≤ k.f 24 3 && k.f 24 3 < w.pipFirst + w.pipCount)).1 = 0 →
      (k.wcount ≤ (s.countOf k.src k.fgen).p → s.serveSignal k = s.pipApply (k.f 24 3) o (BitVec.ofNat 32 (k.f 12 4)))
      ∧ ((s.countOf k.src k.fgen).p < k.wcount →
        s.serveSignal k = s.pipApply (k.f 24 3) .poison (BitVec.ofNat 32 Status.remoteError.code))))
  ∧ (∀ (k : Packet) (s : State), s.serveFlush k = ({ s with lfn := { s.lfn with
        counts := s.lfn.counts.filter (fun x => !(x.src == k.src && x.gen == k.fgen)), closed := insertN s.lfn.closed k.src k.fgen } } : State).sendOwn
      { hdr := mkHdr 6 0 k.src s.lfn.devId.toNat 0 k.fgen k.ctx k.tag.toNat 0
          (zeros 4 ++ leBytes 4 (k.wcount - (s.countOf k.src k.fgen).p)) }))

/-- Requests of this device: one to the device's own ID, or a read or write for work of another context than 0, fails its work as a translation
fault, which is logged (R211, R219, R487); a request to a device whose route is down poisons its fence with UNREACHABLE and fails a read's work
item (R500); another leaves, a write and a read in pieces of 256 bytes, with the window's epoch, or is held while the window is queried (R483,
R488). A read's answer completes it, and one that carries a cause or poison fails its work item; an answer to no read is
counted; a read without an answer for 3 ms fails with UNREACHABLE (R491). A FLUSH_ACK completes its flush with FAILED, a FLUSH
without one for 3 ms completes with UNREACHABLE, and the next to that device waits 10 µs, after which it leaves (R494). -/
def Obligations.RemoteRequests : Prop :=
  (∀ (by_ : RemoteBy) (req : RemoteReq) (s : State), s.live = true → req.dst < 128 →
    ((s.lfn.devId ≠ 0x7F ∧ req.dst = s.lfn.devId.toNat) ∨ (req.isAccess = true ∧ s.remoteCtx by_ ≠ 0) →
      exec (.remoteRequestIssue by_ req) s = .next ((s.faultLog (s.remoteUnit by_) Status.notFound.code
        (BitVec.ofNat 32 (bitsOf (0x040000000000 + req.dst * 2 ^ 32 + req.offset) 12 27))).workFail by_ .notFound))
    ∧ (¬ (s.lfn.devId ≠ 0x7F ∧ req.dst = s.lfn.devId.toNat) → ¬ (req.isAccess = true ∧ s.remoteCtx by_ ≠ 0) →
      (s.lfn.devId = 0x7F ∨ s.routeUp req.dst = false →
        (req.isRead = false → req.fence = none → exec (.remoteRequestIssue by_ req) s = .next s)
        ∧ (∀ f, req.fence = some f → exec (.remoteRequestIssue by_ req) s =
          .next (s.pipApply f .poison (BitVec.ofNat 32 Status.unreachable.code)))
        ∧ (req.isRead = true → exec (.remoteRequestIssue by_ req) s = .next (s.workFail by_ .unreachable)))
      ∧ (s.lfn.devId ≠ 0x7F → s.routeUp req.dst = true →
        (∀ d off bs f ctx tag t, req = .write d off bs f ctx → s.takeTag = (tag, t) →
          exec (.remoteRequestIssue by_ req) s = .next (t.remoteWrite by_ d off bs f ctx tag.toNat))
        ∧ (∀ d off len ctx, req = .read d off len ctx →
          exec (.remoteRequestIssue by_ req) s = .next ((piecesOf off len).foldl (fun s x => s.readSend by_ d ctx x.1 x.2) s))
        ∧ (∀ d pip op v f ctx tag t, req = .signal d pip op v f ctx → s.takeTag = (tag, t) →
          exec (.remoteRequestIssue by_ req) s = .next (t.remoteSend d
            { hdr := mkHdr 4 (b2n f.isSome) d s.lfn.devId.toNat 0 0 ctx tag.toNat 0
                (leBytes 4 v.toNat ++ zeros 4 ++ leBytes 4 (f.getD 0) ++ leBytes 3 pip ++ leBytes 1 op) } by_)))))
  ∧ (∀ o n x, x ∈ piecesOf o n → o ≤ x.1 ∧ x.1 + x.2 ≤ o + n ∧ x.1 / 256 = (x.1 + x.2 - 1) / 256 ∧ 0 < x.2)
  ∧ (∀ o n, ((piecesOf o n).map Prod.snd).sum = n)
  ∧ (∀ (s : State) (d : Nat) (k : Packet) (by_ : RemoteBy),
    (∀ w, lookupN s.lfn.known d = some w → k.type ≠ 5 → s.remoteSend d k by_ = s.sendReq d w.epoch.toNat k)
    ∧ (lookupN s.lfn.known d = none → lookupN s.lfn.query d ≠ none →
      s.remoteSend d k by_ = { s with lfn := { s.lfn with held := s.lfn.held ++ [{ dst := d, pkt := k, by_ := by_ }] } })
    ∧ (lookupN s.lfn.known d = none → lookupN s.lfn.query d = none → ∃ t : State,
      s.remoteSend d k by_ = t.sendOwn (t.mgmt d 0 3 [])
      ∧ t = { s with lfn := { s.lfn with held := s.lfn.held ++ [{ dst := d, pkt := k, by_ := by_ }],
                                         query := insertN s.lfn.query d (s.clock + 100) } }))
  ∧ (∀ (p : Fin 4) (k : Packet) (s u : State), s.live = true → s.lfnUp p.val = true → s.lfn.devId ≠ 0x7F → k.bad = false →
    k.type = 3 → k.dst = s.lfn.devId.toNat → u = s.takeIn p k →
    (u.lfn.reads.find? (fun r => r.tag == k.tag && r.dst == k.src) = none →
      exec (.readRspArrive p k) s = .next { u with lfn := { u.lfn with staleRsp := satInc u.lfn.staleRsp } })
    ∧ (∀ r v, u.lfn.reads.find? (fun r => r.tag == k.tag && r.dst == k.src) = some r →
      v = { u with lfn := { u.lfn with reads := u.lfn.reads.erase r } } →
      exec (.readRspArrive p k) s = .next (if k.f 24 1 ≠ 0 ∨ bitOf (k.f 1 1) 1 = true then v.workFail r.by_ .remoteError else v)))
  ∧ (∀ (tag : BitVec 16) (s : State) (r : RemoteRead), s.live = true →
    s.lfn.reads.find? (fun r => r.tag == tag && decide (r.due ≤ s.clock)) = some r →
    exec (.readTimeout tag) s = .next
      (({ s with lfn := { s.lfn with reads := s.lfn.reads.erase r } } : State).workFail r.by_ .unreachable))
  ∧ (∀ (p : Fin 4) (k : Packet) (s u v : State) (f : FlushOut), s.live = true → s.lfnUp p.val = true → s.lfn.devId ≠ 0x7F →
    k.bad = false → k.type = 6 → k.dst = s.lfn.devId.toNat → u = s.takeIn p k →
    u.lfn.flushes.find? (fun f => f.dst == k.src && f.gen == k.fgen) = some f →
    v = { u with lfn := { u.lfn with flushes := u.lfn.flushes.erase f, spacing := insertN u.lfn.spacing k.src (s.clock + 10) } } →
    exec (.flushAckArrive p k) s = .next (v.flushDone k.src f.by_ (.ok (k.f 16 4))))
  ∧ (∀ (dst : Nat) (s : State) (f : FlushOut), s.live = true →
    s.lfn.flushes.find? (fun f => f.dst == dst && decide (f.due ≤ s.clock)) = some f →
    exec (.flushAckTimeout dst) s = .next
      (({ s with lfn := { s.lfn with flushes := s.lfn.flushes.erase f } } : State).flushDone dst f.by_ (.error .unreachable)))
  ∧ (∀ (s : State) (d n : Nat) (m : Fin 16) (q : BitVec 16) (st : Status),
    s.flushDone d (.flushCmd m q) (.ok n) = s.finishOne m q (.linkFlush d) .ok (leBytes 4 n)
    ∧ s.flushDone d (.flushCmd m q) (.error st) = s.finishOne m q (.linkFlush d) st [])
  ∧ (∀ (dst d : Nat) (s u : State), s.live = true → lookupN s.lfn.spacing dst = some d → d ≤ s.clock →
    u = { s with lfn := { s.lfn with spacing := eraseN s.lfn.spacing dst } } →
    (s.lfn.flushWait.find? (fun w => w.dst == dst) = none → exec (.flushSpacingEnd dst) s = .next u)
    ∧ (∀ w v tag t, s.lfn.flushWait.find? (fun w => w.dst == dst) = some w →
      v = { u with lfn := { u.lfn with flushWait := u.lfn.flushWait.erase w } } →
      (v.routeUp dst = true → v.takeTag = (tag, t) → exec (.flushSpacingEnd dst) s = .next (t.remoteFlush w.by_ dst 0 tag.toNat))
      ∧ (v.routeUp dst = false → exec (.flushSpacingEnd dst) s = .next (v.flushDone dst w.by_ (.error .unreachable)))))

/-- Notices and announcements: a notice that arrives is written to the Remote Error Ring, raises REMOTE_ERR and poisons its fence (R496), one of
EPOCH_MISMATCH queries the window (R490), and one of a bad FLUSH completes it with REMOTE_ERROR; the oldest waiting notice leaves (R495); a
HELLO says who the neighbour is (R484); a WINDOW makes the peer's window known and releases the requests held for it, as 100 µs without one do,
then with WEPOCH 0; a query is answered (R488, R489). An entry is written at the producer's place, or waits where the ring is full, and is counted
where there is no ring; the read of CONSUMER clears REMOTE_ERR when it equals the producer, and then an entry that waits is written, or dropped
and counted if the ring is full still; a read that fails is made again 100 µs later (R496, R497). -/
def Obligations.LinkNotices : Prop :=
  (∀ (p : Fin 4) (k : Packet) (s u : State), s.live = true → s.lfnUp p.val = true → s.lfn.devId ≠ 0x7F → k.bad = false →
    k.dst = s.lfn.devId.toNat → u = s.takeIn p k →
    (∀ v : State, k.type = 7 → v = u.noticed
        { reporter := k.src, target := k.f 26 1, cause := k.f 24 1, type := k.f 25 1, tag := k.tag.toNat, ctx := k.ctx, local_ := false,
          fence := if k.fenceValid then some (k.f 20 4) else none, count := k.f 16 4, offset := k.f 12 4 } →
      (k.f 24 1 ≠ 2 → (k.f 25 1 ≠ 5 ∨ k.f 24 1 ≠ 8) → exec (.errNoticeArrive p k) s = .next v)
      ∧ (∀ x : State, k.f 24 1 = 2 → x = { v with lfn := { v.lfn with query := insertN v.lfn.query (k.f 26 1) (v.clock + 100) } } →
        exec (.errNoticeArrive p k) s = .next (x.sendOwn (x.mgmt (k.f 26 1) 0 3 [])))
      ∧ (∀ f, k.f 25 1 = 5 → k.f 24 1 = 8 → v.lfn.flushes.find? (fun f => f.dst == k.f 26 1) = some f →
        exec (.errNoticeArrive p k) s = .next (({ v with lfn := { v.lfn with flushes := v.lfn.flushes.erase f } } : State).flushDone (k.f 26 1)
          f.by_ (.error .remoteError))))
    ∧ (k.type = 8 → k.f 12 1 = 3 → exec (.windowQueryArrive p k) s = .next (u.sendWindow k.src))
    ∧ (∀ w : PeerWin, k.type = 8 → k.f 12 1 = 2 → w =
        { epoch := BitVec.ofNat 8 k.wepoch, perm := BitVec.ofNat 8 (k.f 13 1), pages := k.f 16 4, pipFirst := k.f 20 4, pipCount := k.f 24 2 } →
      (u.routeUp k.src = true → exec (.windowArrive p k) s = .next
        (({ u with lfn := { u.lfn with known := insertN u.lfn.known k.src w } } : State).releaseHeld k.src))
      ∧ (u.routeUp k.src = false → exec (.windowArrive p k) s = .next (u.releaseHeld k.src))))
  ∧ (∀ (e : RerEntry) (s : State), (s.noticed { e with fence := none }).lfn.remoteErr = true
    ∧ ∀ f, s.noticed { e with fence := some f } = ((s.rerWrite { e with fence := some f }).raising (fun s => { s with lfn := { s.lfn with
        remoteErr := true, rerDue := some (s.lfn.rerDue.getD (s.clock + 100)) } })).pipApply f .poison (BitVec.ofNat 32 Status.remoteError.code))
  ∧ (∀ (e : RerEntry) (s : State),
    (s.lfn.rer = none → s.rerWrite e = { s with lfn := { s.lfn with errDropped := satInc s.lfn.errDropped } })
    ∧ (∀ base n, s.lfn.rer = some (base, n) →
      (s.canRequest = true → s.lfn.rerHeld = [] → (s.lfn.producer.toNat + 1) % 2 ^ n ≠ s.lfn.consumer.toNat →
        s.rerWrite e = ({ s.emit (.hostWrite (base.toNat + 64 + 32 * s.lfn.producer.toNat) (e.bytes s.devTime)) with
            lfn := { s.lfn with producer := BitVec.ofNat 32 ((s.lfn.producer.toNat + 1) % 2 ^ n) } } : State).emit
          (.hostWrite base.toNat (leBytes 4 ((s.lfn.producer.toNat + 1) % 2 ^ n))))
      ∧ (s.canRequest = false ∨ s.lfn.rerHeld ≠ [] ∨ (s.lfn.producer.toNat + 1) % 2 ^ n = s.lfn.consumer.toNat →
        s.rerWrite e = { s with lfn := { s.lfn with rerHeld := s.lfn.rerHeld ++ [e.bytes s.devTime] } })))
  ∧ (∀ (p : Fin 4) (k : Packet) (s u : State), s.live = true → s.lfnUp p.val = true → k.bad = false → k.type = 8 →
    k.f 12 1 = 1 → u = s.takeIn p k →
    exec (.helloArrive p k) s = .next (u.updLfn p (fun x => { x with peer := BitVec.ofNat 7 k.src })))
  ∧ (∀ (s : State) (n : Notice) (rest : List Notice) (k : Packet), s.live = true → s.lfn.noticeQ = n :: rest →
    k = { hdr := n.hdr } →
    exec .errNoticeSend s = .next (({ s with lfn := { s.lfn with noticeQ := rest, notices := s.lfn.notices + 1 } } : State).sendOwn
      { hdr := mkHdr 7 (b2n k.fence.isSome) k.src s.lfn.devId.toNat 0 0 k.ctx k.tag.toNat 0
          (leBytes 4 k.noticeOffset ++ leBytes 4 n.count ++ leBytes 4 (k.fence.getD 0) ++ leBytes 1 n.cause ++ leBytes 1 k.type
            ++ leBytes 1 k.dst) }))
  ∧ (∀ (d due : Nat) (s : State), s.live = true → lookupN s.lfn.query d = some due → due ≤ s.clock →
    exec (.windowQueryTimeout d) s = .next (s.releaseHeld d))
  ∧ (∀ (d e : Nat) (h : HeldReq) (s u : State), s.lfn.held = [h] → h.dst = d → h.pkt.type ≠ 5 → s.routeUp d = true →
    e = (match lookupN s.lfn.known d with | some w => w.epoch.toNat | none => 0) →
    u = { s with lfn := { s.lfn with held := [], query := eraseN s.lfn.query d } } → s.releaseHeld d = u.sendReq d e h.pkt)
  ∧ (∀ (s : State), s.live = true → s.lfn.rer.isSome = true → s.canRequest = true →
    (s.lfn.rerHeld ≠ [] ∨ (s.lfn.remoteErr = true ∧ ∀ d, s.lfn.rerDue = some d → d ≤ s.clock)) →
    exec (.rerConsumerPoll none) s = .next { s with lfn := { s.lfn with rerDue := some (s.clock + 100) } }
    ∧ (∀ c, s.lfn.rerHeld = [] → exec (.rerConsumerPoll (some c)) s = .next { s with lfn := { s.lfn with
        consumer := c, remoteErr := s.lfn.remoteErr && c != s.lfn.producer
        rerDue := if s.lfn.remoteErr && c != s.lfn.producer then some (s.clock + 100) else none } })
    ∧ (∀ c b base n, s.lfn.rerHeld = [b] → s.lfn.rer = some (base, n) → ∃ t : State, exec (.rerConsumerPoll (some c)) s = .next t
      ∧ t.lfn.rerHeld = [] ∧ t.lfn.consumer = c
      ∧ ((s.lfn.producer.toNat + 1) % 2 ^ n = c.toNat → t.lfn.dropped = satInc s.lfn.dropped ∧ t.lfn.producer = s.lfn.producer)
      ∧ ((s.lfn.producer.toNat + 1) % 2 ^ n ≠ c.toNat →
        .hostWrite (base.toNat + 64 + 32 * s.lfn.producer.toNat) b ∈ t.out
        ∧ t.lfn.producer = BitVec.ofNat 32 ((s.lfn.producer.toNat + 1) % 2 ^ n))))

/-! ### Units, checkpoints, the supply guard -/

/-- A reply, signal, wait or free that carries an epoch other than the present epoch of its unit is dropped: the drop is counted in the
unit's STALE_DROPS, which DIAG_UNIT answers, a stale signal or wait also at the pip store (R291), and nothing else changes; a reply under the
present epoch is not dropped here, and signals and frees under it are stated by `PipEvents` and `PoolEvents` (R547). -/
def Obligations.StaleEpochDrop : Prop :=
  (∀ (u : Nat) (e : BitVec 8) (s : State), s.live = true → u < 56 →
    ((s.gateN u).epoch ≠ e →
      (∃ t, exec (.staleEpochDrop u e) s = .next t
        ∧ (t.gateN u).staleDrops = satInc (s.gateN u).staleDrops ∧ (t.gateN u).epoch = (s.gateN u).epoch
        ∧ (∀ v, v ≠ u → t.gateN v = s.gateN v) ∧ ({ t with gate := s.gate } : State) = s)
      ∧ (∀ (i : Instr), (∃ p op v err, i = .pipSignalApply (.unit u e) p op v err) ∨ (∃ w : WaitReq, w.by_ = .unit u e ∧ i = .pipWaitRegister w) →
        ∃ t, exec i s = .next t
        ∧ (t.gateN u).staleDrops = satInc (s.gateN u).staleDrops ∧ (t.gateN u).epoch = (s.gateN u).epoch
        ∧ (∀ v, v ≠ u → t.gateN v = s.gateN v) ∧ t.pip.staleDrop = satInc s.pip.staleDrop
        ∧ ({ t with gate := s.gate, pip := { t.pip with staleDrop := s.pip.staleDrop } } : State) = s)
      ∧ (∀ h : FreeReq, ∃ t, exec (.bpmFree u e h) s = .next t
        ∧ (t.gateN u).staleDrops = satInc (s.gateN u).staleDrops ∧ (t.gateN u).epoch = (s.gateN u).epoch
        ∧ (∀ v, v ≠ u → t.gateN v = s.gateN v) ∧ ({ t with gate := s.gate } : State) = s))
    ∧ ((s.gateN u).epoch = e → exec (.staleEpochDrop u e) s = .next s))
  ∧ (∀ (c : HostCmd) (s : State), cmdDiagUnit.accepts c s = true → s.unitAbsent (c.f 8 1) = false →
    ∃ data, exec (.diagUnit c) s = .next (s.answer c 0x0C03 .ok data)
      ∧ (data.drop 4).take 4 = leBytes 4 (s.gateN (c.f 8 1)).staleDrops.toNat)

/-- What ends a reset or power-on: a unit that was initialised opens its gate and its command answers OK, one that is fenced answers OK and
keeps its gate closed (R549, R550); one that does not report ready 1 ms after the time that R550's table expects is fenced (R566), as is a CSI
receiver or Ethernet port that reports a fault of its own, a Lantern port with its Lofin port (R552, R525); a count that is not zero 200 µs after
the closure is a device fault (R562). A fenced unit that is fenced again is logged, and a command in progress on it ends with
DISCARDED_FAULT (R206). -/
def Obligations.UnitEvents : Prop :=
  (∀ (u : Nat) (s t : State), s.live = true → (s.gateN u).seq = some .reset →
    ((s.gateN u).fenced = false → t = s.unitOpen u →
      exec (.unitResetComplete u) s = .next (t.unitFinish u .ok (t.unitData u 0)))
    ∧ ((s.gateN u).fenced = true → t = s.updGate u (fun g => { g with seq := none, draining := false }) →
      exec (.unitResetComplete u) s = .next (t.unitFinish u .ok (t.unitData u 0))))
  ∧ (∀ (u : Nat) (s t : State), s.live = true → (s.gateN u).seq = some .powerOn → (s.gateN u).powered = true →
    ((s.gateN u).fenced = false → t = s.unitOpen u →
      exec (.unitPowerOnDone u) s = .next (t.unitFinish u .ok (t.powerData u (t.clock - (t.gateN u).seqAt))))
    ∧ ((s.gateN u).fenced = true → t = s.updGate u (fun g => { g with seq := none, draining := false }) →
      exec (.unitPowerOnDone u) s = .next (t.unitFinish u .ok (t.powerData u (t.clock - (t.gateN u).seqAt)))))
  ∧ (∀ (u : Nat) (s : State), s.live = true → (s.gateN u).closed = true → (s.gateN u).draining = true →
    ((s.gateN u).seqAt + 200 ≤ s.clock → exec (.epochDrainTimeout u) s = .next (s.latch .device 0 u 0))
    ∧ (s.clock < (s.gateN u).seqAt + 200 → exec (.epochDrainTimeout u) s = .next s))
  ∧ (∀ (u : Nat) (s : State) (q : UnitSeq), s.live = true → (s.gateN u).seq = some q →
    ((s.gateN u).seqAt + unitResetUs u + (if q = .powerOn then 20 else 0) + 1000 ≤ s.clock →
      exec (.unitReadyTimeout u) s = .next (s.fence u 0))
    ∧ (s.clock < (s.gateN u).seqAt + unitResetUs u + (if q = .powerOn then 20 else 0) + 1000 → exec (.unitReadyTimeout u) s = .next s))
  ∧ (∀ (u : Nat) (s : State), s.live = true →
    (0x26 ≤ u ∧ u < 0x2E → exec (.unitInternalFault u) s = .next (s.fence u 0))
    ∧ (u = 0x32 ∨ u = 0x33 → exec (.unitInternalFault u) s = .next ((s.fence u 0).fence (u - 4) 0)))
  ∧ (∀ (u : Nat) (d : U32) (s : State), unitGateable u = true → s.unitAbsent u = false → (s.gateN u).fenced = true →
    s.fence u d = ((s.faultLog u Status.discardedFault.code d).updGate u (fun g => { g with draining := false, seq := none })).unitFinish u
      .discardedFault [])

/-- The checkpoint commands. CKPT_WINDOW answers RESERVED_NONZERO for reserved bytes of its descriptor that are not zero, NOT_FOUND for a context that
does not live, INVALID_FIELD for fields out of range, BUSY while a checkpoint or restore uses the window, and otherwise records the window, or deletes it
and answers NOT_FOUND where there is none. CKPT_CONFIG, where the slot check passes, answers INVALID_FIELD for a GALLERY shard without TRACK or a period out
of range, NOT_FOUND for a window not recorded, and otherwise sets the slot's window, trigger and shards. CKPT_NOW answers NOT_FOUND without a window, BUSY
during a checkpoint of the slot and otherwise fires one. CKPT_RESTORE answers NOT_FOUND for no window, BUSY during a checkpoint; it loads a checkpoint that
passes the checks and answers its number and frame, answers the failed check's status, DIGEST_MISMATCH for an uncorrectable error, and INVALID_FIELD where the
read fails, with DESC_FAULT for a host window. CKPT_QUERY answers the last checkpoint, before the first with free values (R12, R193 to R195, R206, R528, R537).
A checkpoint: the timer trigger falls due at T0 + k × PERIOD (R530); the snapshot waits for a TRACK that runs, then takes granules and the number, and a lack
of granules ends it with NO_RESOURCE (R532); the copy done, the next TRACK may run, an uncorrectable error ends checkpoint and tracks (R532, R540); a window
half too small ends it with NO_RESOURCE, an uncorrectable error in the granules with INTERNAL; into a host window the shards, then the manifest are written
and it ends with OK, to a peer the shards and a FLUSH go out, and with no route it ends with UNREACHABLE (R533, R534, R540). -/
def Obligations.Checkpoints : Prop :=
  (∀ (c : HostCmd) (bs : List Byte) (s : State), cmdCkptWindow.acceptsDesc c bs s = true →
    (windowReserved (padTo (c.f 16 4) bs) = true → exec (.ckptWindow c) s = .next (s.answer c 0x0801 .reservedNonzero []))
    ∧ (windowReserved (padTo (c.f 16 4) bs) = false →
      (s.ctxLive c.ctxN = false → exec (.ckptWindow c) s = .next (s.answer c 0x0801 .notFound []))
      ∧ (s.ctxLive c.ctxN = true →
        (windowOf (padTo (c.f 16 4) bs) (c.f 16 4) = none → exec (.ckptWindow c) s = .next (s.answer c 0x0801 .invalidField []))
        ∧ (∀ w key, windowOf (padTo (c.f 16 4) bs) (c.f 16 4) = some w → key = 16 * c.ctxN + leAt (padTo (c.f 16 4) bs) 0 1 →
          (s.ckpt.run.any (fun r => 16 * r.ctx + r.win == key) = true ∨ s.restores key = true →
            exec (.ckptWindow c) s = .next (s.answer c 0x0801 .busy []))
          ∧ (s.ckpt.run.any (fun r => 16 * r.ctx + r.win == key) = false → s.restores key = false →
            (∀ x, w = some x → exec (.ckptWindow c) s = .next (({ s with ckpt := { s.ckpt with
              win := insertN s.ckpt.win key x } } : State).answer c 0x0801 .ok []))
            ∧ (w = none → lookupN s.ckpt.win key = none → exec (.ckptWindow c) s = .next (s.answer c 0x0801 .notFound []))
            ∧ (w = none → lookupN s.ckpt.win key ≠ none → exec (.ckptWindow c) s = .next (({ s with ckpt := { s.ckpt with
              win := eraseN s.ckpt.win key } } : State).answer c 0x0801 .ok [])))))))
  ∧ (∀ (c : HostCmd) (s : State), cmdCkptConfig.accepts c s = true →
    (∀ st, s.slotCheck c false (slotTable (some .notFound) none none (some .busy)) = some st →
      exec (.ckptConfig c) s = .next (s.answer c 0x0802 st []))
    ∧ (s.slotCheck c false (slotTable (some .notFound) none none (some .busy)) = none →
      ((c.f 11 1 = 2 ∨ (c.f 10 1 = 1 ∧ (c.f 12 4 < 100 ∨ 60000 < c.f 12 4)) ∨ (c.f 10 1 = 2 ∧ (c.f 12 4 = 0 ∨ 65535 < c.f 12 4))) →
        exec (.ckptConfig c) s = .next (s.answer c 0x0802 .invalidField []))
      ∧ (c.f 11 1 ≠ 2 → (c.f 10 1 = 1 → 100 ≤ c.f 12 4 ∧ c.f 12 4 ≤ 60000) → (c.f 10 1 = 2 → 1 ≤ c.f 12 4 ∧ c.f 12 4 ≤ 65535) →
        (lookupN s.ckpt.win (16 * c.ctxN + c.f 9 1) = none → exec (.ckptConfig c) s = .next (s.answer c 0x0802 .notFound []))
        ∧ (∀ w, lookupN s.ckpt.win (16 * c.ctxN + c.f 9 1) = some w →
          exec (.ckptConfig c) s = .next ((s.updCk (c.f 8 1) (fun k => { k with
            win := some (c.f 9 1), trigger := c.f 10 1, period := c.f 12 4, shards := c.f 11 1, t0 := s.devTime.toNat, k := 1
            skipped := 0, failed := 0 })).answer c 0x0802 .ok [])))))
  ∧ (∀ (c : HostCmd) (s : State), cmdCkptNow.takes c s = true →
    (∀ st, s.slotCheck c false (slotTable (some .notFound) none none (some .busy)) = some st →
      exec (.ckptNow c) s = .next (s.answer c 0x0803 st []))
    ∧ (s.slotCheck c false (slotTable (some .notFound) none none (some .busy)) = none →
      (s.ckWin (c.f 8 1) (s.ckN (c.f 8 1)).cfg = none → exec (.ckptNow c) s = .next (s.answer c 0x0803 .notFound []))
      ∧ (s.ckWin (c.f 8 1) (s.ckN (c.f 8 1)).cfg ≠ none →
        (s.ckBusy (c.f 8 1) = true → exec (.ckptNow c) s = .next (s.answer c 0x0803 .busy []))
        ∧ (s.ckBusy (c.f 8 1) = false → exec (.ckptNow c) s = .next
          (c.proceed 0x0803 (s.ckFire (c.f 8 1) true (s.ckN (c.f 8 1)).cfg) (.ckptNow (c.f 8 1)) [])))))
  ∧ (∀ (c : HostCmd) (s : State) (w' : WaitFor), cmdCkptRestore.acceptsAsync c s = true →
    w' = .ckptRestore (c.f 8 1) (16 * c.ctxN + c.f 9 1) →
    (∀ st, s.slotCheck c true (slotTable (some .notFound) none (some .busy) (some .busy)) = some st →
      exec (.ckptRestore c) s = .next (s.answer c 0x0804 st []))
    ∧ (s.slotCheck c true (slotTable (some .notFound) none (some .busy) (some .busy)) = none →
      (lookupN s.ckpt.win (16 * c.ctxN + c.f 9 1) = none → exec (.ckptRestore c) s = .next (s.answer c 0x0804 .notFound []))
      ∧ (∀ w, lookupN s.ckpt.win (16 * c.ctxN + c.f 9 1) = some w →
        (s.ckBusy (c.f 8 1) = true → exec (.ckptRestore c) s = .next (s.answer c 0x0804 .busy []))
        ∧ (s.ckBusy (c.f 8 1) = false →
          (∀ bs h, c.host = .data bs → s.ckChoose (c.f 8 1) bs w.half = .ok h → exec (.ckptRestore c) s = .next
            ((c.proceed 0x0804 (s.ckLoad (c.f 8 1) h) w' []).finishOne c.mbx c.seq w' .ok (leBytes 4 (leAt h 8 4) ++ leBytes 4 (leAt h 12 4))))
          ∧ (∀ bs st, c.host = .data bs → s.ckChoose (c.f 8 1) bs w.half = .error st → exec (.ckptRestore c) s = .next
            ((c.proceed 0x0804 s w' []).finishOne c.mbx c.seq w' st []))
          ∧ (c.host = .ue → exec (.ckptRestore c) s = .next ((c.proceed 0x0804 s w' []).finishOne c.mbx c.seq w' .digestMismatch []))
          ∧ (∀ d o b, c.host ≠ .ue → (∀ bs, c.host ≠ .data bs) → w = .peer d o b → exec (.ckptRestore c) s = .next
            ((c.proceed 0x0804 s w' []).finishOne c.mbx c.seq w' .invalidField []))
          ∧ (∀ xs, c.host ≠ .ue → (∀ bs, c.host ≠ .data bs) → w = .host xs → exec (.ckptRestore c) s = .next
            ((c.proceed 0x0804 (s.mbxError c.mbx .descFault) w' []).finishOne c.mbx c.seq w' .invalidField []))))))
  ∧ (∀ (c : HostCmd) (s : State), cmdCkptQuery.accepts c s = true →
    (∀ st, s.slotCheck c false (slotTable (some .notFound) none none none) = some st →
      exec (.ckptQuery c) s = .next (s.answer c 0x0805 st []))
    ∧ (∀ tail, s.slotCheck c false (slotTable (some .notFound) none none none) = none →
      tail = zeros 2 ++ leBytes 4 (s.ckN (c.f 8 1)).skipped.toNat ++ leBytes 4 (s.ckN (c.f 8 1)).failed.toNat →
      (∀ num fs tm st, (s.ckN (c.f 8 1)).last = some (num, fs, tm, st) → exec (.ckptQuery c) s = .next (s.answer c 0x0805 .ok
        (leBytes 4 num.toNat ++ leBytes 4 fs.toNat ++ leBytes 8 tm.toNat ++ leBytes 2 st.code ++ tail)))
      ∧ ((s.ckN (c.f 8 1)).last = none → exec (.ckptQuery c) s = .next (({ s with free := s.free + 18 } : State).answer c 0x0805 .ok
        ((List.range 18).map (fun i => Config.freeByte (s.free + i)) ++ tail)))))
  ∧ (∀ (n : Fin 64) (s : State), s.live = true → (s.ckN n.val).trigger = 1 →
    ((s.ckN n.val).t0 + (s.ckN n.val).k * (s.ckN n.val).period * 1000000 ≤ s.devTime.toNat →
      exec (.ckptTimerTrigger n) s = .next ((s.updCk n.val (fun c => { c with k := c.k + 1 })).ckTrigger n.val (s.ckN n.val).cfg))
    ∧ (s.devTime.toNat < (s.ckN n.val).t0 + (s.ckN n.val).k * (s.ckN n.val).period * 1000000 →
      exec (.ckptTimerTrigger n) s = .next s))
  ∧ (∀ (n : Fin 64) (s u : State) (r : CkptRun) (q : U32) (g : Nat), s.live = true → s.ckRun n.val = some r → r.phase = .snapshot →
    (match (s.slotN n.val).lastTracked with | some x => x.1 | none => 0xFFFFFFFF) = q →
    g = max 1 (ceilDiv ((s.slotN n.val).tracks.length * 2176) 65536) →
    u = (s.updCk n.val (fun c => { c with number := c.number + 1, frames := 0 })).updRun n.val
      (fun r => { r with num := (s.ckN n.val).number, time := s.devTime, frameSeq := q }) →
    (s.tracking n.val = true → exec (.ckptSnapshot n) s = .next s)
    ∧ (s.tracking n.val = false →
      (u.str.fs.fit g = none → exec (.ckptSnapshot n) s = .next (u.ckEnd n.val .noResource))
      ∧ (∀ first, u.str.fs.fit g = some first → exec (.ckptSnapshot n) s = .next
        ((({ u with str := { u.str with fs := u.str.fs.take first g } } : State).updRun n.val (fun x => { x with
          phase := .copy, fs := some (first, g)
          snap := u.shardsOf n.val (s.ckN n.val).number.toNat r.shards q s.devTime })).updSlotN n.val
            (fun sl => { sl with copying := true })))))
  ∧ (∀ (n : Fin 64) (s : State) (r : CkptRun), s.live = true → s.ckRun n.val = some r → r.phase = .copy →
    exec (.ckptCopyDone n true) s = .next ((s.trackLost n.val).ckEnd n.val .internal)
    ∧ exec (.ckptCopyDone n false) s = .next (((s.updRun n.val (fun r => { r with phase := .reduce })).updSlotN n.val
        (fun sl => { sl with copying := false })).advance n.val))
  ∧ (∀ (n : Fin 64) (ue : Bool) (s : State) (r : CkptRun) (w : CkptWin), s.live = true → s.ckRun n.val = some r → r.phase = .reduce →
    lookupN s.ckpt.win (16 * r.ctx + r.win) = some w →
    (ue = true → exec (.ckptReductionDone n ue) s = .next
      ((s.faultLog 0x37 Status.internal.code (BitVec.ofNat 32 n.val)).ckEnd n.val .internal))
    ∧ (ue = false → w.half < shardsEnd r.snap → exec (.ckptReductionDone n ue) s = .next (s.ckEnd n.val .noResource))
    ∧ (∀ m q, ue = false → shardsEnd r.snap ≤ w.half →
      m = manifestOf r.snap r.num.toNat (r.num.toNat % 2) n.val r.frameSeq r.time s.sup.fuses.serial →
      q = { r with tag := s.lfn.nextTag, bytes := 256 + (shardsEnd r.snap - 0x1000), manifest := m } →
      (∀ xs, w = .host xs → s.canRequest = false → exec (.ckptReductionDone n ue) s = .next s)
      ∧ (∀ xs, w = .host xs → s.canRequest = true → exec (.ckptReductionDone n ue) s = .next
        ((((s.updRun n.val (fun _ => q)).ckShards q w (q.base w)).ckManifest q w (q.base w)).ckEnd n.val .ok))
      ∧ (∀ d o b, w = .peer d o b → s.routeUp d = false → exec (.ckptReductionDone n ue) s = .next
        ((s.takeTag.2.updRun n.val (fun _ => q)).ckEnd n.val .unreachable))
      ∧ (∀ d o b, w = .peer d o b → s.routeUp d = true → exec (.ckptReductionDone n ue) s = .next
        (((s.takeTag.2.updRun n.val (fun _ => q)).ckShards q w (q.base w)).ckFlush q d .flush1))))

/-- SUPPLY_GUARD_ACTIVATE says how the guard's two conditions stand, which V3V3_LOW and PWR_WARN then show (log entry 119): the first that holds makes the guard
active: it is counted and kept as an event, an erase in progress is suspended and a waiting command's wait begins; while it is active the time since which
neither holds is kept. Once neither has held for 10 ms the guard is released and what waits goes on, and not before (R64, R66, R69). A command that has
waited 100 ms completes with SUPPLY_INHIBIT, one of the flash and one of the fuses alike (R69). An operation of the flash that finishes: an erase lets the next
operation begin; a page that was programmed right leaves the flash with its bytes; one that reads back wrong holds free values and is programmed once
more, then the command ends with INTERNAL and how far it came; fuses that read back right are blown, and otherwise hold free values and the command
ends with INTERNAL (R66, R175, R177). -/
def Obligations.SupplyGuard : Prop :=
  (∀ (sag warn : Bool) (s : State), s.kprRuns = true →
    (s.sup.guard = true → exec (.supplyGuardActivate sag warn) s = .next { s with sup := { s.sup with
      v3v3Low := sag, pwrWarn := warn
      guardGoodAt := if sag || warn then none else some (s.sup.guardGoodAt.getD s.clock) } })
    ∧ (s.sup.guard = false → sag = false → warn = false → exec (.supplyGuardActivate sag warn) s = .next { s with sup := { s.sup with
      v3v3Low := false, pwrWarn := false, guardGoodAt := none } })
    ∧ (s.sup.guard = false → sag = true ∨ warn = true → ∃ t : State, exec (.supplyGuardActivate sag warn) s = .next t
      ∧ t.sup.guard = true ∧ t.sup.guardCount = satInc s.sup.guardCount ∧ t.sup.event = s.sup.event ||| 1
      ∧ t.sup.v3v3Low = sag ∧ t.sup.pwrWarn = warn ∧ t.sup.guardGoodAt = none
      ∧ (∀ b, s.sup.flashOp = some (.erase b) → t.sup.eraseSusp = some b ∧ t.sup.flashOp = none)
      ∧ ((∀ b, s.sup.flashOp ≠ some (.erase b)) → t.sup.eraseSusp = s.sup.eraseSusp ∧ t.sup.flashOp = s.sup.flashOp)
      ∧ t.fw.guardWait = (if s.flashWants || s.writing then some s.clock else s.fw.guardWait)
      ∧ t.mem = s.mem ∧ t.running = s.running))
  ∧ (∀ (s u : State) (g : Nat), s.sup.guard = true → s.kprRuns = true → s.sup.guardGoodAt = some g →
    u = { s with sup := { s.sup with guard := false, guardGoodAt := none }, fw := { s.fw with guardWait := none } } →
    (g + 10000 ≤ s.clock → s.poweredOn = true → 7 ≤ s.boot.stage.toNat → exec .supplyGuardRelease s = .next u.flashKick)
    ∧ (g + 10000 ≤ s.clock → s.poweredOn = false ∨ s.boot.stage.toNat < 7 → exec .supplyGuardRelease s = .next u)
    ∧ (s.clock < g + 10000 → exec .supplyGuardRelease s = .next s))
  ∧ (∀ s : State, s.sup.guardGoodAt = none → exec .supplyGuardRelease s = .next s)
  ∧ (∀ (s : State) (t : Nat), s.fw.guardWait = some t → s.sup.guard = true →
    (s.clock < t + 100000 → exec .guardWaitTimeout s = .next s)
    ∧ (t + 100000 ≤ s.clock →
      (s.fw.fuseTodo = none → s.writing = true → exec .guardWaitTimeout s = .next
        ({ s with fw := { s.fw with flashTodo := [], flashAt := 0, guardWait := none } }.finish .flashWrite .supplyInhibit []))
      ∧ (s.fw.fuseTodo = none → s.writing = false → exec .guardWaitTimeout s = .next { s with fw := { s.fw with guardWait := none } })
      ∧ (∀ o u, s.fw.fuseTodo = some o →
        u = ({ s with fw := { s.fw with fuseTodo := none } } : State).finish (.fuse o) .supplyInhibit [] →
        exec .guardWaitTimeout s = .next (if ({ u with fw := { u.fw with guardWait := none } } : State).writing
          then ({ u with fw := { u.fw with guardWait := none } } : State).flashFinish .supplyInhibit []
          else { u with fw := { u.fw with guardWait := none } }))))
  ∧ (∀ (s : State) (b : Nat) (ok : Bool), s.poweredOn = true → s.sup.flashOp = some (.erase b) →
    exec (.flashOpComplete ok) s = .next ({ s with sup := { s.sup with flashOp := none } } : State).flashKick)
  ∧ (∀ (s u : State) (a : Nat) (bs : List Byte) (r : Bool), s.poweredOn = true → s.sup.flashOp = some (.program a bs r) →
    u = { s with sup := { s.sup with flashOp := none, flash := flashProgram s.sup.flash a bs }, fw := { s.fw with flashAt := s.fw.flashAt + bs.length } } →
    (s.fw.flashTodo ≠ [] → exec (.flashOpComplete true) s = .next u.flashKick)
    ∧ (s.fw.flashTodo = [] → s.writing = true →
      exec (.flashOpComplete true) s = .next (u.flashFinish .ok (leBytes 4 (s.fw.flashAt + bs.length))).flashKick))
  ∧ (∀ (s u : State) (a : Nat) (bs : List Byte) (r : Bool), s.poweredOn = true → s.sup.flashOp = some (.program a bs r) →
    u = { s with free := s.free + bs.length, sup := { s.sup with
      flashOp := none, flash := flashProgram s.sup.flash a ((List.range bs.length).map (fun i => Config.freeByte (s.free + i))) } } →
    (r = false → exec (.flashOpComplete false) s = .next
      ({ u with fw := { u.fw with flashTodo := .program a bs true :: u.fw.flashTodo } } : State).flashKick)
    ∧ (r = true → exec (.flashOpComplete false) s = .next
      ((u.faultLog 0x34 Status.internal.code (BitVec.ofNat 32 a)).flashFinish .internal (leBytes 4 s.fw.flashAt)).flashKick))
  ∧ (∀ (s : State) (o : OtpOp), s.poweredOn = true → s.sup.flashOp = none → s.sup.otpOp = some o →
    exec (.flashOpComplete true) s = .next ((({ s with
        sup := { s.sup with otpOp := none, fuses := s.sup.fuses.blow o }
        boot := { s.boot with secverMin := BitVec.ofNat 8 (s.sup.fuses.blow o).secverMin } } : State).finish (.fuse o) .ok []).flashKick)
    ∧ ∀ f : Fuses, (match o with
        | .revoke _ => f = s.sup.fuses
        | .secver m => f = (if Config.freeNat s.free < s.sup.fuses.secverMin then s.sup.fuses
            else s.sup.fuses.blow (.secver (min (Config.freeNat s.free) m)))
        | .key i _ => f = s.sup.fuses.blow (.key i (BitVec.ofNat 384 (Config.freeNat s.free)))) →
      exec (.flashOpComplete false) s = .next (((({ s with
        free := s.free + 2, sup := { s.sup with otpOp := none, fuses := f }
        boot := { s.boot with secverMin := BitVec.ofNat 8 f.secverMin } } : State).faultLog 0x34 Status.internal.code
          (Config.freeWord (s.free + 1))).finish (.fuse o) .internal []).flashKick))

/-! ### Host interface -/

/-- The mailbox registers: a tail or a head beyond what the ring allows is ignored and recorded, the first error's code kept (R121, R122, R136, R142); a head
that moves drops what was read, lets RSP_STALL fall where the waiting command then has its room, re-arms the mailbox and announces what is still unread (R124,
R136); EN is set on a bound mailbox (R120) and cleared (R143); a disabled one with nothing outstanding takes INDEX_RESET (R142, R144); IRQ_EN is written (R136).
A register write reaches its fields under their access types (R10, R11): the scratch register and a supply enable are taken whole, a W1C bit
falls, a ring base is taken while its mailbox is disabled and not while it is enabled (R119); a poisoned write is discarded and reported (R148); one of
another size or alignment is a bad access (R113); the completion timeout of Device Control 2 is taken; firmware's write to a DRAM controller sets the mode
and queue limits. -/
def Obligations.MailboxRegisters : Prop :=
  (∀ (m : Fin 16) (s : State) (x : Mbx), s.barUp = true → x = s.host.mbx[m] →
    (∀ v : U32, v.toNat % 4096 < ringLen x.cmdSize →
      exec (.mbxCmdTailWrite m v) s = .next (s.updMbx m (fun x => { x with cmdTail := BitVec.ofNat 12 (v.toNat % 4096) })))
    ∧ (∀ v : U32, ringLen x.cmdSize ≤ v.toNat % 4096 →
      (x.err = false → ∃ t : State, exec (.mbxCmdTailWrite m v) s = .next t ∧ t.host.mbx[m] = { x with err := true, errCode := .badTail })
      ∧ (x.err = true → exec (.mbxCmdTailWrite m v) s = .next s))
    ∧ (∀ (v : U32) (rest : List Bool) (u : State) (send : Bool), x.rspAhead (v.toNat % 4096) ≤ x.unread.length →
      v.toNat % 4096 < ringLen x.rspSize → rest = x.unread.drop (x.rspAhead (v.toNat % 4096)) → send = (x.irqEn && rest.any id) →
      u = s.updMbx m (fun x => { x with rspHead := BitVec.ofNat 12 (v.toNat % 4096), unread := rest
                                        armed := !(send && s.msixTakes ⟨m.val + 1, by omega⟩) }) →
      (send = false → exec (.mbxRspHeadWrite m v) s = .next
        (u.updMbx m (fun y => { y with rspStall := y.rspStall && !u.hasRoom m x.stallAsync })))
      ∧ (send = true → exec (.mbxRspHeadWrite m v) s = .next
        ((u.updMbx m (fun y => { y with rspStall := y.rspStall && !u.hasRoom m x.stallAsync })).sendMsix ⟨m.val + 1, by omega⟩)))
    ∧ (∀ v : U32, x.unread.length < x.rspAhead (v.toNat % 4096) ∨ ringLen x.rspSize ≤ v.toNat % 4096 →
      (x.err = false → ∃ t : State, exec (.mbxRspHeadWrite m v) s = .next t ∧ t.host.mbx[m] = { x with err := true, errCode := .badHead })
      ∧ (x.err = true → exec (.mbxRspHeadWrite m v) s = .next s))
    ∧ (x.bound = true → exec (.mbxEnable m) s = .next (s.updMbx m (fun x => { x with en := true, enabled := true })))
    ∧ (x.bound = false → exec (.mbxEnable m) s = .next s)
    ∧ exec (.mbxDisable m) s = .next ((s.updMbx m (fun x => { x with en := false })).settleMbx m)
    ∧ (x.enabled = false → s.asyncOut m = 0 → exec (.mbxIndexReset m) s = .next (s.updMbx m (fun x => { x with
        cmdHead := 0, cmdTail := 0, rspHead := 0, rspTail := 0, unread := [], halted := false, rspStall := false, switchMark := none })))
    ∧ (x.enabled = true ∨ s.asyncOut m ≠ 0 → exec (.mbxIndexReset m) s = .next s)
    ∧ ∀ on, exec (.mbxIrqEnWrite m on) s = .next (s.updMbx m (fun x => { x with irqEn := on })))
  ∧ (∀ (s : State) (v : U32), s.barUp = true → exec (.registerWrite (.bar0 0x20 4 v.toNat false)) s = .next
    { s with host := { s.host with int := { s.host.int with scratch := v } } })
  ∧ (∀ (s : State) (v : U32), s.barUp = true → s.intActive = true →
    exec (.registerWrite (.bar0 0x3008 4 v.toNat false)) s = .next { s with sup := { s.sup with eventEn := BitVec.ofNat 7 v.toNat } }
    ∧ exec (.registerWrite (.bar0 0x3004 4 v.toNat false)) s = .next
        { s with sup := { s.sup with event := s.sup.event &&& ~~~ (BitVec.ofNat 7 v.toNat) } })
  ∧ (∀ (s : State) (m : Fin 16) (v : U32), s.barUp = true →
    (s.host.mbx[m].enabled = true → exec (.registerWrite (.bar0 (0x10000 + 0x1000 * m.val) 4 v.toNat false)) s = .next s)
    ∧ (s.host.mbx[m].enabled = false → exec (.registerWrite (.bar0 (0x10000 + 0x1000 * m.val) 4 v.toNat false)) s =
      .next (s.updMbx m (fun x => { x with cmdBase := setHalf x.cmdBase false (v &&& 0xFFFFF000) }))))
  ∧ (∀ (s : State) (o n v : Nat), exec (.registerWrite (.bar0 o n v true)) s = .next (s.aerReport .poisonedTlp))
  ∧ (∀ (s : State) (o n v : Nat), bar0Good o n = false →
    exec (.registerWrite (.bar0 o n v false)) s = .next (s.badAccess (BitVec.ofNat 24 o) n true))
  ∧ (∀ (s : State) (us : Nat), exec (.registerWrite (.completionTimeout us)) s = .next
    { s with host := { s.host with pcie := { s.host.pcie with cplTimeoutUs := us } } })
  ∧ (∀ (s : State) (n : Fin 4) (v : U32), s.fwRuns = true →
    exec (.registerWrite (.control (0x013000000000 + 0x1000 * n.val) 4 v.toNat)) s = .next (s.updDmc n (fun d => { d with
      strict := v.getLsbD 0, pageIdle := BitVec.ofNat 8 (v.toNat / 256), wqHigh := BitVec.ofNat 6 (v.toNat / 65536), wqLow := BitVec.ofNat 6 (v.toNat / 16777216) })))

/-- Writing 1 to a bit of INT_STATUS clears its source and leaves the others;
INT_ENABLE takes the ten enables (R135). A vector is sent when it is unmasked while it was pending, and not otherwise (R149). -/
def Obligations.InterruptBlock : Prop :=
  (∀ (v : U32) (s : State), s.barUp = true → ∃ t, exec (.intStatusWrite v) s = .next t
    ∧ t.host.int = { s.host.int with
        boot := s.host.int.boot && !v.getLsbD 0, fwSwitch := s.host.int.fwSwitch && !v.getLsbD 3, bar2Miss := s.host.int.bar2Miss && !v.getLsbD 4,
        dbDrop := s.host.int.dbDrop && !v.getLsbD 5, badAccess := s.host.int.badAccess && !v.getLsbD 6, mbxErr := s.host.int.mbxErr && !v.getLsbD 8,
        unit := s.host.int.unit && !v.getLsbD 9 })
  ∧ (∀ (v : U32) (s : State), s.enablesUp = true → ∃ t, exec (.intEnableWrite v) s = .next t
    ∧ t.host.int = { s.host.int with enable := BitVec.ofNat 10 v.toNat })
  ∧ (∀ (v : Fin 64) (s : State), s.enablesUp = true → (∀ w : Fin 64, s.host.msix[w].pend = false) →
    exec (.msixUnmask v) s = .next { s with host := { s.host with msix := updAt s.host.msix v (fun e => { e with mask := false }) } })
  ∧ (∀ (v : Fin 64) (s : State), s.enablesUp = true → s.host.pcie.msixEnable = true → s.host.pcie.funcMask = false → s.canRequest = true →
    s.host.msix[v].pend = true → ∃ t, exec (.msixUnmask v) s = .next t ∧ t.host.msix[v].pend = false ∧ t.host.msix[v].mask = false
      ∧ .msix v.val s.host.msix[v].addr s.host.msix[v].data ∈ t.out)

/-- Vector 0 sends a message when the enabled status becomes non-zero, and not while it stays so: that is what every change of an interrupt
source goes through; and it sends another after a write of INT_STATUS or of INT_ENABLE that leaves the enabled status non-zero (R135). -/
def Obligations.VectorZero : Prop :=
  (∀ (s : State) (f : State → State),
    (s.intActive = false → (f s).intActive = true → s.raising f = (f s).sendMsix 0)
    ∧ (s.intActive = true ∨ (f s).intActive = false → s.raising f = f s))
  ∧ (∀ s : State, s.host.pcie.msixEnable = true → s.host.pcie.funcMask = false → s.host.msix[0].mask = false → s.canRequest = true →
    s.sendMsix 0 = s.emit (.msix 0 s.host.msix[0].addr s.host.msix[0].data))
  ∧ (∀ (s : State) (b : BitVec 7), s.supEvent b = s.raising (·.updSup (fun p => { p with event := p.event ||| b })))
  ∧ (∀ (s : State) (b : BitVec 4), s.kprEvent b = s.raising (·.updKpr (fun k => { k with event := k.event ||| b })))
  ∧ (∀ s : State, s.raiseUnit = s.raising (·.updInt (fun i => { i with unit := true })))
  ∧ (∀ (v : U32) (s : State), s.barUp = true → ∃ u : State, ({ u with host := s.host } : State) = s
    ∧ exec (.intStatusWrite v) s = .next (if u.intActive then u.sendMsix 0 else u))
  ∧ (∀ (v : U32) (s : State), s.enablesUp = true → ∃ u : State, ({ u with host := s.host } : State) = s
    ∧ u.host.int.enable = BitVec.ofNat 10 v.toNat ∧ exec (.intEnableWrite v) s = .next (if u.intActive then u.sendMsix 0 else u))

/-- A BAR0 access of another size or alignment is recorded, the first one's details kept, and a read of that kind gives zeros (R113). A BAR2 read of the running
device that hits answers the memory at ID_BAR2_BASE + offset (free values where the spec gives no layout, log entry 89), corrects or reports the errors it
meets and marks its data poisoned on an uncorrectable one; one of which an end misses answers zeros and captures the first address (R115, R116, R237, R238). A
write that hits is performed, one to a package is discarded (R162), one that misses is; a poisoned one is discarded and reported (R148). In a host-load wait
the window reaches the staging area (R92); another read before READY gives zeros (R82).
D3hot puts an idle device into STANDBY and holds the requests of one at work (R111); D0 lets what waited leave (R111, R147), as Bus Master
Enable does (R147); the AER status bits are collected (R148). -/
def Obligations.HostWindows : Prop :=
  (∀ (o : BitVec 24) (n : Nat) (w : Bool) (s : State), 3 ≤ s.boot.stage.toNat → s.sup.power ≠ .off → bar0Good o.toNat n = false →
    ∃ t : State, exec (.bar0BadAccess o n w) s = .next t ∧ t.host.int.badAccess = true
      ∧ (s.host.int.badAccess = false → t.host.int.badOffset = o ∧ t.host.int.badWrite = w
        ∧ t.host.int.badBytes = if 16 ≤ n then 0 else BitVec.ofNat 4 n)
      ∧ (s.host.int.badAccess = true → t.host.int.badOffset = s.host.int.badOffset ∧ t.host.int.badBytes = s.host.int.badBytes
        ∧ t.host.int.badWrite = s.host.int.badWrite)
      ∧ (w = false → .barData (zeros n) ∈ t.out) ∧ t.host.mbx = s.host.mbx ∧ t.mem = s.mem ∧ t.sup = s.sup)
  ∧ (∀ (o n a : Nat) (s : State), s.barUp = true → 0 < n → o + n ≤ 2 ^ 30 → a = s.host.int.bar2Base.toNat + o →
    (s.bar2Miss a = false → s.bar2Miss (a + n - 1) = false → exec (.bar2Read o n) s = .next
      ((((s.bar2Bytes a n).2.touchLines a n .none).readSense a n).emit (.bar2Data (s.bar2Bytes a n).1 (s.readUe a n)))
      ∧ ((∀ i < n, s.byteOpen (a + i) = false) → s.bar2Bytes a n = (s.memRead a n, s)))
    ∧ (s.bar2Miss a = true ∨ s.bar2Miss (a + n - 1) = true →
      exec (.bar2Read o n) s = .next ((s.missed a).emit (.bar2Data (zeros n) false))))
  ∧ (∀ (o n : Nat) (s : State), s.barUp = false → 0 < n → o + n ≤ 2 ^ 30 →
    (s.boot.hostWait = true → o + n ≤ 0x800000 → exec (.bar2Read o n) s = .next (s.emit (.bar2Data (s.stagingRead o n) false)))
    ∧ (s.boot.hostWait = false → 3 ≤ s.boot.stage.toNat → exec (.bar2Read o n) s = .next (s.emit (.bar2Data (zeros n) false))))
  ∧ (∀ (o a : Nat) (bs : List Byte) (s : State), s.barUp = true → bs ≠ [] → o + bs.length ≤ 2 ^ 30 → a = s.host.int.bar2Base.toNat + o →
    (s.bar2Miss a = true ∨ s.bar2Miss (a + bs.length - 1) = true → exec (.bar2Write o bs false) s = .next (s.missed a))
    ∧ ((∃ i < bs.length, s.packaged (a + i) = true) → exec (.bar2Write o bs false) s = .next (s.missed a))
    ∧ (s.bar2Miss a = false → s.bar2Miss (a + bs.length - 1) = false → (∀ i < bs.length, s.packaged (a + i) = false) →
      exec (.bar2Write o bs false) s = .next ((s.touchLines a bs.length .none).memPut a bs).1)
    ∧ exec (.bar2Write o bs true) s = .next ((s.aerReport .poisonedTlp).missed a))
  ∧ (∀ (o : Nat) (bs : List Byte) (s : State), s.barUp = false → s.boot.hostWait = true → bs ≠ [] → o + bs.length ≤ 0x800000 →
    exec (.bar2Write o bs false) s = .next { s with boot := { s.boot with staging := cellsWrite s.boot.staging o bs } })
  ∧ (∀ (s : State) (a : Nat), (s.host.int.bar2Miss = false → (s.missed a).host.int.missAddr = BitVec.ofNat 48 a)
    ∧ (s.host.int.bar2Miss = true → (s.missed a).host.int.missAddr = s.host.int.missAddr) ∧ (s.missed a).host.int.bar2Miss = true
    ∧ (s.missed a).mem = s.mem)
  ∧ (∀ s : State, s.live = true → s.host.pcie.dstate = .d0 →
    (s.atWork = true → exec .pmD3hotEntry s = .next (s.updPcie (fun p => { p with dstate := .d3hot, held := true })))
    ∧ (s.atWork = false → exec .pmD3hotEntry s = .next ((s.updPcie (fun p => { p with dstate := .d3hot })).enterLow .standby)))
  ∧ (∀ s : State, s.live = true → s.host.pcie.dstate = .d3hot →
    (s.host.pcie.held = true ∨ s.sup.power = .active →
      exec .pmD0Return s = .next (s.updPcie (fun p => { p with dstate := .d0, held := false })).resume)
    ∧ (s.host.pcie.held = false → s.sup.power ≠ .active →
      exec .pmD0Return s = .next (s.updPcie (fun p => { p with dstate := .d0, held := false })).startActive.resume))
  ∧ (∀ s : State, s.live = true →
    exec (.busMasterEnableChange false) s = .next (s.updPcie (fun p => { p with busMaster := false }))
    ∧ exec (.busMasterEnableChange true) s = .next (s.updPcie (fun p => { p with busMaster := true })).resume)
  ∧ (∀ (k : AerKind) (s : State), ∃ t : State, exec (.pcieTlpError k) s = .next t ∧ k ∈ t.host.pcie.aer
    ∧ (∀ j ∈ s.host.pcie.aer, j ∈ t.host.pcie.aer) ∧ ({ t with host := s.host } : State) = s)

/-- Firmware takes the command whose mailbox has its turn, and the turn passes on: mailbox 0 and the others take turns (R132). An unknown OPCODE is answered with
INVALID_OPCODE (R126); a failed read of the entry halts the mailbox with CMD_FAULT (R144) and is reported (R148); a command that
would find no room for its response stays (R124). A completed asynchronous command's final response is posted, and that of a MODEL_LOAD or of an unfence,
whose work ends then (R130); a read that times out is reported through AER and fails: an entry's, a descriptor's, a host ring's, and that of the
remote error ring's CONSUMER, which is made again 100 µs later (R144, R145, R148, R354). -/
def Obligations.CommandConsumption : Prop :=
  (∀ (e : Option (List Byte)) (h : HostRead) (s : State), s.live = true →
    (s.turn = none → exec (.commandConsume e h) s = .next s)
    ∧ (∀ m, s.turn = some m → e = none → exec (.commandConsume e h) s = .next ((s.entryFault m).passTurn m))
    ∧ (∀ m bs, s.turn = some m → e = some bs → s.hasRoom m (bitOf (byteAt (padTo 64 bs) 4).toNat 0) = false →
      exec (.commandConsume e h) s = .next ((s.updMbx m (fun x => { x with
        rspStall := true, stallAsync := bitOf (byteAt (padTo 64 bs) 4).toNat 0 })).passTurn m))
    ∧ (∀ m bs, s.turn = some m → e = some bs → s.hasRoom m (bitOf (byteAt (padTo 64 bs) 4).toNat 0) = true →
      commandOf (leAt (padTo 64 bs) 0 2) = none → s.fw.phase ≠ .handover →
      exec (.commandConsume e h) s = .next (((s.headNext m).answer (entryCmd m (padTo 64 bs) h) (leAt (padTo 64 bs) 0 2)
        .invalidOpcode []).passTurn m))
    ∧ (∀ m bs k, s.turn = some m → e = some bs → s.hasRoom m (bitOf (byteAt (padTo 64 bs) 4).toNat 0) = true →
      commandOf (leAt (padTo 64 bs) 0 2) = some k →
      (∀ t, (s.headNext m).command k (entryCmd m (padTo 64 bs) h) s.host.mbx[m].beforeMark = some t →
        exec (.commandConsume e h) s = .next (t.passTurn m))
      ∧ ((s.headNext m).command k (entryCmd m (padTo 64 bs) h) s.host.mbx[m].beforeMark = none →
        exec (.commandConsume e h) s = .next (s.passTurn m))))
  ∧ (∀ (s : State) (m : Fin 16), s.mbxReady 0 = true → s.nextOther = some m →
    s.turn = some (if s.host.turnZero then 0 else m) ∧ (s.passTurn m).host.turnZero = decide (m ≠ 0))
  ∧ (∀ (m : Fin 16) (q : BitVec 16) (s : State) (r : Running), s.live = true → s.canRequest = true →
    s.running.find? (fun r => r.mbx == m && r.seq == q && r.async && r.final) = some r →
    (r.done.isSome = true → exec (.asyncFinalResponse m q) s = .next (s.postFinal r))
    ∧ (∀ u, r.done = none → r.wait = .unitFence u → exec (.asyncFinalResponse m q) s = .next (s.unfenceEnd r u))
    ∧ (∀ x va n, r.done = none → r.wait = .modelLoad x va n → exec (.asyncFinalResponse m q) s = .next (s.modelLoaded r)))
  ∧ (∀ (m : Fin 16) (s t : State), s.live = true → t = s.aerReport .completionTimeout →
    (t.mbxReady m = true → exec (.pcieCompletionTimeout (.command m)) s = .next ((t.entryFault m).passTurn m)
      ∧ ∀ e, exec (.pcieCompletionTimeout (.desc m e)) s = .next (t.serve m (some e) .failed))
    ∧ (t.mbxReady m = false → exec (.pcieCompletionTimeout (.command m)) s = .next t
      ∧ ∀ e, exec (.pcieCompletionTimeout (.desc m e)) s = .next t))
  ∧ (∀ (n : Fin 64) (s t : State), s.live = true → t = s.aerReport .completionTimeout →
    (t.ringReads n.val = none → exec (.pcieCompletionTimeout (.ring n)) s = .next t)
    ∧ ∀ x, t.ringReads n.val = some x → exec (.pcieCompletionTimeout (.ring n)) s = .next (t.ringStop n.val x))
  ∧ (∀ s t : State, s.live = true → t = s.aerReport .completionTimeout →
    (t.rerReads = false → exec (.pcieCompletionTimeout .rer) s = .next t)
    ∧ (t.rerReads = true → exec (.pcieCompletionTimeout .rer) s = .next { t with lfn := { t.lfn with rerDue := some (s.clock + 100) } }))

/-! ### Reset and boot -/

/-- POR_N resets every domain, the supply guard too; of the Keeper the fault log and its two counts stay, and the flash keeps what is not being programmed (R75,
R13). PERST_N resets every domain but AON: the log, the latched faults and the boot count stay, the guard keeps its state, supervision ends, and SAFE_N falls
(R75). A reset released while the other is released too starts boot and latches BOOT_SEL; one that is not asserted does nothing (R75, R77). A hot
reset and a lost link act as PERST_N asserted and released (R75). The loss of VDD_IO18 takes the Keeper's log and counters with it
(R613, R591). -/
def Obligations.Resets : Prop :=
  (∀ s : State, exec .porNAssert s = .next
    { clock := s.clock, free := s.free, pending := s.pending, out := s.out, sup := s.sup.onReset,
      boot := { porN := false, perstN := s.boot.perstN }, pins := { io18 := s.pins.io18 },
      kpr := { log := s.kpr.log, logCount := s.kpr.logCount, boots := s.kpr.boots } })
  ∧ (∀ s : State, s.boot.porN = true → ∃ t : State, exec .perstNAssert s = .next t
    ∧ t.kpr.log = s.kpr.log ∧ t.kpr.logCount = s.kpr.logCount ∧ t.kpr.boots = s.kpr.boots ∧ t.kpr.fault = s.kpr.fault
    ∧ t.kpr.tick = s.kpr.tick ∧ t.kpr.event = (if s.kpr.safe then s.kpr.event ||| 2 else s.kpr.event)
    ∧ t.kpr.safe = false ∧ t.kpr.armed = false ∧ t.kpr.lock = none ∧ t.kpr.stopped = false ∧ t.sup.fuses = s.sup.fuses
    ∧ t.sup.guard = s.sup.guard ∧ t.sup.v3v3Low = s.sup.v3v3Low ∧ t.sup.pwrWarn = s.sup.pwrWarn ∧ t.sup.guardGoodAt = s.sup.guardGoodAt
    ∧ t.boot = { porN := true, perstN := false } ∧ t.mem = {} ∧ t.host = {} ∧ t.bpm = {} ∧ t.pip = {} ∧ t.gate = Vector.replicate 56 {}
    ∧ t.fw = {} ∧ t.io = {} ∧ t.sched = {} ∧ t.str = {} ∧ t.lfn = {} ∧ t.ltn = Vector.replicate 2 {} ∧ t.ckpt = {} ∧ t.running = [])
  ∧ (∀ p : Supply, p.onReset.guard = false ∧ p.onReset.fuses = p.fuses ∧ p.onReset.flashSize = p.flashSize
    ∧ p.onReset.flashOp = none ∧ p.onReset.otpOp = none
    ∧ (p.flashOp = none → p.onReset.flash = p.flash ∧ p.onReset.eraseSusp = p.eraseSusp)
    ∧ (∀ b, p.flashOp = some (.erase b) → p.onReset.flash = p.flash ∧ p.onReset.eraseSusp = some b)
    ∧ (∀ a bs r, p.flashOp = some (.program a bs r) → p.onReset.flash = flashProgram p.flash a bs))
  ∧ (∀ s : State, s.boot.porN = false → exec .perstNAssert s = .next { s with boot := { s.boot with perstN := false } })
  ∧ (∀ (b : BitVec 2) (s : State), (s.boot.porN = true → exec (.porNRelease b) s = .next s)
    ∧ (s.boot.perstN = true → exec (.perstNRelease b) s = .next s))
  ∧ (∀ (b : BitVec 2) (s : State), s.boot.porN = false → ∃ t : State, exec (.porNRelease b) s = .next t ∧ t.boot.porN = true
    ∧ t.kpr.boots = satInc s.kpr.boots ∧ t.kpr.tick = 0 ∧ t.kpr.tickFrom = s.clock ∧ t.kpr.fault = s.kpr.fault &&& 0x5FF#11
    ∧ t.pins = { s.pins with io18 := true } ∧ t.boot.stage = s.boot.stage
    ∧ (s.boot.perstN = true → t.boot.bootSel = b ∧ t.boot.startAt = s.clock ∧ t.boot.stageAt = s.clock)
    ∧ (s.boot.perstN = false → t.boot.bootSel = s.boot.bootSel))
  ∧ (∀ (b : BitVec 2) (s : State), s.boot.perstN = false →
    (s.boot.porN = true → exec (.perstNRelease b) s = .next
      { s with boot := { s.boot with perstN := true, bootSel := b, startAt := s.clock, stageAt := s.clock }
               kpr := { s.kpr with fault := s.kpr.fault &&& 0x5FF#11, live := s.kpr.live &&& 0x5FF#11 } })
    ∧ (s.boot.porN = false → exec (.perstNRelease b) s = .next { s with boot := { s.boot with perstN := true } }))
  ∧ (∀ (b : BitVec 2) (s : State),
    (s.boot.perstN = true → s.boot.porN = true → exec (.hotReset b) s = .next (s.perstScope.resetReleased b)
      ∧ exec (.linkDownReset b) s = .next (s.perstScope.resetReleased b))
    ∧ (s.boot.perstN = false ∨ s.boot.porN = false → exec (.hotReset b) s = .next s ∧ exec (.linkDownReset b) s = .next s))
  ∧ (∀ s : State, exec .vddIo18Loss s = .next { s with pins := { s.pins with io18 := false }, kpr := {} })

/-- Boot goes through its stages (R78): a bad OTP field stops it in 0x01 (R107); the PLL locks in 0x02; the board configuration is read in 0x04 and must be valid
and fit the part (R86, R87, R105); in 0x05 an image is chosen, the one of the higher version where both headers pass, and read into the staging area; an
image accepted in 0x06 starts firmware, which holds its Hyldo code, and a refused one gives way to the other or to the host-load wait (R89, R90, R93); AVS
starts in 0x08 and the stage ends once no raise was requested for 1 ms, or after 25 ms, marking the part degraded on an AVS fault (R97); DRAM is initialised,
trained, regions set, and its ECC cleared in 0x09 to 0x0B (R98 to R100); self-tests and the switching on of the units follow (R101 to R103), and READY follows
0x0E with device time at 0 and the BOOT source raised (R81, R83, R326).
BOOT_HOST_GO checks the staged image: an accepted one ends the wait and boot goes on at stage 0x06 with it, a refused one leaves
HOST_IMAGE_INVALID with its reason and the boot time and the wait goes on (R81, R92). -/
def Obligations.BootStages : Prop :=
  (∀ (r : StageResult) (s : State), s.booting = true →
    (s.boot.stage = 0 → exec (.bootStageComplete r) s = .next (s.bootNext 1))
    ∧ (s.boot.stage = 1 → r.otpBad = none → exec (.bootStageComplete r) s = .next
        ((s.bootNext 2).updBoot (fun b => { b with secverMin := BitVec.ofNat 8 s.sup.fuses.secverMin })))
    ∧ (∀ i, s.boot.stage = 1 → r.otpBad = some i → exec (.bootStageComplete r) s = .next (s.bootStop .otpInvalid i))
    ∧ (s.boot.stage = 2 → exec (.bootStageComplete r) s = .next ((s.bootNext 3).updSup (fun p => { p with pllLock := true })))
    ∧ (s.boot.stage = 3 → exec (.bootStageComplete r) s = .next (s.bootNext 4))
    ∧ (s.boot.stage = 4 →
      (bcfgValid (s.flashRead 0 256) = false → bcfgValid (s.flashRead 0x10000 256) = false →
        exec (.bootStageComplete r) s = .next (s.bootStop .bcfgInvalid 3))
      ∧ ∀ c copy1, (bcfgValid (s.flashRead 0 256) = true ∧ c = s.flashRead 0 256 ∧ copy1 = false)
          ∨ (bcfgValid (s.flashRead 0 256) = false ∧ bcfgValid (s.flashRead 0x10000 256) = true ∧ c = s.flashRead 0x10000 256 ∧ copy1 = true) →
        (∀ off, bcfgMismatch s.sup.fuses.variantL c = some off → exec (.bootStageComplete r) s = .next
          ((s.updBoot (fun b => { b with bcfgCopy := copy1 })).bootStop .bcfgMismatch off))
        ∧ (bcfgMismatch s.sup.fuses.variantL c = none →
          (s.boot.bootSel ≠ 3 → exec (.bootStageComplete r) s = .next ((s.updBoot (·.takeBcfg copy1 c)).bootNext 5))
          ∧ (s.boot.bootSel = 3 → exec (.bootStageComplete r) s = .next (s.updBoot (·.takeBcfg copy1 c)).enterHostWait)))
    ∧ (s.boot.stage = 5 →
      (s.boot.image = .hostLoad → exec (.bootStageComplete r) s = .next (s.bootNext 6))
      ∧ (∀ t ok, s.boot.image ≠ .hostLoad → (t, ok) = (if s.boot.second then (s, true) else s.chooseImage r.headFailA r.headFailB) →
        (ok = false → exec (.bootStageComplete r) s = .next t.noValidImage)
        ∧ (ok = true → r.readFail = true → exec (.bootStageComplete r) s = .next (t.refuseImage .readFail))
        ∧ (ok = true → r.readFail = false → exec (.bootStageComplete r) s = .next (t.loadImage.bootNext 6))))
    ∧ (s.boot.stage = 6 →
      (s.boot.image = .hostLoad → exec (.bootStageComplete r) s = .next s.fwStart)
      ∧ (∀ q, s.boot.image ≠ .hostLoad → q = (if r.readFail then .readFail else imageReason s.sup.fuses s.stagingRead) →
        (q ≠ .ok → exec (.bootStageComplete r) s = .next (s.refuseImage q))
        ∧ (q = .ok → ∃ t : State, exec (.bootStageComplete r) s = .next t ∧ t.boot.stage = 7
          ∧ t.boot.image = (if s.boot.tryB then .b else .a) ∧ t.boot.imgVersion = BitVec.ofNat 32 (leAt (s.stagingRead 0 512) 12 4)
          ∧ t.boot.secVersion = BitVec.ofNat 8 (leAt (s.stagingRead 0 512) 8 4) ∧ t.boot.hylSram = Config.hyldoCode s.stagedBody
          ∧ t.kpr.wdogAt = some s.clock)))
    ∧ (s.boot.stage = 7 → exec (.bootStageComplete r) s = .next s.avsStart)
    ∧ (s.boot.stage = 8 →
      (s.sup.flashOp ≠ none ∨ s.sup.eraseSusp ≠ none ∨ s.avsSettled = false → exec (.bootStageComplete r) s = .next s)
      ∧ (s.sup.flashOp = none → s.sup.eraseSusp = none → s.avsSettled = true → exec (.bootStageComplete r) s = .next
        ((s.dramSetup.bootNext 9).updBoot (fun b => { b with degraded := b.degraded || s.sup.avsFault }))))
    ∧ (∀ c cs, s.boot.stage = 9 → r.dramFail = c :: cs → exec (.bootStageComplete r) s = .next (s.bootStop .dramInitFail c))
    ∧ (s.boot.stage = 9 → r.dramFail = [] → exec (.bootStageComplete r) s = .next (s.bootNext 0xA))
    ∧ (s.boot.stage = 10 → exec (.bootStageComplete r) s = .next ((s.oscKept r.osc).train r.sweeps))
    ∧ (∀ c cs, s.boot.stage = 11 → r.eccFail = c :: cs → exec (.bootStageComplete r) s = .next (s.bootStop .eccInitFail c))
    ∧ (s.boot.stage = 11 → r.eccFail = [] → ∃ t : State, exec (.bootStageComplete r) s = .next t ∧ t.boot.stage = 12
        ∧ t.mem.cells = [] ∧ t.mem.ecc = [] ∧ (∀ c : Fin 4, t.mem.dmc[c].ready = true) ∧ t.boot.fwDram = Config.firmwareParts s.stagedBody)
    ∧ (s.boot.stage = 12 → r.tableFail = true → exec (.bootStageComplete r) s = .next s.tablesFail)
    ∧ (s.boot.stage = 12 → r.tableFail = false → r.bistFail = [] → r.fwdFail = [] → exec (.bootStageComplete r) s = .next
        (({ s with mem := { s.mem with cells := [], ecc := [] }, boot := { s.boot with staging := [] } } : State).unitsStart))
    ∧ (s.boot.stage = 12 → r.tableFail = false → exec (.bootStageComplete r) s = .next
        (((List.finRange 4).foldl (fun s n => if r.fwdFail.contains n.val then s.strictMode n else s) s).selfTest r.bistFail))
    ∧ (s.boot.stage = 13 → s.sup.switchOn ≠ [] → exec (.bootStageComplete r) s = .next s)
    ∧ (s.boot.stage = 13 → s.sup.switchOn = [] → exec (.bootStageComplete r) s = .next s.unitsDone)
    ∧ (s.boot.stage = 14 → ∃ t : State, exec (.bootStageComplete r) s = .next t ∧ t.boot.stage = 0xF ∧ t.kpr.readySeen = true
        ∧ t.boot.timeMs = s.bootMs ∧ t.boot.staging = [] ∧ t.io.tbs.running = true ∧ t.io.tbs.now = 0 ∧ t.host.int.boot = true))
  ∧ (∀ (r : StageResult) (s : State), s.booting = false → exec (.bootStageComplete r) s = .next s)
  ∧ (∀ (s t : State) (ok fa fb : Bool), s.boot.bootSel = 0 → (t, ok) = s.chooseImage fa fb →
    (s.headReason false fa ≠ .ok → s.headReason true fb ≠ .ok → ok = false)
    ∧ (s.headReason false fa = .ok → s.headReason true fb = .ok → ok = true
      ∧ (t.boot.tryB = true ↔ leAt (s.imageHeader false) 12 4 < leAt (s.imageHeader true) 12 4))
    ∧ (s.headReason false fa = .ok → s.headReason true fb ≠ .ok → ok = true ∧ t.boot.tryB = false)
    ∧ (s.headReason false fa ≠ .ok → s.headReason true fb = .ok → ok = true ∧ t.boot.tryB = true))
  ∧ (∀ s : State, s.unitsStart.boot.stage = 13 ∧ ∀ u : Fin 56, bitOf s.boot.fenced.toNat u.val = false → s.unitAbsent u.val = false →
    s.unitsStart.gate[u] = { powered := !unitGateable u.val } ∧ (unitGateable u.val = true → u.val ∈ s.unitsStart.sup.switchOn))
  ∧ (∀ (s : State) (n : BitVec 4), (s.bootNext n).boot.stage = n ∧ (s.bootNext n).boot.stageAt = s.clock)
  ∧ (∀ s : State, s.boot.hostWait = true → s.boot.porN = true → s.boot.perstN = true →
    (s.stagedReason s.boot.hostLen.toNat = .ok → ∃ t : State, exec .bootHostGo s = .next t ∧ t.boot.hostWait = false
      ∧ t.boot.image = .hostLoad ∧ t.boot.stage = 6 ∧ t.boot.error = false)
    ∧ (∀ r, s.stagedReason s.boot.hostLen.toNat = r → r ≠ .ok → ∃ t : State, exec .bootHostGo s = .next t ∧ t.boot.hostWait = true
      ∧ t.boot.error = true ∧ t.boot.errCode = .hostImageInvalid ∧ t.boot.errDetail = BitVec.ofNat 16 r.code ∧ t.boot.timeMs = s.bootMs
      ∧ t.boot.stage = s.boot.stage ∧ t.host.int.boot = true))
  ∧ (∀ s : State, s.boot.hostWait = false → exec .bootHostGo s = .next s)

/-- A boot failure stops boot: the code, the stage and the detail are kept, the BOOT source and the Keeper's BOOT fault raised (R107); so a stage past its
maximum, whose visits to stages 0x05 and 0x06 count together (R104), a PLL without lock (R106) and a flash without a response (R105) after 1 ms, a unit
that is not ready 1 ms after its power-on (R103) and the lockstep check within its first 1 ms (R95) do, and none of them does at another time.
A training sweep takes the middle of the longest run of passing taps, ties to the lower first tap (R99); training stops at the first window that is too
short, lane by lane, the read window first (log entry 122), and goes on to stage 0x0B with the regions set when none is (R99, R221). -/
def Obligations.BootFailures : Prop :=
  (∀ s : State, s.booting = true →
    (s.boot.stage ≠ 0 → 1000 * stageMaxMs.getD s.boot.stage.toNat 0 < s.stageSpent →
      exec .bootStageTimeout s = .next (s.bootStop .stageTimeout s.boot.stage.toNat))
    ∧ (s.boot.stage = 0 ∨ s.stageSpent ≤ 1000 * stageMaxMs.getD s.boot.stage.toNat 0 → exec .bootStageTimeout s = .next s)
    ∧ (s.boot.stage = 2 → s.boot.stageAt + 1000 ≤ s.clock →
      exec .pllNoLock s = .next (({ s with sup := { s.sup with pllLock := false } } : State).bootStop .pllNoLock 0))
    ∧ (s.boot.stage ≠ 2 ∨ s.clock < s.boot.stageAt + 1000 → exec .pllNoLock s = .next s)
    ∧ (s.boot.stage = 4 → s.boot.stageAt + 1000 ≤ s.clock → exec .flashNoResponse s = .next (s.bootStop .flashNoResponse 0))
    ∧ (s.boot.stage ≠ 4 ∨ s.clock < s.boot.stageAt + 1000 → exec .flashNoResponse s = .next s)
    ∧ (∀ u p, s.boot.stage = 13 → s.liveUnit u = true → (s.gateN u).poweredAt = some p →
      (p + 1000 ≤ s.clock → exec (.unitInitFail u) s = .next (s.bootStop .unitInitFail u))
      ∧ (s.clock < p + 1000 → exec (.unitInitFail u) s = .next s))
    ∧ (∀ u, s.boot.stage ≠ 13 ∨ s.liveUnit u = false ∨ (s.gateN u).poweredAt = none → exec (.unitInitFail u) s = .next s)
    ∧ (s.boot.stage = 7 → s.clock ≤ s.boot.stageAt + 1000 → exec .lockstepFail s = .next (s.bootStop .lockstepFail 0))
    ∧ (s.boot.stage ≠ 7 ∨ s.boot.stageAt + 1000 < s.clock → exec .lockstepFail s = .next s))
  ∧ (∀ s : State, s.stageSpent = s.clock - s.boot.stageAt
    + (if s.boot.stage = 5 then s.boot.loadSpent else if s.boot.stage = 6 then s.boot.verifySpent else 0))
  ∧ (∀ (s : State) (e : BootErr) (d : Nat), (s.bootStop e d).boot.error = true ∧ (s.bootStop e d).boot.stopped = true
    ∧ (s.bootStop e d).boot.errCode = e ∧ (s.bootStop e d).boot.errStage = BitVec.ofNat 8 s.boot.stage.toNat
    ∧ (s.bootStop e d).boot.errDetail = BitVec.ofNat 16 d ∧ (s.bootStop e d).boot.stage = s.boot.stage
    ∧ (s.bootStop e d).boot.timeMs = s.bootMs ∧ (s.bootStop e d).host.int.boot = true)
  ∧ (∀ (taps : List Bool) (a n : Nat), longestRun taps = (a, n) → taps.length ≤ 128 →
    (∀ i, i < n → taps.getD (a + i) false = true)
    ∧ (∀ b m, (∀ i, i < m → taps.getD (b + i) false = true) → m ≤ n ∧ (m = n → 0 < n → a ≤ b))
    ∧ (0 < n → sweepEye taps = (BitVec.ofNat 8 ((a + (a + n - 1)) / 2), BitVec.ofNat 8 n)))
  ∧ (∀ (s t : State) (n : Fin 16) (x : List Bool × List Bool) (o : Option Nat), (t, o) = s.trainLane n x →
    ((sweepEye x.1).2.toNat < s.boot.minEye → o = some (n.val + 256 * (sweepEye x.1).2.toNat))
    ∧ (s.boot.minEye ≤ (sweepEye x.1).2.toNat → (sweepEye x.2).2.toNat < s.boot.minEye →
      o = some (n.val + 16 + 256 * (sweepEye x.2).2.toNat))
    ∧ (s.boot.minEye ≤ (sweepEye x.1).2.toNat → s.boot.minEye ≤ (sweepEye x.2).2.toNat → o = none
      ∧ t.boot.eyes[n] = { s.boot.eyes[n] with rdCentre := (sweepEye x.1).1, rdWidth := (sweepEye x.1).2
                                               wrCentre := (sweepEye x.2).1, wrWidth := (sweepEye x.2).2 }))
  ∧ (∀ (s : State) (xs : List (List Bool × List Bool)),
    (∀ n : Fin 16, s.boot.minEye ≤ (sweepEye (xs.getD n.val ([], [])).1).2.toNat
      ∧ s.boot.minEye ≤ (sweepEye (xs.getD n.val ([], [])).2).2.toNat) →
    (s.train xs).boot.stage = 11 ∧ (s.train xs).boot.stopped = s.boot.stopped
    ∧ (s.train xs).mem.region[(0 : Fin 8)] = { size := 0x10000000, en := true, grain := 8, ways := 2 })

/-! ### Supply, temperature, time base -/

/-- Droop: a trip begins a stretch, counted when it begins from /10, cancels a lowering that waits and bars another for 10 ms; a block's end ends it while no
detector is tripped, and its cycles at /12 because of droop count, 64 where droop alone asked throughout, none where another request stood throughout
(R46, R48). The switch steps turn the next domain on, 5 µs after the last at the earliest (R61).
Adaptive voltage: with the setpoint inside its limits, a worst code of 8 to 16 changes nothing but what waits, one below 8 raises the setpoint by one step
and one below 4 by four, up to CEIL, and at CEIL sets AVS_LIMIT; one above 16 starts the 1 ms timer, not within the 10 ms after a droop (R50; log entry 116); a
setpoint outside its limits is brought inside (R54); a request waits 20 µs (R51) and sends code × 2.5 mV (R52); an acknowledged voltage takes effect and the
status is read after it (R52; log entry 115); a frame is retried up to three times, then AVS stops with AVS_FAULT (R52, R73), which a clear ends (R73);
AVS is enabled and disabled (R97). -/
def Obligations.AdaptiveVoltage : Prop :=
  (∀ s : State, s.poweredOn = true → s.sup.droop = false → ∃ t : State, exec .droopTrip s = .next t ∧ t.sup.droop = true
      ∧ t.sup.droopMixed = false ∧ t.sup.droopCount = (if s.coreDiv = 10 then satInc s.sup.droopCount else s.sup.droopCount)
      ∧ t.sup.event = s.sup.event ||| 2 ∧ t.sup.avsLowerDue = none
      ∧ t.sup.avsHoldoff = (if s.sup.avsLowerDue.isSome then some (s.clock + 10000) else s.sup.avsHoldoff)
      ∧ t.sup.setCode = s.sup.setCode ∧ t.mem = s.mem)
  ∧ (∀ s : State, s.poweredOn = true → s.sup.droop = true →
    (s.sup.avsLowerDue = none → exec .droopTrip s = .next s)
    ∧ (s.sup.avsLowerDue.isSome = true → exec .droopTrip s = .next
      { s with sup := { s.sup with avsLowerDue := none, avsHoldoff := some (s.clock + 10000) } }))
  ∧ (∀ (e : DroopEnd) (s : State) (n : Nat), s.poweredOn = true → s.sup.droop = true →
    n = (if s.sup.droopMixed then min 64 e.cycles else if s.sup.droopOnly then 64 else 0) →
    exec (.droopBlockEnd e) s = .next { s with
      sup := { s.sup with droop := e.again, droopMixed := false, stretchCycles := s.sup.stretchCycles + BitVec.ofNat 32 n }
      kpr := { s.kpr with winExp := s.kpr.winExp.map (· - 3 * n) } })
  ∧ (∀ (s : State) (u : Nat) (us : List Nat), s.poweredOn = true → s.sup.switchOn = u :: us →
    (s.switchFree = false → exec .powerSwitchOnStep s = .next s)
    ∧ (∀ v : State, s.switchFree = true → v = ({ s with sup := { s.sup with switchOn := us, switchAt := some s.clock } } : State).updGate u
        (fun g => { g with powered := true, poweredAt := some s.clock }) →
      (s.sup.toActive = false ∨ s.live = false → exec .powerSwitchOnStep s = .next v)
      ∧ (s.sup.toActive = true → s.live = true → us ≠ [] → exec .powerSwitchOnStep s = .next (v.unitBack u))
      ∧ (s.sup.toActive = true → s.live = true → us = [] → exec .powerSwitchOnStep s = .next (v.unitBack u).activeNow)))
  ∧ (∀ s : State, s.switchFree = true ↔ ∀ t, s.sup.switchAt = some t → t + 5 ≤ s.clock)
  ∧ (∀ (worst : Nat) (s v : State), s.poweredOn = true → s.sup.avsRuns = true → worst ≤ 63 →
    v = (if 8 ≤ worst && s.sup.avsLimit then { s with sup := { s.sup.mixed with avsLimit := false } } else s) →
    (s.sup.setCode.toNat < s.sup.floor.toNat → s.sup.floor.toNat ≤ s.sup.ceil.toNat →
      exec (.avsEvaluation worst) s = .next (v.avsRequest s.sup.floor.toNat))
    ∧ (s.sup.ceil.toNat < s.sup.setCode.toNat → s.sup.floor.toNat ≤ s.sup.ceil.toNat →
      exec (.avsEvaluation worst) s = .next (v.avsRequest s.sup.ceil.toNat))
    ∧ (s.sup.floor.toNat ≤ s.sup.setCode.toNat → s.sup.setCode.toNat ≤ s.sup.ceil.toNat →
      (8 ≤ worst → worst ≤ 16 → exec (.avsEvaluation worst) s = .next { v with sup := { v.sup with avsLowerDue := none } })
      ∧ (worst < 8 → s.sup.setCode.toNat < s.sup.ceil.toNat → exec (.avsEvaluation worst) s = .next
        (({ s with sup := { s.sup with avsLowerDue := none, avsRaiseAt := some s.clock } } : State).avsRequest
          (min s.sup.ceil.toNat (s.sup.setCode.toNat + if worst < 4 then 4 else 1))))
      ∧ (worst < 8 → s.sup.setCode.toNat = s.sup.ceil.toNat → s.sup.avsLimit = true → exec (.avsEvaluation worst) s = .next
        { s with sup := { s.sup with avsLowerDue := none } })
      ∧ (worst < 8 → s.sup.setCode.toNat = s.sup.ceil.toNat → s.sup.avsLimit = false → ∃ t : State,
        exec (.avsEvaluation worst) s = .next t ∧ t.sup.avsLimit = true ∧ t.sup.event = s.sup.event ||| 0x10
        ∧ t.sup.setCode = s.sup.setCode ∧ t.sup.avsFrame = s.sup.avsFrame)
      ∧ (∀ due, 16 < worst → due = (if s.sup.avsHoldoff.isSome then none else some (s.sup.avsLowerDue.getD (s.clock + 1000))) →
        exec (.avsEvaluation worst) s = .next { v with sup := { v.sup with avsLowerDue := due } })))
  ∧ (∀ (s : State) (code : Nat), (s.avsRequest code).sup.avsSettle = some (s.clock + 20) ∧ (s.avsRequest code).sup.avsFrame = some { code := code }
    ∧ .avsbus 0 true 0 (avsMv code) ∈ (s.avsRequest code).out ∧ 10 * avsMv code ≤ 25 * code + 5 ∧ 25 * code ≤ 10 * avsMv code)
  ∧ (∀ (s : State) (d : Nat), s.poweredOn = true → s.sup.avsRuns = true → s.sup.avsLowerDue = some d →
    (s.clock < d → exec .avsLowerTimer s = .next s)
    ∧ (d ≤ s.clock → s.sup.floor.toNat < s.sup.setCode.toNat → exec .avsLowerTimer s = .next
      (({ s with sup := { s.sup with avsLowerDue := some (s.clock + 1000) } } : State).avsRequest (s.sup.setCode.toNat - 1)))
    ∧ (d ≤ s.clock → s.sup.setCode.toNat ≤ s.sup.floor.toNat → exec .avsLowerTimer s = .next
      { s with sup := { s.sup with avsLowerDue := some (s.clock + 1000) } }))
  ∧ (∀ (s : State) (d : Nat), s.poweredOn = true →
    (d ≤ s.clock → s.sup.avsSettle = some d → exec .avsSettleWaitEnd s = .next { s with sup := { s.sup with avsSettle := none } })
    ∧ (s.clock < d → s.sup.avsSettle = some d → exec .avsSettleWaitEnd s = .next s)
    ∧ (d ≤ s.clock → s.sup.avsHoldoff = some d → exec .avsDroopHoldoffEnd s = .next { s with sup := { s.sup with avsHoldoff := none } })
    ∧ (s.clock < d → s.sup.avsHoldoff = some d → exec .avsDroopHoldoffEnd s = .next s))
  ∧ (∀ (mv : BitVec 16) (s : State) (f : AvsFrame), s.poweredOn = true → s.sup.avsFrame = some f →
    (f.status = false → exec (.avsbusFrameDone true mv) s = .next (({ s with sup := { s.sup with
        avsFrame := some { status := true }, setCode := BitVec.ofNat 16 f.code, measMv := mv } } : State).emit (.avsbus 0xE false 0 0)))
    ∧ (f.status = true → exec (.avsbusFrameDone true mv) s = .next { s with sup := { s.sup with avsFrame := none, measMv := mv } })
    ∧ (f.retries < 3 → exec (.avsbusFrameDone false mv) s = .next
      (({ s with sup := { s.sup with avsFrame := some { f with retries := f.retries + 1 }, measMv := mv } } : State).emit f.out))
    ∧ (3 ≤ f.retries → ∃ t : State, exec (.avsbusFrameDone false mv) s = .next t ∧ t.sup.avsFault = true ∧ t.sup.avsFrame = none
      ∧ t.sup.event = s.sup.event ||| 0x20 ∧ t.sup.avsRuns = false ∧ t.sup.setCode = s.sup.setCode))
  ∧ (∀ (ok : Bool) (mv : BitVec 16) (s : State), s.poweredOn = true → s.sup.avsFrame = none →
    exec (.avsbusFrameDone ok mv) s = .next { s with sup := { s.sup with measMv := mv } })
  ∧ (∀ s : State, s.barUp = true →
    (s.sup.avsFault = true → exec .supAvsClearFault s = .next { s with sup := { s.sup.mixed with avsFault := false } })
    ∧ (s.sup.avsFault = false → exec .supAvsClearFault s = .next s))
  ∧ (∀ s : State, s.barUp = true ∨ (s.poweredOn = true ∧ s.boot.stage = 8 ∧ s.boot.stopped = false) →
    exec (.supAvsEnable true) s = .next { s with sup := { s.sup with avsEn := true } }
    ∧ exec (.supAvsEnable false) s = .next { s with sup := { s.sup with avsEn := false, avsLowerDue := none } })

/-- The throttle (R55): a reading at the threshold raises the level to 1 and one 3 °C above it to 2; the dwell of 10 ms at level 1 raises it to 2, 100 ms below
the threshold less the hysteresis lowers it by one, and to 1 at least while a sensor is invalid (R72; log entry 118); a sensor whose reading has not changed
for 1 s is invalid, and the level then at least 1, outside STANDBY (R71, R72). A reading takes the hottest valid sensor, keeps each Tower's temperature and marks
those at 95 °C and more, whatever else (R55, R59). -/
def Obligations.Throttle : Prop :=
  (∀ (s : State) (d : Nat), s.poweredOn = true → s.sup.throttle = 1 → s.sup.dwellDue = some d →
    (d ≤ s.clock → exec .throttleDwellExpiry s = .next (s.setThrottle 2))
    ∧ (s.clock < d → exec .throttleDwellExpiry s = .next s))
  ∧ (∀ (s : State) (d : Nat), s.poweredOn = true → s.sup.releaseDue = some d →
    (s.clock < d → exec .throttleReleaseExpiry s = .next s)
    ∧ (d ≤ s.clock →
      (s.sup.throttle = 2 → ∃ t : State, exec .throttleReleaseExpiry s = .next t ∧ t.sup.throttle = 1
        ∧ t.sup.releaseDue = some (s.clock + 100000))
      ∧ (s.sup.throttle = 1 → s.sup.sensorBad = true → exec .throttleReleaseExpiry s = .next
        { s with sup := { s.sup with releaseDue := some (s.clock + 100000) } })
      ∧ (s.sup.throttle = 1 → s.sup.sensorBad = false → ∃ t : State, exec .throttleReleaseExpiry s = .next t ∧ t.sup.throttle = 0
          ∧ t.sup.releaseDue = none ∧ t.pins.thermLow = false)))
  ∧ (∀ (n : Fin 12) (s : State) (c : Nat), s.poweredOn = true → s.sup.temps[n].changedAt = some c →
    (s.clock < c + 1000000 → exec (.sensorStuckTimeout n) s = .next s)
    ∧ (c + 1000000 ≤ s.clock →
      (s.sup.power ≠ .standby → n.val ≤ 10 → s.sup.throttle = 0 → ∃ t : State, exec (.sensorStuckTimeout n) s = .next t
        ∧ t.sup.throttle = 1 ∧ t.sup.temps[n].valid = false ∧ t.sup.temps[n].stuck = true ∧ t.pins.thermLow = true)
      ∧ (s.sup.power = .standby ∨ 10 < n.val ∨ s.sup.throttle ≠ 0 → exec (.sensorStuckTimeout n) s = .next { s with sup := { s.sup with
          temps := updAt s.sup.temps n (fun t => { t with valid := false, stuck := true }) } })))
  ∧ (∀ (n : Fin 12) (s : State), s.sup.temps[n].changedAt = none → exec (.sensorStuckTimeout n) s = .next s)
  ∧ (∀ (s : State) (l : Fin 3), l ≠ s.sup.throttle → (s.setThrottle l).sup.throttle = l ∧ ((s.setThrottle l).pins.thermLow = true ↔ l ≠ 0)
    ∧ (s.setThrottle l).sup.event = s.sup.event ||| (if s.sup.throttle < l then 4 else 8))
  ∧ (∀ (temps : Vector (BitVec 16) 12) (valid : Vector Bool 12) (s : State), s.poweredOn = true →
    ∃ t : State, exec (.tempSensorRead temps valid) s = .next t ∧ t.mem.cells = s.mem.cells ∧ t.host.mbx = s.host.mbx
      ∧ (∀ i : Fin 8, t.sup.towerTemp[i] = temps[i.val] ∧ t.sup.hot.getLsbD i.val = decide (380 ≤ (temps[i.val]).toInt))
      ∧ (∀ i : Fin 12, t.sup.temps[i] = s.sup.temps[i].read s.clock temps[i] (valid[i] && (i.val != 11 || s.sup.fuses.variantL)))
      ∧ ∀ m i, s.injected 8 0 = false → hottest t.sup.temps.toList = some (m, i) →
        t.sup.tmax = BitVec.ofInt 16 m ∧ t.sup.tmaxIndex = BitVec.ofNat 8 i)
  ∧ (∀ (p : Supply) (m : Int), p.power ≠ .standby →
    (4 * (p.throttleC.toNat : Int) + 12 ≤ m → p.throttle ≠ 2 → p.nextLevel m = 2) ∧ (p.throttle = 2 → p.nextLevel m = 2)
    ∧ (p.throttle = 0 → 4 * (p.throttleC.toNat : Int) ≤ m → m < 4 * (p.throttleC.toNat : Int) + 12 → p.nextLevel m = 1)
    ∧ (p.throttle = 0 → m < 4 * (p.throttleC.toNat : Int) → p.nextLevel m = if p.sensorBad then 1 else 0))
  ∧ (∀ (p : Supply) (m : Int) (now : Nat), p.throttle = 1 →
    (4 * (p.throttleC.toNat : Int) ≤ m → (p.timers m now).dwellDue = some (p.dwellDue.getD (now + 10000)))
    ∧ (m < 4 * (p.throttleC.toNat : Int) → (p.timers m now).dwellDue = none)
    ∧ (m < 4 * (p.throttleC.toNat : Int) - 4 * (p.hystC.toNat : Int) → (p.timers m now).releaseDue = some (p.releaseDue.getD (now + 100000)))
    ∧ (4 * (p.throttleC.toNat : Int) - 4 * (p.hystC.toNat : Int) ≤ m → (p.timers m now).releaseDue = none))
  ∧ ∀ (ts : List Sensor) (m : Int) (i : Nat), hottest ts = some (m, i) → (∀ x ∈ ts, x.valid = true → x.temp.toInt ≤ m)
    ∧ ∃ x, ts[i]? = some x ∧ x.valid = true ∧ x.temp.toInt = m

/-- The time base: a Sync is stamped and makes PTP available (R327, R329), its Follow_Up gives the offset, a Delay_Req is stamped where it leaves and its
Delay_Resp gives the path delay (R329), a message of another domain or transport is not taken; a PTM dialogue makes PTM available
(R327), requests leave every 10 ms (R329); four edges in a row at good intervals qualify PPS, two bad ones and no edge for 1,500 ms lose it (R328); the source is
the best one available (R327, R330); an offset within 1 µs for 10 s locks (R329); PTP_PPS_OUT is high for the first 1 ms of each second (R330); device time
advances by 800 × STEP in an idle microsecond (R326). -/
def Obligations.TimeBase : Prop :=
  (∀ (e : Fin 2) (d : Nat) (m : PtpIn) (s : State), s.live = true →
    (s.ethUp e = false ∨ s.io.eth[e].ptp.en = false ∨ s.io.eth[e].ptp.domain ≠ d ∨ s.io.eth[e].ptp.transport ≠ m.transport →
      exec (.ptpMessageReceive e d m) s = .next s)
    ∧ (s.ethUp e = true → s.io.eth[e].ptp.en = true → s.io.eth[e].ptp.domain = d → s.io.eth[e].ptp.transport = m.transport →
      (m.msg = .sync → exec (.ptpMessageReceive e d m) s = .next (({ s with io := { s.io with tbs := { s.io.tbs with
        sync := some (s.clock, e.val), syncAt := some (s.devTime.toNat : Int) } } } : State).chooseSource))
      ∧ (∀ t1, m.msg = .followUp t1 → s.io.tbs.syncAt = none → exec (.ptpMessageReceive e d m) s = .next s)
      ∧ (∀ t1 t2 u, m.msg = .followUp t1 → s.io.tbs.syncAt = some t2 →
        u = { s with io := { s.io with tbs := { s.io.tbs with syncTimes := some (t1, t2), syncAt := none } } } →
        exec (.ptpMessageReceive e d m) s = .next (if s.io.tbs.source = .ptp then u.servo (t2 - t1 - s.io.tbs.delay) else u))
      ∧ (∀ t1 t2 t3 t4, m.msg = .delayResp t4 → s.io.tbs.syncTimes = some (t1, t2) → s.io.tbs.reqAt = some t3 →
        exec (.ptpMessageReceive e d m) s = .next { s with io := { s.io with tbs := { s.io.tbs with
          delay := ((t2 - t1) + (t4 - t3)) / 2, reqAt := none } } })
      ∧ (∀ t4, m.msg = .delayResp t4 → s.io.tbs.syncTimes = none ∨ s.io.tbs.reqAt = none →
        exec (.ptpMessageReceive e d m) s = .next s)
      ∧ (m.msg = .other → exec (.ptpMessageReceive e d m) s = .next s)))
  ∧ (∀ (e : Fin 2) (s : State), s.live = true →
    (s.ethUp e = true → s.io.eth[e].ptp.en = true → s.io.tbs.syncTimes.isSome = true → exec (.ptpDelayReqSend e) s = .next
      (({ s with io := { s.io with tbs := { s.io.tbs with reqAt := some (s.devTime.toNat : Int) } } } : State).emit
        (.delayReq e.val s.io.eth[e].ptp.transport)))
    ∧ (s.ethUp e = false ∨ s.io.eth[e].ptp.en = false ∨ s.io.tbs.syncTimes = none → exec (.ptpDelayReqSend e) s = .next s))
  ∧ (∀ s : State, s.live = true →
    (s.io.tbs.ptmEnable = true → s.canRequest = true → s.io.tbs.ptmDue ≤ s.clock →
      exec .ptmRequest s = .next (({ s with io := { s.io with tbs := { s.io.tbs with ptmDue := s.clock + 10000 } } } : State).emit .ptmRequest))
    ∧ (s.io.tbs.ptmEnable = false ∨ s.canRequest = false ∨ s.clock < s.io.tbs.ptmDue → exec .ptmRequest s = .next s))
  ∧ (∀ (off : Int) (s u : State), s.live = true → s.io.tbs.ptmEnable = true →
    u = ({ s with io := { s.io with tbs := { s.io.tbs with ptm := some s.clock } } } : State).chooseSource →
    exec (.ptmDialogueDone false off) s = .next s
    ∧ (u.io.tbs.source = .ptm → exec (.ptmDialogueDone true off) s = .next (u.servo off))
    ∧ (u.io.tbs.source ≠ .ptm → exec (.ptmDialogueDone true off) s = .next u))
  ∧ (∀ s : State, s.live = true →
    (s.io.tbs.ppsSeen = true → ppsBand (s.io.tbs.now - s.io.tbs.ppsIn).toNat = true →
      ∃ t : State, exec .ppsEdge s = .next t ∧ t.io.tbs.ppsIn = s.io.tbs.now ∧ t.io.tbs.ppsAt = s.clock ∧ t.io.tbs.ppsGood = s.io.tbs.ppsGood + 1
        ∧ (t.io.tbs.pps = true ↔ s.io.tbs.pps = true ∨ 3 ≤ s.io.tbs.ppsGood + 1))
    ∧ (s.io.tbs.ppsSeen = false → ∃ t : State, exec .ppsEdge s = .next t ∧ t.io.tbs.ppsIn = s.io.tbs.now ∧ t.io.tbs.ppsSeen = true
        ∧ t.io.tbs.ppsGood = 0)
    ∧ (s.io.tbs.ppsSeen = true → ppsBand (s.io.tbs.now - s.io.tbs.ppsIn).toNat = false → ∃ t : State, exec .ppsEdge s = .next t
        ∧ t.io.tbs.ppsGood = 0 ∧ (1 ≤ s.io.tbs.ppsBad → t.io.tbs.pps = false) ∧ (s.io.tbs.ppsBad = 0 → t.io.tbs.pps = s.io.tbs.pps)))
  ∧ (∀ s : State, s.live = true →
    (s.io.tbs.ppsSeen = true → s.io.tbs.ppsAt + 1500000 ≤ s.clock → exec .ppsTimeout s = .next
      (({ s with io := { s.io with tbs := { s.io.tbs with pps := false, ppsSeen := false, ppsGood := 0, ppsBad := 0 } } } : State).chooseSource))
    ∧ (s.io.tbs.ppsSeen = false ∨ s.clock < s.io.tbs.ppsAt + 1500000 → exec .ppsTimeout s = .next s))
  ∧ (∀ s : State, s.live = true → exec .disciplineSourceLoss s = .next s.chooseSource)
  ∧ (∀ s : State, s.chooseSource.io.tbs.source = s.bestSource)
  ∧ (∀ (s : State) (t : Nat), s.live = true → s.io.tbs.within = some t →
    (t + 10000000 ≤ s.clock → exec .tbsLockTimer s = .next { s with io := { s.io with tbs := { s.io.tbs with locked := true } } })
    ∧ (s.clock < t + 10000000 → exec .tbsLockTimer s = .next s))
  ∧ (∀ s : State, s.live = true →
    (s.io.tbs.now.toNat % 1000000000 < 1000000 → exec (.ppsOutPulse true) s = .next { s with pins := { s.pins with ppsOut := true } })
    ∧ (1000000 ≤ s.io.tbs.now.toNat % 1000000000 → exec (.ppsOutPulse false) s = .next { s with pins := { s.pins with ppsOut := false } }))
  ∧ (∀ t : Tbs, t.running = true → (tbsTick t).now.toNat * 2 ^ 32 + (tbsTick t).frac.toNat
      = (t.now.toNat * 2 ^ 32 + t.frac.toNat + 800 * t.step.toNat) % 2 ^ 96)

/-! ### The Keeper -/

/-- A latched fault: the log entry is written, the fault's bit is latched and live, DEVICE beside each class of R576 but THERMAL and BOOT, and SAFE_N is low (R576,
R581, R592); THERMAL places the device in OFF (R58). FAULT_N is low exactly while one of DEVICE, THERMAL and BOOT is latched
(R583). -/
def Obligations.Latching : Prop :=
  (∀ (s : State) (b : KprBit) (cause who : Nat) (v : U32),
    (s.latch b cause who v).kpr.fault.getLsbD b.idx = true ∧ (s.latch b cause who v).kpr.live.getLsbD b.idx = true
    ∧ (s.latch b cause who v).kpr.safe = false
    ∧ (s.latch b cause who v).kpr.logCount = s.kpr.logCount + 1
    ∧ (∀ i < 10, s.kpr.fault.getLsbD i = true → (s.latch b cause who v).kpr.fault.getLsbD i = true)
    ∧ (b = .clock ∨ b = .refclk ∨ b = .supply ∨ b = .watchdog ∨ b = .lockstep ∨ b = .keeper ∨ b = .device →
        (s.latch b cause who v).kpr.fault.getLsbD 1 = true ∧ (s.latch b cause who v).kpr.stopped = true)
    ∧ (b = .thermal → (s.latch b cause who v).sup.power = .off ∧ (s.latch b cause who v).kpr.stopped = s.kpr.stopped)
    ∧ (s.latch b cause who v).mem = s.mem ∧ (s.latch b cause who v).str = s.str)
  ∧ ∀ s : State, s.faultNLow = true ↔
    s.kpr.fault.getLsbD 1 = true ∨ s.kpr.fault.getLsbD 5 = true ∨ s.kpr.fault.getLsbD 9 = true

/-- The Keeper's monitors (R44, R63, R570, R576, R577): counts of a window inside their tolerances, a supply inside its window, a test that passes, 100 ms after
the last, and a kick with the next token 5 to 20 ms after the last change nothing else; outside them the fault of that class is latched, once, and so is the one
that an injection asks for (R585). A CLK_CORE count is held against the dividers in use during its window, which ends with KPR_TICK (R44; log entry 17). A
device fault is latched after READY (R562), a lockstep mismatch too (R576). -/
def Obligations.KeeperMonitors : Prop :=
  (∀ (counts : Vector Nat 5) (s : State), s.kprRuns = true →
    (s.kpr.winDone = none → exec (.keeperClockWindow counts) s = .next s)
    ∧ (∀ core, s.kpr.winDone = some core → 3 ≤ s.boot.stage → s.sup.power ≠ .off →
      (s.kpr.inject = none → (∀ i : Fin 5, clockOk core i.val counts[i] = true) →
        exec (.keeperClockWindow counts) s = .next { s with kpr := { s.kpr with winDone := none } })
      ∧ (∀ i : Fin 5, s.kpr.inject = none → clockOk core i.val counts[i] = false → (∀ j : Fin 5, j ≠ i → clockOk core j.val counts[j] = true) →
        exec (.keeperClockWindow counts) s = .next (({ s with kpr := { s.kpr with winDone := none } } : State).monitor
          (if i.val = 4 then .refclk else .clock) i.val (BitVec.ofNat 32 counts[i]) false))
      ∧ (∀ i : Fin 5, s.kpr.inject = some (6, i.val) → (∀ j : Fin 5, j ≠ i → clockOk core j.val counts[j] = true) →
        exec (.keeperClockWindow counts) s = .next (({ s with kpr := { s.kpr with winDone := none, inject := none } } : State).monitor
          (if i.val = 4 then .refclk else .clock) i.val (BitVec.ofNat 32 (counts[i] * 105 / 100)) true))))
  ∧ (∀ (core i c : Nat), i < 5 → (clockOk core i c = true ↔
    (clockExpected core).getD i 0 * (100 - if i = 4 then 10 else 2) ≤ 15 * c * 100
      ∧ 15 * c * 100 ≤ (clockExpected core).getD i 0 * (100 + if i = 4 then 10 else 2)))
  ∧ (∀ (s : State) (k : Keeper) (w : Nat), 3 ≤ s.boot.stage → s.sup.power ≠ .off → k.winExp = some w →
    ((s.clock + 1 - k.tickFrom) % 100 = 0 → (winTick s k).winDone = some (w + coreFifteenths s) ∧ (winTick s k).winExp = some 0)
    ∧ ((s.clock + 1 - k.tickFrom) % 100 ≠ 0 → (winTick s k).winDone = k.winDone ∧ (winTick s k).winExp = some (w + coreFifteenths s)))
  ∧ (∀ (n : Nat) (mv : U32) (s : State), s.kprRuns = true → n < 8 ∨ (n = 8 ∧ s.sup.fuses.variantL = true) →
    (s.kpr.inject = none → (supplyWindow s.sup.setCode.toNat n).1 ≤ mv.toNat → mv.toNat ≤ (supplyWindow s.sup.setCode.toNat n).2 →
      exec (.keeperSupplyFault n mv) s = .next s)
    ∧ (s.kpr.inject = none → mv.toNat < (supplyWindow s.sup.setCode.toNat n).1 ∨ (supplyWindow s.sup.setCode.toNat n).2 < mv.toNat →
      exec (.keeperSupplyFault n mv) s = .next (s.monitor .supply n mv false))
    ∧ (s.kpr.inject = some (7, n) →
      exec (.keeperSupplyFault n mv) s = .next (({ s with kpr := { s.kpr with inject := none } } : State).monitor .supply n mv true)))
  ∧ (∀ (n : Nat) (mv : U32) (s : State), 8 < n ∨ (n = 8 ∧ s.sup.fuses.variantL = false) → exec (.keeperSupplyFault n mv) s = .next s)
  ∧ (∀ (s v : State) (ok : Bool), s.kprRuns = true → v = { s with kpr := { s.kpr with selfAt := s.clock } } →
    (s.clock < s.kpr.selfAt + 100000 → exec (.keeperSelfTest ok) s = .next s)
    ∧ (s.kpr.selfAt + 100000 ≤ s.clock →
      (s.kpr.inject = none → exec (.keeperSelfTest true) s = .next v ∧ exec (.keeperSelfTest false) s = .next (v.monitor .keeper 0x35 0 false))
      ∧ (s.kpr.inject = some (0x0C, 0) → exec (.keeperSelfTest ok) s = .next
        (({ v with kpr := { v.kpr with inject := none } } : State).monitor .keeper 0x35 0 true)))
    ∧ exec .keeperSmMismatch s = .next (s.monitor .keeper 0x35 0 false))
  ∧ (∀ (token : Byte) (s : State) (t : Nat), s.kprRuns = true → s.kpr.wdogAt = some t →
    (s.kpr.inject ≠ some (9, 0) → token = s.kpr.wdogLast + 1 → t + 5000 ≤ s.clock → s.clock ≤ t + 20000 → exec (.kprWdogKick token) s = .next
      { s with kpr := { s.kpr with wdogLast := token, wdogAt := some s.clock } })
    ∧ (s.kpr.inject ≠ some (9, 0) → token ≠ s.kpr.wdogLast + 1 ∨ s.clock < t + 5000 ∨ t + 20000 < s.clock →
      exec (.kprWdogKick token) s = .next (s.monitor .watchdog 0x34 0 false))
    ∧ (s.kpr.inject = some (9, 0) → exec (.kprWdogKick token) s = .next
      (({ s with kpr := { s.kpr with inject := none } } : State).monitor .watchdog 0x34 0 true))
    ∧ (t + 20000 ≤ s.clock → exec .watchdogTimeout s = .next (s.monitor .watchdog 0x34 0 false))
    ∧ (s.clock < t + 20000 → exec .watchdogTimeout s = .next s))
  ∧ (∀ (token : Byte) (s : State), s.kpr.wdogAt = none → exec (.kprWdogKick token) s = .next s ∧ exec .watchdogTimeout s = .next s)
  ∧ (∀ (u d : Byte) (v : U32) (s : State), s.kprRuns = true →
    (s.boot.stage = 0xF → exec (.deviceFaultReport u d v) s = .next (s.deviceFault u.toNat d.toNat v)
      ∧ exec .hylLockstepMismatch s = .next (s.monitor .lockstep 0x34 0 false))
    ∧ (s.boot.stage ≠ 0xF → exec (.deviceFaultReport u d v) s = .next s ∧ exec .hylLockstepMismatch s = .next s))
  ∧ (∀ (s : State) (b : KprBit) (who : Nat) (v : U32) (inj : Bool),
    (s.kpr.fault.getLsbD b.idx = true → s.monitor b who v inj = s)
    ∧ (s.kpr.fault.getLsbD b.idx = false → (s.monitor b who v inj).kpr.fault.getLsbD b.idx = true))

/-- The stream watches of a supervised slot (R572), as the Keeper's ticks find them (R569): no arrival for two periods trips SOURCE, a frame that has not reached
stage pip 8 33 ms after its arrival trips DEADLINE with its sequence number, no OK record for two periods NO_RESULT while SOURCE has not tripped, none within
2 s of the start START; before that nothing happens, and of a slot that is not supervised never. A trip leaves the slot in FAULT with the cause. Injection 0x01 is
spent with the SOURCE trip that it brings about (R585).
SAFE_N is released at a tick only when the device has reached READY, is armed, no fault is latched, at least one slot is supervised and every supervised one is OK
(R580), and BEACON then rises and toggles every 500 µs, at the earliest 475 µs after it last did (R43, R582). -/
def Obligations.SafetyOutputs : Prop :=
  (∀ (n : Fin 64) (s : State) (k : KprSlot), s.kprRuns = true → k = s.kpr.slot[n] → k.supervised = true →
    (∀ t, k.lastArrivalAt = some t →
      (k.sourceTripped = false → t + 2 * k.periodUs.toNat ≤ s.kprTickAt → s.kpr.inject = none →
        exec (.sourceWatchExpiry n) s = .next ((s.streamFault n .source k.safetySeq false).updKslot n (fun k => { k with sourceTripped := true })))
      ∧ (k.sourceTripped = false → t + 2 * k.periodUs.toNat ≤ s.kprTickAt → s.kpr.inject = some (1, n.val) →
        exec (.sourceWatchExpiry n) s = .next ((({ s with kpr := { s.kpr with inject := none } } : State).streamFault n .source k.safetySeq
          true).updKslot n (fun k => { k with sourceTripped := true })))
      ∧ (k.sourceTripped = true ∨ s.kprTickAt < t + 2 * k.periodUs.toNat → exec (.sourceWatchExpiry n) s = .next s))
    ∧ (k.lastArrivalAt = none → exec (.sourceWatchExpiry n) s = .next s)
    ∧ (∀ a, k.armed = [a] → a.tripped = false → a.ignored = false → a.at_ + 33000 ≤ s.kprTickAt →
      ∃ t : State, exec (.deadlineWatchExpiry n) s = .next t ∧ t.kpr.slot[n].armed = [{ a with tripped := true }]
        ∧ t.kpr.slot[n].state = .fault ∧ t.kpr.slot[n].cause = k.cause ||| StreamCause.deadline.bit
        ∧ t = (s.streamFault n .deadline a.seq false).updKslot n (fun k => { k with armed := [{ a with tripped := true }] }))
    ∧ ((∀ a ∈ k.armed, a.tripped = true ∨ s.kprTickAt < a.at_ + 33000) → exec (.deadlineWatchExpiry n) s = .next s)
    ∧ (∀ t, k.lastOkAt = some t →
      (k.sourceTripped = false → k.fresh .noResult = true → t + 2 * k.periodUs.toNat ≤ s.kprTickAt →
        exec (.noResultWatchExpiry n) s = .next (s.streamFault n .noResult k.safetySeq false))
      ∧ (k.sourceTripped = true ∨ k.fresh .noResult = false ∨ s.kprTickAt < t + 2 * k.periodUs.toNat →
        exec (.noResultWatchExpiry n) s = .next s))
    ∧ (k.lastOkAt = none → exec (.noResultWatchExpiry n) s = .next s)
    ∧ (k.lastOkAt = none → k.fresh .start = true → k.startAt + 2000000 ≤ s.kprTickAt →
      exec (.startWatchExpiry n) s = .next (s.streamFault n .start k.safetySeq false))
    ∧ (k.lastOkAt ≠ none ∨ k.fresh .start = false ∨ s.kprTickAt < k.startAt + 2000000 → exec (.startWatchExpiry n) s = .next s))
  ∧ (∀ (n : Fin 64) (s : State), s.kpr.slot[n].supervised = false →
    exec (.sourceWatchExpiry n) s = .next s ∧ exec (.deadlineWatchExpiry n) s = .next s
    ∧ exec (.noResultWatchExpiry n) s = .next s ∧ exec (.startWatchExpiry n) s = .next s)
  ∧ (∀ s : State, s.kprTickAt ≤ s.clock ∧ s.clock < s.kprTickAt + 100)
  ∧ (∀ (n : Fin 64) (s : State) (c : StreamCause) (v : U32) (inj : Bool),
    (s.streamFault n c v inj).kpr.slot[n].state = .fault ∧ (s.streamFault n c v inj).kpr.slot[n].cause = s.kpr.slot[n].cause ||| c.bit
    ∧ (s.streamFault n c v inj).kpr.safe = false ∧ (∀ m : Fin 64, m ≠ n → (s.streamFault n c v inj).kpr.slot[m] = s.kpr.slot[m]))
  ∧ (∀ s : State, s.kprRuns = true → s.kpr.safe = false →
    (s.releaseOk = true → s.kprAtTick = true → ∃ t : State, exec .safeNRelease s = .next t ∧ t.kpr.safe = true ∧ t.kpr.beacon = true
      ∧ t.kpr.beaconAt = s.clock ∧ t.kpr.event = s.kpr.event ||| 4 ∧ t.kpr.fault = s.kpr.fault)
    ∧ (s.releaseOk = false ∨ s.kprAtTick = false → exec .safeNRelease s = .next s))
  ∧ (∀ s : State, s.releaseOk = true ↔ s.kpr.readySeen = true ∧ s.kpr.armed = true ∧ s.kpr.fault = 0
    ∧ (∃ n : Fin 64, s.kpr.slot[n].supervised = true) ∧ ∀ n : Fin 64, s.kpr.slot[n].supervised = true → s.kpr.slot[n].state = .ok)
  ∧ (∀ s : State, s.kprRuns = true →
    (s.kpr.safe = true → s.kpr.beaconAt + 475 ≤ s.clock →
      exec .beaconToggle s = .next { s with kpr := { s.kpr with beacon := !s.kpr.beacon, beaconAt := s.clock } })
    ∧ (s.kpr.safe = false ∨ s.clock < s.kpr.beaconAt + 475 → exec .beaconToggle s = .next s))

/-! ### Ingest -/

/-- A CSI-2 receiver in service (R332 to R336, R348): a burst on lanes 0, 0 to 1 or 0 to 3 is learned or must match, another and a lane fault lose every slot
bound to the receiver; a packet for a virtual channel that no running slot has is counted and changes nothing else than the header counts; a Frame Start
that passes its header ECC closes an open frame as damaged and opens a new one, and a Frame End completes the frame; a damaged header damages the open frame; a
long packet restarts the line timer, one that fails its CRC is counted, one of the slot's data type is a line, one of another data type of images is not
taken, and any other is ignored and counted (R332). A receiver out of service takes nothing. -/
def Obligations.CsiReceivers : Prop :=
  (∀ (n : Fin 6) (l : List Nat) (s : State), s.live = true → s.unitLive (0x28 + n.val) = true →
    (lanesOf l = none → exec (.csiHsBurstStart n l) s = .next (s.laneFault n))
    ∧ (∀ w, lanesOf l = some w → s.io.csi[n].lanes = 0 ∨ s.io.csi[n].lanes = w →
      exec (.csiHsBurstStart n l) s = .next (s.updCsi n (fun c => { c with lanes := w, locked := true })))
    ∧ (∀ w, lanesOf l = some w → s.io.csi[n].lanes ≠ 0 → s.io.csi[n].lanes ≠ w → exec (.csiHsBurstStart n l) s = .next (s.laneFault n))
    ∧ exec (.csiLaneFault n) s = .next (s.laneFault n))
  ∧ (∀ (n : Fin 6) (vc dt : Nat) (hdr : CsiHdr) (data : List Byte) (crcOk : Bool) (s u v : State), s.live = true →
    s.unitLive (0x28 + n.val) = true → u = s.csiHeader n hdr →
    v = (if crcOk then u else u.updCsi n (fun c => { c with crcErr := satInc c.crcErr })) →
    (u.csiSlot n vc = none → exec (.csiFrameStart n vc hdr) s = .next (u.csiUnbound n)
      ∧ exec (.csiLongPacket n vc dt hdr data crcOk) s = .next (u.csiUnbound n) ∧ exec (.csiFrameEnd n vc hdr) s = .next (u.csiUnbound n))
    ∧ (∀ k x, u.csiSlot n vc = some (k, x) → hdr = .bad → exec (.csiFrameStart n vc hdr) s = .next (u.damage k)
      ∧ exec (.csiLongPacket n vc dt hdr data crcOk) s = .next (u.damage k) ∧ exec (.csiFrameEnd n vc hdr) s = .next (u.damage k))
    ∧ (∀ k x w, u.csiSlot n vc = some (k, x) → hdr ≠ .bad → w = (u.damage k).csiDone k x →
      exec (.csiFrameStart n vc hdr) s = .next ((w.frameOpen k x { capture := w.devTime } w.clock n.val 0).lineStart k x)
      ∧ exec (.csiFrameEnd n vc hdr) s = .next (u.csiDone k x)
      ∧ (csiImage dt = true → dt = x.dt → exec (.csiLongPacket n vc dt hdr data crcOk) s = .next ((v.lineStart k x).csiLine k data crcOk))
      ∧ (csiImage dt = true → dt ≠ x.dt → exec (.csiLongPacket n vc dt hdr data crcOk) s = .next (v.lineStart k x))
      ∧ (csiImage dt = false → exec (.csiLongPacket n vc dt hdr data crcOk) s = .next ((v.lineStart k x).csiUnbound n))))
  ∧ (∀ (n : Fin 6) (vc dt : Nat) (l : List Nat) (hdr : CsiHdr) (data : List Byte) (crcOk : Bool) (s : State), s.unitLive (0x28 + n.val) = false →
    exec (.csiHsBurstStart n l) s = .next s ∧ exec (.csiLaneFault n) s = .next s ∧ exec (.csiFrameStart n vc hdr) s = .next s
    ∧ exec (.csiLongPacket n vc dt hdr data crcOk) s = .next s ∧ exec (.csiFrameEnd n vc hdr) s = .next s)
  ∧ (∀ (n : Fin 6) (s : State), (s.csiUnbound n).io.csi[n].unbound = satInc s.io.csi[n].unbound
    ∧ (s.csiHeader n (.good true)).io.csi[n].eccCe = satInc s.io.csi[n].eccCe
    ∧ (s.csiHeader n .bad).io.csi[n].eccUe = satInc s.io.csi[n].eccUe ∧ s.csiHeader n (.good false) = s)

/-- Source timers and stale records: a line timer that expires in an open frame, and a frame timer that expires while RUNNING, lose the
source, and not before they are due (R346, R348); the frame timer of a host ring that the device leaves unread restarts (log entry 129); a slot that has lost
its source gets a stale record at each due time (R350), none before it, and none while a frame is open.
A host ring (R343, R345, R354): the poll, every 100 µs or at once, reads PRODUCER, within the data area; an entry is taken while the ring holds one; a failed read
and a halt end in a damaged frame and the loss of source; a slot that does not read its ring is left alone. -/
def Obligations.SourcesAndRings : Prop :=
  (∀ (n : Fin 64) (s : State) (d : Nat), s.live = true →
    ((s.slotN n).ing.open_.isSome = true → (s.slotN n).ing.lineDue = some d →
      exec (.lineTimerExpiry n) s = .next (if d ≤ s.clock then s.sourceLost n .line else s))
    ∧ ((s.slotN n).ing.open_ = none ∨ (s.slotN n).ing.lineDue = none → exec (.lineTimerExpiry n) s = .next s)
    ∧ ((s.slotN n).state = .running → (s.slotN n).ing.frameDue = some d →
      (s.clock < d → exec (.frameTimerExpiry n) s = .next s)
      ∧ (d ≤ s.clock → s.ringIdle n = false → exec (.frameTimerExpiry n) s = .next (s.sourceLost n .frame))
      ∧ (∀ x, d ≤ s.clock → s.ringIdle n = true → (s.slotN n).src = some x → exec (.frameTimerExpiry n) s = .next
        (s.updIng n (fun i => { i with frameDue := some (s.clock + x.frameUs) }))))
    ∧ ((s.slotN n).state ≠ .running ∨ (s.slotN n).ing.frameDue = none → exec (.frameTimerExpiry n) s = .next s))
  ∧ (∀ (n : Fin 64) (s u : State) (m k : Nat) (due : U64), s.live = true → (s.slotN n).state = .stale →
    m = (s.slotN n).ing.dueCount s.devTime (s.slotN n).periodUs → k = (s.slotN n).ing.k →
    (m ≤ k → exec (.staleRecordDue n) s = .next s)
    ∧ (k < m → u = s.updIng n (fun i => { i with k := if i.k = 0 then m else i.k + 1 }) →
      ((s.slotN n).ing.open_.isSome = true → exec (.staleRecordDue n) s = .next u)
      ∧ ((s.slotN n).ing.open_ = none →
        due = (s.slotN n).ing.lastEnd + BitVec.ofNat 64 ((k + 1) * (s.slotN n).periodUs * 1000) →
        exec (.staleRecordDue n) s = .next ((u.number n).2.enqueueFrame n
          (staleFrame (u.number n).1 due (s.slotN n).ing.fenced (s.slotN n).par)))))
  ∧ (∀ (n : Fin 64) (s : State), (s.slotN n).state ≠ .stale → exec (.staleRecordDue n) s = .next s)
  ∧ (∀ (n : Nat) (c : LossCause) (s : State), (s.slotN n).state ≠ .running → (s.slotN n).state ≠ .stale → s.sourceLost n c = s)
  ∧ (∀ (n : Fin 64) (s : State) (x : SrcCfg), s.live = true → s.ringReads n = some x →
    (s.clock < (s.slotN n).ing.pollDue → ∀ h, exec (.hostRingPoll n h) s = .next s)
    ∧ ((s.slotN n).ing.pollDue ≤ s.clock →
      (∀ bs, exec (.hostRingPoll n (.data bs)) s = .next
        (s.updIng n (fun i => { i with producer := leAt bs 0 4 % max 1 x.ringArea, pollDue := s.clock + 100 })))
      ∧ exec (.hostRingPoll n .failed) s = .next (s.ringStop n x) ∧ exec (.hostRingPoll n .ue) s = .next (s.ringStop n x))
    ∧ exec (.hostRingHalt n) s = .next (s.ringStop n x)
    ∧ ((s.slotN n).ing.consumer ≠ (s.slotN n).ing.producer →
      (∀ bs, exec (.hostRingEntryCopy n (.data bs)) s = .next (s.ringEntry n x bs))
      ∧ exec (.hostRingEntryCopy n .failed) s = .next (s.ringStop n x) ∧ exec (.hostRingEntryCopy n .ue) s = .next (s.ringStop n x))
    ∧ (∀ h, (s.slotN n).ing.consumer = (s.slotN n).ing.producer → exec (.hostRingEntryCopy n h) s = .next s))
  ∧ (∀ (n : Fin 64) (s : State) (h : HostRead), s.ringReads n = none → exec (.hostRingPoll n h) s = .next s
    ∧ exec (.hostRingEntryCopy n h) s = .next s ∧ exec (.hostRingHalt n) s = .next s)
  ∧ (∀ (n : Nat) (s : State), (s.canRequest = false → s.ringReads n = none) ∧ ((s.slotN n).ing.ringHalt = true → s.ringReads n = none)
    ∧ ((s.slotN n).ing.shed = true → s.ringReads n = none) ∧ (s.paused n = true → s.ringReads n = none))

/-- The Ethernet commands (R204): ETH_PORT sets a port and answers BUSY for a change of speed or address of a port in use; ETH_NEIGHBOUR
sets or removes an entry; ETH_SESSION and ETH_FLOW set or remove theirs, BUSY while a running stream uses it, unless nothing changes, a flow NOT_FOUND without
its neighbour; ETH_PTP answers BUSY while the other port has PTP; ETH_STATS answers the six counters and clears them where asked.
Ethernet ingest: a frame with a bad check sequence is dropped and counted, one that is too long, that no session takes or that is not whole is dropped by its kind,
and the receiver of a port that is down takes nothing (R337); a port that is on follows its PCS lock, and drops what it holds when it goes down (R469); a packet
that fails its checks, one that comes late and one of a session without a running slot are dropped and counted (R338, R340); the gap timer passes missing
numbers (R340); an access unit whose assembly timer expires, and not before, completes damaged and is counted (R341, R346). The port sends its next
datagram by priority, in build order (R471). -/
def Obligations.EthernetPorts : Prop :=
  (∀ (c : HostCmd) (s : State) (e : Fin 2) (sp : BitVec 2) (mac : BitVec 48), cmdEthPort.accepts c s = true → e = portOf (c.f 8 1) →
    sp = BitVec.ofNat 2 (c.f 9 1) → mac = BitVec.ofNat 48 (c.be 12 6) →
    (s.ethUsed e.val = true → s.io.eth[e].mac ≠ mac ∨ s.io.eth[e].speed ≠ sp → exec (.ethPort c) s = .next (s.answer c 0x0B01 .busy []))
    ∧ (s.ethUsed e.val = false ∨ (s.io.eth[e].mac = mac ∧ s.io.eth[e].speed = sp) →
      exec (.ethPort c) s = .next ((s.updEth e (fun x => x.set sp (c.f 10 2) mac)).answer c 0x0B01 .ok []))
    ∧ ∀ x : Eth, (x.speed = sp → x.set sp (c.f 10 2) mac = { x with maxFrame := c.f 10 2, mac := mac })
      ∧ (x.speed ≠ sp → (x.set sp (c.f 10 2) mac).up = false ∧ (x.set sp (c.f 10 2) mac).queue = [] ∧ (x.set sp (c.f 10 2) mac).speed = sp
        ∧ (x.set sp (c.f 10 2) mac).maxFrame = c.f 10 2 ∧ (x.set sp (c.f 10 2) mac).mac = mac))
  ∧ (∀ (c : HostCmd) (s : State), cmdEthNeighbour.accepts c s = true →
    (∀ n : Neigh, c.f 9 1 = 1 → n = { mac := BitVec.ofNat 48 (c.be 10 6), vlan := c.f 16 2, ip := c.be 24 16 } →
      exec (.ethNeighbour c) s = .next (({ s with io := { s.io with neigh := insertN s.io.neigh (c.f 8 1) n } } : State).answer c
        0x0B02 .ok []))
    ∧ (c.f 9 1 = 0 → exec (.ethNeighbour c) s = .next (({ s with io := { s.io with neigh := eraseN s.io.neigh (c.f 8 1) } } : State).answer c
      0x0B02 .ok [])))
  ∧ (∀ (c : HostCmd) (s : State) (k : Fin 64) (new : Option SessCfg), cmdEthSession.accepts c s = true → c.f 8 1 = k.val →
    new = (if c.f 10 1 = 1 then some c.session else none) →
    (s.io.sess[k].cfg = new → exec (.ethSession c) s = .next (s.answer c 0x0B03 .ok []))
    ∧ (s.io.sess[k].cfg ≠ new → s.sessionUsed k.val = true → exec (.ethSession c) s = .next (s.answer c 0x0B03 .busy []))
    ∧ (s.io.sess[k].cfg ≠ new → s.sessionUsed k.val = false →
      exec (.ethSession c) s = .next ((s.updSess k (fun _ => { cfg := new })).answer c 0x0B03 .ok [])))
  ∧ (∀ (c : HostCmd) (s : State) (same : Bool), cmdEthFlow.accepts c s = true →
    same = (lookupN s.io.flow (c.f 8 1)).any (fun f => { f with ident := 0 } == c.flow) →
    (same = false → s.flowUsed (c.f 8 1) = true → exec (.ethFlow c) s = .next (s.answer c 0x0B04 .busy []))
    ∧ (same = true ∨ s.flowUsed (c.f 8 1) = false →
      (lookupN s.io.neigh (c.f 10 1) = none → exec (.ethFlow c) s = .next (s.answer c 0x0B04 .notFound []))
      ∧ (lookupN s.io.neigh (c.f 10 1) ≠ none → s.flowUsed (c.f 8 1) = true → exec (.ethFlow c) s = .next (s.answer c 0x0B04 .ok []))
      ∧ (lookupN s.io.neigh (c.f 10 1) ≠ none → s.flowUsed (c.f 8 1) = false →
        exec (.ethFlow c) s = .next (({ s with io := { s.io with flow := insertN s.io.flow (c.f 8 1) c.flow } } : State).answer c 0x0B04 .ok []))))
  ∧ (∀ (c : HostCmd) (s : State) (e o : Fin 2) (new : PtpCfg), cmdEthPtp.accepts c s = true → e = portOf (c.f 8 1) → o = portOf (e.val + 1) →
    new = { en := c.f 9 1 == 1, domain := c.f 10 1, transport := c.f 11 1 } →
    (s.io.eth[o].ptp.en = true → exec (.ethPtp c) s = .next (s.answer c 0x0B05 .busy []))
    ∧ (s.io.eth[o].ptp.en = false →
      (s.io.eth[e].ptp = new → exec (.ethPtp c) s = .next (s.answer c 0x0B05 .ok []))
      ∧ (s.io.eth[e].ptp ≠ new → exec (.ethPtp c) s = .next ((((s.updEth e (fun x => { x with ptp := new })).updTbs (fun t => { t with
          sync := none, syncAt := none, reqAt := none, syncTimes := none, delay := 0 })).chooseSource).answer c 0x0B05 .ok []))))
  ∧ (∀ (c : HostCmd) (s : State), cmdEthStats.accepts c s = true →
    exec (.ethStats c) s = .next ((if c.f 9 1 = 1 then s.updEth (portOf (c.f 8 1)) (fun x => { x with stat := Vector.replicate 6 0 })
      else s).answer c 0x0B06 .ok (s.io.eth[portOf (c.f 8 1)].stat.toList.flatMap (fun x => leBytes 8 x.toNat))))
  ∧ (∀ (e : Fin 2) (bs : List Byte) (s v : State), s.live = true → v = s.updEth e (·.count 0 1) →
    (s.ethUp e = false → exec (.ethFrameReceive e bs) s = .next s)
    ∧ (s.ethUp e = true → bs.length < 18 ∨ leAt bs (bs.length - 4) 4 ≠ (crc32 (bs.take (bs.length - 4))).toNat →
      exec (.ethFrameReceive e bs) s = .next (s.updEth e (·.count 1 1)))
    ∧ (s.ethUp e = true → 18 ≤ bs.length → leAt bs (bs.length - 4) 4 = (crc32 (bs.take (bs.length - 4))).toNat →
      (9216 < bs.length → exec (.ethFrameReceive e bs) s = .next (v.updEth e (·.drop .ip)))
      ∧ (bs.length ≤ 9216 →
        (∀ d, etherParse (bs.take (bs.length - 4)) = .error d → exec (.ethFrameReceive e bs) s = .next (v.updEth e (·.drop d)))
        ∧ (∀ u, etherParse (bs.take (bs.length - 4)) = .ok u →
          (v.sessionFor e u = none → exec (.ethFrameReceive e bs) s = .next (v.updEth e (·.drop .filter)))
          ∧ (∀ k c, v.sessionFor e u = some k → v.io.sess[k].cfg = some c →
            (v.rtpSlot k = none → exec (.ethFrameReceive e bs) s = .next (v.updEth e (·.drop .filter)))
            ∧ (∀ n x, v.rtpSlot k = some (n, x) →
              (rtpCheck c v.io.sess[k] u.data s.devTime s.clock = none → exec (.ethFrameReceive e bs) s = .next (v.updEth e (·.drop .rtp)))
              ∧ (∀ ssrc p, rtpCheck c v.io.sess[k] u.data s.devTime s.clock = some (ssrc, p) →
                exec (.ethFrameReceive e bs) s = .next (v.reorder e k n x c ssrc p))))))))
  ∧ (∀ (e : Fin 2) (k : Fin 64) (n : Nat) (x : SrcCfg) (c : SessCfg) (ssrc : U32) (p : RtpPkt) (s : State),
    (∃ q ∈ s.io.sess[k].held, q.seq = p.seq) ∨ (∃ m, s.io.sess[k].next = some m ∧ 2 ^ 15 ≤ (p.seq - m).toNat) →
    s.reorder e k n x c ssrc p = s.updEth e (·.drop .late))
  ∧ (∀ (e : Fin 2) (s : State), s.live = true →
    (s.unitLive (0x26 + e.val) = true → s.io.eth[e].speed ≠ 0 →
      exec (.ethPcsLockChange e true) s = .next (s.updEth e (fun x => { x with up := true }))
      ∧ exec (.ethPcsLockChange e false) s = .next (s.updEth e (fun x => { x.count 5 x.queue.length with up := false, queue := [] })))
    ∧ (∀ up, s.unitLive (0x26 + e.val) = false ∨ s.io.eth[e].speed = 0 → exec (.ethPcsLockChange e up) s = .next s))
  ∧ (∀ (k : Fin 64) (s : State), s.live = true →
    (s.rtpSlot k = none → exec (.rtpGapTimer k) s = .next s)
    ∧ ∀ c n x, s.io.sess[k].cfg = some c → s.rtpSlot k = some (n, x) →
      exec (.rtpGapTimer k) s = .next (s.settle (2 * s.io.sess[k].held.length + 2) k n x c))
  ∧ (∀ (n : Fin 64) (s : State) (x : SrcCfg) (p : Fin 2) (h : x.session < 64) (d : Nat), s.live = true → (s.slotN n).src = some x → x.type = .rtp →
    (s.slotN n).ing.open_.isSome = true → (s.slotN n).ing.assyDue = some d → s.slotEth n = some p.val →
    (d ≤ s.clock → exec (.assemblyTimerExpiry n) s = .next (((s.updEth p (·.count 3 1)).damage n).auDone ⟨x.session, h⟩ n))
    ∧ (s.clock < d → exec (.assemblyTimerExpiry n) s = .next s))
  ∧ (∀ (e : Fin 2) (s : State), s.live = true →
    (s.io.eth[e].up = false ∨ s.unitLive (0x26 + e.val) = false → exec (.udpDatagramSend e) s = .next s)
    ∧ (s.io.eth[e].up = true → s.unitLive (0x26 + e.val) = true →
      (s.io.eth[e].queue = [] → exec (.udpDatagramSend e) s = .next s)
      ∧ (∀ a d b, s.io.eth[e].queue = a ++ d :: b → (∀ x ∈ a, d.prio < x.prio) → (∀ x ∈ b, d.prio ≤ x.prio) →
        exec (.udpDatagramSend e) s = .next ((s.updEth e (fun x => ({ x with queue := a ++ b } : Eth).count 4 1)).emit
          (.ethSend e.val d.prio d.bytes)))))

/-! ### Lantern optics -/

/-- A Lantern port on its way to LOCKED: CAL, after 4 ms, stores the six ratios and goes to ACQUIRE when each lies within ±10 % of nominal (R507, R515) and to FAULT
for the monitor when one does not (R524); a chain that has had light for 100 µs sweeps its rings from the lowest on (R516); a sweep's dwell of 10 µs takes the
range it asks for, is repeated after a change of range (R512, R516), and then the heater code 32 higher, and after the 512th step the ring takes what
was found or the port goes to FAULT with ACQUIRE (R516, R517); a ring of a locked port that sweeps goes the same way, and to FAULT with RING (R518); a port late by
75 ms goes there too (R517); one that is not LOCKED in 1 s returns to OFF and its Lofin port has failed (R519); a fault takes a link that is up down. -/
def Obligations.LanternAcquisition : Prop :=
  (∀ (t : Fin 2) (ratios : Vector U32 6) (s : State), s.live = true → s.ltn[t].state = .cal →
    (s.clock < s.ltn[t].calAt + 4000 → exec (.ltnCalDone t ratios) s = .next s)
    ∧ (s.ltn[t].calAt + 4000 ≤ s.clock →
      (∀ i : Fin 6, 9 * (([64, 16, 4, 64, 16, 4] : List Nat).getD i.val 0 * 65536) ≤ 10 * ratios[i].toNat
        ∧ 10 * ratios[i].toNat ≤ 11 * (([64, 16, 4, 64, 16, 4] : List Nat).getD i.val 0 * 65536)) →
      ∃ u : State, exec (.ltnCalDone t ratios) s = .next u ∧ u.ltn[t].state = .acquire ∧ u.ltn[t].acquireAt = s.clock
        ∧ (∀ i : Fin 3, u.ltn[t].chain[0].ratio[i] = ratios.toList.getD i.val 0 ∧ u.ltn[t].chain[1].ratio[i] = ratios.toList.getD (3 + i.val) 0))
    ∧ (∀ i : Fin 6, s.ltn[t].calAt + 4000 ≤ s.clock →
      10 * ratios[i].toNat < 9 * (([64, 16, 4, 64, 16, 4] : List Nat).getD i.val 0 * 65536)
        ∨ 11 * (([64, 16, 4, 64, 16, 4] : List Nat).getD i.val 0 * 65536) < 10 * ratios[i].toNat →
      ∃ u : State, exec (.ltnCalDone t ratios) s = .next u ∧ u.ltn[t].state = .fault ∧ u.ltn[t].cause = .monitor))
  ∧ (∀ (t : Fin 2) (ratios : Vector U32 6) (s : State), s.ltn[t].state ≠ .cal → exec (.ltnCalDone t ratios) s = .next s)
  ∧ (∀ (t : Fin 2) (rx : Bool) (s : State), s.live = true →
    (s.ltn[t].state = .acquire → s.ltn[t].chain[chainIx rx].phase = .idle → exec (.ltnLightQualified t rx) s = .next
      (s.updLtn t (fun x => (x.updChain rx (fun c => { c with qualifiedAt := some (s.clock - 100) })).sweepFrom rx 0 s.clock s.ditherNext)))
    ∧ (s.ltn[t].state ≠ .acquire ∨ s.ltn[t].chain[chainIx rx].phase ≠ .idle → exec (.ltnLightQualified t rx) s = .next s))
  ∧ (∀ (t : Fin 2) (rx : Bool) (raw : Nat) (f : Option SweepFound) (s : State), s.live = true →
    (s.clock < s.ltn[t].chain[chainIx rx].dwellAt + 10 → exec (.ltnSweepDwellEnd t rx raw f) s = .next s)
    ∧ (s.ltn[t].state ≠ .acquire → s.ltn[t].state ≠ .locked → exec (.ltnSweepDwellEnd t rx raw f) s = .next s))
  ∧ (∀ (t : Fin 2) (rx : Bool) (raw i k : Nat) (h : i < 8) (f : Option SweepFound) (s v : State), s.live = true → s.ltn[t].state = .acquire →
    s.ltn[t].chain[chainIx rx].phase = .sweep i k → s.ltn[t].chain[chainIx rx].dwellAt + 10 ≤ s.clock →
    v = s.updLtn t (fun x => (x.updChain rx (fun c => { c with again := false, dwellAt := s.clock })).dwellRange rx raw) →
    (s.ltn[t].chain[chainIx rx].again = true → exec (.ltnSweepDwellEnd t rx raw f) s = .next v)
    ∧ (s.ltn[t].chain[chainIx rx].again = false →
      (k + 1 < 512 → exec (.ltnSweepDwellEnd t rx raw f) s = .next (v.updLtn t (fun x =>
        (x.updRing (ringIx rx ⟨i, h⟩) (fun g => { g with heater := BitVec.ofNat 14 (32 * (k + 1)) })).updChain rx
          (fun c => { c with phase := .sweep i (k + 1) }))))
      ∧ (∀ d, 512 ≤ k + 1 → f = some d → exec (.ltnSweepDwellEnd t rx raw f) s = .next (v.updLtn t (fun x =>
        (x.updRing (ringIx rx ⟨i, h⟩) (·.found rx d)).sweepFrom rx (i + 1) s.clock s.ditherNext)))
      ∧ (512 ≤ k + 1 → f = none → exec (.ltnSweepDwellEnd t rx raw f) s = .next (v.ltnFault t .acquire))))
  ∧ (∀ (x : Ltn) (rx : Bool) (raw : Nat) (c : Chain), c = x.chain[chainIx rx] →
    (raw ≤ 58982 → c.request = none → x.dwellRange rx raw = x)
    ∧ (58982 < raw → c.range ≠ 0 → x.autoRange = true → x.dwellRange rx raw = { x.updChain rx (fun c => { c with
      range := c.range - 1, request := none, again := true }) with switches := x.switches + 1 }))
  ∧ (∀ (t : Fin 2) (rx : Bool) (raw k : Nat) (r : Fin 16) (f : Option SweepFound) (s v : State), s.live = true → s.ltn[t].state = .locked →
    s.ltn[t].chain[chainIx rx].dwellAt + 10 ≤ s.clock → (ringsOf rx).find? (fun r => s.ltn[t].ring[r].sweepStep.isSome) = some r →
    s.ltn[t].ring[r].relock = .sweep k → v = s.updLtn t (fun x => x.updChain rx (fun c => { c with dwellAt := s.clock })) →
    (k + 1 < 512 → exec (.ltnSweepDwellEnd t rx raw f) s = .next (v.updLtn t (fun x => x.updRing r (fun g => { g with
      heater := BitVec.ofNat 14 (32 * (k + 1)), relock := .sweep (k + 1) }))))
    ∧ (∀ d, 512 ≤ k + 1 → f = some d → exec (.ltnSweepDwellEnd t rx raw f) s = .next
      (v.updLtn t (fun x => (x.updRing r (fun g => { g.found rx d with relock := .fine })).limits)))
    ∧ (512 ≤ k + 1 → f = none → exec (.ltnSweepDwellEnd t rx raw f) s = .next (v.ltnFault t .ring)))
  ∧ (∀ (t : Fin 2) (s : State), s.live = true →
    (∀ (c : Fin 2) (q : Nat), s.ltn[t].state = .acquire → s.ltn[t].chain[c].phase ≠ .locked →
      s.ltn[t].chain[c].qualifiedAt = some q → max q s.ltn[t].acquireAt + 75000 ≤ s.clock →
      exec (.ltnAcquireTimeout t) s = .next (s.ltnFault t .acquire))
    ∧ ((s.ltn[t].state ≠ .acquire ∨ ∀ c : Fin 2, s.ltn[t].chain[c].phase = .locked
        ∨ ∀ q, s.ltn[t].chain[c].qualifiedAt = some q → s.clock < max q s.ltn[t].acquireAt + 75000) →
      exec (.ltnAcquireTimeout t) s = .next s))
  ∧ (∀ (t : Fin 2) (s : State), s.live = true →
    (∀ u, s.ltn[t].state ≠ .locked → s.ltn[t].upAt = some u → u + 1000000 ≤ s.clock →
      exec (.ltnLockDeadline t) s = .next ((s.updLtn t Ltn.toOff).updLfn (lfnOf t)
        (fun p => if p.state == .training then { p with state := .failed, trainDue := none } else p)))
    ∧ (s.ltn[t].state = .locked ∨ (∀ u, s.ltn[t].upAt = some u → s.clock < u + 1000000) → exec (.ltnLockDeadline t) s = .next s))
  ∧ (∀ (t : Fin 2) (c : LtnCause) (s u : State), u = s.updLtn t (fun x => { x with state := .fault, cause := c, warm := none }) →
    s.ltnFault t c = (if s.lfnUp t.val then u.linkDown (lfnOf t) .down else u))

/-- A port in operation: the range written by firmware is taken at the next boundary while ranging is not automatic (R512); a boundary begins a dither period once a
millisecond, ends an earlier freeze, and takes the range asked for, which freezes the integrators and starts blanking (R506, R512, R513); 64 µs after
a change samples are taken again (R513); an interval ends with its dither periods, one of a frozen chain is discarded (R506, R513), one of a chain in fine
lock moves its rings' loops, and the chain and then the port lock (R508, R509, R516), one of a locked port judges its rings, and one of a warm relock
locks the port again (R514, R518, R522); a heater fault or a ring that has not relocked within 100 ms unlock or stop the port (R518,
R523); light lost puts a locked port into DARK with its link down, on TX both ports (R520); light back for 100 µs starts the warm relock, and 20 ms without
lock end it in CAL (R522); a faulty monitor puts the port into FAULT (R524).
The lock loop moves the heater against the error, by e × GAIN / (16 × |S|) rounded, and keeps the code in 14 bits (R508); the detuning register saturates at
±32,767 (R508). -/
def Obligations.LanternOperation : Prop :=
  (∀ (t : Fin 2) (a b : BitVec 2) (s : State), s.live = true →
    (s.ltn[t].autoRange = true → exec (.ltnRangeWrite t a b) s = .next s)
    ∧ (s.ltn[t].autoRange = false → ∃ u : State, exec (.ltnRangeWrite t a b) s = .next u ∧ u.ltn[t].chain[0].request = some a
      ∧ u.ltn[t].chain[1].request = some b))
  ∧ (∀ (t : Fin 2) (rx : Bool) (s : State) (c : Chain), s.live = true → c = s.ltn[t].chain[chainIx rx] →
    (c.blank = true → c.blankAt + 64 ≤ s.clock → exec (.ltnBlankingEnd t rx) s = .next
      (s.updLtn t (fun x => x.updChain rx (fun c => { c with blank := false }))))
    ∧ (c.blank = false ∨ s.clock < c.blankAt + 64 → exec (.ltnBlankingEnd t rx) s = .next s))
  ∧ (∀ (t : Fin 2) (rx : Bool) (p : Nat) (s v : State) (c : Chain), s.live = true → c = s.ltn[t].chain[chainIx rx] →
    (c.period = s.ditherMs → exec (.ltnDitherBoundary t rx p) s = .next s)
    ∧ (c.period ≠ s.ditherMs → s.ltn[t].sweeps rx = true → exec (.ltnDitherBoundary t rx p) s = .next
      (s.updLtn t (fun x => x.updChain rx (fun c => { c with period := s.ditherMs, request := x.wanted rx (min p 58982) }))))
    ∧ (s.ltn[t].sweeps rx = false → s.ltn[t].runs rx = false → exec (.ltnDitherBoundary t rx p) s = .next s)
    ∧ (c.period ≠ s.ditherMs → s.ltn[t].sweeps rx = false → s.ltn[t].runs rx = true →
      v = s.updLtn t (fun x => { x.updChain rx (fun c => if c.frozen then { c with
        period := s.ditherMs, frozen := false, blank := false, since := s.ditherMs, sinceChange := if x.tint10 then none else some 1 }
        else { c with period := s.ditherMs }) with overload := x.overload || (decide (58982 < p) && c.range == 0) }) →
      (s.ltn[t].wanted rx p = none → exec (.ltnDitherBoundary t rx p) s = .next v)
      ∧ (∀ r, s.ltn[t].wanted rx p = some r → r ≠ c.range → exec (.ltnDitherBoundary t rx p) s = .next (v.updLtn t (fun x =>
        { x.updChain rx (fun c => { c with
          range := r, request := none, frozen := true, blank := true, blankAt := s.clock, sinceChange := some 0 }) with
          switches := x.switches + 1 })))
      ∧ (∀ r, s.ltn[t].wanted rx p = some r → r = c.range → exec (.ltnDitherBoundary t rx p) s = .next (v.updLtn t (fun x =>
        x.updChain rx (fun c => { c with request := none }))))))
  ∧ (∀ (t : Fin 2) (rx : Bool) (y : Vector Int 8) (p : Nat) (ov : Bool) (s v f : State) (c : Chain), s.live = true → c = s.ltn[t].chain[chainIx rx] →
    v = s.updLtn t (fun x => { x.updChain rx (fun c => { c with since := s.ditherMs }) with
      overload := x.overload || ov || (decide (58982 < p) && c.range == 0) }) →
    f = ((v.fineInterval t rx y).slopeless t rx).updLtn t Ltn.limits →
    (s.intervalOver t rx = false → exec (.ltnIntegrationEnd t rx y p ov) s = .next s)
    ∧ (s.intervalOver t rx = true →
      (c.frozen = true → exec (.ltnIntegrationEnd t rx y p ov) s = .next v)
      ∧ (c.frozen = false →
        (s.ltn[t].state = .acquire → c.phase = .fine → f.ltn[t].chainGood rx = false →
          exec (.ltnIntegrationEnd t rx y p ov) s = .next f)
        ∧ (∀ g, s.ltn[t].state = .acquire → c.phase = .fine → f.ltn[t].chainGood rx = true →
          g = f.updLtn t (fun x => x.updChain rx (fun c => { c with phase := .locked })) →
          exec (.ltnIntegrationEnd t rx y p ov) s = .next (if g.ltn[t].chain.toList.all (fun c => c.phase == .locked) then g.ltnLock t else g))
        ∧ (s.ltn[t].state = .acquire → c.phase = .locked → exec (.ltnIntegrationEnd t rx y p ov) s = .next f)
        ∧ (s.ltn[t].state = .locked → exec (.ltnIntegrationEnd t rx y p ov) s = .next
          ((((((List.finRange 8).foldl (fun s i => s.ringInterval t (ringIx rx i) y[i] (c.sinceChange != some 1)) v).slopeless t rx).updLtn t
            Ltn.limits)).updLtn t (fun x => x.updChain rx (fun d => { d with
              sinceChange := if c.sinceChange == some 1 then some 2 else none }))))
        ∧ (s.ltn[t].state = .dark → s.ltn[t].warm = none → exec (.ltnIntegrationEnd t rx y p ov) s = .next v)
        ∧ (s.ltn[t].state = .dark → s.ltn[t].warm ≠ none → exec (.ltnIntegrationEnd t rx y p ov) s = .next
          (if f.ltn[t].chainGood false && f.ltn[t].chainGood true then (f.updLtn t (fun x => { x with relocks := x.relocks + 1 })).ltnLock t
            else f)))))
  ∧ (∀ (t : Fin 2) (r : Fin 16) (s : State), s.live = true →
    (s.ltn[t].state = .locked → s.ltn[t].ring[r].locked = false → s.ltn[t].ring[r].faulty = false → s.ltn[t].ring[r].relock ≠ .none →
      (s.ltn[t].ring[r].unlockedAt + 100000 ≤ s.clock → exec (.ltnRelockTimeout t r) s = .next (s.ltnFault t .ring))
      ∧ (s.clock < s.ltn[t].ring[r].unlockedAt + 100000 → exec (.ltnRelockTimeout t r) s = .next s))
    ∧ (s.ltn[t].ring[r].locked = true → exec (.ltnRelockTimeout t r) s = .next s)
    ∧ (s.ltn[t].state ≠ .off → s.ltn[t].ring[r].faulty = false → ∃ u : State, exec (.ltnHeaterFault t r) s = .next u
      ∧ u.ltn[t].ring[r].faulty = true ∧ u.ltn[t].ring[r].locked = false ∧ u.ltn[t].ring[r].heater = 0 ∧ u.ltn[t].cause = .heater
      ∧ u.ltn[t].unlocks = satInc s.ltn[t].unlocks)
    ∧ (s.ltn[t].state = .off ∨ s.ltn[t].ring[r].faulty = true → exec (.ltnHeaterFault t r) s = .next s))
  ∧ (∀ (t : Fin 2) (s : State), s.live = true →
    (s.ltn[t].state = .locked → ∃ u : State, exec (.ltnLightLoss t true) s = .next (if s.lfnUp t.val then u.linkDown (lfnOf t) .down else u)
      ∧ u.ltn[t].state = .dark ∧ u.ltn[t].chain[1].dark = true ∧ u.ltn[t].chain[0].dark = s.ltn[t].chain[0].dark
      ∧ u.ltn[t].darkCount = satInc s.ltn[t].darkCount ∧ ({ u with ltn := s.ltn } : State) = s)
    ∧ (s.ltn[t].state = .acquire → s.ltn[t].chain[1].phase = .locked → exec (.ltnLightLoss t true) s = .next (s.goDark t true true))
    ∧ ((∀ u : Fin 2, s.ltn[u].state = .locked) → exec (.ltnLightLoss t false) s = .next ((s.goDark 0 false false).goDark 1 false false))
    ∧ (s.ltn[t].state = .off ∨ s.ltn[t].state = .cal ∨ s.ltn[t].state = .fault → ∀ rx, exec (.ltnLightLoss t rx) s = .next s))
  ∧ (∀ (t : Fin 2) (s : State), s.live = true →
    (s.ltn[t].state = .dark → s.ltn[t].warm = none → s.ltn[t].resumeCal = false → exec (.ltnWarmRelockStart t) s = .next
      (s.updLtn t (fun x => { x with
        warm := some s.clock, chain := x.chain.map (fun c => { c with dark := false, frozen := false, since := s.ditherNext })
        ring := x.ring.map (fun r => { r with good := 0, relock := .none }) })))
    ∧ (s.ltn[t].state = .dark → s.ltn[t].warm = none → s.ltn[t].resumeCal = true →
      exec (.ltnWarmRelockStart t) s = .next (s.updLtn t (fun x => x.toCal s.clock x.upAt)))
    ∧ (s.ltn[t].state ≠ .dark ∨ s.ltn[t].warm ≠ none → exec (.ltnWarmRelockStart t) s = .next s)
    ∧ (∀ w, s.ltn[t].state = .dark → s.ltn[t].warm = some w →
      (w + 20000 ≤ s.clock → exec (.ltnWarmRelockTimeout t) s = .next (s.updLtn t (fun x => x.toCal s.clock x.upAt)))
      ∧ (s.clock < w + 20000 → exec (.ltnWarmRelockTimeout t) s = .next s)))
  ∧ (∀ (t : Fin 2) (rx : Bool) (s : State), s.live = true →
    (s.ltn[t].state ≠ .off → s.ltn[t].chain[chainIx rx].dark = false → ∃ st, st < 65536 ∧ exec (.ltnMonitorFault t rx) s =
      .next ((s.takeFree.2.ltnFault t .monitor).faultLog (0x32 + t.val) st (BitVec.ofNat 32 LtnCause.monitor.code)))
    ∧ (s.ltn[t].state = .off ∨ s.ltn[t].chain[chainIx rx].dark = true → exec (.ltnMonitorFault t rx) s = .next s))
  ∧ (∀ (gain : Nat) (x : Ring) (y : Int), (heaterNext gain x y).toNat ≤ 16383
    ∧ (y = x.target → heaterNext gain x y = BitVec.ofNat 14 x.heater.toNat)
    ∧ (0 < signed 32 x.slope.toNat → x.target ≤ y → (heaterNext gain x y).toNat ≤ x.heater.toNat)
    ∧ (0 < signed 32 x.slope.toNat → y ≤ x.target → x.heater.toNat ≤ (heaterNext gain x y).toNat)
    ∧ heaterNext gain x y = BitVec.ofInt 14 (clampInt 0 16383 ((x.heater.toNat : Int) - roundHalfUp
      ((if signed 32 x.slope.toNat < 0 then -(y - x.target) else y - x.target) * gain) (16 * max 1 (signed 32 x.slope.toNat).natAbs))))
  ∧ ∀ d : Int × Nat, -32767 ≤ (detuneReg d).toInt ∧ (detuneReg d).toInt ≤ 32767

/-! ### Scheduling and engines -/

/-- The dispatcher: an item that is not the next work of its frame or job, and one that a wait still guards, change nothing (R277, R296); an eligible one takes the
next number, its instance and, of a job, its input, and is placed: on an idle live engine of its group when there is one, and it pre-empts only at
level 0 (R296, R303, R304); a job whose input cannot be read ends. Without an error a save or restore lets the incoming item start; with one the item
that was saved or is being restored is discarded and logged (R306, R321); an item of level 3, queued or saved, that has waited 50 ms is promoted, and nothing
else changes (R300, R301); a quantum that has not ended goes on, one that has ended passes to the next context (R302); a unit asked to yield does (R310); capacity
is recomputed (R317). An engine starts nothing while it has an item (R297). -/
def Obligations.WorkPlacement : Prop :=
  (∀ (i : Item) (s : State), s.live = true → (s.released i).bind s.admitItem = none → exec (.workItemEligible i) s = .next s)
  ∧ (∀ (i g : Item) (s : State), s.sched.guarded.find? (fun x => x.id == i.id) = some g →
    ((s.pip.watch ++ s.pip.overflow).any (fun w => w.ofItem g.id) = true → s.released i = none)
    ∧ ((s.pip.watch ++ s.pip.overflow).any (fun w => w.ofItem g.id) = false → s.released i = some g))
  ∧ (∀ (i j k : Item) (serve : Option (Nat × (Nat × U32))) (s u : State) (r : State × Option Status), s.live = true →
    (s.released i).bind s.admitItem = some (j, serve) → k = { j with id := s.sched.nextId, ran := 0, acc := [], prev := none, retry := none } →
    u = { s with sched := { s.sched with nextId := s.sched.nextId + 1, guarded := s.sched.guarded.filter (fun g => g.id != i.id) } } →
    r = (match serve with
      | some (inst, who) => ((u.jobInput k inst).1.instServe inst who, (u.jobInput k inst).2)
      | none => (u, none)) →
    (∀ st, r.2 = some st → exec (.workItemEligible i) s = .next (r.1.itemDiscard k st))
    ∧ (r.2 = none →
      (∀ n seq v, k.origin = .frame n seq → k.kind ≠ .step → v = r.1.updFrame n seq (fun f => { f with busy := true }) →
        exec (.workItemEligible i) s = .next (v.carry k (v.place k)))
      ∧ (k.kind = .step ∨ (∀ n seq, k.origin ≠ .frame n seq) → exec (.workItemEligible i) s = .next (r.1.carry k (r.1.place k)))))
  ∧ (∀ (i : Item) (e : Nat) (s : State), (s.place i = .start e → e ∈ i.group.engines ∧ s.unitLive (unitOfEng e) = true ∧ (s.engN e).idle = true)
    ∧ (s.place i = .preempt e ∨ s.place i = .yieldAt e → i.level = 0 ∧ 1 ≤ (s.engN e).level ∧ (s.engN e).level ≤ 3)
    ∧ (s.place i = .queue e → e ∈ i.group.engines ∧ s.unitLive (unitOfEng e) = true ∧ ((s.engN e).at i.level).length < 32)
    ∧ (e ∈ i.group.engines → s.unitLive (unitOfEng e) = true → (s.engN e).idle = true → i.only = none ∨ i.only = some e →
      ∃ f, s.place i = .start f))
  ∧ (∀ (e : Fin 32) (err : Bool) (s v : State), s.live = true →
    v = s.faultLog 0x37 Status.discardedFault.code (BitVec.ofNat 32 e.val) →
    (s.sched.eng[e].incoming = none → exec (.saveRestoreDone e err) s = .next s)
    ∧ (∀ i, s.sched.eng[e].incoming = some i →
      exec (.saveRestoreDone e false) s = .next (s.startItem e.val i)
      ∧ (i.saved = true → exec (.saveRestoreDone e true) s = .next
        (((v.updEng e (fun x => { x with incoming := none })).itemDiscard i .discardedFault).engineDone e.val))
      ∧ (∀ j, i.saved = false → s.sched.eng[e].saved = some j → exec (.saveRestoreDone e true) s = .next
        (((v.updEng e (fun x => { x with saved := none })).itemDiscard j .discardedFault).restoreDone e.val))
      ∧ (i.saved = false → s.sched.eng[e].saved = none → exec (.saveRestoreDone e true) s = .next (v.restoreDone e.val))))
  ∧ (∀ (e : Fin 32) (id : Nat) (s : State) (up : Item → Item), s.live = true →
    up = (fun i => if i.id == id && i.placedAt + 50000 ≤ s.clock then { i with promoted := true } else i) →
    exec (.level3Promotion e id) s = .next (s.updEng e (fun x => { x with
      queue := updAt x.queue 3 (List.map up), saved := x.saved.map (fun i => if i.level = 3 then up i else i) })))
  ∧ (∀ (vpu : Bool) (s : State), s.live = true →
    (s.clock < (s.shareOf vpu).quantumEnd → exec (.quantumEnd vpu) s = .next s)
    ∧ ((s.shareOf vpu).owner = none ∨ (s.shareOf vpu).sliced = false → exec (.quantumEnd vpu) s = .next s)
    ∧ ((s.shareOf vpu).sliced = true → (s.shareOf vpu).owner.isSome = true → (s.shareOf vpu).quantumEnd ≤ s.clock →
      exec (.quantumEnd vpu) s = .next (State.settleShare 64 vpu ((shareGroup vpu).engines.foldl State.takeOne (s.passOwner vpu))).dispatch))
  ∧ (∀ (vpu : Bool) (s : State) (c : Nat), nextOwner (s.l2ctx (shareGroup vpu)) (s.shareOf vpu).lastOwner = some c →
    ((s.passOwner vpu).shareOf vpu).owner = some c ∧ ((s.passOwner vpu).shareOf vpu).lastOwner = c
    ∧ ((s.passOwner vpu).shareOf vpu).quantumEnd
      = s.clock + (quantumUs (s.l2ctx (shareGroup vpu)).length - (lookupN (s.shareOf vpu).deduct c).getD 0))
  ∧ (∀ s : State, s.live = true → exec .admissionReevaluate s = .next s.reevaluate)
  ∧ (∀ (e : Fin 32) (s : State), s.live = true →
    (24 ≤ e.val → s.sched.eng[e].yield_ = true → s.sched.eng[e].saved = none →
      exec (.unitYield e) s = .next (((s.updEng e (fun x => { x with
        saved := x.running.map (fun i => { i with saved := true }), running := none, yield_ := false })).takeNext e.val).dispatch))
    ∧ (e.val < 24 ∨ s.sched.eng[e].yield_ = false ∨ s.sched.eng[e].saved ≠ none → exec (.unitYield e) s = .next s))
  ∧ (∀ (e : Nat) (s : State), (s.engN e).running.isSome = true → s.takeOne e = s)

/-- Items of a Tower or VPU (R299, R407, R411 to R438): a good end performs its writes and frees the engine, one whose request waits at the endpoint does not end
yet (R111); a poisoned input and 400,000 cycles discard the item; a plan error discards it too; an access outside its partition is refused and counted; an
uncorrectable error in a Weight Buffer invalidates the image, one in a VPU discards the item, and the second within 1 s fences it (R434, R438). A weight image or
local image that was loaded is held, the newest first (R413, R434). A tile-run whose results agree is accumulated, one whose results do not is retried once; a
retry that fails discards the item and asks for a probe, and the third failure within 1 s fences the Tower (R430, R431, R437).
Probes and reference vectors fall due at their times and not before, and one that fails fences its unit (R311, R432, R578); the Feature Store scrubber takes the next
word, counts a corrected error, and poisons an uncorrectable word (R427). -/
def Obligations.TowerItems : Prop :=
  (∀ (e : Fin 32) (i : Item) (s : State) (q : ItemEnd), s.live = true → e.val < 24 → s.engRuns e.val = some i →
    (i.kind = .probe ∨ i.kind = .vector ∨ s.itemHeld i = true → exec (.engineItemComplete e q) s = .next s)
    ∧ (i.kind ≠ .probe → i.kind ≠ .vector → s.itemHeld i = false →
      (∀ ws c es, q = .ok ws c es → exec (.engineItemComplete e q) s = .next (s.itemEnds e.val i ws c es))
      ∧ (q = .poisoned → exec (.engineItemComplete e q) s = .next
        (((s.strike (s.itemRange i).1 (s.itemRange i).2).engineDone e.val).itemDiscard i .discardedFault))
      ∧ (q = .plan → exec (.engineItemComplete e q) s = .next (s.planError e.val i))
      ∧ (∀ off, q = .bound off → exec (.engineItemComplete e q) s = .next (s.boundRefused e.val i off))
      ∧ (∀ (t : Fin 8) m, t.val = e.val → q = .wbUe m → exec (.engineItemComplete e q) s = .next (s.wbInvalidate t m))
      ∧ (∀ (v : Fin 16) (u : State), e.val = 8 + v.val → q = .vpuUe →
        u = ((s.updVpu v (fun x => { x with lastUe := some s.clock })).engineDone e.val).itemDiscard i .discardedFault →
        exec (.engineItemComplete e q) s = .next (if s.str.vpu[v].lastUe.any (fun t => s.clock ≤ t + 1000000)
          then u.fence (unitOfEng e.val) 0 else u))))
  ∧ (∀ (e : Fin 32) (q : ItemEnd) (s : State), 24 ≤ e.val ∨ s.engRuns e.val = none → exec (.engineItemComplete e q) s = .next s)
  ∧ (∀ (s : State) (e c : Nat) (i : Item) (ws : List (Nat × List Byte)) (es : List (Nat × List U32)),
    (s.outputOk i (ws.filter (fun w => !inStore w)) = false → s.itemEnds e i ws c es = s)
    ∧ (∀ a, s.outputOk i (ws.filter (fun w => !inStore w)) = true →
      s.outside i ((ws.filter inStore).map (fun w => (w.1, w.2.length))) = some a → s.itemEnds e i ws c es = s.boundRefused e i (a - fsBase))
    ∧ (∀ r : State × Option Status, s.outputOk i (ws.filter (fun w => !inStore w)) = true →
      s.outside i ((ws.filter inStore).map (fun w => (w.1, w.2.length))) = none →
      r = ((ws.filter inStore).foldl (fun s w => s.memWrite w.1 w.2) s).outputPut (unitOfEng e) i (ws.filter (fun w => !inStore w)) →
      (r.2 = none → s.itemEnds e i ws c es = (r.1.engineDone e).itemOk i c es)
      ∧ (∀ st, r.2 = some st → s.itemEnds e i ws c es = (r.1.engineDone e).itemDiscard i st)))
  ∧ (∀ (s : State) (e off : Nat) (i : Item), s.boundRefused e i off
    = ((({ s.faultLog (unitOfEng e) Status.denied.code (BitVec.ofNat 32 off) with
        str := { s.str with fs := { s.str.fs with boundRefused := satInc s.str.fs.boundRefused } } } : State).engineDone e).itemDiscard i .denied))
  ∧ (∀ (t : Fin 8) (books : List (List Byte)) (i : Item) (s : State), s.live = true → (s.engN t.val).running = some i →
    s.str.tower[t].loading = true → s.unitLive t.val = true →
    (∀ m x, books.all bookOk = true → i.model = some m → lookupN s.mem.models m = some x →
      exec (.weightImageLoadDone t true books) s = .next (s.updTower t (fun y => { y with
        loading := false, imageLoads := y.imageLoads + 1
        images := imagesWith y.images { model := m, bytes := x.wbBytes, slots := books.map (fun b => (byteAt b 2).toNat) } 2097152 64
        cb := books.foldl (fun c b => insertN c (byteAt b 2).toNat (b.drop 16)) y.cb })))
    ∧ (books.all bookOk = false → exec (.weightImageLoadDone t true books) s = .next
      ((((s.faultLog t.val Status.invalidField.code 0).updTower t (fun x => { x with loading := false })).engineDone t.val).itemDiscard i .invalidField))
    ∧ exec (.weightImageLoadDone t false books) s = .next
      ((((s.packageStruck i.model).updTower t (fun x => { x with loading := false })).engineDone t.val).itemDiscard i .discardedFault))
  ∧ (∀ (new : Image) (held : List Image) (b n : Nat), (imagesWith held new b n).head? = some new
    ∧ ∀ m ∈ imagesWith held new b n, m = new ∨ (m ∈ held ∧ m.model ≠ new.model ∧ ∀ x ∈ m.slots, x ∉ new.slots))
  ∧ (∀ (v : Fin 16) (i : Item) (s : State), s.live = true → (s.engN (8 + v.val)).running = some i → s.str.vpu[v].loading = true →
    s.unitLive (8 + v.val) = true →
    (∀ m x, i.model = some m → lookupN s.mem.models m = some x → exec (.vpuLocalLoadDone v true) s = .next (s.updVpu v (fun y => { y with
      loading := false, images := imagesWith y.images { model := m, bytes := x.vpuLocal, slots := [] } 262144 64 })))
    ∧ exec (.vpuLocalLoadDone v false) s = .next
      ((((s.packageStruck i.model).updVpu v (fun x => { x with loading := false })).engineDone (8 + v.val)).itemDiscard i .discardedFault))
  ∧ (∀ (t : Fin 8) (r : TileRun) (faults : List (TileSite × U32)) (i : Item) (s : State), s.live = true →
    s.engRuns t.val = some i →
    (i.kind = .probe ∨ i.retry ≠ none → exec (.tileRunComplete t r faults) s = .next s)
    ∧ (i.kind ≠ .probe → i.retry = none →
      (r.ok = false → exec (.tileRunComplete t r faults) s = .next (s.planError t.val i))
      ∧ (r.ok = true → r.follows i.prev = false → exec (.tileRunComplete t r faults) s = .next s)
      ∧ (r.ok = true → r.follows i.prev = true →
        (∀ a, i.kind ≠ .cost → s.outside i (r.reads.map (fun a => (a, actBytes r.conv.fmt))) = some a →
          exec (.tileRunComplete t r faults) s = .next (s.boundRefused t.val i (a - fsBase)))
        ∧ (i.kind = .cost ∨ s.outside i (r.reads.map (fun a => (a, actBytes r.conv.fmt))) = none →
          ((∃ a ∈ r.reads, s.readUe a (actBytes r.conv.fmt) = true) → exec (.tileRunComplete t r faults) s = .next
            ((s.engineDone t.val).itemDiscard i .discardedFault))
          ∧ ((∀ a ∈ r.reads, s.readUe a (actBytes r.conv.fmt) = false) →
            (∀ o, s.kpr.inject ≠ some (4, t.val) → s.tileOut t r faults = (o, true) →
              exec (.tileRunComplete t r faults) s = .next (s.tileAccept t i r o))
            ∧ (∀ o, s.kpr.inject ≠ some (4, t.val) → s.tileOut t r faults = (o, false) →
              exec (.tileRunComplete t r faults) s = .next (s.updRunning t.val (fun i => { i with retry := some r })))
            ∧ (s.kpr.inject = some (4, t.val) → exec (.tileRunComplete t r faults) s = .next
              (({ s with kpr := { s.kpr with inject := none } } : State).updRunning t.val (fun i => { i with retry := some r }))))))))
  ∧ (∀ (t : Fin 8) (faults : List (TileSite × U32)) (i : Item) (r : TileRun) (o : TileOut) (s u : State) (recent : List Nat), s.live = true →
    s.engRuns t.val = some i → i.retry = some r →
    (s.tileOut t r faults = (o, true) → exec (.tileRunRetryDone t faults) s = .next
      ((s.updTower t (fun x => { x with abftRetry := satInc x.abftRetry })).tileAccept t i r o))
    ∧ (s.tileOut t r faults = (o, false) → recent = s.clock :: s.str.tower[t].fails.filter (fun c => s.clock ≤ c + 1000000) →
      u = ((((s.updTower t (fun x => { x with abftFail := satInc x.abftFail, fails := recent })).faultLog t.val
        Status.discardedFault.code 0).engineDone t.val).itemDiscard i .discardedFault) →
      (3 ≤ recent.length → exec (.tileRunRetryDone t faults) s = .next (u.fence t.val 0))
      ∧ (recent.length < 3 → exec (.tileRunRetryDone t faults) s = .next (u.wantProbe t.val .check .due))))
  ∧ (∀ (e : Fin 32) (i : Item) (s : State), s.live = true → e.val < 24 → (s.engN e.val).running = some i →
    (i.kind = .probe ∨ i.ran < 400000 * 15 → exec (.runLimitExceeded e) s = .next s)
    ∧ (∀ v : Fin 16, v.val + 8 = e.val → i.kind ≠ .probe → 400000 * 15 ≤ i.ran → exec (.runLimitExceeded e) s = .next
      ((((s.faultLog (unitOfEng e.val) Status.discardedFault.code 0).updVpu v (fun x => { x with loading := false })).engineDone e.val).itemDiscard
        i .discardedFault))
    ∧ (∀ t : Fin 8, t.val = e.val → i.kind ≠ .probe → 400000 * 15 ≤ i.ran → exec (.runLimitExceeded e) s = .next
      ((((s.faultLog (unitOfEng e.val) Status.discardedFault.code 0).updTower t (fun x => { x with loading := false })).engineDone e.val).itemDiscard
        i .discardedFault)))
  ∧ (∀ (t : Fin 8) (d : Nat) (s u : State), s.live = true → (s.engN t.val).nextDue = some d →
    (s.clock < d ∨ s.unitLive t.val = false → exec (.probeDue t) s = .next s)
    ∧ (d ≤ s.clock → s.unitLive t.val = true → u = s.updEngN t.val (fun x => { x with nextDue := some (d + 10000) }) →
      exec (.probeDue t) s = .next (u.wantProbe t.val .due .check)))
  ∧ (∀ (t : Nat) (a b : ProbeBy) (s : State), s.wantProbe t a b
    = match ((s.engN t).incoming.toList ++ (s.engN t).queue.toList.flatten ++ s.sched.waiting).find? (fun i =>
        i.only == some t && i.origin == .probe b) with
      | some i => s.updQueued i.id (fun i => { i with origin := .probe .both })
      | none => s.placeProbe t a)
  ∧ (∀ (t : Fin 8) (p : Vector Bool 4) (i : Item) (ok : Bool) (s u v : State), s.live = true → s.engRuns t.val = some i → i.kind = .probe →
    ok = (p.toList.all id && s.kpr.inject != some (5, t.val)) →
    u = (({ s with kpr := { s.kpr with inject := if s.kpr.inject = some (5, t.val) then none else s.kpr.inject } } : State).updTower t (fun x => { x with
      probeRuns := x.probeRuns + 1, lastProbe := s.devTime, probeFail := if ok then x.probeFail else satInc x.probeFail })) →
    v = (if i.origin = .probe .diag then u.finish (.probe t.val) .ok (leBytes 1 (if ok then 0 else 1)) else u) →
    exec (.probeComplete t p) s = .next (if ok then v.engineDone t.val else (v.engineDone t.val).fence t.val 0))
  ∧ (∀ (s : State) (d : Nat), s.live = true →
    (s.str.st.ssuDue = some d → s.unitLive 0x1F = true → exec (.referenceVectorDue 32) s = .next (if s.clock < d then s
      else { s with str := { s.str with st := { s.str.st with ssuDue := some (d + 20000), ssuVec := true } } }))
    ∧ (s.str.st.trkDue = some d → s.unitLive 0x20 = true → exec (.referenceVectorDue 33) s = .next (if s.clock < d then s
      else { s with str := { s.str with st := { s.str.st with trkDue := some (d + 20000), trkVec := true } } })))
  ∧ (∀ (e : Fin 34) (d : Nat) (s u : State), s.live = true → 8 ≤ e.val → e.val < 32 → (s.engN e.val).nextDue = some d →
    (s.clock < d ∨ s.unitLive (unitOfEng e.val) = false → exec (.referenceVectorDue e) s = .next s)
    ∧ (d ≤ s.clock → s.unitLive (unitOfEng e.val) = true →
      u = ({ s with sched := { s.sched with nextId := s.sched.nextId + 1 } } : State).updEngN e.val (fun x => { x with nextDue := some (d + 20000) }) →
      exec (.referenceVectorDue e) s = .next (u.carry (vectorItem e.val s.sched.nextId) (u.place (vectorItem e.val s.sched.nextId)))))
  ∧ (∀ (s : State) (pass : Bool), s.live = true →
    (∀ u : State, s.str.st.ssuVec = true → u = { s with str := { s.str with st := { s.str.st with ssuVec := false } } } →
      exec (.referenceVectorComplete 32 pass) s = .next (if pass then u else u.fence 0x1F 0))
    ∧ (∀ u : State, s.str.st.trkVec = true → u = { s with str := { s.str with st := { s.str.st with trkVec := false } } } →
      exec (.referenceVectorComplete 33 pass) s = .next (if pass then u else u.fence 0x20 0))
    ∧ (s.str.st.ssuVec = false → exec (.referenceVectorComplete 32 pass) s = .next s)
    ∧ (s.str.st.trkVec = false → exec (.referenceVectorComplete 33 pass) s = .next s))
  ∧ (∀ (e : Fin 34) (i : Item) (pass : Bool) (s : State), s.live = true → e.val < 32 → s.engRuns e.val = some i →
    (i.kind = .vector → exec (.referenceVectorComplete e pass) s = .next
      (if pass then s.engineDone e.val else (s.engineDone e.val).fence (unitOfEng e.val) 0))
    ∧ (i.kind ≠ .vector → exec (.referenceVectorComplete e pass) s = .next s))
  ∧ (∀ (s u : State), s.live = true → s.kpr.inject = none →
    u = { s with str := { s.str with fs := { s.str.fs with
      pos := (s.str.fs.pos + 1) % 16777216, scrub := if (s.str.fs.pos + 1) % 16777216 = 0 then s.str.fs.scrub + 1 else s.str.fs.scrub } } } →
    exec (.fsScrubAccess none) s = .next u
    ∧ exec (.fsScrubAccess (some .correctable)) s = .next
      { u with str := { u.str with fs := { u.str.fs with eccCe := satInc u.str.fs.eccCe } } }
    ∧ exec (.fsScrubAccess (some .uncorrectable)) s = .next (u.fsUe s.str.fs.pos))

/-! ### Decode to results -/

/-- Video: a VDE whose frame is gone or no longer in DECODE is freed; a damaged access unit leaves DECODE without a picture and, unless it lost slices of no
referenced picture, puts the stream into RESYNC; a unit of the coding that the VDE does not support counts and leaves with a GAP; an uncorrectable error in a
reference picture discards the frame with FAULT; a bitstream error counts and leaves with a GAP; any other picture is decoded: one that is not referenced, in a
synchronised stream, counts, updates the references and is delivered; a delivered picture whose frame buffer is granted is written there and becomes the frame's,
and without a buffer the frame is discarded with NO_BUFFER (R360, R362, R364, R366, R368, R383). A picture that decodes longer than its bound is counted and its VDE
reset, and not before (R383). A slice leaves in RTP packets with the view's next numbers, which count with their bytes, and the last slice ends the picture;
one NAL unit that fits a packet is one packet with its picture's time, and the marker when it ends the picture (R379, R380). A picture that was encoded
counts, one whose frame met an error is skipped, one whose reference met an error makes the next an IDR, and the VEE goes on to the next (R374, R375, R384).
A PREP whose frame can be read and scaled writes the detector's input tensor into its instance's slot and the frame goes on; a CROP whose crops are made passes the
frame on, and one without a crop buffer discards the frame; a read that fails discards the item of either with its status, and a ratio out of range rejects it
(R403, R404, R407); an item that runs longer than its bound is stopped, counted, and its PPE reset, and not before (R408). -/
def Obligations.VideoAndPreprocessing : Prop :=
  ((∀ (v : Fin 4) (pic : Picture) (i : Item) (n : Nat) (q : U32) (s : State), s.live = true → s.engRuns (28 + v.val) = some i →
    i.kind = .decode → i.origin = .frame n q →
    ((s.slotN n).frame? q = none → exec (.decodeComplete v pic) s = .next (s.engineDone (28 + v.val)))
    ∧ (∀ f, (s.slotN n).frame? q = some f → (f.busy = false ∨ f.stage ≠ 1) → exec (.decodeComplete v pic) s = .next (s.engineDone (28 + v.val)))
    ∧ (∀ f p, (s.slotN n).frame? q = some f → f.busy = true → f.stage = 1 → (s.slotN n).ana.bind AnaCfg.framePool = some p →
      (∀ w, f.waitPic = some w → exec (.decodeComplete v pic) s = .next (s.deliver v n q p w.1 w.2))
      ∧ (f.waitPic = none → exec (.decodeComplete v pic) s = .next (s.decodeUnit v n f p pic))))
  ∧ (∀ (s : State) (v : Fin 4) (n p : Nat) (f : Frame) (pic : Picture),
    (f.damaged = true → pic.firstSlice = true → pic.ref = false → s.decodeUnit v n f p pic = s.decodeOut v.val n f.seq)
    ∧ (f.damaged = true → (pic.firstSlice = false ∨ pic.ref = true) → s.decodeUnit v n f p pic = (s.enterResync n).decodeOut v.val n f.seq)
    ∧ (f.damaged = false → f.reissued = false → f.discont = false → (s.slotN n).dec.sync = true →
      (decSupports (s.slotN n).codec pic.decl pic.fmt = false → s.decodeUnit v n f p pic =
        ((((s.updVde v (fun x => { x with unsupp := satInc x.unsupp })).enterResync n).updDec n (fun d => { d with unsupp := true })).decodeGap v.val n f.seq))
      ∧ (decSupports (s.slotN n).codec pic.decl pic.fmt = true →
        (pic.refUe = true → s.decodeUnit v n f p pic = (((s.enterResync n).discard n f.seq .fault).decodeOut v.val n f.seq))
        ∧ (pic.refUe = false → picError (s.slotN n).dec pic = true → s.decodeUnit v n f p pic = s.bitError v n f.seq)
        ∧ (pic.refUe = false → picError (s.slotN n).dec pic = false → s.decodeUnit v n f p pic = s.decodeGood v n f.seq p pic))))
  ∧ (∀ (s u w : State) (v : Fin 4) (n p : Nat) (q : U32) (pic : Picture), pic.ref = false →
    u = (s.markRefs v.val n none pic.release).updDec n (decAfter · pic) →
    w = u.updVde v (fun x => { x with
      pics := x.pics + 1, matrixSubst := if (pic.decl.vui.matrixOf pic.fmt.h).2 then satInc x.matrixSubst else x.matrixSubst }) → (w.slotN n).dec.sync = true →
    s.decodeGood v n q p pic = (w.updDec n (fun d => { d with sync := true, recovery := none })).deliver v n q p pic.format pic.bytes)
  ∧ (∀ (s u : State) (v : Fin 4) (n p : Nat) (q h : U32) (g : BufFor) (f : Fmt) (bytes : List Byte),
    s.bufTry p (decBytes f) (s.slotN n).cls (9 + v.val) (.frame n q) = (u, some (.grant g h)) →
    (u.bufPut (0x18 + v.val) h 0 (picBytes f bytes)).2 = none → s.deliver v n q p f bytes =
      (((((u.bufPut (0x18 + v.val) h 0 (picBytes f bytes)).1.updFrame n q (fun x => { x with
        pic := some h, fmt := some f, pitch := decPitch f, waitPic := none })).analyse n q).recharge n f).decodeOut v.val n q))
  ∧ (∀ (s u : State) (v : Fin 4) (n p : Nat) (q : U32) (g : BufFor) (f : Fmt) (bytes : List Byte),
    s.bufTry p (decBytes f) (s.slotN n).cls (9 + v.val) (.frame n q) = (u, some (.empty g)) → s.deliver v n q p f bytes =
      (((u.updFrame n q (fun x => { x with waitPic := none })).discard n q .noBuffer).decodeOut v.val n q))
  ∧ (∀ (v : Fin 4) (i : Item) (s : State), s.live = true → s.engRuns (28 + v.val) = some i →
    (s.decodeOver i = true → exec (.decodeStopTimeout v) s = .next ((s.updVde v (fun x => { x with stops := satInc x.stops })).autoReset (0x18 + v.val)))
    ∧ (s.decodeOver i = false → exec (.decodeStopTimeout v) s = .next s))
  ∧ (∀ (v : Fin 4) (nals : List (List Byte)) (cap : U64) (cfg : ViewCfg) (rest : List (U64 × ViewCfg)) (last : Bool) (w : View) (s : State),
    s.live = true → w = s.str.view[v] → w.caps = (cap, cfg) :: rest →
    ∃ t : State, exec (.veeSliceSend v nals last) s = .next t ∧ ∀ ps : List (List Byte),
      ps = rtpPayloads cfg.codec ((s.flowFrame cfg.flow).1 - (if (s.flowFrame cfg.flow).2 then 62 else 82)) nals →
      t.str.view[v] = { w with rtpSeq := w.rtpSeq + BitVec.ofNat 16 ps.length, bytes := w.bytes + BitVec.ofNat 32 (ps.map List.length).sum,
                               caps := if last then rest else w.caps })
  ∧ (∀ (v : Fin 4) (cap : U64) (cfg : ViewCfg) (rest : List (U64 × ViewCfg)) (nal : List Byte) (last : Bool) (w : View) (u s : State),
    s.live = true → w = s.str.view[v] → w.caps = (cap, cfg) :: rest → isParam cfg.codec nal = false →
    nal.length ≤ (s.flowFrame cfg.flow).1 - (if (s.flowFrame cfg.flow).2 then 62 else 82) →
    u = s.sendFlow cfg.flow 3 ([0x80, BitVec.ofNat 8 ((match cfg.codec with | .h264 => 96 | .h265 => 97) + (if last then 128 else 0))]
      ++ beBytes 2 w.rtpSeq.toNat ++ beBytes 4 (cap.toNat * 9 / 100000)
      ++ beBytes 4 (s.sup.fuses.serial.toNat / 256 * 256 % 2 ^ 32 + v.val) ++ nal) →
    exec (.veeSliceSend v [nal] last) s = .next { u with str := { u.str with view := updAt u.str.view v (fun w =>
      { w with rtpSeq := w.rtpSeq + 1, bytes := w.bytes + BitVec.ofNat 32 nal.length, caps := if last then rest else w.caps }) } })
  ∧ (∀ (v : Fin 4) (nals : List (List Byte)) (last : Bool) (s : State), s.live = true → s.str.view[v].caps = [] →
    exec (.veeSliceSend v nals last) s = .next s)
  ∧ (∀ (v : Fin 4) (q : U32) (err : Option VeeErr) (s u : State) (g : View → View), s.live = true → s.str.encoding = some (v.val, q) →
    u = { s with str := { s.str with encoding := none, view := updAt s.str.view v g } } →
    (err = some .frame → g = (fun w => { w with skip := satInc w.skip, caps := w.caps.dropLast }) →
      exec (.veeEncodeComplete err) s = .next (u.viewDone v.val q).veeNext)
    ∧ (err ≠ some .frame → s.frameView v.val s.str.view[v].slot q = s.str.view[v].cfg →
      g = (fun w => { w with pics := w.pics + 1, idr := decide (err = some .reference),
                             sweep := if w.idr then 0 else (w.sweep + 1) % max 1 (sweepLen w) }) →
      exec (.veeEncodeComplete err) s = .next (u.viewDone v.val q).veeNext)
    ∧ (err ≠ some .frame → s.frameView v.val s.str.view[v].slot q ≠ s.str.view[v].cfg → g = (fun w => { w with pics := w.pics + 1 }) →
      exec (.veeEncodeComplete err) s = .next (u.viewDone v.val q).veeNext))
  ∧ (∀ (err : Option VeeErr) (s : State), s.live = true → s.str.encoding = none → exec (.veeEncodeComplete err) s = .next s))
  ∧ ((∀ (p : Fin 2) (ue : Bool) (i : Item) (n : Nat) (f : Frame) (s : State), s.live = true →
    (s.engRuns (24 + p.val) = some i → i.kind = .prep → s.itemFrame i = some (n, f) →
      (f.stage = 2 → exec (.prepComplete p ue) s = .next (s.prepFrame p i n f ue))
      ∧ (f.stage ≠ 2 → exec (.prepComplete p ue) s = .next (s.engineDone (24 + p.val))))
    ∧ (s.engRuns (24 + p.val) = some i → i.kind = .prep → s.itemFrame i = none →
      exec (.prepComplete p ue) s = .next (s.engineDone (24 + p.val)))
    ∧ (s.engRuns (26 + p.val) = some i → i.kind = .crop → s.itemFrame i = some (n, f) →
      (f.stage = 5 → exec (.cropComplete p ue) s = .next (s.cropFrame p i n f ue))
      ∧ (f.stage ≠ 5 → exec (.cropComplete p ue) s = .next (s.engineDone (26 + p.val))))
    ∧ (s.engRuns (26 + p.val) = some i → i.kind = .crop → s.itemFrame i = none →
      exec (.cropComplete p ue) s = .next (s.engineDone (26 + p.val)))
    ∧ (∀ region, s.engRuns ((if region then 26 else 24) + p.val) = some i →
      (s.ppeOver i = true → exec (.ppeStopTimeout p region) s = .next
        ((s.updPpe p (fun x => { x with stops := satInc x.stops })).autoReset (0x1D + p.val)))
      ∧ (s.ppeOver i = false → exec (.ppeStopTimeout p region) s = .next s)))
  ∧ (∀ (s u r : State) (st : Option Status) (p : Fin 2) (i : Item) (n : Nat) (f : Frame) (ue : Bool) (a : AnaCfg) (fm : Fmt) (h : U32) (x : Inst)
    (m : Model) (g : Nat × Nat × Nat × Nat), (s.slotN n).ana = some a → f.fmt = some fm → f.image (s.slotN n).decoded = some h →
    lookupN s.mem.insts a.det = some x → s.instModel a.det = some m → g = prepGeom fm m.inW m.inH →
    u = (if ue then s.strike (s.bufAddr h) f.imageBytes else s) → u.bufGet (0x1D + p.val) h f.imageBytes = (r, st) →
    (∀ why, st = some why → s.prepFrame p i n f ue = (r.engineDone (24 + p.val)).itemDiscard i why)
    ∧ (st = none → (scanRatioOk fm.w g.2.2.1 = false ∨ scanRatioOk fm.h g.2.2.2 = false) → s.prepFrame p i n f ue = r.ratioReject p (24 + p.val) i)
    ∧ (∀ w, st = none → scanRatioOk fm.w g.2.2.1 = true → scanRatioOk fm.h g.2.2.2 = true →
      w = r.memWrite x.base (prepTensor m (r.reader (s.bufAddr h) f.imageBytes) fm f.pitch g) →
      s.prepFrame p i n f ue = ((((((w.updFrame n f.seq (fun f => { f with geom := some g })).updPpe p
        (fun x => { x with prep := x.prep + 1 })).itemPip i).passStage n f.seq).advance n).engineDone (24 + p.val))))
  ∧ (∀ (s u r : State) (st : Option Status) (p : Fin 2) (i : Item) (n k pool : Nat) (f : Frame) (ue : Bool) (a : AnaCfg) (fm : Fmt) (h : U32)
    (m : Model) (boxes : List Surv), (s.slotN n).ana = some a → f.fmt = some fm → f.image (s.slotN n).decoded = some h →
    a.emb = some k → s.instModel k = some m → a.cropPool = some pool → boxes = (f.crops.filterMap (fun k => f.surv[k]?)).drop f.crop.length →
    u = (if ue then s.strike (s.bufAddr h) f.imageBytes else s) → u.bufGet (0x1D + p.val) h f.imageBytes = (r, st) →
    (∀ why, st = some why → s.cropFrame p i n f ue = (r.engineDone (26 + p.val)).itemDiscard i why)
    ∧ (∀ w, st = none → r.cropSome p n f fm m pool (r.reader (s.bufAddr h) f.imageBytes) boxes = (w, .done) →
      s.cropFrame p i n f ue = (((((w.itemPip i).passStage n f.seq).picBack n f.seq).advance n).engineDone (26 + p.val)))
    ∧ (∀ w, st = none → r.cropSome p n f fm m pool (r.reader (s.bufAddr h) f.imageBytes) boxes = (w, .empty) →
      s.cropFrame p i n f ue = ((w.discard n f.seq .noBuffer).advance n).engineDone (26 + p.val))
    ∧ (∀ w, st = none → r.cropSome p n f fm m pool (r.reader (s.bufAddr h) f.imageBytes) boxes = (w, .ratio) →
      s.cropFrame p i n f ue = w.ratioReject p (26 + p.val) i)))

/-- SELECT and TRACK run for the frame whose turn it is and that their unit has taken up, in a unit that serves: SELECT keeps the survivors of its candidates (R440 to R444) and counts its items,
and a read that cannot be corrected discards the frame with FAULT (R238), which a poisoned read is (R427); TRACK waits while its cost item is due or a checkpoint's copies are outstanding, and then tracks the frame: with a
record buffer a GAP frame ages the tracks and an analysed frame matches them, without one the frame is discarded with NO_BUFFER and a GAP record stands in the slot's
gap-record area (R453, R457, R458, R474); an item that runs longer than its bound is counted, its frame discarded
and the unit reset, and not before (R472). What SELECT keeps never exceeds NMS_MAX or TOP_K and scores at least SCORE_MIN (R441). -/
def Obligations.SelectAndTrack : Prop :=
  (∀ (n : Fin 64) (poisoned : Bool) (f : Frame) (a : AnaCfg) (x : Inst) (m : Model) (s u : State) (len : Nat), s.live = true → s.unitLive 0x1F = true →
    s.frameTurn n.val 4 = some f → s.str.st.ssuRun = some (n.val, f.seq) → (s.slotN n.val).ana = some a → f.gap = none →
    lookupN s.mem.insts a.det = some x → s.instModel a.det = some m → len = 16 + 16 * min 32768 (s.memNat (x.base + f.candAt) 4) →
    u = (if poisoned then s.strike (x.base + f.candAt) len else s) →
    (u.readUe (x.base + f.candAt) len = false → exec (.selectComplete n poisoned) s = .next (u.selectFrame n.val f a m x.base))
    ∧ (u.readUe (x.base + f.candAt) len = true → exec (.selectComplete n poisoned) s = .next ((u.discard n.val f.seq .fault).advance n.val)))
  ∧ (∀ (s : State) (a n : Nat), 0 < n → (s.strike a n).readUe a n = true)
  ∧ (∀ (n : Fin 64) (ue : Bool) (f : Frame) (a : AnaCfg) (s : State), s.live = true → s.unitLive 0x20 = true → s.unitLive 0x1F = true →
    (s.slotN n.val).copying = false → s.frameTurn n.val 7 = some f → (s.slotN n.val).ana = some a → f.busy = false → f.turn.stage = 7 →
    ((s.slotN n.val).needsCost f = true → exec (.trackComplete n ue) s = .next s)
    ∧ ((s.slotN n.val).needsCost f = false → exec (.trackComplete n ue) s = .next (s.trackOne n.val f a ue)))
  ∧ (∀ (n : Fin 64) (ue : Bool) (s : State), s.live = true → (s.slotN n.val).copying = true → exec (.trackComplete n ue) s = .next s)
  ∧ (∀ (s u : State) (n : Nat) (f : Frame) (a : AnaCfg) (g : BufFor) (h : U32),
    s.bufTry a.recPool ((s.slotN n).recSize f) a.cls 15 (.record n f.seq) = (u, some (.grant g h)) →
    (∀ r, f.gap = some r → s.trackOne n f a false = u.trackGapFrame n f r h)
    ∧ (f.gap = none → s.trackOne n f a false = u.trackAnalysed n f h false)
    ∧ (∀ r, f.gap = some r → s.trackOne n f a true = (u.trackLost n).trackGapFrame n f r h)
    ∧ (f.gap = none → s.trackOne n f a true = (u.trackLost n).trackAnalysed n f h true))
  ∧ (∀ (s u w : State) (n : Nat) (f : Frame) (a : AnaCfg) (g : BufFor), f.gap = none →
    s.bufTry a.recPool ((s.slotN n).recSize f) a.cls 15 (.record n f.seq) = (u, some (.empty g)) → w = u.discard n f.seq .noBuffer →
    s.trackOne n f a false = ((w.updFrame n f.seq (fun x => { x with
      record := gapHeader n (s.slotN n).cls f .noBuffer (w.deg n) (w.slotN n).tracks.length, entryCrc := crc32c [] })).passStage n f.seq).advance n)
  ∧ (∀ (trk : Bool) (s : State), s.live = true → s.ssuTrkOver trk = false → exec (.ssuTrkStopTimeout trk) s = .next s)
  ∧ (∀ (trk : Bool) (n : Nat) (f : Frame) (s u : State), s.live = true → s.unitLive (if trk then 0x20 else 0x1F) = true → s.ssuTrkOver trk = true → n < 64 →
    s.frameTurn n (if trk then 7 else 4) = some f → (∀ k < 64, k ≠ n → s.frameTurn k (if trk then 7 else 4) = none) →
    u = s.updSt (fun t => if trk then { t with trkStops := satInc t.trkStops } else { t with ssuStops := satInc t.ssuStops }) →
    exec (.ssuTrkStopTimeout trk) s = .next ((u.discard n f.seq .fault).autoReset (if trk then 0x20 else 0x1F)))
  ∧ (∀ (s : State) (n : Nat) (f : Frame) (a : AnaCfg) (m : Model) (base : Nat),
    (s.selectFrame n f a m base).str.st.items = s.str.st.items + 1)
  ∧ (∀ (par : TrackPar) (cs : List Cand), (ssuSelect par cs).length ≤ par.nmsMax ∧ (ssuSelect par cs).length ≤ par.topK
    ∧ ∀ c ∈ ssuSelect par cs, c ∈ cs ∧ par.scoreMin ≤ c.score)

/-- Posting: the record of the frame whose turn it is leaves over its flow, or goes to its ring when it fits, and otherwise waits 1 ms with FULL set; at the end of the wait it is
written when it fits by then, and otherwise dropped and counted (R466). The host's read pointer is taken when it is in range and arms the ring, and a record that waits is tried again (R137, R467); COUNT, TIMEOUT_US and a vector
from 17 are taken and the ring's conditions evaluated (R137); the timeout evaluates them too. A ring that is armed and has COUNT records, or one older than TIMEOUT_US, requests its message; a message that
the vector takes disarms the ring, a ring that requests none keeps its state (R137). -/
def Obligations.ResultRings : Prop :=
  (∀ (n : Fin 64) (f : Frame) (s : State), s.live = true → s.frameTurn n.val 8 = some f →
    (∀ k, (s.slotN n.val).res = some (.flow k) → exec (.resultPost n) s = .next (s.postRecord n f (some k) false))
    ∧ ((s.slotN n.val).res = some .ring → s.ringFits n (occupied (s.recordRead f).length) = true →
      exec (.resultPost n) s = .next (s.postRecord n f none false))
    ∧ ((s.slotN n.val).res = some .ring → s.ringFits n (occupied (s.recordRead f).length) = false →
      exec (.resultPost n) s = .next ((s.updRrg n (fun r => { r with full := true })).updSlot n
        (fun sl => { sl with roomDue := some (sl.roomDue.getD (s.clock + 1000)) })))
    ∧ ((s.slotN n.val).res = some .ring → (s.slotN n.val).roomDue = none → exec (.resultRingFullTimeout n) s = .next s)
    ∧ (∀ d, (s.slotN n.val).res = some .ring → (s.slotN n.val).roomDue = some d →
      (s.clock < d → exec (.resultRingFullTimeout n) s = .next s)
      ∧ (d ≤ s.clock → s.ringFits n (occupied (s.recordRead f).length) = true → exec (.resultRingFullTimeout n) s = .next (s.postRecord n f none false))
      ∧ (d ≤ s.clock → s.ringFits n (occupied (s.recordRead f).length) = false → exec (.resultRingFullTimeout n) s = .next
        ((s.updRrg n (fun r => { r with fullCount := satInc r.fullCount })).postRecord n f none true))))
  ∧ (∀ (n : Fin 64) (s : State), s.live = true → s.frameTurn n.val 8 = none → exec (.resultPost n) s = .next s ∧ exec (.resultRingFullTimeout n) s = .next s)
  ∧ (∀ (n : Fin 64) (v : U32) (s u : State), s.barUp = true →
    ((s.host.rrg[n].en = false ∨ s.host.rrg[n].readOk v.toNat = false) → exec (.rrgReadWrite n v) s = .next s)
    ∧ (s.host.rrg[n].en = true → s.host.rrg[n].readOk v.toNat = true → u = (s.updRrg n (fun r => { r with read := v, armed := true })).ringEval n →
      ((u.slotN n.val).roomDue = none → exec (.rrgReadWrite n v) s = .next u)
      ∧ (∀ d, (u.slotN n.val).roomDue = some d → exec (.rrgReadWrite n v) s = .next (u.postTry n))))
  ∧ (∀ (n : Fin 64) (v : U32) (s : State), s.barUp = true →
    (17 ≤ bitsOf v.toNat 24 6 → exec (.rrgIrqWrite n v) s = .next ((s.updRrg n (fun r => { r with
      count := BitVec.ofNat 8 (bitsOf v.toNat 0 8), timeoutUs := BitVec.ofNat 16 (bitsOf v.toNat 8 16),
      vector := BitVec.ofNat 6 (bitsOf v.toNat 24 6) })).ringEval n))
    ∧ (bitsOf v.toNat 24 6 < 17 → exec (.rrgIrqWrite n v) s = .next ((s.updRrg n (fun r => { r with
      count := BitVec.ofNat 8 (bitsOf v.toNat 0 8), timeoutUs := BitVec.ofNat 16 (bitsOf v.toNat 8 16) })).ringEval n)))
  ∧ (∀ (n : Fin 64) (v : U32) (s : State), s.barUp = false → exec (.rrgReadWrite n v) s = .next s ∧ exec (.rrgIrqWrite n v) s = .next s)
  ∧ (∀ (n : Fin 64) (s : State), s.live = true → exec (.rrgIrqTimeout n) s = .next (s.ringEval n))
  ∧ (∀ (n : Fin 64) (s : State) (r : Rrg), r = s.host.rrg[n] →
    ((r.en = false ∨ r.armed = false) → s.ringEval n = s)
    ∧ (s.msixTakes r.vector.toFin = false → s.ringEval n = s)
    ∧ (r.en = true → r.armed = true → s.msixTakes r.vector.toFin = true →
      (max 1 r.count.toNat ≤ r.sinceMsg ∨ ∃ t, r.oldestAt = some t ∧ r.timeoutUs ≠ 0 ∧ t + r.timeoutUs.toNat ≤ s.clock) →
      (s.ringEval n).host.rrg[n] = { r with armed := false, sinceMsg := 0, oldestAt := none }
      ∧ (s.ringEval n).host.msix = (s.sendMsix r.vector.toFin).host.msix ∧ (s.ringEval n).out = (s.sendMsix r.vector.toFin).out))

/-! ### The device-fault stop and reset -/

/-- A stopped device stays stopped until POR_N, PERST_N, a reset of the link or the loss of VDD_IO18: every step from a stopped state leaves it
stopped, no closed gate opens, memory, streams, pips, pools, link and scheduler stay as they are, and nothing is sent but a set point or a status read of
the core supply and the answers to reads of BAR0 and BAR2 (R563, R75). -/
def Obligations.StopHolds : Prop :=
  ∀ s t : State, s.halted = true → resetFree s.pending = true → step s = .next t →
    t.halted = true ∧ resetFree t.pending = true
    ∧ (∀ u : Fin 56, s.gate[u].closed = true → t.gate[u].closed = true)
    ∧ t.mem.cells = s.mem.cells ∧ t.str = s.str ∧ t.pip = s.pip ∧ t.bpm = s.bpm ∧ t.lfn = s.lfn ∧ t.sched = s.sched
    ∧ ∀ x ∈ t.out, x ∈ s.out ∨ x.whenHalted = true

/-- A device fault after READY stops the device: DEVICE is latched, SAFE_N and FAULT_N are low, the gate of every gateable unit is closed,
and from then on the device may make no memory request (R562, R563, R576, R583). -/
def Obligations.StopEntered : Prop :=
  ∀ (u d : Byte) (v : U32) (s : State), s.kprRuns = true → s.boot.stage = 0xF → s.boot.hostWait = false → s.kpr.stopped = false →
    ∃ t, exec (.deviceFaultReport u d v) s = .next t ∧ t.halted = true ∧ t.faultNLow = true ∧ t.canRequest = false ∧ t.live = false
      ∧ (∀ k : Fin 56, unitGateable k.val = true → t.gate[k].closed = true
        ∧ t.gate[k].epoch = if s.gate[k].closed then s.gate[k].epoch else s.gate[k].epoch + 1)
      ∧ t.mem = s.mem ∧ t.str = s.str

/-- What the register tables give at reset (R13): STAGE 0x00 without an error (R78), no mailbox enabled, no interrupt source set and all ten enabled (04),
nothing latched and SAFE_N low (20, Registers and fields), every epoch 0 and no unit fenced (19). The queue is empty, no byte of memory is
listed, and the device does not run yet. -/
def Obligations.ResetValues : Prop :=
  let s := State.reset
  s.boot.stage = 0 ∧ s.boot.error = false ∧ (∀ m : Fin 16, s.host.mbx[m].enabled = false ∧ s.host.mbx[m].rspTail = 0)
  ∧ s.intStatus = 0 ∧ s.host.int.enable = 0x3FF ∧ s.kpr.safe = false ∧ s.kpr.fault = 0 ∧ s.faultNLow = false
  ∧ (∀ u : Fin 56, s.gate[u].epoch = 0 ∧ s.gate[u].fenced = false) ∧ Memory.wf s ∧ s.pending = [] ∧ s.live = false

/-- OFF is left only through POR_N (02, Power states): every step from OFF whose command is not the assertion of POR_N leaves the device in OFF. -/
def Obligations.OffLeftByPorOnly : Prop :=
  ∀ s t : State, s.sup.power = .off → s.pending.head? ≠ some .porNAssert → step s = .next t → t.sup.power = .off
end

