-- ==== Sys2Proof/Laws/Memory.lean ====
section
/-!
SUPPORT. Laws of the cell lists that hold memory: a read after a write, the canonical form, and what the memory operations
leave alone.
-/
namespace Sys2Proof.Machine
open Sys2Proof

/-- The canonical form of a non-empty list: its tail is canonical, its head lists no zero and lies below every other
cell. -/
theorem cellsWf_cons (c : Host.Cell) (cs : List Host.Cell) :
    cellsWf (c :: cs) = true ↔ c.2 ≠ 0 ∧ (∀ d ∈ cs, c.1 < d.1) ∧ cellsWf cs = true := by
  induction cs generalizing c with
  | nil => simp [cellsWf]
  | cons d cs ih =>
    simp only [cellsWf, Bool.and_eq_true, decide_eq_true_eq, bne_iff_ne, List.mem_cons]
    constructor
    · rintro ⟨⟨h1, h2⟩, h3⟩
      refine ⟨h1, ?_, h3⟩
      rintro e (rfl | he)
      · exact h2
      · exact Nat.lt_trans h2 (((ih d).mp h3).2.1 e he)
    · rintro ⟨h1, h2, h3⟩
      exact ⟨⟨h1, h2 d (Or.inl rfl)⟩, h3⟩

/-- An address below every listed one reads 0. -/
theorem cellGet_below (m : List Host.Cell) (a : Nat) (h : ∀ d ∈ m, a < d.1) : cellGet m a = 0 := by
  induction m with
  | nil => rfl
  | cons c cs ih =>
    have hc := h c (List.mem_cons_self ..)
    simp only [cellGet]
    rw [if_neg (by omega)]
    exact ih (fun d hd => h d (List.mem_cons_of_mem _ hd))

/-- A cell of the list after a write is one of the list before, or the one written. -/
theorem mem_cellSet (m : List Host.Cell) (a : Nat) (b : Byte) (d : Host.Cell) (h : d ∈ cellSet m a b) :
    d ∈ m ∨ d = (a, b) := by
  induction m with
  | nil =>
    simp only [cellSet] at h
    split at h <;> simp_all
  | cons c cs ih =>
    simp only [cellSet] at h
    split at h
    · split at h
      · exact Or.inl h
      · rcases List.mem_cons.mp h with rfl | h
        · exact Or.inr rfl
        · exact Or.inl h
    · split at h
      · split at h
        · exact Or.inl (List.mem_cons_of_mem _ h)
        · rcases List.mem_cons.mp h with rfl | h
          · exact Or.inr rfl
          · exact Or.inl (List.mem_cons_of_mem _ h)
      · rcases List.mem_cons.mp h with rfl | h
        · exact Or.inl (List.mem_cons_self ..)
        · rcases ih h with h | h
          · exact Or.inl (List.mem_cons_of_mem _ h)
          · exact Or.inr h

/-- A write keeps the canonical form. -/
theorem cellSet_wf (m : List Host.Cell) (a : Nat) (b : Byte) (h : cellsWf m = true) : cellsWf (cellSet m a b) = true := by
  induction m with
  | nil =>
    simp only [cellSet]
    split <;> simp_all [cellsWf]
  | cons c cs ih =>
    have hc := (cellsWf_cons c cs).mp h
    simp only [cellSet]
    split
    · rename_i hlt
      split
      · exact h
      · rename_i hb
        refine (cellsWf_cons _ _).mpr ⟨hb, ?_, h⟩
        intro d hd
        rcases List.mem_cons.mp hd with rfl | hd
        · exact hlt
        · exact Nat.lt_trans hlt (hc.2.1 d hd)
    · split
      · rename_i heq
        split
        · exact hc.2.2
        · rename_i hb
          exact (cellsWf_cons _ _).mpr ⟨hb, fun d hd => heq ▸ hc.2.1 d hd, hc.2.2⟩
      · rename_i hn he
        refine (cellsWf_cons _ _).mpr ⟨hc.1, ?_, ih hc.2.2⟩
        intro d hd
        rcases mem_cellSet cs a b d hd with hd | rfl
        · exact hc.2.1 d hd
        · show c.1 < a
          omega

/-- A write of bytes keeps the canonical form. -/
theorem cellsWrite_wf (bs : List Byte) (m : List Host.Cell) (a : Nat) (h : cellsWf m = true) :
    cellsWf (cellsWrite m a bs) = true := by
  induction bs generalizing m a with
  | nil => exact h
  | cons b bs ih => exact ih _ _ (cellSet_wf m a b h)

/-- Taking cells out keeps the canonical form. -/
theorem cellsFilter_wf (p : Host.Cell → Bool) (m : List Host.Cell) (h : cellsWf m = true) : cellsWf (m.filter p) = true := by
  induction m with
  | nil => rfl
  | cons c cs ih =>
    have hc := (cellsWf_cons c cs).mp h
    simp only [List.filter]
    split
    · exact (cellsWf_cons _ _).mpr ⟨hc.1, fun d hd => hc.2.1 d (List.mem_filter.mp hd).1, ih hc.2.2⟩
    · exact ih hc.2.2

/-- Zeroing a range keeps the canonical form. -/
theorem cellsClear_wf (m : List Host.Cell) (a n : Nat) (h : cellsWf m = true) : cellsWf (cellsClear m a n) = true :=
  cellsFilter_wf _ m h

/-- A read of one byte after a write of one. -/
theorem cellGet_cellSet (m : List Host.Cell) (a : Nat) (b : Byte) (x : Nat) (h : cellsWf m = true) :
    cellGet (cellSet m a b) x = if x = a then b else cellGet m x := by
  induction m with
  | nil =>
    simp only [cellSet]
    split <;> rename_i hb
    · split <;> simp_all [cellGet]
    · simp only [cellGet]
      by_cases hx : x = a
      · simp [hx]
      · rw [if_neg (fun h => hx h.symm), if_neg hx]
  | cons c cs ih =>
    have hc := (cellsWf_cons c cs).mp h
    simp only [cellSet]
    split
    · rename_i hlt
      split <;> rename_i hb
      · split
        · rename_i hx
          subst hx
          rw [cellGet_below _ _ (fun d hd => ?_), hb]
          rcases List.mem_cons.mp hd with rfl | hd
          · exact hlt
          · exact Nat.lt_trans hlt (hc.2.1 d hd)
        · rfl
      · by_cases hx : x = a
        · subst hx; simp [cellGet]
        · rw [if_neg hx, cellGet, if_neg (fun h => hx h.symm)]
    · split
      · rename_i heq
        split <;> rename_i hb
        · by_cases hx : x = a
          · subst hx
            rw [if_pos rfl, cellGet_below _ _ (fun d hd => heq ▸ hc.2.1 d hd), hb]
          · rw [if_neg hx, cellGet, if_neg (fun h => hx (by rw [heq, h]))]
        · by_cases hx : x = a
          · subst hx; simp [cellGet]
          · rw [if_neg hx, cellGet, cellGet, if_neg (fun h => hx h.symm), if_neg (fun h => hx (by rw [heq, h]))]
      · rename_i hn he
        simp only [cellGet, ih hc.2.2]
        by_cases hx : c.1 = x
        · rw [if_pos hx, if_neg (by omega), if_pos hx]
        · rw [if_neg hx, if_neg hx]

/-- A read of one byte after a write of bytes. -/
theorem cellGet_cellsWrite (bs : List Byte) (m : List Host.Cell) (a x : Nat) (h : cellsWf m = true) :
    cellGet (cellsWrite m a bs) x = if a ≤ x ∧ x < a + bs.length then bs.getD (x - a) 0 else cellGet m x := by
  induction bs generalizing m a with
  | nil => simp only [cellsWrite, List.length_nil]; rw [if_neg (by omega)]
  | cons b bs ih =>
    rw [cellsWrite, ih _ _ (cellSet_wf m a b h), cellGet_cellSet m a b x h]
    by_cases h1 : a + 1 ≤ x ∧ x < a + 1 + bs.length
    · rw [if_pos h1, if_pos ⟨by omega, by simp only [List.length_cons]; omega⟩]
      have : x - a = (x - (a + 1)) + 1 := by omega
      rw [this, List.getD_cons_succ]
    · rw [if_neg h1]
      by_cases h2 : x = a
      · subst h2
        simp
      · rw [if_neg h2, if_neg (by simp only [List.length_cons]; omega)]

/-- A read of one byte after zeroing a range. -/
theorem cellGet_cellsClear (m : List Host.Cell) (a n x : Nat) :
    cellGet (cellsClear m a n) x = if a ≤ x ∧ x < a + n then 0 else cellGet m x := by
  induction m with
  | nil => simp [cellsClear, cellGet]
  | cons c cs ih =>
    simp only [cellsClear, List.filter] at ih ⊢
    split <;> rename_i hp
    · simp only [cellGet, ih]
      simp only [Bool.or_eq_true, decide_eq_true_eq] at hp
      by_cases hx : c.1 = x
      · rw [if_pos hx, if_pos hx, if_neg (by omega)]
      · rw [if_neg hx, if_neg hx]
    · rw [ih]
      simp only [Bool.or_eq_false_iff, decide_eq_false_iff_not] at hp
      by_cases hx : c.1 = x
      · rw [if_pos (by omega), if_pos (by omega)]
      · simp only [cellGet, if_neg hx]

/-- A fold of single writes keeps the canonical form. -/
theorem cellSet_foldl_wf {α : Type} (xs : List α) (m : List Host.Cell) (skip : α → Bool) (at_ : α → Nat) (b : α → Byte)
    (h : cellsWf m = true) :
    cellsWf (xs.foldl (fun m x => if skip x then m else cellSet m (at_ x) (b x)) m) = true := by
  induction xs generalizing m with
  | nil => exact h
  | cons x xs ih =>
    refine ih _ ?_
    show cellsWf (if skip x then m else cellSet m (at_ x) (b x)) = true
    split
    · exact h
    · exact cellSet_wf _ _ _ h

/-- Memory's writes keep its canonical form. -/
theorem memWrite_wf (s : State) (a : Nat) (bs : List Byte) (h : Memory.wf s) : Memory.wf (s.memWrite a bs) := by
  show cellsWf (s.memWrite a bs).mem.cells = true
  simp only [State.memWrite]
  split
  · exact cellsWrite_wf bs _ a h
  · exact cellSet_foldl_wf _ _ _ (fun x : Byte × Nat => a + x.2) (fun x => x.1) h

/-- Zeroing memory keeps its canonical form. -/
theorem memClear_wf (s : State) (a n : Nat) (h : Memory.wf s) : Memory.wf (s.memClear a n) :=
  cellsClear_wf s.mem.cells a n h

/-- Memory has its canonical form at reset. -/
theorem reset_memory_wf : Memory.wf State.reset := rfl

/-- What a write of memory can change: cells, ECC marks of lines, poison marks of Feature Store words. -/
theorem memWrite_frame (s : State) (a : Nat) (bs : List Byte) :
    s.memWrite a bs =
      { s with
        mem := { s.mem with cells := (s.memWrite a bs).mem.cells, ecc := (s.memWrite a bs).mem.ecc }
        str := { s.str with fs := { s.str.fs with poison := (s.memWrite a bs).str.fs.poison } } } := rfl

/-- A write that meets no uncorrectable line writes every byte. -/
theorem memWrite_cells (s : State) (a : Nat) (bs : List Byte) (h : s.mem.ecc = []) :
    (s.memWrite a bs).mem.cells = cellsWrite s.mem.cells a bs := by
  simp [State.memWrite, h]

end Sys2Proof.Machine
end

