-- ==== Sys2Proof/Laws/State.lean ====
section
/-!
SUPPORT. What each update of a part of the state leaves in every field: one lemma per field per update.
-/
namespace Sys2Proof.Machine
open Sys2Proof

variable (s : State)

/-- An entry of a table after a change of that entry. -/
@[simp] theorem updAt_get_self {α : Type} {n : Nat} (v : Vector α n) (i : Fin n) (f : α → α) : (updAt v i f)[i] = f v[i] := by
  simp [updAt]

/-- The same, where the index has become a number. -/
@[simp] theorem updAt_get_val {α : Type} {n : Nat} (v : Vector α n) (i : Fin n) (f : α → α) :
    (updAt v i f)[i.val] = f v[i.val] := by
  simp [updAt]

/-- An entry of a table after a change of another. -/
theorem updAt_get_other {α : Type} {n : Nat} (v : Vector α n) (i j : Fin n) (f : α → α) (h : i ≠ j) :
    (updAt v i f)[j] = v[j] := by
  have h' : i.val ≠ j.val := fun e => h (Fin.ext e)
  simp [updAt, Vector.getElem_set_ne, h']

/-! ### updMbx -/

@[simp] theorem updMbx_clock (m : Fin 16) (f : Mbx → Mbx) : (s.updMbx m f).clock = s.clock := rfl
@[simp] theorem updMbx_free (m : Fin 16) (f : Mbx → Mbx) : (s.updMbx m f).free = s.free := rfl
@[simp] theorem updMbx_pending (m : Fin 16) (f : Mbx → Mbx) : (s.updMbx m f).pending = s.pending := rfl
@[simp] theorem updMbx_out (m : Fin 16) (f : Mbx → Mbx) : (s.updMbx m f).out = s.out := rfl
@[simp] theorem updMbx_host (m : Fin 16) (f : Mbx → Mbx) : (s.updMbx m f).host = { s.host with mbx := updAt s.host.mbx m f } := rfl
@[simp] theorem updMbx_sup (m : Fin 16) (f : Mbx → Mbx) : (s.updMbx m f).sup = s.sup := rfl
@[simp] theorem updMbx_boot (m : Fin 16) (f : Mbx → Mbx) : (s.updMbx m f).boot = s.boot := rfl
@[simp] theorem updMbx_pins (m : Fin 16) (f : Mbx → Mbx) : (s.updMbx m f).pins = s.pins := rfl
@[simp] theorem updMbx_mem (m : Fin 16) (f : Mbx → Mbx) : (s.updMbx m f).mem = s.mem := rfl
@[simp] theorem updMbx_bpm (m : Fin 16) (f : Mbx → Mbx) : (s.updMbx m f).bpm = s.bpm := rfl
@[simp] theorem updMbx_pip (m : Fin 16) (f : Mbx → Mbx) : (s.updMbx m f).pip = s.pip := rfl
@[simp] theorem updMbx_gate (m : Fin 16) (f : Mbx → Mbx) : (s.updMbx m f).gate = s.gate := rfl
@[simp] theorem updMbx_running (m : Fin 16) (f : Mbx → Mbx) : (s.updMbx m f).running = s.running := rfl
@[simp] theorem updMbx_fw (m : Fin 16) (f : Mbx → Mbx) : (s.updMbx m f).fw = s.fw := rfl
@[simp] theorem updMbx_kpr (m : Fin 16) (f : Mbx → Mbx) : (s.updMbx m f).kpr = s.kpr := rfl
@[simp] theorem updMbx_io (m : Fin 16) (f : Mbx → Mbx) : (s.updMbx m f).io = s.io := rfl
@[simp] theorem updMbx_sched (m : Fin 16) (f : Mbx → Mbx) : (s.updMbx m f).sched = s.sched := rfl
@[simp] theorem updMbx_str (m : Fin 16) (f : Mbx → Mbx) : (s.updMbx m f).str = s.str := rfl
@[simp] theorem updMbx_lfn (m : Fin 16) (f : Mbx → Mbx) : (s.updMbx m f).lfn = s.lfn := rfl
@[simp] theorem updMbx_ltn (m : Fin 16) (f : Mbx → Mbx) : (s.updMbx m f).ltn = s.ltn := rfl
@[simp] theorem updMbx_ckpt (m : Fin 16) (f : Mbx → Mbx) : (s.updMbx m f).ckpt = s.ckpt := rfl

/-! ### updRrg -/

@[simp] theorem updRrg_clock (r : Fin 64) (f : Rrg → Rrg) : (s.updRrg r f).clock = s.clock := rfl
@[simp] theorem updRrg_free (r : Fin 64) (f : Rrg → Rrg) : (s.updRrg r f).free = s.free := rfl
@[simp] theorem updRrg_pending (r : Fin 64) (f : Rrg → Rrg) : (s.updRrg r f).pending = s.pending := rfl
@[simp] theorem updRrg_out (r : Fin 64) (f : Rrg → Rrg) : (s.updRrg r f).out = s.out := rfl
@[simp] theorem updRrg_host (r : Fin 64) (f : Rrg → Rrg) : (s.updRrg r f).host = { s.host with rrg := updAt s.host.rrg r f } := rfl
@[simp] theorem updRrg_sup (r : Fin 64) (f : Rrg → Rrg) : (s.updRrg r f).sup = s.sup := rfl
@[simp] theorem updRrg_boot (r : Fin 64) (f : Rrg → Rrg) : (s.updRrg r f).boot = s.boot := rfl
@[simp] theorem updRrg_pins (r : Fin 64) (f : Rrg → Rrg) : (s.updRrg r f).pins = s.pins := rfl
@[simp] theorem updRrg_mem (r : Fin 64) (f : Rrg → Rrg) : (s.updRrg r f).mem = s.mem := rfl
@[simp] theorem updRrg_bpm (r : Fin 64) (f : Rrg → Rrg) : (s.updRrg r f).bpm = s.bpm := rfl
@[simp] theorem updRrg_pip (r : Fin 64) (f : Rrg → Rrg) : (s.updRrg r f).pip = s.pip := rfl
@[simp] theorem updRrg_gate (r : Fin 64) (f : Rrg → Rrg) : (s.updRrg r f).gate = s.gate := rfl
@[simp] theorem updRrg_running (r : Fin 64) (f : Rrg → Rrg) : (s.updRrg r f).running = s.running := rfl
@[simp] theorem updRrg_fw (r : Fin 64) (f : Rrg → Rrg) : (s.updRrg r f).fw = s.fw := rfl
@[simp] theorem updRrg_kpr (r : Fin 64) (f : Rrg → Rrg) : (s.updRrg r f).kpr = s.kpr := rfl
@[simp] theorem updRrg_io (r : Fin 64) (f : Rrg → Rrg) : (s.updRrg r f).io = s.io := rfl
@[simp] theorem updRrg_sched (r : Fin 64) (f : Rrg → Rrg) : (s.updRrg r f).sched = s.sched := rfl
@[simp] theorem updRrg_str (r : Fin 64) (f : Rrg → Rrg) : (s.updRrg r f).str = s.str := rfl
@[simp] theorem updRrg_lfn (r : Fin 64) (f : Rrg → Rrg) : (s.updRrg r f).lfn = s.lfn := rfl
@[simp] theorem updRrg_ltn (r : Fin 64) (f : Rrg → Rrg) : (s.updRrg r f).ltn = s.ltn := rfl
@[simp] theorem updRrg_ckpt (r : Fin 64) (f : Rrg → Rrg) : (s.updRrg r f).ckpt = s.ckpt := rfl

/-! ### updInt -/

@[simp] theorem updInt_clock (f : IntBlk → IntBlk) : (s.updInt f).clock = s.clock := rfl
@[simp] theorem updInt_free (f : IntBlk → IntBlk) : (s.updInt f).free = s.free := rfl
@[simp] theorem updInt_pending (f : IntBlk → IntBlk) : (s.updInt f).pending = s.pending := rfl
@[simp] theorem updInt_out (f : IntBlk → IntBlk) : (s.updInt f).out = s.out := rfl
@[simp] theorem updInt_host (f : IntBlk → IntBlk) : (s.updInt f).host = { s.host with int := f s.host.int } := rfl
@[simp] theorem updInt_sup (f : IntBlk → IntBlk) : (s.updInt f).sup = s.sup := rfl
@[simp] theorem updInt_boot (f : IntBlk → IntBlk) : (s.updInt f).boot = s.boot := rfl
@[simp] theorem updInt_pins (f : IntBlk → IntBlk) : (s.updInt f).pins = s.pins := rfl
@[simp] theorem updInt_mem (f : IntBlk → IntBlk) : (s.updInt f).mem = s.mem := rfl
@[simp] theorem updInt_bpm (f : IntBlk → IntBlk) : (s.updInt f).bpm = s.bpm := rfl
@[simp] theorem updInt_pip (f : IntBlk → IntBlk) : (s.updInt f).pip = s.pip := rfl
@[simp] theorem updInt_gate (f : IntBlk → IntBlk) : (s.updInt f).gate = s.gate := rfl
@[simp] theorem updInt_running (f : IntBlk → IntBlk) : (s.updInt f).running = s.running := rfl
@[simp] theorem updInt_fw (f : IntBlk → IntBlk) : (s.updInt f).fw = s.fw := rfl
@[simp] theorem updInt_kpr (f : IntBlk → IntBlk) : (s.updInt f).kpr = s.kpr := rfl
@[simp] theorem updInt_io (f : IntBlk → IntBlk) : (s.updInt f).io = s.io := rfl
@[simp] theorem updInt_sched (f : IntBlk → IntBlk) : (s.updInt f).sched = s.sched := rfl
@[simp] theorem updInt_str (f : IntBlk → IntBlk) : (s.updInt f).str = s.str := rfl
@[simp] theorem updInt_lfn (f : IntBlk → IntBlk) : (s.updInt f).lfn = s.lfn := rfl
@[simp] theorem updInt_ltn (f : IntBlk → IntBlk) : (s.updInt f).ltn = s.ltn := rfl
@[simp] theorem updInt_ckpt (f : IntBlk → IntBlk) : (s.updInt f).ckpt = s.ckpt := rfl

/-! ### updPcie -/

@[simp] theorem updPcie_clock (f : Pcie → Pcie) : (s.updPcie f).clock = s.clock := rfl
@[simp] theorem updPcie_free (f : Pcie → Pcie) : (s.updPcie f).free = s.free := rfl
@[simp] theorem updPcie_pending (f : Pcie → Pcie) : (s.updPcie f).pending = s.pending := rfl
@[simp] theorem updPcie_out (f : Pcie → Pcie) : (s.updPcie f).out = s.out := rfl
@[simp] theorem updPcie_host (f : Pcie → Pcie) : (s.updPcie f).host = { s.host with pcie := f s.host.pcie } := rfl
@[simp] theorem updPcie_sup (f : Pcie → Pcie) : (s.updPcie f).sup = s.sup := rfl
@[simp] theorem updPcie_boot (f : Pcie → Pcie) : (s.updPcie f).boot = s.boot := rfl
@[simp] theorem updPcie_pins (f : Pcie → Pcie) : (s.updPcie f).pins = s.pins := rfl
@[simp] theorem updPcie_mem (f : Pcie → Pcie) : (s.updPcie f).mem = s.mem := rfl
@[simp] theorem updPcie_bpm (f : Pcie → Pcie) : (s.updPcie f).bpm = s.bpm := rfl
@[simp] theorem updPcie_pip (f : Pcie → Pcie) : (s.updPcie f).pip = s.pip := rfl
@[simp] theorem updPcie_gate (f : Pcie → Pcie) : (s.updPcie f).gate = s.gate := rfl
@[simp] theorem updPcie_running (f : Pcie → Pcie) : (s.updPcie f).running = s.running := rfl
@[simp] theorem updPcie_fw (f : Pcie → Pcie) : (s.updPcie f).fw = s.fw := rfl
@[simp] theorem updPcie_kpr (f : Pcie → Pcie) : (s.updPcie f).kpr = s.kpr := rfl
@[simp] theorem updPcie_io (f : Pcie → Pcie) : (s.updPcie f).io = s.io := rfl
@[simp] theorem updPcie_sched (f : Pcie → Pcie) : (s.updPcie f).sched = s.sched := rfl
@[simp] theorem updPcie_str (f : Pcie → Pcie) : (s.updPcie f).str = s.str := rfl
@[simp] theorem updPcie_lfn (f : Pcie → Pcie) : (s.updPcie f).lfn = s.lfn := rfl
@[simp] theorem updPcie_ltn (f : Pcie → Pcie) : (s.updPcie f).ltn = s.ltn := rfl
@[simp] theorem updPcie_ckpt (f : Pcie → Pcie) : (s.updPcie f).ckpt = s.ckpt := rfl

/-! ### updCtx -/

@[simp] theorem updCtx_clock (c : Fin 64) (f : Ctx → Ctx) : (s.updCtx c f).clock = s.clock := rfl
@[simp] theorem updCtx_free (c : Fin 64) (f : Ctx → Ctx) : (s.updCtx c f).free = s.free := rfl
@[simp] theorem updCtx_pending (c : Fin 64) (f : Ctx → Ctx) : (s.updCtx c f).pending = s.pending := rfl
@[simp] theorem updCtx_out (c : Fin 64) (f : Ctx → Ctx) : (s.updCtx c f).out = s.out := rfl
@[simp] theorem updCtx_host (c : Fin 64) (f : Ctx → Ctx) : (s.updCtx c f).host = s.host := rfl
@[simp] theorem updCtx_sup (c : Fin 64) (f : Ctx → Ctx) : (s.updCtx c f).sup = s.sup := rfl
@[simp] theorem updCtx_boot (c : Fin 64) (f : Ctx → Ctx) : (s.updCtx c f).boot = s.boot := rfl
@[simp] theorem updCtx_pins (c : Fin 64) (f : Ctx → Ctx) : (s.updCtx c f).pins = s.pins := rfl
@[simp] theorem updCtx_mem (c : Fin 64) (f : Ctx → Ctx) : (s.updCtx c f).mem = { s.mem with ctx := updAt s.mem.ctx c f } := rfl
@[simp] theorem updCtx_bpm (c : Fin 64) (f : Ctx → Ctx) : (s.updCtx c f).bpm = s.bpm := rfl
@[simp] theorem updCtx_pip (c : Fin 64) (f : Ctx → Ctx) : (s.updCtx c f).pip = s.pip := rfl
@[simp] theorem updCtx_gate (c : Fin 64) (f : Ctx → Ctx) : (s.updCtx c f).gate = s.gate := rfl
@[simp] theorem updCtx_running (c : Fin 64) (f : Ctx → Ctx) : (s.updCtx c f).running = s.running := rfl
@[simp] theorem updCtx_fw (c : Fin 64) (f : Ctx → Ctx) : (s.updCtx c f).fw = s.fw := rfl
@[simp] theorem updCtx_kpr (c : Fin 64) (f : Ctx → Ctx) : (s.updCtx c f).kpr = s.kpr := rfl
@[simp] theorem updCtx_io (c : Fin 64) (f : Ctx → Ctx) : (s.updCtx c f).io = s.io := rfl
@[simp] theorem updCtx_sched (c : Fin 64) (f : Ctx → Ctx) : (s.updCtx c f).sched = s.sched := rfl
@[simp] theorem updCtx_str (c : Fin 64) (f : Ctx → Ctx) : (s.updCtx c f).str = s.str := rfl
@[simp] theorem updCtx_lfn (c : Fin 64) (f : Ctx → Ctx) : (s.updCtx c f).lfn = s.lfn := rfl
@[simp] theorem updCtx_ltn (c : Fin 64) (f : Ctx → Ctx) : (s.updCtx c f).ltn = s.ltn := rfl
@[simp] theorem updCtx_ckpt (c : Fin 64) (f : Ctx → Ctx) : (s.updCtx c f).ckpt = s.ckpt := rfl

/-! ### updDmc -/

@[simp] theorem updDmc_clock (n : Fin 4) (f : Dmc → Dmc) : (s.updDmc n f).clock = s.clock := rfl
@[simp] theorem updDmc_free (n : Fin 4) (f : Dmc → Dmc) : (s.updDmc n f).free = s.free := rfl
@[simp] theorem updDmc_pending (n : Fin 4) (f : Dmc → Dmc) : (s.updDmc n f).pending = s.pending := rfl
@[simp] theorem updDmc_out (n : Fin 4) (f : Dmc → Dmc) : (s.updDmc n f).out = s.out := rfl
@[simp] theorem updDmc_host (n : Fin 4) (f : Dmc → Dmc) : (s.updDmc n f).host = s.host := rfl
@[simp] theorem updDmc_sup (n : Fin 4) (f : Dmc → Dmc) : (s.updDmc n f).sup = s.sup := rfl
@[simp] theorem updDmc_boot (n : Fin 4) (f : Dmc → Dmc) : (s.updDmc n f).boot = s.boot := rfl
@[simp] theorem updDmc_pins (n : Fin 4) (f : Dmc → Dmc) : (s.updDmc n f).pins = s.pins := rfl
@[simp] theorem updDmc_mem (n : Fin 4) (f : Dmc → Dmc) : (s.updDmc n f).mem = { s.mem with dmc := updAt s.mem.dmc n f } := rfl
@[simp] theorem updDmc_bpm (n : Fin 4) (f : Dmc → Dmc) : (s.updDmc n f).bpm = s.bpm := rfl
@[simp] theorem updDmc_pip (n : Fin 4) (f : Dmc → Dmc) : (s.updDmc n f).pip = s.pip := rfl
@[simp] theorem updDmc_gate (n : Fin 4) (f : Dmc → Dmc) : (s.updDmc n f).gate = s.gate := rfl
@[simp] theorem updDmc_running (n : Fin 4) (f : Dmc → Dmc) : (s.updDmc n f).running = s.running := rfl
@[simp] theorem updDmc_fw (n : Fin 4) (f : Dmc → Dmc) : (s.updDmc n f).fw = s.fw := rfl
@[simp] theorem updDmc_kpr (n : Fin 4) (f : Dmc → Dmc) : (s.updDmc n f).kpr = s.kpr := rfl
@[simp] theorem updDmc_io (n : Fin 4) (f : Dmc → Dmc) : (s.updDmc n f).io = s.io := rfl
@[simp] theorem updDmc_sched (n : Fin 4) (f : Dmc → Dmc) : (s.updDmc n f).sched = s.sched := rfl
@[simp] theorem updDmc_str (n : Fin 4) (f : Dmc → Dmc) : (s.updDmc n f).str = s.str := rfl
@[simp] theorem updDmc_lfn (n : Fin 4) (f : Dmc → Dmc) : (s.updDmc n f).lfn = s.lfn := rfl
@[simp] theorem updDmc_ltn (n : Fin 4) (f : Dmc → Dmc) : (s.updDmc n f).ltn = s.ltn := rfl
@[simp] theorem updDmc_ckpt (n : Fin 4) (f : Dmc → Dmc) : (s.updDmc n f).ckpt = s.ckpt := rfl

/-! ### updPool -/

@[simp] theorem updPool_clock (p : Fin 16) (f : Pool → Pool) : (s.updPool p f).clock = s.clock := rfl
@[simp] theorem updPool_free (p : Fin 16) (f : Pool → Pool) : (s.updPool p f).free = s.free := rfl
@[simp] theorem updPool_pending (p : Fin 16) (f : Pool → Pool) : (s.updPool p f).pending = s.pending := rfl
@[simp] theorem updPool_out (p : Fin 16) (f : Pool → Pool) : (s.updPool p f).out = s.out := rfl
@[simp] theorem updPool_host (p : Fin 16) (f : Pool → Pool) : (s.updPool p f).host = s.host := rfl
@[simp] theorem updPool_sup (p : Fin 16) (f : Pool → Pool) : (s.updPool p f).sup = s.sup := rfl
@[simp] theorem updPool_boot (p : Fin 16) (f : Pool → Pool) : (s.updPool p f).boot = s.boot := rfl
@[simp] theorem updPool_pins (p : Fin 16) (f : Pool → Pool) : (s.updPool p f).pins = s.pins := rfl
@[simp] theorem updPool_mem (p : Fin 16) (f : Pool → Pool) : (s.updPool p f).mem = s.mem := rfl
@[simp] theorem updPool_bpm (p : Fin 16) (f : Pool → Pool) : (s.updPool p f).bpm = { s.bpm with pool := updAt s.bpm.pool p f } := rfl
@[simp] theorem updPool_pip (p : Fin 16) (f : Pool → Pool) : (s.updPool p f).pip = s.pip := rfl
@[simp] theorem updPool_gate (p : Fin 16) (f : Pool → Pool) : (s.updPool p f).gate = s.gate := rfl
@[simp] theorem updPool_running (p : Fin 16) (f : Pool → Pool) : (s.updPool p f).running = s.running := rfl
@[simp] theorem updPool_fw (p : Fin 16) (f : Pool → Pool) : (s.updPool p f).fw = s.fw := rfl
@[simp] theorem updPool_kpr (p : Fin 16) (f : Pool → Pool) : (s.updPool p f).kpr = s.kpr := rfl
@[simp] theorem updPool_io (p : Fin 16) (f : Pool → Pool) : (s.updPool p f).io = s.io := rfl
@[simp] theorem updPool_sched (p : Fin 16) (f : Pool → Pool) : (s.updPool p f).sched = s.sched := rfl
@[simp] theorem updPool_str (p : Fin 16) (f : Pool → Pool) : (s.updPool p f).str = s.str := rfl
@[simp] theorem updPool_lfn (p : Fin 16) (f : Pool → Pool) : (s.updPool p f).lfn = s.lfn := rfl
@[simp] theorem updPool_ltn (p : Fin 16) (f : Pool → Pool) : (s.updPool p f).ltn = s.ltn := rfl
@[simp] theorem updPool_ckpt (p : Fin 16) (f : Pool → Pool) : (s.updPool p f).ckpt = s.ckpt := rfl

/-! ### updSlot -/

@[simp] theorem updSlot_clock (n : Fin 64) (f : Slot → Slot) : (s.updSlot n f).clock = s.clock := rfl
@[simp] theorem updSlot_free (n : Fin 64) (f : Slot → Slot) : (s.updSlot n f).free = s.free := rfl
@[simp] theorem updSlot_pending (n : Fin 64) (f : Slot → Slot) : (s.updSlot n f).pending = s.pending := rfl
@[simp] theorem updSlot_out (n : Fin 64) (f : Slot → Slot) : (s.updSlot n f).out = s.out := rfl
@[simp] theorem updSlot_host (n : Fin 64) (f : Slot → Slot) : (s.updSlot n f).host = s.host := rfl
@[simp] theorem updSlot_sup (n : Fin 64) (f : Slot → Slot) : (s.updSlot n f).sup = s.sup := rfl
@[simp] theorem updSlot_boot (n : Fin 64) (f : Slot → Slot) : (s.updSlot n f).boot = s.boot := rfl
@[simp] theorem updSlot_pins (n : Fin 64) (f : Slot → Slot) : (s.updSlot n f).pins = s.pins := rfl
@[simp] theorem updSlot_mem (n : Fin 64) (f : Slot → Slot) : (s.updSlot n f).mem = s.mem := rfl
@[simp] theorem updSlot_bpm (n : Fin 64) (f : Slot → Slot) : (s.updSlot n f).bpm = s.bpm := rfl
@[simp] theorem updSlot_pip (n : Fin 64) (f : Slot → Slot) : (s.updSlot n f).pip = s.pip := rfl
@[simp] theorem updSlot_gate (n : Fin 64) (f : Slot → Slot) : (s.updSlot n f).gate = s.gate := rfl
@[simp] theorem updSlot_running (n : Fin 64) (f : Slot → Slot) : (s.updSlot n f).running = s.running := rfl
@[simp] theorem updSlot_fw (n : Fin 64) (f : Slot → Slot) : (s.updSlot n f).fw = s.fw := rfl
@[simp] theorem updSlot_kpr (n : Fin 64) (f : Slot → Slot) : (s.updSlot n f).kpr = s.kpr := rfl
@[simp] theorem updSlot_io (n : Fin 64) (f : Slot → Slot) : (s.updSlot n f).io = s.io := rfl
@[simp] theorem updSlot_sched (n : Fin 64) (f : Slot → Slot) : (s.updSlot n f).sched = s.sched := rfl
@[simp] theorem updSlot_str (n : Fin 64) (f : Slot → Slot) : (s.updSlot n f).str = { s.str with slot := updAt s.str.slot n f } := rfl
@[simp] theorem updSlot_lfn (n : Fin 64) (f : Slot → Slot) : (s.updSlot n f).lfn = s.lfn := rfl
@[simp] theorem updSlot_ltn (n : Fin 64) (f : Slot → Slot) : (s.updSlot n f).ltn = s.ltn := rfl
@[simp] theorem updSlot_ckpt (n : Fin 64) (f : Slot → Slot) : (s.updSlot n f).ckpt = s.ckpt := rfl

/-! ### updEng -/

@[simp] theorem updEng_clock (e : Fin 32) (f : Engine → Engine) : (s.updEng e f).clock = s.clock := rfl
@[simp] theorem updEng_free (e : Fin 32) (f : Engine → Engine) : (s.updEng e f).free = s.free := rfl
@[simp] theorem updEng_pending (e : Fin 32) (f : Engine → Engine) : (s.updEng e f).pending = s.pending := rfl
@[simp] theorem updEng_out (e : Fin 32) (f : Engine → Engine) : (s.updEng e f).out = s.out := rfl
@[simp] theorem updEng_host (e : Fin 32) (f : Engine → Engine) : (s.updEng e f).host = s.host := rfl
@[simp] theorem updEng_sup (e : Fin 32) (f : Engine → Engine) : (s.updEng e f).sup = s.sup := rfl
@[simp] theorem updEng_boot (e : Fin 32) (f : Engine → Engine) : (s.updEng e f).boot = s.boot := rfl
@[simp] theorem updEng_pins (e : Fin 32) (f : Engine → Engine) : (s.updEng e f).pins = s.pins := rfl
@[simp] theorem updEng_mem (e : Fin 32) (f : Engine → Engine) : (s.updEng e f).mem = s.mem := rfl
@[simp] theorem updEng_bpm (e : Fin 32) (f : Engine → Engine) : (s.updEng e f).bpm = s.bpm := rfl
@[simp] theorem updEng_pip (e : Fin 32) (f : Engine → Engine) : (s.updEng e f).pip = s.pip := rfl
@[simp] theorem updEng_gate (e : Fin 32) (f : Engine → Engine) : (s.updEng e f).gate = s.gate := rfl
@[simp] theorem updEng_running (e : Fin 32) (f : Engine → Engine) : (s.updEng e f).running = s.running := rfl
@[simp] theorem updEng_fw (e : Fin 32) (f : Engine → Engine) : (s.updEng e f).fw = s.fw := rfl
@[simp] theorem updEng_kpr (e : Fin 32) (f : Engine → Engine) : (s.updEng e f).kpr = s.kpr := rfl
@[simp] theorem updEng_io (e : Fin 32) (f : Engine → Engine) : (s.updEng e f).io = s.io := rfl
@[simp] theorem updEng_sched (e : Fin 32) (f : Engine → Engine) : (s.updEng e f).sched = { s.sched with eng := updAt s.sched.eng e f } := rfl
@[simp] theorem updEng_str (e : Fin 32) (f : Engine → Engine) : (s.updEng e f).str = s.str := rfl
@[simp] theorem updEng_lfn (e : Fin 32) (f : Engine → Engine) : (s.updEng e f).lfn = s.lfn := rfl
@[simp] theorem updEng_ltn (e : Fin 32) (f : Engine → Engine) : (s.updEng e f).ltn = s.ltn := rfl
@[simp] theorem updEng_ckpt (e : Fin 32) (f : Engine → Engine) : (s.updEng e f).ckpt = s.ckpt := rfl

/-! ### updTower -/

@[simp] theorem updTower_clock (t : Fin 8) (f : Tower → Tower) : (s.updTower t f).clock = s.clock := rfl
@[simp] theorem updTower_free (t : Fin 8) (f : Tower → Tower) : (s.updTower t f).free = s.free := rfl
@[simp] theorem updTower_pending (t : Fin 8) (f : Tower → Tower) : (s.updTower t f).pending = s.pending := rfl
@[simp] theorem updTower_out (t : Fin 8) (f : Tower → Tower) : (s.updTower t f).out = s.out := rfl
@[simp] theorem updTower_host (t : Fin 8) (f : Tower → Tower) : (s.updTower t f).host = s.host := rfl
@[simp] theorem updTower_sup (t : Fin 8) (f : Tower → Tower) : (s.updTower t f).sup = s.sup := rfl
@[simp] theorem updTower_boot (t : Fin 8) (f : Tower → Tower) : (s.updTower t f).boot = s.boot := rfl
@[simp] theorem updTower_pins (t : Fin 8) (f : Tower → Tower) : (s.updTower t f).pins = s.pins := rfl
@[simp] theorem updTower_mem (t : Fin 8) (f : Tower → Tower) : (s.updTower t f).mem = s.mem := rfl
@[simp] theorem updTower_bpm (t : Fin 8) (f : Tower → Tower) : (s.updTower t f).bpm = s.bpm := rfl
@[simp] theorem updTower_pip (t : Fin 8) (f : Tower → Tower) : (s.updTower t f).pip = s.pip := rfl
@[simp] theorem updTower_gate (t : Fin 8) (f : Tower → Tower) : (s.updTower t f).gate = s.gate := rfl
@[simp] theorem updTower_running (t : Fin 8) (f : Tower → Tower) : (s.updTower t f).running = s.running := rfl
@[simp] theorem updTower_fw (t : Fin 8) (f : Tower → Tower) : (s.updTower t f).fw = s.fw := rfl
@[simp] theorem updTower_kpr (t : Fin 8) (f : Tower → Tower) : (s.updTower t f).kpr = s.kpr := rfl
@[simp] theorem updTower_io (t : Fin 8) (f : Tower → Tower) : (s.updTower t f).io = s.io := rfl
@[simp] theorem updTower_sched (t : Fin 8) (f : Tower → Tower) : (s.updTower t f).sched = s.sched := rfl
@[simp] theorem updTower_str (t : Fin 8) (f : Tower → Tower) : (s.updTower t f).str = { s.str with tower := updAt s.str.tower t f } := rfl
@[simp] theorem updTower_lfn (t : Fin 8) (f : Tower → Tower) : (s.updTower t f).lfn = s.lfn := rfl
@[simp] theorem updTower_ltn (t : Fin 8) (f : Tower → Tower) : (s.updTower t f).ltn = s.ltn := rfl
@[simp] theorem updTower_ckpt (t : Fin 8) (f : Tower → Tower) : (s.updTower t f).ckpt = s.ckpt := rfl

/-! ### updLfn -/

@[simp] theorem updLfn_clock (p : Fin 4) (f : LfnPort → LfnPort) : (s.updLfn p f).clock = s.clock := rfl
@[simp] theorem updLfn_free (p : Fin 4) (f : LfnPort → LfnPort) : (s.updLfn p f).free = s.free := rfl
@[simp] theorem updLfn_pending (p : Fin 4) (f : LfnPort → LfnPort) : (s.updLfn p f).pending = s.pending := rfl
@[simp] theorem updLfn_out (p : Fin 4) (f : LfnPort → LfnPort) : (s.updLfn p f).out = s.out := rfl
@[simp] theorem updLfn_host (p : Fin 4) (f : LfnPort → LfnPort) : (s.updLfn p f).host = s.host := rfl
@[simp] theorem updLfn_sup (p : Fin 4) (f : LfnPort → LfnPort) : (s.updLfn p f).sup = s.sup := rfl
@[simp] theorem updLfn_boot (p : Fin 4) (f : LfnPort → LfnPort) : (s.updLfn p f).boot = s.boot := rfl
@[simp] theorem updLfn_pins (p : Fin 4) (f : LfnPort → LfnPort) : (s.updLfn p f).pins = s.pins := rfl
@[simp] theorem updLfn_mem (p : Fin 4) (f : LfnPort → LfnPort) : (s.updLfn p f).mem = s.mem := rfl
@[simp] theorem updLfn_bpm (p : Fin 4) (f : LfnPort → LfnPort) : (s.updLfn p f).bpm = s.bpm := rfl
@[simp] theorem updLfn_pip (p : Fin 4) (f : LfnPort → LfnPort) : (s.updLfn p f).pip = s.pip := rfl
@[simp] theorem updLfn_gate (p : Fin 4) (f : LfnPort → LfnPort) : (s.updLfn p f).gate = s.gate := rfl
@[simp] theorem updLfn_running (p : Fin 4) (f : LfnPort → LfnPort) : (s.updLfn p f).running = s.running := rfl
@[simp] theorem updLfn_fw (p : Fin 4) (f : LfnPort → LfnPort) : (s.updLfn p f).fw = s.fw := rfl
@[simp] theorem updLfn_kpr (p : Fin 4) (f : LfnPort → LfnPort) : (s.updLfn p f).kpr = s.kpr := rfl
@[simp] theorem updLfn_io (p : Fin 4) (f : LfnPort → LfnPort) : (s.updLfn p f).io = s.io := rfl
@[simp] theorem updLfn_sched (p : Fin 4) (f : LfnPort → LfnPort) : (s.updLfn p f).sched = s.sched := rfl
@[simp] theorem updLfn_str (p : Fin 4) (f : LfnPort → LfnPort) : (s.updLfn p f).str = s.str := rfl
@[simp] theorem updLfn_lfn (p : Fin 4) (f : LfnPort → LfnPort) : (s.updLfn p f).lfn = { s.lfn with port := updAt s.lfn.port p f } := rfl
@[simp] theorem updLfn_ltn (p : Fin 4) (f : LfnPort → LfnPort) : (s.updLfn p f).ltn = s.ltn := rfl
@[simp] theorem updLfn_ckpt (p : Fin 4) (f : LfnPort → LfnPort) : (s.updLfn p f).ckpt = s.ckpt := rfl

/-! ### updLtn -/

@[simp] theorem updLtn_clock (t : Fin 2) (f : Ltn → Ltn) : (s.updLtn t f).clock = s.clock := rfl
@[simp] theorem updLtn_free (t : Fin 2) (f : Ltn → Ltn) : (s.updLtn t f).free = s.free := rfl
@[simp] theorem updLtn_pending (t : Fin 2) (f : Ltn → Ltn) : (s.updLtn t f).pending = s.pending := rfl
@[simp] theorem updLtn_out (t : Fin 2) (f : Ltn → Ltn) : (s.updLtn t f).out = s.out := rfl
@[simp] theorem updLtn_host (t : Fin 2) (f : Ltn → Ltn) : (s.updLtn t f).host = s.host := rfl
@[simp] theorem updLtn_sup (t : Fin 2) (f : Ltn → Ltn) : (s.updLtn t f).sup = s.sup := rfl
@[simp] theorem updLtn_boot (t : Fin 2) (f : Ltn → Ltn) : (s.updLtn t f).boot = s.boot := rfl
@[simp] theorem updLtn_pins (t : Fin 2) (f : Ltn → Ltn) : (s.updLtn t f).pins = s.pins := rfl
@[simp] theorem updLtn_mem (t : Fin 2) (f : Ltn → Ltn) : (s.updLtn t f).mem = s.mem := rfl
@[simp] theorem updLtn_bpm (t : Fin 2) (f : Ltn → Ltn) : (s.updLtn t f).bpm = s.bpm := rfl
@[simp] theorem updLtn_pip (t : Fin 2) (f : Ltn → Ltn) : (s.updLtn t f).pip = s.pip := rfl
@[simp] theorem updLtn_gate (t : Fin 2) (f : Ltn → Ltn) : (s.updLtn t f).gate = s.gate := rfl
@[simp] theorem updLtn_running (t : Fin 2) (f : Ltn → Ltn) : (s.updLtn t f).running = s.running := rfl
@[simp] theorem updLtn_fw (t : Fin 2) (f : Ltn → Ltn) : (s.updLtn t f).fw = s.fw := rfl
@[simp] theorem updLtn_kpr (t : Fin 2) (f : Ltn → Ltn) : (s.updLtn t f).kpr = s.kpr := rfl
@[simp] theorem updLtn_io (t : Fin 2) (f : Ltn → Ltn) : (s.updLtn t f).io = s.io := rfl
@[simp] theorem updLtn_sched (t : Fin 2) (f : Ltn → Ltn) : (s.updLtn t f).sched = s.sched := rfl
@[simp] theorem updLtn_str (t : Fin 2) (f : Ltn → Ltn) : (s.updLtn t f).str = s.str := rfl
@[simp] theorem updLtn_lfn (t : Fin 2) (f : Ltn → Ltn) : (s.updLtn t f).lfn = s.lfn := rfl
@[simp] theorem updLtn_ltn (t : Fin 2) (f : Ltn → Ltn) : (s.updLtn t f).ltn = updAt s.ltn t f := rfl
@[simp] theorem updLtn_ckpt (t : Fin 2) (f : Ltn → Ltn) : (s.updLtn t f).ckpt = s.ckpt := rfl

/-! ### updKpr -/

@[simp] theorem updKpr_clock (f : Keeper → Keeper) : (s.updKpr f).clock = s.clock := rfl
@[simp] theorem updKpr_free (f : Keeper → Keeper) : (s.updKpr f).free = s.free := rfl
@[simp] theorem updKpr_pending (f : Keeper → Keeper) : (s.updKpr f).pending = s.pending := rfl
@[simp] theorem updKpr_out (f : Keeper → Keeper) : (s.updKpr f).out = s.out := rfl
@[simp] theorem updKpr_host (f : Keeper → Keeper) : (s.updKpr f).host = s.host := rfl
@[simp] theorem updKpr_sup (f : Keeper → Keeper) : (s.updKpr f).sup = s.sup := rfl
@[simp] theorem updKpr_boot (f : Keeper → Keeper) : (s.updKpr f).boot = s.boot := rfl
@[simp] theorem updKpr_pins (f : Keeper → Keeper) : (s.updKpr f).pins = s.pins := rfl
@[simp] theorem updKpr_mem (f : Keeper → Keeper) : (s.updKpr f).mem = s.mem := rfl
@[simp] theorem updKpr_bpm (f : Keeper → Keeper) : (s.updKpr f).bpm = s.bpm := rfl
@[simp] theorem updKpr_pip (f : Keeper → Keeper) : (s.updKpr f).pip = s.pip := rfl
@[simp] theorem updKpr_gate (f : Keeper → Keeper) : (s.updKpr f).gate = s.gate := rfl
@[simp] theorem updKpr_running (f : Keeper → Keeper) : (s.updKpr f).running = s.running := rfl
@[simp] theorem updKpr_fw (f : Keeper → Keeper) : (s.updKpr f).fw = s.fw := rfl
@[simp] theorem updKpr_kpr (f : Keeper → Keeper) : (s.updKpr f).kpr = f s.kpr := rfl
@[simp] theorem updKpr_io (f : Keeper → Keeper) : (s.updKpr f).io = s.io := rfl
@[simp] theorem updKpr_sched (f : Keeper → Keeper) : (s.updKpr f).sched = s.sched := rfl
@[simp] theorem updKpr_str (f : Keeper → Keeper) : (s.updKpr f).str = s.str := rfl
@[simp] theorem updKpr_lfn (f : Keeper → Keeper) : (s.updKpr f).lfn = s.lfn := rfl
@[simp] theorem updKpr_ltn (f : Keeper → Keeper) : (s.updKpr f).ltn = s.ltn := rfl
@[simp] theorem updKpr_ckpt (f : Keeper → Keeper) : (s.updKpr f).ckpt = s.ckpt := rfl

/-! ### updKslot -/

@[simp] theorem updKslot_clock (n : Fin 64) (f : KprSlot → KprSlot) : (s.updKslot n f).clock = s.clock := rfl
@[simp] theorem updKslot_free (n : Fin 64) (f : KprSlot → KprSlot) : (s.updKslot n f).free = s.free := rfl
@[simp] theorem updKslot_pending (n : Fin 64) (f : KprSlot → KprSlot) : (s.updKslot n f).pending = s.pending := rfl
@[simp] theorem updKslot_out (n : Fin 64) (f : KprSlot → KprSlot) : (s.updKslot n f).out = s.out := rfl
@[simp] theorem updKslot_host (n : Fin 64) (f : KprSlot → KprSlot) : (s.updKslot n f).host = s.host := rfl
@[simp] theorem updKslot_sup (n : Fin 64) (f : KprSlot → KprSlot) : (s.updKslot n f).sup = s.sup := rfl
@[simp] theorem updKslot_boot (n : Fin 64) (f : KprSlot → KprSlot) : (s.updKslot n f).boot = s.boot := rfl
@[simp] theorem updKslot_pins (n : Fin 64) (f : KprSlot → KprSlot) : (s.updKslot n f).pins = s.pins := rfl
@[simp] theorem updKslot_mem (n : Fin 64) (f : KprSlot → KprSlot) : (s.updKslot n f).mem = s.mem := rfl
@[simp] theorem updKslot_bpm (n : Fin 64) (f : KprSlot → KprSlot) : (s.updKslot n f).bpm = s.bpm := rfl
@[simp] theorem updKslot_pip (n : Fin 64) (f : KprSlot → KprSlot) : (s.updKslot n f).pip = s.pip := rfl
@[simp] theorem updKslot_gate (n : Fin 64) (f : KprSlot → KprSlot) : (s.updKslot n f).gate = s.gate := rfl
@[simp] theorem updKslot_running (n : Fin 64) (f : KprSlot → KprSlot) : (s.updKslot n f).running = s.running := rfl
@[simp] theorem updKslot_fw (n : Fin 64) (f : KprSlot → KprSlot) : (s.updKslot n f).fw = s.fw := rfl
@[simp] theorem updKslot_kpr (n : Fin 64) (f : KprSlot → KprSlot) : (s.updKslot n f).kpr = { s.kpr with slot := updAt s.kpr.slot n f } := rfl
@[simp] theorem updKslot_io (n : Fin 64) (f : KprSlot → KprSlot) : (s.updKslot n f).io = s.io := rfl
@[simp] theorem updKslot_sched (n : Fin 64) (f : KprSlot → KprSlot) : (s.updKslot n f).sched = s.sched := rfl
@[simp] theorem updKslot_str (n : Fin 64) (f : KprSlot → KprSlot) : (s.updKslot n f).str = s.str := rfl
@[simp] theorem updKslot_lfn (n : Fin 64) (f : KprSlot → KprSlot) : (s.updKslot n f).lfn = s.lfn := rfl
@[simp] theorem updKslot_ltn (n : Fin 64) (f : KprSlot → KprSlot) : (s.updKslot n f).ltn = s.ltn := rfl
@[simp] theorem updKslot_ckpt (n : Fin 64) (f : KprSlot → KprSlot) : (s.updKslot n f).ckpt = s.ckpt := rfl

/-! ### updEth -/

@[simp] theorem updEth_clock (e : Fin 2) (f : Eth → Eth) : (s.updEth e f).clock = s.clock := rfl
@[simp] theorem updEth_free (e : Fin 2) (f : Eth → Eth) : (s.updEth e f).free = s.free := rfl
@[simp] theorem updEth_pending (e : Fin 2) (f : Eth → Eth) : (s.updEth e f).pending = s.pending := rfl
@[simp] theorem updEth_out (e : Fin 2) (f : Eth → Eth) : (s.updEth e f).out = s.out := rfl
@[simp] theorem updEth_host (e : Fin 2) (f : Eth → Eth) : (s.updEth e f).host = s.host := rfl
@[simp] theorem updEth_sup (e : Fin 2) (f : Eth → Eth) : (s.updEth e f).sup = s.sup := rfl
@[simp] theorem updEth_boot (e : Fin 2) (f : Eth → Eth) : (s.updEth e f).boot = s.boot := rfl
@[simp] theorem updEth_pins (e : Fin 2) (f : Eth → Eth) : (s.updEth e f).pins = s.pins := rfl
@[simp] theorem updEth_mem (e : Fin 2) (f : Eth → Eth) : (s.updEth e f).mem = s.mem := rfl
@[simp] theorem updEth_bpm (e : Fin 2) (f : Eth → Eth) : (s.updEth e f).bpm = s.bpm := rfl
@[simp] theorem updEth_pip (e : Fin 2) (f : Eth → Eth) : (s.updEth e f).pip = s.pip := rfl
@[simp] theorem updEth_gate (e : Fin 2) (f : Eth → Eth) : (s.updEth e f).gate = s.gate := rfl
@[simp] theorem updEth_running (e : Fin 2) (f : Eth → Eth) : (s.updEth e f).running = s.running := rfl
@[simp] theorem updEth_fw (e : Fin 2) (f : Eth → Eth) : (s.updEth e f).fw = s.fw := rfl
@[simp] theorem updEth_kpr (e : Fin 2) (f : Eth → Eth) : (s.updEth e f).kpr = s.kpr := rfl
@[simp] theorem updEth_io (e : Fin 2) (f : Eth → Eth) : (s.updEth e f).io = { s.io with eth := updAt s.io.eth e f } := rfl
@[simp] theorem updEth_sched (e : Fin 2) (f : Eth → Eth) : (s.updEth e f).sched = s.sched := rfl
@[simp] theorem updEth_str (e : Fin 2) (f : Eth → Eth) : (s.updEth e f).str = s.str := rfl
@[simp] theorem updEth_lfn (e : Fin 2) (f : Eth → Eth) : (s.updEth e f).lfn = s.lfn := rfl
@[simp] theorem updEth_ltn (e : Fin 2) (f : Eth → Eth) : (s.updEth e f).ltn = s.ltn := rfl
@[simp] theorem updEth_ckpt (e : Fin 2) (f : Eth → Eth) : (s.updEth e f).ckpt = s.ckpt := rfl

/-! ### updTbs -/

@[simp] theorem updTbs_clock (f : Tbs → Tbs) : (s.updTbs f).clock = s.clock := rfl
@[simp] theorem updTbs_free (f : Tbs → Tbs) : (s.updTbs f).free = s.free := rfl
@[simp] theorem updTbs_pending (f : Tbs → Tbs) : (s.updTbs f).pending = s.pending := rfl
@[simp] theorem updTbs_out (f : Tbs → Tbs) : (s.updTbs f).out = s.out := rfl
@[simp] theorem updTbs_host (f : Tbs → Tbs) : (s.updTbs f).host = s.host := rfl
@[simp] theorem updTbs_sup (f : Tbs → Tbs) : (s.updTbs f).sup = s.sup := rfl
@[simp] theorem updTbs_boot (f : Tbs → Tbs) : (s.updTbs f).boot = s.boot := rfl
@[simp] theorem updTbs_pins (f : Tbs → Tbs) : (s.updTbs f).pins = s.pins := rfl
@[simp] theorem updTbs_mem (f : Tbs → Tbs) : (s.updTbs f).mem = s.mem := rfl
@[simp] theorem updTbs_bpm (f : Tbs → Tbs) : (s.updTbs f).bpm = s.bpm := rfl
@[simp] theorem updTbs_pip (f : Tbs → Tbs) : (s.updTbs f).pip = s.pip := rfl
@[simp] theorem updTbs_gate (f : Tbs → Tbs) : (s.updTbs f).gate = s.gate := rfl
@[simp] theorem updTbs_running (f : Tbs → Tbs) : (s.updTbs f).running = s.running := rfl
@[simp] theorem updTbs_fw (f : Tbs → Tbs) : (s.updTbs f).fw = s.fw := rfl
@[simp] theorem updTbs_kpr (f : Tbs → Tbs) : (s.updTbs f).kpr = s.kpr := rfl
@[simp] theorem updTbs_io (f : Tbs → Tbs) : (s.updTbs f).io = { s.io with tbs := f s.io.tbs } := rfl
@[simp] theorem updTbs_sched (f : Tbs → Tbs) : (s.updTbs f).sched = s.sched := rfl
@[simp] theorem updTbs_str (f : Tbs → Tbs) : (s.updTbs f).str = s.str := rfl
@[simp] theorem updTbs_lfn (f : Tbs → Tbs) : (s.updTbs f).lfn = s.lfn := rfl
@[simp] theorem updTbs_ltn (f : Tbs → Tbs) : (s.updTbs f).ltn = s.ltn := rfl
@[simp] theorem updTbs_ckpt (f : Tbs → Tbs) : (s.updTbs f).ckpt = s.ckpt := rfl

/-! ### updSup -/

@[simp] theorem updSup_clock (f : Supply → Supply) : (s.updSup f).clock = s.clock := rfl
@[simp] theorem updSup_free (f : Supply → Supply) : (s.updSup f).free = s.free := rfl
@[simp] theorem updSup_pending (f : Supply → Supply) : (s.updSup f).pending = s.pending := rfl
@[simp] theorem updSup_out (f : Supply → Supply) : (s.updSup f).out = s.out := rfl
@[simp] theorem updSup_host (f : Supply → Supply) : (s.updSup f).host = s.host := rfl
@[simp] theorem updSup_sup (f : Supply → Supply) : (s.updSup f).sup = f s.sup := rfl
@[simp] theorem updSup_boot (f : Supply → Supply) : (s.updSup f).boot = s.boot := rfl
@[simp] theorem updSup_pins (f : Supply → Supply) : (s.updSup f).pins = s.pins := rfl
@[simp] theorem updSup_mem (f : Supply → Supply) : (s.updSup f).mem = s.mem := rfl
@[simp] theorem updSup_bpm (f : Supply → Supply) : (s.updSup f).bpm = s.bpm := rfl
@[simp] theorem updSup_pip (f : Supply → Supply) : (s.updSup f).pip = s.pip := rfl
@[simp] theorem updSup_gate (f : Supply → Supply) : (s.updSup f).gate = s.gate := rfl
@[simp] theorem updSup_running (f : Supply → Supply) : (s.updSup f).running = s.running := rfl
@[simp] theorem updSup_fw (f : Supply → Supply) : (s.updSup f).fw = s.fw := rfl
@[simp] theorem updSup_kpr (f : Supply → Supply) : (s.updSup f).kpr = s.kpr := rfl
@[simp] theorem updSup_io (f : Supply → Supply) : (s.updSup f).io = s.io := rfl
@[simp] theorem updSup_sched (f : Supply → Supply) : (s.updSup f).sched = s.sched := rfl
@[simp] theorem updSup_str (f : Supply → Supply) : (s.updSup f).str = s.str := rfl
@[simp] theorem updSup_lfn (f : Supply → Supply) : (s.updSup f).lfn = s.lfn := rfl
@[simp] theorem updSup_ltn (f : Supply → Supply) : (s.updSup f).ltn = s.ltn := rfl
@[simp] theorem updSup_ckpt (f : Supply → Supply) : (s.updSup f).ckpt = s.ckpt := rfl

/-! ### updBoot -/

@[simp] theorem updBoot_clock (f : Boot → Boot) : (s.updBoot f).clock = s.clock := rfl
@[simp] theorem updBoot_free (f : Boot → Boot) : (s.updBoot f).free = s.free := rfl
@[simp] theorem updBoot_pending (f : Boot → Boot) : (s.updBoot f).pending = s.pending := rfl
@[simp] theorem updBoot_out (f : Boot → Boot) : (s.updBoot f).out = s.out := rfl
@[simp] theorem updBoot_host (f : Boot → Boot) : (s.updBoot f).host = s.host := rfl
@[simp] theorem updBoot_sup (f : Boot → Boot) : (s.updBoot f).sup = s.sup := rfl
@[simp] theorem updBoot_boot (f : Boot → Boot) : (s.updBoot f).boot = f s.boot := rfl
@[simp] theorem updBoot_pins (f : Boot → Boot) : (s.updBoot f).pins = s.pins := rfl
@[simp] theorem updBoot_mem (f : Boot → Boot) : (s.updBoot f).mem = s.mem := rfl
@[simp] theorem updBoot_bpm (f : Boot → Boot) : (s.updBoot f).bpm = s.bpm := rfl
@[simp] theorem updBoot_pip (f : Boot → Boot) : (s.updBoot f).pip = s.pip := rfl
@[simp] theorem updBoot_gate (f : Boot → Boot) : (s.updBoot f).gate = s.gate := rfl
@[simp] theorem updBoot_running (f : Boot → Boot) : (s.updBoot f).running = s.running := rfl
@[simp] theorem updBoot_fw (f : Boot → Boot) : (s.updBoot f).fw = s.fw := rfl
@[simp] theorem updBoot_kpr (f : Boot → Boot) : (s.updBoot f).kpr = s.kpr := rfl
@[simp] theorem updBoot_io (f : Boot → Boot) : (s.updBoot f).io = s.io := rfl
@[simp] theorem updBoot_sched (f : Boot → Boot) : (s.updBoot f).sched = s.sched := rfl
@[simp] theorem updBoot_str (f : Boot → Boot) : (s.updBoot f).str = s.str := rfl
@[simp] theorem updBoot_lfn (f : Boot → Boot) : (s.updBoot f).lfn = s.lfn := rfl
@[simp] theorem updBoot_ltn (f : Boot → Boot) : (s.updBoot f).ltn = s.ltn := rfl
@[simp] theorem updBoot_ckpt (f : Boot → Boot) : (s.updBoot f).ckpt = s.ckpt := rfl

/-! ### updCsi -/

@[simp] theorem updCsi_clock (n : Fin 6) (f : Csi → Csi) : (s.updCsi n f).clock = s.clock := rfl
@[simp] theorem updCsi_free (n : Fin 6) (f : Csi → Csi) : (s.updCsi n f).free = s.free := rfl
@[simp] theorem updCsi_pending (n : Fin 6) (f : Csi → Csi) : (s.updCsi n f).pending = s.pending := rfl
@[simp] theorem updCsi_out (n : Fin 6) (f : Csi → Csi) : (s.updCsi n f).out = s.out := rfl
@[simp] theorem updCsi_host (n : Fin 6) (f : Csi → Csi) : (s.updCsi n f).host = s.host := rfl
@[simp] theorem updCsi_sup (n : Fin 6) (f : Csi → Csi) : (s.updCsi n f).sup = s.sup := rfl
@[simp] theorem updCsi_boot (n : Fin 6) (f : Csi → Csi) : (s.updCsi n f).boot = s.boot := rfl
@[simp] theorem updCsi_pins (n : Fin 6) (f : Csi → Csi) : (s.updCsi n f).pins = s.pins := rfl
@[simp] theorem updCsi_mem (n : Fin 6) (f : Csi → Csi) : (s.updCsi n f).mem = s.mem := rfl
@[simp] theorem updCsi_bpm (n : Fin 6) (f : Csi → Csi) : (s.updCsi n f).bpm = s.bpm := rfl
@[simp] theorem updCsi_pip (n : Fin 6) (f : Csi → Csi) : (s.updCsi n f).pip = s.pip := rfl
@[simp] theorem updCsi_gate (n : Fin 6) (f : Csi → Csi) : (s.updCsi n f).gate = s.gate := rfl
@[simp] theorem updCsi_running (n : Fin 6) (f : Csi → Csi) : (s.updCsi n f).running = s.running := rfl
@[simp] theorem updCsi_fw (n : Fin 6) (f : Csi → Csi) : (s.updCsi n f).fw = s.fw := rfl
@[simp] theorem updCsi_kpr (n : Fin 6) (f : Csi → Csi) : (s.updCsi n f).kpr = s.kpr := rfl
@[simp] theorem updCsi_io (n : Fin 6) (f : Csi → Csi) : (s.updCsi n f).io = { s.io with csi := updAt s.io.csi n f } := rfl
@[simp] theorem updCsi_sched (n : Fin 6) (f : Csi → Csi) : (s.updCsi n f).sched = s.sched := rfl
@[simp] theorem updCsi_str (n : Fin 6) (f : Csi → Csi) : (s.updCsi n f).str = s.str := rfl
@[simp] theorem updCsi_lfn (n : Fin 6) (f : Csi → Csi) : (s.updCsi n f).lfn = s.lfn := rfl
@[simp] theorem updCsi_ltn (n : Fin 6) (f : Csi → Csi) : (s.updCsi n f).ltn = s.ltn := rfl
@[simp] theorem updCsi_ckpt (n : Fin 6) (f : Csi → Csi) : (s.updCsi n f).ckpt = s.ckpt := rfl

/-! ### emit -/

@[simp] theorem emit_clock (o : Out) : (s.emit o).clock = s.clock := rfl
@[simp] theorem emit_free (o : Out) : (s.emit o).free = s.free := rfl
@[simp] theorem emit_pending (o : Out) : (s.emit o).pending = s.pending := rfl
@[simp] theorem emit_out (o : Out) : (s.emit o).out = o :: s.out := rfl
@[simp] theorem emit_host (o : Out) : (s.emit o).host = s.host := rfl
@[simp] theorem emit_sup (o : Out) : (s.emit o).sup = s.sup := rfl
@[simp] theorem emit_boot (o : Out) : (s.emit o).boot = s.boot := rfl
@[simp] theorem emit_pins (o : Out) : (s.emit o).pins = s.pins := rfl
@[simp] theorem emit_mem (o : Out) : (s.emit o).mem = s.mem := rfl
@[simp] theorem emit_bpm (o : Out) : (s.emit o).bpm = s.bpm := rfl
@[simp] theorem emit_pip (o : Out) : (s.emit o).pip = s.pip := rfl
@[simp] theorem emit_gate (o : Out) : (s.emit o).gate = s.gate := rfl
@[simp] theorem emit_running (o : Out) : (s.emit o).running = s.running := rfl
@[simp] theorem emit_fw (o : Out) : (s.emit o).fw = s.fw := rfl
@[simp] theorem emit_kpr (o : Out) : (s.emit o).kpr = s.kpr := rfl
@[simp] theorem emit_io (o : Out) : (s.emit o).io = s.io := rfl
@[simp] theorem emit_sched (o : Out) : (s.emit o).sched = s.sched := rfl
@[simp] theorem emit_str (o : Out) : (s.emit o).str = s.str := rfl
@[simp] theorem emit_lfn (o : Out) : (s.emit o).lfn = s.lfn := rfl
@[simp] theorem emit_ltn (o : Out) : (s.emit o).ltn = s.ltn := rfl
@[simp] theorem emit_ckpt (o : Out) : (s.emit o).ckpt = s.ckpt := rfl

/-! ### updLofin -/

@[simp] theorem updLofin_clock (f : Lofin → Lofin) : (s.updLofin f).clock = s.clock := rfl
@[simp] theorem updLofin_free (f : Lofin → Lofin) : (s.updLofin f).free = s.free := rfl
@[simp] theorem updLofin_pending (f : Lofin → Lofin) : (s.updLofin f).pending = s.pending := rfl
@[simp] theorem updLofin_out (f : Lofin → Lofin) : (s.updLofin f).out = s.out := rfl
@[simp] theorem updLofin_host (f : Lofin → Lofin) : (s.updLofin f).host = s.host := rfl
@[simp] theorem updLofin_sup (f : Lofin → Lofin) : (s.updLofin f).sup = s.sup := rfl
@[simp] theorem updLofin_boot (f : Lofin → Lofin) : (s.updLofin f).boot = s.boot := rfl
@[simp] theorem updLofin_pins (f : Lofin → Lofin) : (s.updLofin f).pins = s.pins := rfl
@[simp] theorem updLofin_mem (f : Lofin → Lofin) : (s.updLofin f).mem = s.mem := rfl
@[simp] theorem updLofin_bpm (f : Lofin → Lofin) : (s.updLofin f).bpm = s.bpm := rfl
@[simp] theorem updLofin_pip (f : Lofin → Lofin) : (s.updLofin f).pip = s.pip := rfl
@[simp] theorem updLofin_gate (f : Lofin → Lofin) : (s.updLofin f).gate = s.gate := rfl
@[simp] theorem updLofin_running (f : Lofin → Lofin) : (s.updLofin f).running = s.running := rfl
@[simp] theorem updLofin_fw (f : Lofin → Lofin) : (s.updLofin f).fw = s.fw := rfl
@[simp] theorem updLofin_kpr (f : Lofin → Lofin) : (s.updLofin f).kpr = s.kpr := rfl
@[simp] theorem updLofin_io (f : Lofin → Lofin) : (s.updLofin f).io = s.io := rfl
@[simp] theorem updLofin_sched (f : Lofin → Lofin) : (s.updLofin f).sched = s.sched := rfl
@[simp] theorem updLofin_str (f : Lofin → Lofin) : (s.updLofin f).str = s.str := rfl
@[simp] theorem updLofin_lfn (f : Lofin → Lofin) : (s.updLofin f).lfn = f s.lfn := rfl
@[simp] theorem updLofin_ltn (f : Lofin → Lofin) : (s.updLofin f).ltn = s.ltn := rfl
@[simp] theorem updLofin_ckpt (f : Lofin → Lofin) : (s.updLofin f).ckpt = s.ckpt := rfl

/-! ### updSlotN -/

@[simp] theorem updSlotN_clock (n : Nat) (f : Slot → Slot) : (s.updSlotN n f).clock = s.clock := by
  unfold State.updSlotN; split <;> rfl
@[simp] theorem updSlotN_free (n : Nat) (f : Slot → Slot) : (s.updSlotN n f).free = s.free := by
  unfold State.updSlotN; split <;> rfl
@[simp] theorem updSlotN_pending (n : Nat) (f : Slot → Slot) : (s.updSlotN n f).pending = s.pending := by
  unfold State.updSlotN; split <;> rfl
@[simp] theorem updSlotN_out (n : Nat) (f : Slot → Slot) : (s.updSlotN n f).out = s.out := by
  unfold State.updSlotN; split <;> rfl
@[simp] theorem updSlotN_host (n : Nat) (f : Slot → Slot) : (s.updSlotN n f).host = s.host := by
  unfold State.updSlotN; split <;> rfl
@[simp] theorem updSlotN_sup (n : Nat) (f : Slot → Slot) : (s.updSlotN n f).sup = s.sup := by
  unfold State.updSlotN; split <;> rfl
@[simp] theorem updSlotN_boot (n : Nat) (f : Slot → Slot) : (s.updSlotN n f).boot = s.boot := by
  unfold State.updSlotN; split <;> rfl
@[simp] theorem updSlotN_pins (n : Nat) (f : Slot → Slot) : (s.updSlotN n f).pins = s.pins := by
  unfold State.updSlotN; split <;> rfl
@[simp] theorem updSlotN_mem (n : Nat) (f : Slot → Slot) : (s.updSlotN n f).mem = s.mem := by
  unfold State.updSlotN; split <;> rfl
@[simp] theorem updSlotN_bpm (n : Nat) (f : Slot → Slot) : (s.updSlotN n f).bpm = s.bpm := by
  unfold State.updSlotN; split <;> rfl
@[simp] theorem updSlotN_pip (n : Nat) (f : Slot → Slot) : (s.updSlotN n f).pip = s.pip := by
  unfold State.updSlotN; split <;> rfl
@[simp] theorem updSlotN_gate (n : Nat) (f : Slot → Slot) : (s.updSlotN n f).gate = s.gate := by
  unfold State.updSlotN; split <;> rfl
@[simp] theorem updSlotN_running (n : Nat) (f : Slot → Slot) : (s.updSlotN n f).running = s.running := by
  unfold State.updSlotN; split <;> rfl
@[simp] theorem updSlotN_fw (n : Nat) (f : Slot → Slot) : (s.updSlotN n f).fw = s.fw := by
  unfold State.updSlotN; split <;> rfl
@[simp] theorem updSlotN_kpr (n : Nat) (f : Slot → Slot) : (s.updSlotN n f).kpr = s.kpr := by
  unfold State.updSlotN; split <;> rfl
@[simp] theorem updSlotN_io (n : Nat) (f : Slot → Slot) : (s.updSlotN n f).io = s.io := by
  unfold State.updSlotN; split <;> rfl
@[simp] theorem updSlotN_sched (n : Nat) (f : Slot → Slot) : (s.updSlotN n f).sched = s.sched := by
  unfold State.updSlotN; split <;> rfl
@[simp] theorem updSlotN_lfn (n : Nat) (f : Slot → Slot) : (s.updSlotN n f).lfn = s.lfn := by
  unfold State.updSlotN; split <;> rfl
@[simp] theorem updSlotN_ltn (n : Nat) (f : Slot → Slot) : (s.updSlotN n f).ltn = s.ltn := by
  unfold State.updSlotN; split <;> rfl
@[simp] theorem updSlotN_ckpt (n : Nat) (f : Slot → Slot) : (s.updSlotN n f).ckpt = s.ckpt := by
  unfold State.updSlotN; split <;> rfl

/-! ### updPoolN -/

@[simp] theorem updPoolN_clock (n : Nat) (f : Pool → Pool) : (s.updPoolN n f).clock = s.clock := by
  unfold State.updPoolN; split <;> rfl
@[simp] theorem updPoolN_free (n : Nat) (f : Pool → Pool) : (s.updPoolN n f).free = s.free := by
  unfold State.updPoolN; split <;> rfl
@[simp] theorem updPoolN_pending (n : Nat) (f : Pool → Pool) : (s.updPoolN n f).pending = s.pending := by
  unfold State.updPoolN; split <;> rfl
@[simp] theorem updPoolN_out (n : Nat) (f : Pool → Pool) : (s.updPoolN n f).out = s.out := by
  unfold State.updPoolN; split <;> rfl
@[simp] theorem updPoolN_host (n : Nat) (f : Pool → Pool) : (s.updPoolN n f).host = s.host := by
  unfold State.updPoolN; split <;> rfl
@[simp] theorem updPoolN_sup (n : Nat) (f : Pool → Pool) : (s.updPoolN n f).sup = s.sup := by
  unfold State.updPoolN; split <;> rfl
@[simp] theorem updPoolN_boot (n : Nat) (f : Pool → Pool) : (s.updPoolN n f).boot = s.boot := by
  unfold State.updPoolN; split <;> rfl
@[simp] theorem updPoolN_pins (n : Nat) (f : Pool → Pool) : (s.updPoolN n f).pins = s.pins := by
  unfold State.updPoolN; split <;> rfl
@[simp] theorem updPoolN_mem (n : Nat) (f : Pool → Pool) : (s.updPoolN n f).mem = s.mem := by
  unfold State.updPoolN; split <;> rfl
@[simp] theorem updPoolN_pip (n : Nat) (f : Pool → Pool) : (s.updPoolN n f).pip = s.pip := by
  unfold State.updPoolN; split <;> rfl
@[simp] theorem updPoolN_gate (n : Nat) (f : Pool → Pool) : (s.updPoolN n f).gate = s.gate := by
  unfold State.updPoolN; split <;> rfl
@[simp] theorem updPoolN_running (n : Nat) (f : Pool → Pool) : (s.updPoolN n f).running = s.running := by
  unfold State.updPoolN; split <;> rfl
@[simp] theorem updPoolN_fw (n : Nat) (f : Pool → Pool) : (s.updPoolN n f).fw = s.fw := by
  unfold State.updPoolN; split <;> rfl
@[simp] theorem updPoolN_kpr (n : Nat) (f : Pool → Pool) : (s.updPoolN n f).kpr = s.kpr := by
  unfold State.updPoolN; split <;> rfl
@[simp] theorem updPoolN_io (n : Nat) (f : Pool → Pool) : (s.updPoolN n f).io = s.io := by
  unfold State.updPoolN; split <;> rfl
@[simp] theorem updPoolN_sched (n : Nat) (f : Pool → Pool) : (s.updPoolN n f).sched = s.sched := by
  unfold State.updPoolN; split <;> rfl
@[simp] theorem updPoolN_str (n : Nat) (f : Pool → Pool) : (s.updPoolN n f).str = s.str := by
  unfold State.updPoolN; split <;> rfl
@[simp] theorem updPoolN_lfn (n : Nat) (f : Pool → Pool) : (s.updPoolN n f).lfn = s.lfn := by
  unfold State.updPoolN; split <;> rfl
@[simp] theorem updPoolN_ltn (n : Nat) (f : Pool → Pool) : (s.updPoolN n f).ltn = s.ltn := by
  unfold State.updPoolN; split <;> rfl
@[simp] theorem updPoolN_ckpt (n : Nat) (f : Pool → Pool) : (s.updPoolN n f).ckpt = s.ckpt := by
  unfold State.updPoolN; split <;> rfl

/-! ### updGate -/

@[simp] theorem updGate_clock (n : Nat) (f : UnitGate → UnitGate) : (s.updGate n f).clock = s.clock := by
  unfold State.updGate; split <;> rfl
@[simp] theorem updGate_free (n : Nat) (f : UnitGate → UnitGate) : (s.updGate n f).free = s.free := by
  unfold State.updGate; split <;> rfl
@[simp] theorem updGate_pending (n : Nat) (f : UnitGate → UnitGate) : (s.updGate n f).pending = s.pending := by
  unfold State.updGate; split <;> rfl
@[simp] theorem updGate_out (n : Nat) (f : UnitGate → UnitGate) : (s.updGate n f).out = s.out := by
  unfold State.updGate; split <;> rfl
@[simp] theorem updGate_host (n : Nat) (f : UnitGate → UnitGate) : (s.updGate n f).host = s.host := by
  unfold State.updGate; split <;> rfl
@[simp] theorem updGate_sup (n : Nat) (f : UnitGate → UnitGate) : (s.updGate n f).sup = s.sup := by
  unfold State.updGate; split <;> rfl
@[simp] theorem updGate_boot (n : Nat) (f : UnitGate → UnitGate) : (s.updGate n f).boot = s.boot := by
  unfold State.updGate; split <;> rfl
@[simp] theorem updGate_pins (n : Nat) (f : UnitGate → UnitGate) : (s.updGate n f).pins = s.pins := by
  unfold State.updGate; split <;> rfl
@[simp] theorem updGate_mem (n : Nat) (f : UnitGate → UnitGate) : (s.updGate n f).mem = s.mem := by
  unfold State.updGate; split <;> rfl
@[simp] theorem updGate_bpm (n : Nat) (f : UnitGate → UnitGate) : (s.updGate n f).bpm = s.bpm := by
  unfold State.updGate; split <;> rfl
@[simp] theorem updGate_pip (n : Nat) (f : UnitGate → UnitGate) : (s.updGate n f).pip = s.pip := by
  unfold State.updGate; split <;> rfl
@[simp] theorem updGate_running (n : Nat) (f : UnitGate → UnitGate) : (s.updGate n f).running = s.running := by
  unfold State.updGate; split <;> rfl
@[simp] theorem updGate_fw (n : Nat) (f : UnitGate → UnitGate) : (s.updGate n f).fw = s.fw := by
  unfold State.updGate; split <;> rfl
@[simp] theorem updGate_kpr (n : Nat) (f : UnitGate → UnitGate) : (s.updGate n f).kpr = s.kpr := by
  unfold State.updGate; split <;> rfl
@[simp] theorem updGate_io (n : Nat) (f : UnitGate → UnitGate) : (s.updGate n f).io = s.io := by
  unfold State.updGate; split <;> rfl
@[simp] theorem updGate_sched (n : Nat) (f : UnitGate → UnitGate) : (s.updGate n f).sched = s.sched := by
  unfold State.updGate; split <;> rfl
@[simp] theorem updGate_str (n : Nat) (f : UnitGate → UnitGate) : (s.updGate n f).str = s.str := by
  unfold State.updGate; split <;> rfl
@[simp] theorem updGate_lfn (n : Nat) (f : UnitGate → UnitGate) : (s.updGate n f).lfn = s.lfn := by
  unfold State.updGate; split <;> rfl
@[simp] theorem updGate_ltn (n : Nat) (f : UnitGate → UnitGate) : (s.updGate n f).ltn = s.ltn := by
  unfold State.updGate; split <;> rfl
@[simp] theorem updGate_ckpt (n : Nat) (f : UnitGate → UnitGate) : (s.updGate n f).ckpt = s.ckpt := by
  unfold State.updGate; split <;> rfl

end Sys2Proof.Machine
end

