-- ==== Sys2Proof/Laws/Ops.lean ====
section
/-!
SUPPORT. What the shared wrappers of commands and events can do, said once.
-/
namespace Sys2Proof.Machine
open Sys2Proof

/-- An event of the running part while it runs. -/
theorem whenLive_of_live {s : State} (h : s.live = true) (f : State → State) : whenLive s f = .next (f s) := by
  simp [whenLive, h]

/-- An event of the running part before READY or after the device-fault stop. -/
theorem whenLive_of_not_live {s : State} (h : s.live = false) (f : State → State) : whenLive s f = .next s := by
  simp [whenLive, h]

/-- A host command whose checks pass answers what its own part says. -/
theorem direct_of_takes {k : Command} {c : HostCmd} {s : State} (h : k.takes c s = true) :
    direct k c s = .next ((c.conclude k.spec.op (k.own c s)).getD s) := by
  simp only [Command.takes, Command.passes, Command.waits, Bool.and_eq_true, Bool.not_eq_true', Bool.false_or, beq_iff_eq,
    bne_iff_ne, ne_eq, Bool.or_eq_true, decide_eq_true_eq] at h
  obtain ⟨⟨⟨⟨⟨⟨⟨h1, h2⟩, h3⟩, h9⟩, h4⟩, h5⟩, h6⟩, h7⟩ := h
  have h8 : ¬ (c.async = true ∧ 8 ≤ s.asyncOut c.mbx) := by
    rintro ⟨ha, hb⟩
    rcases h7 with h7 | h7
    · simp [ha] at h7
    · omega
  simp [direct, State.command, State.descriptor, h1, h2, h3, h4, h5, h6, h8, h9]

/-- A host command whose checks pass answers what its own part says. -/
theorem direct_of_accepts {k : Command} {c : HostCmd} {s : State} (h : k.accepts c s = true) :
    direct k c s = .next ((c.conclude k.spec.op (k.own c s)).getD s) := by
  simp only [Command.accepts, Bool.and_eq_true] at h
  exact direct_of_takes h.1

/-- An asynchronous host command whose checks pass. -/
theorem direct_of_acceptsAsync {k : Command} {c : HostCmd} {s : State} (h : k.acceptsAsync c s = true) :
    direct k c s = .next ((c.conclude k.spec.op (k.own c s)).getD s) := by
  simp only [Command.acceptsAsync, Bool.and_eq_true] at h
  exact direct_of_takes h.1

/-- A command that completes is answered. -/
theorem direct_reply {k : Command} {c : HostCmd} {s t : State} {st : Status} {data : List Byte} (h : k.takes c s = true)
    (ho : k.own c s = .done t st data id) : direct k c s = .next (t.reply c k.spec.op st data) := by
  rw [direct_of_takes h, ho]
  simp only [HostCmd.conclude, State.reply]
  split <;> rfl

/-- A descriptor command whose checks pass. -/
theorem direct_of_acceptsDesc {k : Command} {c : HostCmd} {bs : List Byte} {s : State} (h : k.acceptsDesc c bs s = true) :
    direct k c s = .next ((c.conclude k.spec.op (k.own (c.withDesc bs) s)).getD s) := by
  simp only [Command.acceptsDesc, Command.passes, Command.waits, Bool.and_eq_true, Bool.not_eq_true', Bool.true_or, beq_iff_eq,
    bne_iff_ne, ne_eq, decide_eq_true_eq] at h
  obtain ⟨⟨⟨⟨⟨⟨⟨⟨⟨⟨⟨⟨h1, h2⟩, h3⟩, h9w⟩, h4⟩, h5⟩, -⟩, -⟩, h8⟩, h9⟩, h10⟩, h11⟩, h12⟩ := h
  have h13 : ¬ 16777216 < c.f 16 4 := by omega
  rw [h8] at h2
  have h9' : c.f 8 8 % 64 = 0 := h9
  simp [direct, State.command, State.descriptor, h1, h2, h3, h4, h5, h8, h9', h9w, h10, h12, h13, HostCmd.withDesc]

/-- An accepted synchronous command is without ASYNC. -/
theorem accepts_async {k : Command} {c : HostCmd} {s : State} (h : k.accepts c s = true) : c.async = false := by
  simp only [Command.accepts, Bool.and_eq_true, Bool.not_eq_true'] at h
  exact h.2

/-- An accepted descriptor command is without ASYNC. -/
theorem acceptsDesc_async {k : Command} {c : HostCmd} {bs : List Byte} {s : State} (h : k.acceptsDesc c bs s = true) :
    c.async = false := by
  simp only [Command.acceptsDesc, Bool.and_eq_true, Bool.not_eq_true'] at h
  exact h.1.1.1.1.2

/-- An accepted command whose own part completes without more. -/
theorem direct_done {k : Command} {c : HostCmd} {s t : State} {st : Status} {data : List Byte} {after : State → State}
    (h : k.accepts c s = true) (ho : k.own c s = .done t st data after) :
    direct k c s = .next (after (t.answer c k.spec.op st data)) := by
  simp [direct_of_accepts h, ho, HostCmd.conclude, accepts_async h]

/-- An accepted command whose own part answers OK. -/
theorem direct_ok {k : Command} {c : HostCmd} {s t : State} {data : List Byte} (h : k.accepts c s = true)
    (ho : k.own c s = .ok t data) : direct k c s = .next (t.answer c k.spec.op .ok data) :=
  direct_done (after := id) h ho

/-- An accepted command whose own part answers a status. -/
theorem direct_st {k : Command} {c : HostCmd} {s t : State} {st : Status} (h : k.accepts c s = true)
    (ho : k.own c s = .st t st) : direct k c s = .next (t.answer c k.spec.op st []) :=
  direct_done (after := id) h ho

/-- An accepted descriptor command whose own part completes. -/
theorem direct_desc_done {k : Command} {c : HostCmd} {bs : List Byte} {s t : State} {st : Status} {data : List Byte}
    {after : State → State} (h : k.acceptsDesc c bs s = true) (ho : k.own (c.withDesc bs) s = .done t st data after) :
    direct k c s = .next (after (t.answer c k.spec.op st data)) := by
  simp [direct_of_acceptsDesc h, ho, HostCmd.conclude, acceptsDesc_async h]

/-- An accepted descriptor command whose own part answers OK. -/
theorem direct_desc_ok {k : Command} {c : HostCmd} {bs : List Byte} {s t : State} {data : List Byte}
    (h : k.acceptsDesc c bs s = true) (ho : k.own (c.withDesc bs) s = .ok t data) :
    direct k c s = .next (t.answer c k.spec.op .ok data) := direct_desc_done (after := id) h ho

/-- An accepted descriptor command whose own part answers a status. -/
theorem direct_desc_st {k : Command} {c : HostCmd} {bs : List Byte} {s t : State} {st : Status}
    (h : k.acceptsDesc c bs s = true) (ho : k.own (c.withDesc bs) s = .st t st) :
    direct k c s = .next (t.answer c k.spec.op st []) := direct_desc_done (after := id) h ho

/-- An accepted asynchronous command that goes on. -/
theorem direct_waitAsync {k : Command} {c : HostCmd} {s t : State} {w : WaitFor} (h : k.acceptsAsync c s = true)
    (ho : k.own c s = .wait t w) : direct k c s = .next (c.proceed k.spec.op t w []) := by
  simp [direct_of_acceptsAsync h, ho, HostCmd.conclude]

/-- An accepted asynchronous command that goes on with data in its PENDING response. -/
theorem direct_waitThen {k : Command} {c : HostCmd} {s t : State} {w : WaitFor} {data : List Byte} {after : State → State}
    (h : k.acceptsAsync c s = true) (ho : k.own c s = .waitThen t w data after) :
    direct k c s = .next (after (c.proceed k.spec.op t w data)) := by
  simp [direct_of_acceptsAsync h, ho, HostCmd.conclude]

/-- An accepted command that goes on with more to do. -/
theorem direct_waitThenSync {k : Command} {c : HostCmd} {s t : State} {w : WaitFor} {data : List Byte} {after : State → State}
    (h : k.accepts c s = true) (ho : k.own c s = .waitThen t w data after) :
    direct k c s = .next (after (c.proceed k.spec.op t w data)) := by
  simp [direct_of_accepts h, ho, HostCmd.conclude]

/-- An accepted command that goes on. -/
theorem direct_wait {k : Command} {c : HostCmd} {s t : State} {w : WaitFor} (h : k.accepts c s = true)
    (ho : k.own c s = .wait t w) : direct k c s = .next (c.proceed k.spec.op t w []) := by
  simp [direct_of_accepts h, ho, HostCmd.conclude]

/-- A synchronous command that completes posts one response. -/
theorem conclude_done {c : HostCmd} (h : c.async = false) (op : Nat) (t : State) (st : Status) (data : List Byte)
    (after : State → State) : c.conclude op (.done t st data after) = some (after (t.answer c op st data)) := by
  simp [HostCmd.conclude, h]

/-- A message on a vector leaves the mailboxes and whatever else lies outside the host interface and what was sent. -/
theorem sendMsix_frame (s : State) (v : Fin 64) :
    ∃ h o, s.sendMsix v = { s with host := h, out := o } ∧ h.mbx = s.host.mbx ∧ ∀ x ∈ s.out, x ∈ o := by
  unfold State.sendMsix State.emit
  dsimp only
  split
  · exact ⟨_, _, rfl, rfl, fun _ h => h⟩
  · split
    · exact ⟨_, _, rfl, rfl, fun _ h => h⟩
    · exact ⟨_, _, rfl, rfl, fun _ h => List.mem_cons_of_mem _ h⟩

/-- A response leaves everything but the host interface and what the part has sent out. -/
theorem respond_frame (s : State) (m : Fin 16) (op : Nat) (q : BitVec 16) (ni : Bool) (st : Status) (d : List Byte) :
    ∃ h o, s.respond m op q ni st d = { s with host := h, out := o } := by
  unfold State.respond State.sendMsix State.emit State.updMbx
  dsimp only
  repeat (first | split | exact ⟨_, _, rfl⟩)

/-! ### Sorting -/

/-- A merge holds the entries of both lists. -/
theorem mergeBy_perm {α : Type} (le : α → α → Bool) : ∀ (n : Nat) (xs ys : List α), (mergeBy le n xs ys).Perm (xs ++ ys)
  | 0, _, _ => .refl _
  | _ + 1, [], _ => .refl _
  | _ + 1, x :: xs, [] => by simp [mergeBy]
  | n + 1, x :: xs, y :: ys => by
    simp only [mergeBy]
    split
    · exact (mergeBy_perm le n xs (y :: ys)).cons x
    · exact ((mergeBy_perm le n (x :: xs) ys).cons y).trans List.perm_middle.symm

/-- So does a pass over the lists. -/
theorem mergePairs_perm {α : Type} (le : α → α → Bool) : ∀ ls : List (List α), (mergePairs le ls).flatten.Perm ls.flatten
  | [] => .refl _
  | [_] => .refl _
  | xs :: ys :: ls => by
    simp only [mergePairs, List.flatten_cons, ← List.append_assoc]
    exact (mergeBy_perm le _ xs ys).append (mergePairs_perm le ls)

/-- And all passes. -/
theorem mergeAll_perm {α : Type} (le : α → α → Bool) : ∀ (n : Nat) (ls : List (List α)), (mergeAll le n ls).Perm ls.flatten
  | 0, _ => .refl _
  | _ + 1, [] => .refl _
  | _ + 1, [_] => by simp [mergeAll]
  | n + 1, xs :: ys :: ls => (mergeAll_perm le n _).trans (mergePairs_perm le _)

/-- Sorting keeps the entries. -/
theorem sortBy_perm {α : Type} (le : α → α → Bool) (l : List α) : (sortBy le l).Perm l := by
  have e : (l.map (fun x => [x])).flatten = l := by induction l <;> simp_all
  exact (mergeAll_perm le l.length (l.map (fun x => [x]))).trans (.of_eq e)

/-- Membership in a sorted list. -/
@[simp] theorem mem_sortBy {α : Type} (le : α → α → Bool) (l : List α) (x : α) : x ∈ sortBy le l ↔ x ∈ l :=
  (sortBy_perm le l).mem_iff

end Sys2Proof.Machine
end

