-- ==== Sys2Proof/Machine/Flags.lean ====
section
/-!
DEFINITION. What the status registers read: the registers of BAR0 (02, 03, 04, 20, Registers and fields) and the status
words of control space (08, 11, 12, 14, 16, 17, 19). No row of the table reads a register; these views say how the state
shows in them.
-/
namespace Sys2Proof.Machine
open Sys2Proof

/-- Pack fields, the lowest first, each with its width. -/
def packBits : List (Nat × Nat) → Nat
  | [] => 0
  | (w, v) :: fs => v % 2 ^ w + 2 ^ w * packBits fs

/-- A bit of a packed word. -/
def bitF (b : Bool) : Nat × Nat := (1, b2n b)

/-- Bit `i` is set for each `i` below `n` that satisfies `p`. -/
def maskOf (n : Nat) (p : Nat → Bool) : Nat := ((List.range n).filter p).foldl (fun m i => m + 2 ^ i) 0

/-! ### Keeper block (20) -/

/-- KPR_STATUS. -/
def kprStatus (s : State) : Nat :=
  let k := s.kpr
  packBits [bitF k.safe, bitF k.armed, bitF k.lock.isSome, bitF k.safe, bitF s.faultNLow, bitF k.readySeen, bitF k.stopped,
    (1, 0), (7, (k.slot.toList.filter KprSlot.supervised).length)]

/-- A fault-log entry of the Keeper, 32 bytes. -/
def KprEntry.bytes (e : KprEntry) : List Byte :=
  leBytes 4 e.ktick.toNat ++ leBytes 4 e.boots.toNat ++ leBytes 8 e.devTime.toNat ++ [e.cls, e.cause, e.who, e.flags]
    ++ leBytes 4 e.value.toNat ++ List.replicate 8 0

/-- KPR_SLOTs_CFG, 16 bytes. -/
def KprSlot.bytes (k : KprSlot) : List Byte :=
  leBytes 4 k.periodUs.toNat ++ leBytes 4 (packBits [(3, k.state.code), (5, 0), (5, k.cause.toNat)])
    ++ leBytes 4 k.safetySeq.toNat ++ leBytes 4 k.lastArrival.toNat

/-- The Keeper block, as bytes from offset 0 (20, Registers and fields). -/
def kprBlock (s : State) : List Byte :=
  let k := s.kpr
  let sl := fun (p : KprSlot → Bool) => maskOf 64 (fun n => (k.slot.toList.getD n {}).state != .idle && p (k.slot.toList.getD n {}))
  let head := leBytes 4 (kprStatus s) ++ leBytes 4 k.fault.toNat ++ leBytes 4 k.causes.toNat ++ leBytes 4 k.event.toNat
    ++ leBytes 4 k.eventEn.toNat ++ leBytes 4 k.tick.toNat ++ leBytes 4 k.logCount.toNat ++ leBytes 4 k.boots.toNat
    ++ leBytes 8 (sl KprSlot.supervised) ++ leBytes 8 (sl (fun x => x.state == .ok))
    ++ leBytes 8 (maskOf 64 (fun n => (k.slot.toList.getD n {}).cause != 0))
  let log := k.log.toList.flatMap KprEntry.bytes
  head ++ List.replicate (0x100 - head.length) 0 ++ log ++ k.slot.toList.flatMap KprSlot.bytes

/-- KPR_WDOG: TOKEN is write-only. -/
def kprWdog (s : State) : Nat := packBits [(8, 0), (8, s.kpr.wdogLast.toNat)]

/-! ### Supply block (02) -/

/-- CORE_DIV. -/
def coreDivCode (d : Nat) : Nat := if d = 10 then 0 else if d = 12 then 1 else 2

/-- SUP_STATUS. -/
def supStatus (s : State) : Nat :=
  let p := s.sup
  let pw := match p.power with | .active => 0 | .low => 1 | _ => 2
  packBits [bitF p.guard, bitF p.v3v3Low, bitF p.pwrWarn, bitF p.eraseSusp.isSome, (2, p.throttle.val), bitF p.droop,
    bitF p.avsLimit, bitF p.avsFault, bitF p.pllLock, (2, pw), (2, coreDivCode s.coreDiv)]

/-- The word of the supply block at an offset, `none` for a reserved one. -/
def supWord (s : State) (o : Nat) : Option Nat :=
  let p := s.sup
  match o with
  | 0x000 => some (supStatus s)
  | 0x004 => some p.event.toNat
  | 0x008 => some p.eventEn.toNat
  | 0x010 => some (packBits [(16, p.setCode.toNat), (16, p.measMv.toNat)])
  | 0x014 => some (b2n p.avsEn)
  | 0x018 => some (packBits [(9, p.floor.toNat), (7, 0), (9, p.ceil.toNat)])
  | 0x01C => some p.margin.toNat
  | 0x020 => some p.droopCount.toNat
  | 0x024 => some p.stretchCycles.toNat
  | 0x028 => some p.guardCount.toNat
  | 0x030 => some (packBits [(16, p.tmax.toNat), (8, p.tmaxIndex.toNat)])
  | 0x080 => some (packBits [(8, p.throttleC.toNat), (8, p.hystC.toNat)])
  | _ =>
    if 0x040 ≤ o ∧ o < 0x070 ∧ o % 4 = 0 then
      let x := p.temps.toList.getD ((o - 0x040) / 4) {}
      some (packBits [(16, x.temp.toNat), bitF x.valid])
    else none

/-! ### Identification and boot status (03, 04) -/

/-- BOOT_IMAGE's code in BOOT_STAGE.IMAGE. -/
def ImgSlot.code : ImgSlot → Nat
  | .none => 0 | .a => 1 | .b => 2 | .hostLoad => 3

/-- The word of the identification and boot block at an offset, `none` for a reserved or write-only one. -/
def idWord (s : State) (o : Nat) : Option Nat :=
  let b := s.boot
  let f := s.sup.fuses
  match o with
  | 0x000 => some (packBits [(16, 0x5A64), (8, if f.variantL then 2 else 1), (8, f.stepping.toNat)])
  | 0x004 => some 1
  | 0x008 => some (f.serial.toNat % 2 ^ 32)
  | 0x00C => some (f.serial.toNat / 2 ^ 32)
  | 0x010 => some (packBits [(8, 4 * b.chGib), bitF f.variantL, bitF f.variantL])
  | 0x018 => some (s.host.int.bar2Base.toNat % 2 ^ 32)
  | 0x01C => some (s.host.int.bar2Base.toNat / 2 ^ 32)
  | 0x020 => some s.host.int.scratch.toNat
  | 0x100 => some (packBits [(4, b.stage.toNat), (4, 0), bitF b.error, bitF b.degraded, (2, b.image.code), (2, b.bootSel.toNat),
      bitF b.bcfgCopy, bitF b.fallback])
  | 0x104 => some (packBits [(8, b.errCode.code), (8, b.errStage.toNat), (16, b.errDetail.toNat)])
  | 0x108 => some b.imgVersion.toNat
  | 0x10C => some (packBits [(8, b.secVersion.toNat), (8, b.secverMin.toNat)])
  | 0x110 => some b.timeMs.toNat
  | 0x114 => some (b.fenced.toNat % 2 ^ 32)
  | 0x118 => some (b.fenced.toNat / 2 ^ 32)
  | 0x124 => some b.hostLen.toNat
  | _ =>
    if 0x140 ≤ o ∧ o < 0x180 ∧ o % 4 = 0 then
      let e := b.eyes.toList.getD ((o - 0x140) / 4) {}
      some (packBits [(8, e.rdCentre.toNat), (8, e.rdWidth.toNat), (8, e.wrCentre.toNat), (8, e.wrWidth.toNat)])
    else none

/-! ### Interrupt block, mailboxes, result rings (04) -/

/-- MBX_STATUS.ERR_CODE. -/
def MbxErr.code : MbxErr → Nat
  | .none => 0 | .badTail => 1 | .badHead => 2 | .cmdFault => 3 | .descFault => 4

/-- The word of the interrupt block at an offset, `none` for a reserved one. -/
def intWord (s : State) (o : Nat) : Option Nat :=
  let i := s.host.int
  let pend := maskOf 64 (fun n => let r := s.host.rrg.toList.getD n {}; r.write != r.read)
  match o with
  | 0x000 => some s.intStatus.toNat
  | 0x004 => some i.enable.toNat
  | 0x008 => some (maskOf 16 (fun m => !(s.host.mbx.toList.getD m {}).unread.isEmpty))
  | 0x010 => some (pend % 2 ^ 32)
  | 0x014 => some (pend / 2 ^ 32)
  | 0x018 => some (i.missAddr.toNat % 2 ^ 32)
  | 0x01C => some (i.missAddr.toNat / 2 ^ 32)
  | 0x020 => some i.dbDropCount.toNat
  | 0x024 => some (packBits [(24, i.badOffset.toNat), (4, i.badBytes.toNat), (3, 0), bitF i.badWrite])
  | _ => none

/-- The word of mailbox `m` at an offset, `none` for a reserved one. -/
def mbxWord (s : State) (m : Fin 16) (o : Nat) : Option Nat :=
  let x := s.host.mbx[m]
  match o with
  | 0x000 => some (x.cmdBase.toNat % 2 ^ 32)
  | 0x004 => some (x.cmdBase.toNat / 2 ^ 32)
  | 0x008 => some x.cmdSize.toNat
  | 0x00C => some x.cmdTail.toNat
  | 0x010 => some x.cmdHead.toNat
  | 0x018 => some (x.rspBase.toNat % 2 ^ 32)
  | 0x01C => some (x.rspBase.toNat / 2 ^ 32)
  | 0x020 => some x.rspSize.toNat
  | 0x024 => some x.rspHead.toNat
  | 0x028 => some x.rspTail.toNat
  | 0x030 => some (packBits [bitF x.en, bitF x.irqEn])
  | 0x034 => some (packBits [bitF x.enabled, bitF x.bound, (6, x.context.toNat), bitF x.err, (3, x.errCode.code), bitF x.halted,
      bitF x.rspStall, bitF s.updating, (1, 0), (4, s.asyncOut m)])
  | _ => none

/-- The word of result ring `n` at an offset, `none` for a reserved one. -/
def rrgWord (s : State) (n : Fin 64) (o : Nat) : Option Nat :=
  let r := s.host.rrg[n]
  match o with
  | 0x000 => some (r.base.toNat % 2 ^ 32)
  | 0x004 => some (r.base.toNat / 2 ^ 32)
  | 0x008 => some r.log2.toNat
  | 0x00C => some (packBits [bitF r.en, bitF r.udp])
  | 0x010 => some r.write.toNat
  | 0x014 => some r.read.toNat
  | 0x018 => some (packBits [(8, r.count.toNat), (16, r.timeoutUs.toNat), (6, r.vector.toNat)])
  | 0x01C => some (packBits [bitF r.full, bitF (r.write != r.read)])
  | 0x020 => some r.fullCount.toNat
  | 0x024 => some r.posted.toNat
  | _ => none

/-- The word of the MSI-X table at an offset from its start (R149). -/
def msixWord (s : State) (o : Nat) : Nat :=
  let e := s.host.msix.toList.getD (o / 16) {}
  match o % 16 with
  | 0 => e.addr.toNat % 2 ^ 32
  | 4 => e.addr.toNat / 2 ^ 32
  | 8 => e.data.toNat
  | _ => b2n e.mask

/-- The PBA: bit `v` is the pending bit of vector `v` (R149). -/
def pba (s : State) : Nat := maskOf 64 (fun v => (s.host.msix.toList.getD v {}).pend)

/-- What a 4-byte read of BAR0 at an aligned offset shows; reserved offsets read as 0, and before READY what R82's table does
not allow (04; 02; 03; 20). -/
def bar0Word (s : State) (o : Nat) : U32 :=
  BitVec.ofNat 32 (
    if s.boot.stage.toNat < 3 || s.sup.power == .off then 0
    else if 0x10000 ≤ o && o < 0x24000 && s.boot.stage != 0xF then 0
    else if 0x100000 ≤ o && o < 0x100400 then msixWord s (o - 0x100000)
    else if o = 0x100800 then pba s % 2 ^ 32
    else if o = 0x100804 then pba s / 2 ^ 32
    else if o < 0x1000 then (idWord s o).getD 0
    else if o < 0x2000 then (intWord s (o - 0x1000)).getD 0
    else if o < 0x3000 then leAt (kprBlock s) (o - 0x2000) 4
    else if o < 0x4000 then (supWord s (o - 0x3000)).getD 0
    else if h : 0x10000 ≤ o ∧ o < 0x20000 then (mbxWord s ⟨(o - 0x10000) / 0x1000, by omega⟩ (o % 0x1000)).getD 0
    else if h : 0x20000 ≤ o ∧ o < 0x24000 then (rrgWord s ⟨(o - 0x20000) / 0x100, by omega⟩ (o % 0x100)).getD 0
    else 0)

/-! ### Status words of control space -/

/-- UNIT_GATEu (19); units of the AON and TOP domains read 0. -/
def unitGate (s : State) (u : Nat) : Nat :=
  let g := s.gateN u
  if !unitGateable u then 0
  else packBits [(8, g.epoch.toNat), bitF g.closed, bitF g.fenced, bitF g.powered, bitF g.draining, (20, 0), (32, g.staleDrops.toNat)]

/-- LFN_STATUS (16). -/
def lfnStatus (s : State) (p : Fin 4) : Nat :=
  let x := s.lfn.port[p]
  packBits [(2, x.state.code), (3, x.lanes.toNat), bitF (s.optical p.val), (2, 0), (7, x.peer.toNat)]

/-- LTN_STATUS (17). -/
def ltnStatus (t : Ltn) : Nat :=
  packBits [(3, t.state.code), bitF t.chain[0].dark, bitF t.chain[1].dark, bitF t.overload, (2, 0), (3, t.cause.code), (5, 0),
    (16, maskOf 16 (fun r => (t.ring.toList.getD r {}).locked))]

/-- LTN_CFG (17); DITHER_AMP 64 is held and read as 0. -/
def ltnCfg (t : Ltn) : Nat :=
  packBits [bitF t.autoRange, bitF t.tint10, (2, 0), (4, t.gain.toNat), (6, t.dither.toNat), (2, 0), (6, t.modOffset.toNat), (2, 0),
    (8, t.lightMin.toNat)]

/-- LTN_RINGr (17). -/
def ltnRing (x : Ring) : Nat := packBits [(14, x.heater.toNat), (2, 0), (16, x.detune.toNat)]

/-- TWR_STATUS (14). -/
def twrStatus (s : State) (t : Fin 8) : Nat :=
  let e := s.sched.eng.toList.getD t.val {}
  let x := s.str.tower[t]
  packBits [bitF e.running.isSome, bitF e.saved.isSome, bitF (s.gateN t.val).fenced, bitF (e.running.any (fun i => i.kind == ItemKind.probe)),
    (4, 0), (6, x.images.length), (2, 0), (7, (x.images.flatMap Image.slots).length)]

/-- TWR_WB_USED (14). -/
def twrWbUsed (x : Tower) : Nat := (x.images.map Image.bytes).sum

/-- VPU_STATUS (14). -/
def vpuStatus (s : State) (v : Fin 16) : Nat :=
  let e := s.sched.eng.toList.getD (8 + v.val) {}
  packBits [bitF e.running.isSome, bitF e.saved.isSome, bitF (s.gateN (8 + v.val)).fenced]

/-- POOL_CFG (08). -/
def poolCfg (p : Pool) : Nat :=
  let next := match p.next with | some n => n.toNat | none => p.nextIdle.toNat
  packBits [bitF p.en, bitF p.list, bitF p.chain, bitF p.fallback, bitF p.adapt, (3, 0), (4, next), bitF p.next.isSome, (3, 0),
    (6, p.ctx.toNat)]

/-- POOL_STATUS (08). -/
def poolStatus (p : Pool) : Nat :=
  packBits [bitF p.atBuoy1, bitF p.pauseB, bitF p.pauseQ, bitF p.atBuoy3, bitF p.rebuild, (3, 0), (7, p.cache.length)]

/-- CSI_STATUS (11): the virtual channels with an open frame are those of the slots bound to the receiver. -/
def csiStatus (s : State) (n : Fin 6) : Nat :=
  let c := s.io.csi[n]
  let isOpen := fun v => s.str.slot.toList.any (fun sl => sl.ing.open_.isSome &&
    (match sl.src with | some x => x.type == .csi && x.port == n.val && x.vc == v | none => false))
  packBits [(2, c.lanes.toNat), bitF c.locked, bitF c.laneFault, (4, maskOf 4 isOpen)]

/-- ING_SLOT (11). -/
def ingSlot (x : Slot) : Nat := packBits [bitF (x.state == .stale), bitF x.ing.ringHalt, (2, x.ing.cause.code)]

/-- TBS_STATUS (11). -/
def tbsStatus (t : Tbs) : Nat := packBits [(2, t.source.code), bitF t.locked, bitF t.holdover]

/-- FS_FREE (14). -/
def fsFree (f : FeatStore) : Nat := 1920 - f.usedGranules

/-- FS_LARGEST (14, R435): the longest run that still fits. -/
def fsLargest (f : FeatStore) : Nat := ((List.range 1921).filter (fun n => n = 0 || (f.fit n).isSome)).foldl max 0

/-- A load register: units of 2^-16, rounded down, saturating (log entry 111). -/
def loadReg (q : ℚ) : Nat := min 65535 (q * 65536).floor.toNat

/-- VDE_LOAD (12). -/
def vdeLoadReg (s : State) (v : Nat) : Nat := loadReg (vdeLoad s.sched.demand v)

/-- VEE_LOAD: every enabled view (12). -/
def veeLoadReg (s : State) : Nat := loadReg (s.veeLoad 4)

/-- PPE_LOAD: the admitted demand of the pipes of both PPEs, shared equally (13; log entry 111). -/
def ppeLoadReg (s : State) : Nat :=
  let f := fun (g : Group) => ((s.sched.demand.map (·.rate g 10)).sum) / 2
  packBits [(16, loadReg (f .scan)), (16, loadReg (f .region))]

end Sys2Proof.Machine
end

