-- ==== Sys2Proof/WellFormed.lean ====
section
/-!
DEFINITION. Which commands are well-formed: operands within the ranges the spec gives them. What is checked of a host
command's fields is the command's own (R12, R15); here stands only what every message, packet, flit or event of the
kind has.
-/
namespace Sys2Proof
open Machine

/-- A command message carries bytes 8–63 (R125). -/
def Machine.HostCmd.wf (c : HostCmd) : Bool := c.payload.length == 56

/-- A unit ID (R618). -/
def unitOk (u : Nat) : Bool := decide (u < 0x38)

/-- A device of a hub, 0 to 126 (06, Link group). -/
def devOk (d : Nat) : Bool := decide (d < 127)

/-- Lanes of a receiver or port: 0 to 3, each once. -/
def laneList (l : List Nat) : Bool := l.all (fun x => x < 4) && decide l.Nodup

/-- A packet: a 32-byte header and whole data flits, at most 8 (R481, R483). -/
def Machine.Packet.wf (k : Packet) : Bool := k.hdr.length == 32 && k.data.length % 32 == 0 && decide (k.data.length ≤ 256)

/-- The operands of a command lie within their ranges. -/
def Instr.wf : Instr → Bool
  | .deviceNop c | .deviceInfo c | .devicePower c | .ctxCreate c | .ctxDestroy c | .mbxBind c | .memAlloc c
  | .memFree c | .bar2Window c | .modelLoad c | .modelUnload c | .instanceCreate c | .instanceDestroy c
  | .modelQuery c | .pipAlloc c | .pipFree c | .pipSignal c | .pipRead c | .pipWait c | .poolCreate c
  | .poolDestroy c | .poolAlloc c | .poolFree c | .poolQuery c | .poolBuoys c | .diagFaultLog c | .diagProbe c
  | .diagUnit c | .flashRead c | .flashWrite c | .fwSwitch c | .fuseSecver c | .fuseKey c | .fuseRevoke c
  | .streamSource c | .streamAnalytics c | .streamResult c | .streamStart c | .streamStop c | .streamStatus c
  | .streamReprocess c | .streamClear c | .streamTrack c | .streamView c | .jobSubmit c | .jobCancel c
  | .jobQuery c | .ckptWindow c | .ckptConfig c | .ckptNow c | .ckptRestore c | .ckptQuery c | .safetyArm c
  | .safetyLock c | .safetyUnlock c | .safetyClear c | .safetyInject c | .resetUnit c | .powerUnit c
  | .unitFence c | .linkId c | .linkPort c | .linkRoute c | .linkExport c | .linkFlush c | .linkErrRing c
  | .ethPort c | .ethNeighbour c | .ethSession c | .ethFlow c | .ethPtp c | .ethStats c => c.wf
  | .commandConsume entry _ => (match entry with | some b => b.length == 64 | none => true)
  | .bar2Read offset len => decide (offset + len ≤ 0x40000000)
  | .bar2Write offset bytes _ => decide (offset + bytes.length ≤ 0x40000000)
  | .unitInitFail unit => unitOk unit
  | .keeperSupplyFault supply _ => decide (supply ≤ 8)
  | .csiHsBurstStart _ lanes => laneList lanes
  | .csiFrameStart _ vc _ => decide (vc < 4)
  | .csiLongPacket _ vc dt _ _ _ => decide (vc < 4) && decide (dt < 64)
  | .csiFrameEnd _ vc _ => decide (vc < 4)
  | .ptpMessageReceive _ domain _ => decide (domain < 256)
  | .weightImageLoadDone _ _ books => books.all (fun b => b.length ≤ 512)
  | .bpmFree unit _ _ => unitOk unit
  | .pipSignalApply _ pip _ _ _ => decide (pip < 131072)
  | .pipWaitRegister w => decide (w.waiter.pip < 131072)
  | .dmcReadRequest _ line _ _ => decide (line < 2 ^ 27)
  | .dmcWriteRequest _ line _ data _ => decide (line < 2 ^ 27) && data.length == 64
  | .mmuTranslate ctx unit _ _ _ _ => unitOk unit && decide (ctx < 64)
  | .staleEpochDrop unit _ => unitOk unit
  | .unitResetComplete unit => unitOk unit
  | .unitPowerOnDone unit => unitOk unit
  | .epochDrainTimeout unit => unitOk unit
  | .linkTrainingDone _ lanes => laneList lanes
  | .flitReceive _ flit _ => flit.length == 36
  | .lfnPacketForward _ pkt => pkt.wf
  | .writePostedArrive _ pkt => pkt.wf
  | .readReqArrive _ pkt => pkt.wf
  | .pipSignalPacketArrive _ pkt => pkt.wf
  | .flushArrive _ pkt => pkt.wf
  | .wcountServe pkt => pkt.wf
  | .readRspArrive _ pkt => pkt.wf
  | .flushAckArrive _ pkt => pkt.wf
  | .flushAckTimeout dst => devOk dst
  | .errNoticeArrive _ pkt => pkt.wf
  | .helloArrive _ pkt => pkt.wf
  | .windowArrive _ pkt => pkt.wf
  | .windowQueryArrive _ pkt => pkt.wf
  | .windowQueryTimeout dst => devOk dst
  | .ltnSweepDwellEnd _ _ raw _ => decide (raw < 65536)
  | .ltnIntegrationEnd _ _ _ peak _ => decide (peak < 65536)
  | .ltnDitherBoundary _ _ peak => decide (peak < 65536)
  | .flushSpacingEnd dst => devOk dst
  | .unitInternalFault unit => unitOk unit
  | .unitReadyTimeout unit => unitOk unit
  | .asyncFinalResponse _ _ | .mbxCmdTailWrite _ _ | .mbxRspHeadWrite _ _ | .mbxEnable _ | .mbxDisable _
  | .mbxIndexReset _ | .mbxIrqEnWrite _ _ | .rrgReadWrite _ _ | .rrgIrqWrite _ _ | .rrgIrqTimeout _
  | .intStatusWrite _ | .intEnableWrite _ | .msixUnmask _ | .bar0BadAccess _ _ _ | .bar4DoorbellWrite _ _ _
  | .bootHostGo | .supAvsEnable _ | .supAvsClearFault | .ltnRangeWrite _ _ _ | .mmuInvalWrite _
  | .kprWdogKick _ | .registerWrite _ | .pmD3hotEntry | .pmD0Return | .busMasterEnableChange _ | .porNAssert
  | .porNRelease _ | .perstNAssert | .perstNRelease _ | .hotReset _ | .linkDownReset _ | .bootStageComplete _
  | .bootStageTimeout | .pllNoLock | .flashNoResponse | .lockstepFail | .supplyGuardActivate _ _
  | .supplyGuardRelease | .guardWaitTimeout | .flashOpComplete _ | .droopTrip | .droopBlockEnd _
  | .avsEvaluation _ | .avsLowerTimer | .avsSettleWaitEnd | .avsDroopHoldoffEnd | .avsbusFrameDone _ _
  | .tempSensorRead _ _ | .throttleDwellExpiry | .throttleReleaseExpiry | .sensorStuckTimeout _
  | .powerSwitchOnStep | .keeperClockWindow _ | .keeperSelfTest _ | .keeperSmMismatch | .watchdogTimeout
  | .hylLockstepMismatch | .deviceFaultReport _ _ _ | .sourceWatchExpiry _ | .deadlineWatchExpiry _
  | .noResultWatchExpiry _ | .startWatchExpiry _ | .safeNRelease | .beaconToggle | .csiLaneFault _
  | .lineTimerExpiry _ | .frameTimerExpiry _ | .rtpGapTimer _ | .assemblyTimerExpiry _ | .hostRingPoll _ _
  | .hostRingEntryCopy _ _ | .hostRingHalt _ | .staleRecordDue _ | .ptmRequest | .ptmDialogueDone _ _
  | .ppsEdge | .ppsTimeout | .disciplineSourceLoss | .tbsLockTimer | .ppsOutPulse _ | .workItemEligible _
  | .saveRestoreDone _ _ | .unitYield _ | .engineItemComplete _ _ | .vpuLocalLoadDone _ _
  | .tileRunComplete _ _ _ | .tileRunRetryDone _ _ | .runLimitExceeded _ | .probeDue _ | .probeComplete _ _
  | .referenceVectorDue _ | .referenceVectorComplete _ _ | .level3Promotion _ _ | .quantumEnd _
  | .admissionReevaluate | .fsScrubAccess _ | .decodeComplete _ _ | .decodeStopTimeout _ | .veeEncodeComplete _
  | .veeSliceSend _ _ _ | .prepComplete _ _ | .cropComplete _ _ | .ppeStopTimeout _ _ | .selectComplete _ _
  | .trackComplete _ _ | .ssuTrkStopTimeout _ | .resultPost _ | .resultRingFullTimeout _ | .udpDatagramSend _
  | .bpmAllocDecision _ | .bpmCacheRefill _ | .bpmCacheSpill _ | .bpmRebuildDone _ | .adaptiveWindowEnd _
  | .pipOverflowPoll | .pipWaitTimeout _ _ | .pageIdleClose _ _ | .dramRefresh _ _ | .mr4Poll _ _ _
  | .driftUpdate _ _ _ _ | .patrolScrubStep _ _ | .dmcUnansweredTimeout _ | .teardownDrainDone _
  | .fwImageCheckDone | .fwSwitchDrainDone | .fwSwitchDrainTimeout | .fwSwitchHandoverDone | .fwSwitchRevert
  | .ckptTimerTrigger _ | .ckptSnapshot _ | .ckptCopyDone _ _ | .ckptReductionDone _ _ | .linkTrainingTimeout _
  | .linkControlFlitSend _ | .retrainTimeout _ | .lfnLossOfLock _ | .creditWaitTimeout _ | .readTimeout _
  | .errNoticeSend | .remoteRequestIssue _ _ | .rerConsumerPoll _ | .ltnCalDone _ _ | .ltnLightQualified _ _
  | .ltnBlankingEnd _ _ | .ltnAcquireTimeout _ | .ltnRelockTimeout _ _ | .ltnLockDeadline _ | .ltnLightLoss _ _
  | .ltnWarmRelockStart _ | .ltnWarmRelockTimeout _ | .ltnHeaterFault _ _ | .ltnMonitorFault _ _
  | .pcieCompletionTimeout _ | .pcieTlpError _ | .vddIo18Loss | .ptpDelayReqSend _ | .ethPcsLockChange _ _
  | .ethFrameReceive _ _ => true

end Sys2Proof
end

