-- ==== Sys2Proof/Tests/Slice0.lean ====
section
/-!
SUPPORT. Tests: the ill-formed operands that WellFormed refuses, single steps checked against the spec's own examples and
tables, and witnesses of the statements' hypotheses.
-/
namespace Sys2Proof.Tests
open Machine
set_option Elab.async false

/-! ### Ill-formed operands -/

/-- A command message of no bytes. -/
def shortCmd : HostCmd := { mbx := 0, seq := 0, flags := 0, len := 0, ctx := 0, payload := [] }

/-- A message of the wrong length is refused. -/
theorem test_wf_payload : Instr.wf (.deviceNop shortCmd) = false := by decide

/-- An entry of a command ring has 64 bytes. -/
theorem test_wf_entry : Instr.wf (.commandConsume (some [0]) .none) = false := by decide

/-- BAR2 has 1 GiB. -/
theorem test_wf_bar2_read : Instr.wf (.bar2Read 0x40000000 1) = false := by decide

/-- A write at the end of BAR2. -/
theorem test_wf_bar2_write : Instr.wf (.bar2Write 0x40000000 [1] false) = false := by decide

/-- Unit 0x38 is reserved. -/
theorem test_wf_unit : Instr.wf (.unitResetComplete 0x38) = false := by decide

/-- There is no supply 9. -/
theorem test_wf_supply : Instr.wf (.keeperSupplyFault 9 0) = false := by decide

/-- A lane is named once. -/
theorem test_wf_lanes : Instr.wf (.linkTrainingDone 0 [1, 1]) = false := by decide

/-- There is no lane 4. -/
theorem test_wf_lane4 : Instr.wf (.csiHsBurstStart 0 [4]) = false := by decide

/-- A receiver has four virtual channels. -/
theorem test_wf_vc : Instr.wf (.csiFrameStart 0 4 (.good false)) = false := by decide

/-- A data type has 6 bits. -/
theorem test_wf_dt : Instr.wf (.csiLongPacket 0 0 64 (.good false) [] true) = false := by decide

/-- A PTP domain has 8 bits. -/
theorem test_wf_domain : Instr.wf (.ptpMessageReceive 0 256 { transport := 0, msg := .other }) = false := by decide

/-- A flit has 36 bytes. -/
theorem test_wf_flit : Instr.wf (.flitReceive 0 [0] none) = false := by decide

/-- There are 131,072 pips. -/
theorem test_wf_pip : Instr.wf (.pipSignalApply .firmware 131072 0 0 none) = false := by decide

/-- A line number has 27 bits. -/
theorem test_wf_line : Instr.wf (.dmcReadRequest 0 (2 ^ 27) 0 .firmware) = false := by decide

/-- A line has 64 bytes. -/
theorem test_wf_line_data : Instr.wf (.dmcWriteRequest 0 0 0 [] .firmware) = false := by decide

/-- Device 127 is no peer. -/
theorem test_wf_device : Instr.wf (.flushAckTimeout 127) = false := by decide

/-- An ADC sample has 16 bits. -/
theorem test_wf_sample : Instr.wf (.ltnDitherBoundary 0 true 65536) = false := by decide

/-- A packet's header has 32 bytes. -/
theorem test_wf_packet : Instr.wf (.windowArrive 0 { hdr := [] }) = false := by decide

/-- A book of this length is too long. -/
theorem wf_book (n : Nat) (h : 512 < n) : Instr.wf (.weightImageLoadDone 0 true [List.replicate n 0]) = false := by
  simp only [Instr.wf, List.all_cons, List.all_nil, List.length_replicate, Bool.and_true, decide_eq_false_iff_not]
  omega

/-- A codebook has at most 512 bytes. -/
theorem test_wf_codebook : Instr.wf (.weightImageLoadDone 0 true [List.replicate 513 0]) = false := wf_book 513 (by decide)

/-- There are 64 contexts. -/
theorem test_wf_ctx : Instr.wf (.mmuTranslate 64 0 0 0 false false) = false := by decide

/-! ### Values the spec states -/

/-- The ASCII bytes "123456789". -/
def ascii9 : List Byte := (List.range 9).map (fun i => BitVec.ofNat 8 (0x31 + i))

/-- The check value of the flits' CRC-16 (R478). -/
theorem test_crc16 : crc16 ascii9 = 0x29B1 := by decide +kernel

/-- The check value of CRC-32C (R462). -/
theorem test_crc32c : crc32c ascii9 = 0xE3069283 := by decide +kernel

/-- R391: −7.5 becomes −7. -/
theorem test_rescale_down : rescale (-5) 3 1 0 = -7 := by decide +kernel

/-- R391: 7.5 becomes 8. -/
theorem test_rescale_up : rescale 5 3 1 0 = 8 := by decide +kernel

/-- R391: 39,163 saturates to 32,767. -/
theorem test_rescale_saturates : rescale 40000000 1073741824 40 100 = 32767 := by decide +kernel

/-! ### Witnesses: states and commands that meet the hypotheses of the statements, clause by clause -/

/-- Every entry holds. -/
def allOf (l : List Bool) : Bool := l.all id

/-- A running device whose mailbox 0 is enabled. -/
def up : State :=
  { boot := { stage := 15, chGib := 8 }
    host := { mbx := (Vector.replicate 16 {}).set 0 { bound := true, en := true, enabled := true }, pcie := { busMaster := true } } }

/-- The same with every unit in service. -/
def serving : State := { up with gate := Vector.replicate 56 { powered := true } }

/-- A synchronous command of mailbox 0 and context 0 with these payload bytes. -/
def cmd (len : Nat) (bytes : List Nat) : HostCmd :=
  { mbx := 0, seq := 7, flags := 0, len := BitVec.ofNat 8 len, ctx := 0, payload := padTo 56 (bytes.map (BitVec.ofNat 8)) }

/-- An asynchronous one. -/
def acmd (len : Nat) (bytes : List Nat) : HostCmd := { cmd len bytes with flags := 1 }

/-- A descriptor command whose descriptor of `n` bytes was read. -/
def dcmd (n : Nat) (bytes : List Nat) : HostCmd :=
  { cmd 2 ([0, 0, 0, 0, 0, 0, 0, 0] ++ (leBytes 4 n).map BitVec.toNat) with flags := 2, host := .data (padTo n (bytes.map (BitVec.ofNat 8))) }

/-- A number as little-endian bytes. -/
def le (n v : Nat) : List Nat := (leBytes n v).map BitVec.toNat


/-- A device with eight asynchronous commands of mailbox 0 in progress, one of them a flash write. -/
def crowded : State :=
  { up with running := List.replicate 8 { mbx := 0, op := 0x0D02, seq := 0, noIrq := false, async := true, wait := .flashWrite } }

/-- Witnesses of `CommandTurnedAway`. -/
theorem witness_commandTurnedAway : allOf [
    !({ up with fw := { phase := .drain } } : State).served 0,
    crowded.served 0 && crowded.hasRoom 0 false && crowded.fw.phase != .handover && cmdFlashRead.waits crowded,
    up.served 0 && !({ up with host := { up.host with mbx := up.host.mbx.set 0 { up.host.mbx[0] with unread := List.replicate 15 true } } } : State).hasRoom 0 false,
    up.hasRoom 0 false && up.fw.phase != .handover && !cmdDevicePower.waits up,
    ({ up with fw := { phase := .handover } } : State).served 0 && ({ up with fw := { phase := .handover } } : State).hasRoom 0 false && !cmdDevicePower.spec.safe,
    decide (8 ≤ ({ cmd 1 [0] with flags := 8 } : HostCmd).flags.toNat), cmdDevicePower.spec.headerError up (cmd 1 [0, 1]) == some .reservedNonzero,
    (cmd 7 [127, 1, 8, 1]).f 9 1 == 1 && (cmd 7 [127, 1, 8, 1]).f (10 + 1) 1 == 1,
    cmdDevicePower.spec.headerError up (cmd 8 []) != some .reservedNonzero && decide (7 < (cmd 8 []).len.toNat),
    ({ up with host := { up.host with mbx := up.host.mbx.set 1 { bound := true, en := true, enabled := true } } } : State).served 1
      && cmdDevicePower.spec.headerError ({ up with host := { up.host with mbx := up.host.mbx.set 1 { bound := true, en := true, enabled := true } } } : State)
        { cmd 1 [0] with mbx := 1 } == some .denied && cmdDevicePower.spec.m0,
    crowded.served 0 && crowded.hasRoom 0 true && !cmdPipWait.waits crowded && cmdPipWait.spec.headerError crowded (acmd 2 (le 4 4096 ++ [3])) == none
      && decide (8 ≤ crowded.asyncOut 0) && !(acmd 2 []).desc,
    up.served 0 && cmdDevicePower.spec.headerError up (cmd 1 [9]) == none && !cmdDevicePower.spec.rangesOk (cmd 1 [9])] = true := by decide +kernel

/-- A device whose slot 0 runs. -/
def busy0 : State := { up with str := { slot := (Vector.replicate 64 {}).set 0 { state := .running } } }

/-- Witnesses of `DeviceCommands`. -/
theorem witness_deviceCommands : allOf [
    cmdDeviceNop.accepts (cmd 7 [1, 2]) up, cmdDeviceInfo.accepts (cmd 0 []) up,
    cmdDevicePower.accepts (cmd 1 [0]) up && powerNamed 0 == up.sup.power,
    cmdDevicePower.accepts (cmd 1 [1]) { up with sup := { power := .standby } } && powerNamed 1 == .low,
    cmdDevicePower.accepts (cmd 1 [2]) busy0 && busy0.atWork && powerNamed 2 != busy0.sup.power && busy0.sup.power == .active,
    cmdDevicePower.accepts (cmd 1 [2]) up && !up.atWork, cmdDevicePower.accepts (cmd 1 [3]) up && powerNamed 3 == .off && up.sup.eraseSusp.isNone && !up.sup.programming,
    cmdDevicePower.accepts (cmd 1 [3]) { up with sup := { eraseSusp := some 255 } } && !({ up with sup := { eraseSusp := some 255 } } : State).atWork,
    cmdDevicePower.accepts (cmd 1 [0]) { serving with sup := { power := .low } }
      && (List.range 56).all (fun u => !({ serving with sup := { power := .low } } : State).wanted u || (serving.gateN u).powered),
    cmdDevicePower.accepts (cmd 1 [0]) { up with sup := { power := .low } } && ({ up with sup := { power := .low } } : State).wanted 0 && !(up.gateN 0).powered,
    cmdDiagFaultLog.accepts (cmd 3 (le 8 1 ++ le 4 1)) up,
    cmdDiagFaultLog.accepts { cmd 3 (le 8 64 ++ le 4 1) with host := .failed } up && ({ cmd 3 (le 8 64 ++ le 4 1) with host := .failed } : HostCmd).f 8 8 % 64 == 0,
    cmdDiagFaultLog.accepts (cmd 3 (le 8 64 ++ le 4 1)) up && up.mem.log.isEmpty,
    cmdDiagFaultLog.accepts (cmd 3 (le 8 64 ++ le 4 1)) (up.faultLog 0 0 0) && !(up.faultLog 0 0 0).mem.log.isEmpty,
    cmdDiagProbe.takes (cmd 1 [7]) serving && serving.unitLive 7 && serving.sup.power == .active, cmdDiagProbe.takes (acmd 1 [7]) up && !up.unitLive 7,
    cmdDiagUnit.accepts (cmd 1 [0x32]) { up with sup := { fuses := { variantL := false } } }
      && ({ up with sup := { fuses := { variantL := false } } } : State).unitAbsent 0x32,
    cmdDiagUnit.accepts (cmd 1 [0x37]) up && !up.unitAbsent 0x37] = true := by decide +kernel

/-- A device with all 64 contexts. -/
def peopled : State := { up with mem := { ctx := Vector.replicate 64 { exists_ := true } } }

/-- Context 1 owns an S-class slot and the device is locked. -/
def lockedS : State :=
  { peopled with kpr := { lock := some 5 }, str := { slot := (Vector.replicate 64 {}).set 63 { state := .configured, ctx := 1, ana := some { cls := .s, cropLimit := 0, det := 255, emb := none, srcPool := 0, framePool := none, cropPool := none, recPool := 0, retain := 0, shed := 0 } } } }

/-- Context 1 is being torn down. -/
def tearing : State := { up with mem := { ctx := up.mem.ctx.set 1 { exists_ := true, teardown := .draining } } }

/-- Witnesses of `ContextCommands`. -/
theorem witness_contextCommands : allOf [
    cmdMbxBind.accepts (cmd 1 [1, 63]) up && !up.ctxLive 63,
    cmdMbxBind.accepts (cmd 1 [1, 255]) { up with host := { up.host with mbx := up.host.mbx.set 1 { enabled := true } } },
    cmdMbxBind.accepts (cmd 1 [15, 0]) up && up.ctxLive 0 && !up.host.mbx[15].enabled,
    cmdMbxBind.accepts (cmd 1 [1, 255]) up,
    cmdBar2Window.accepts (cmd 1 [1]) up, cmdBar2Window.accepts (cmd 1 (le 8 (2 ^ 41))) up,
    cmdBar2Window.accepts (cmd 1 (le 8 (2 ^ 30))) up,
    cmdCtxCreate.accepts (cmd 1 [1]) peopled, cmdCtxCreate.accepts (cmd 1 [63, 2, 0, 0, 16]) up && !(up.ctxN 63).exists_,
    cmdCtxCreate.accepts (cmd 1 [255]) up && !(up.ctxN 1).exists_,
    cmdCtxCreate.accepts (cmd 1 [255]) peopled && (List.range 64).all (fun i => (peopled.ctxN i).exists_),
    cmdCtxDestroy.takes (cmd 1 [0]) up, cmdCtxDestroy.takes (cmd 1 [63]) up && !up.ctxLive 63,
    cmdCtxDestroy.takes (cmd 1 [1]) lockedS && lockedS.ctxLive 1 && lockedS.locked && lockedS.ctxHasS 1,
    cmdCtxDestroy.takes (acmd 1 [1]) peopled && peopled.ctxLive 1 && !peopled.locked,
    tearing.live && (tearing.ctxN 1).teardown != .none && (((tearing.teardownJobs 1).teardownTry 1).ctxN 1).teardown == .draining,
    ({ tearing with mem := { tearing.mem with ctx := tearing.mem.ctx.set 1 { exists_ := true, teardown := .streams } } } : State).live] = true := by decide +kernel

/-- A state in which context 0 holds a region of 2 MiB. -/
def owning : State :=
  { serving with mem := { ctx := up.mem.ctx.set 0 { exists_ := true, regions := [{ va := 0x10000000, pa := 0x10000000, bytes := 2 ^ 21, page := 4096 }] } } }

/-- The same with memory, channels and a context 1. -/
def roomy : State :=
  { up with mem := {
      ctx := (up.mem.ctx.set 0 { exists_ := true, quotaMib := 64 }).set 1 { exists_ := true, quotaMib := 64 }
      root := up.mem.root.set 1 { en := true } }, sup := { fuses := { variantL := true } } }

/-- Witnesses of `MemoryCommands`. -/
theorem witness_memoryCommands : allOf [
    cmdMemAlloc.takes (cmd 2 []) up, cmdMemAlloc.takes { cmd 2 (le 8 4096) with ctx := 63 } up && !up.ctxLive 63,
    cmdMemAlloc.takes (cmd 2 (le 8 (2 ^ 21))) { roomy with mem := { roomy.mem with ctx := roomy.mem.ctx.set 0 { exists_ := true, quotaMib := 1 } } }
      && !({ exists_ := true, quotaMib := 1 } : Ctx).allows (2 ^ 21),
    cmdMemAlloc.takes (acmd 2 (le 8 4096)) roomy && (roomy.ctxN 0).allows 4096 && roomy.ctxLive 0,
    cmdMemAlloc.takes { cmd 2 (le 8 4096) with ctx := 1 } roomy && (roomy.ctxN 1).allows 4096 && roomy.ctxLive 1,
    cmdMemFree.accepts { cmd 1 [] with ctx := 63 } up && !up.ctxLive 63,
    cmdMemFree.accepts (cmd 1 []) up && up.ctxLive 0 && (up.ctxN 0).regions.isEmpty,
    cmdMemFree.accepts (cmd 1 (le 8 0x10000000)) owning && !owning.regionBusy 0 { va := 0x10000000, pa := 0x10000000, bytes := 2 ^ 21, page := 4096 }]
    = true := by decide +kernel

/-- DRAM is found wherever firmware looks first, and an address of the context for it. -/
theorem witness_pickDram : ∃ pa u, roomy.pickDram 4096 (pageSize 0) = (some pa, u) ∧ (u.pickVa 1 4096 (pageSize 0) pa).isSome = true := by
  have h : roomy.dramRanges = [] := by
    rw [State.dramRanges, show roomy.mem.ctx.toList.flatMap (fun c => c.regions.map (fun r => (r.pa, r.bytes))) = [] by decide +kernel]
    rfl
  unfold State.pickDram
  simp only [h]
  split
  · refine ⟨_, _, rfl, ?_⟩
    rw [State.pickVa, if_neg (by decide), show sortRanges (((roomy.takeFree).2.ctxN 1).regions.map (fun r => (r.va, r.bytes))) = [] from rfl]
    decide +kernel
  · refine ⟨0x10000000, (roomy.takeFree).2, by rw [show fitFrom 4096 (pageSize 0) roomy.dramSize 0x10000000 [] = some 0x10000000 by decide +kernel], ?_⟩
    rw [State.pickVa, if_neg (by decide), show sortRanges (((roomy.takeFree).2.ctxN 1).regions.map (fun r => (r.va, r.bytes))) = [] from rfl]
    decide +kernel

/-- A package header of one entry with its digest field zero: magic, version, size 4096. -/
def pkgHead : List Byte :=
  leBytes 4 0x4B50435A ++ leBytes 2 1 ++ zeros 2 ++ leBytes 8 4096 ++ zeros 32 ++ zeros 4 ++ leBytes 4 65536 ++ zeros 8 ++ leBytes 2 1 ++ zeros 6
    ++ leBytes 4 128 ++ zeros 28 ++ leBytes 2 640 ++ leBytes 2 640 ++ leBytes 1 3 ++ leBytes 1 1 ++ zeros 18

/-- A device whose context 0 holds the package. -/
def packed : State := { owning with mem := { owning.mem with cells := cellsWrite [] 0x10000000 pkgHead } }

/-- A model of one granule of context 0. -/
def model0 : Model := modelOf 0 0x10000000 0x10000000 pkgHead

/-- A device that has loaded the model and holds one instance of it. -/
def loaded : State := { packed with mem := { packed.mem with models := [(63, model0)], insts := [(255, { ctx := 0, model := 63, granule := 0, granules := 1 })] } }

/-- A job of that instance. -/
def job0 : Job :=
  { id := 5, ctx := 0, inst := 255, entry := 0, cls := .q, donePip := some 5000, inVa := 0x10000000, outVa := 0x10000000, outBytes := 64, state := .queued, order := 0 }

/-- Witnesses of `ModelCommands`. -/
theorem witness_modelCommands : allOf [
    cmdModelLoad.takes { cmd 2 [] with ctx := 63 } up && !up.ctxLive 63,
    cmdModelLoad.takes (cmd 2 (le 8 0x10000000 ++ le 8 4097)) packed && (packed.regionOf 0 0x10000000 4097).isSome
      && !packageOk (packed.memRead 0x10000000 128) 4097,
    cmdModelLoad.takes (acmd 2 (le 8 0x10000000 ++ le 8 4096)) packed && (packed.regionOf 0 0x10000000 4096).isSome && packed.ctxLive 0
      && packageOk (packed.memRead 0x10000000 128) 4096,
    cmdMemFree.accepts (cmd 1 (le 8 0x10000000)) loaded && loaded.ctxLive 0 && loaded.regionBusy 0 { va := 0x10000000, pa := 0x10000000, bytes := 2 ^ 21, page := 4096 },
    cmdModelUnload.accepts (cmd 1 [63]) up && (up.modelIn 0 63).isNone,
    cmdModelUnload.accepts (cmd 1 [63]) loaded && (loaded.modelIn 0 63).isSome && loaded.mem.insts.any (fun i => i.2.model == 63),
    !({ loaded with mem := { loaded.mem with insts := [] } } : State).mem.insts.any (fun i => i.2.model == 63),
    cmdModelQuery.accepts (cmd 1 [63]) up, cmdModelQuery.accepts (cmd 1 [63]) loaded && (loaded.modelIn 0 63).isSome,
    cmdInstanceCreate.accepts (cmd 1 [63]) up && (up.modelIn 0 63).isNone,
    cmdInstanceCreate.accepts (cmd 1 [63]) loaded && (loaded.modelIn 0 63).isSome && loaded.str.fs.fit (ceilDiv model0.fsPeak 65536) == some 0,
    ({ runs := [(0, 1920)] } : FeatStore).fit (ceilDiv model0.fsPeak 65536) == none,
    cmdInstanceDestroy.accepts (cmd 1 [255]) up && (up.instIn 0 255).isNone,
    cmdInstanceDestroy.accepts (cmd 1 [255]) loaded && (loaded.instIn 0 255).isSome && !loaded.instNamed 255 && loaded.mem.jobs.isEmpty,
    ({ loaded with mem := { loaded.mem with jobs := [job0] } } : State).mem.jobs.any (fun j => j.inst == 255)] = true := by decide +kernel

/-- A device with an open block of pips 4096 and 4097 in context 0. -/
def pipped : State := { up with pip := { blocks := [{ first := 4096, count := 2, open_ := true, ctx := 0 }] } }

/-- A waiter of pip 4096. -/
def waiter0 : Waiter := { pip := 4096, eq := false, x := 1, by_ := .command 0 7 (some 0) }

/-- The same with pip 4096 poisoned and a command that waits on pip 4097. -/
def poisoned : State :=
  { pipped with pip := { pipped.pip with pips := [(4096, { err := 0x61 })], watch := [{ waiter0 with pip := 4097 }] } }

/-- Witnesses of `PipOperations` and `PipCommands`. -/
theorem witness_pips : allOf [
    pipKind 4096 == .general && pipped.pip.watch.all (fun w => w.pip != 4096), (pipped.pipGet 4096).err == 0, (poisoned.pipGet 4096).err != 0,
    pipKind 130496 == .stage && pipKind 131072 == .outside && pipKind 4095 == .plan && pipKind 130495 == .general && pipKind 131071 == .stage,
    ({ err := 0x61 } : Pip).err != 0, poisoned.pip.overflow.isEmpty && poisoned.pip.watch.any (fun w => w.pip == 4097),
    cmdPipAlloc.accepts { cmd 1 (le 4 4096 ++ [1]) with ctx := 63 } up && !up.ctxLive 63,
    cmdPipAlloc.accepts (cmd 1 (le 4 4096 ++ [1])) up && up.ctxLive 0 && fitFrom 4096 1 130496 4096 (sortRanges (up.pip.blocks.map (fun b => (b.first, b.count)))) == some 4096,
    fitFrom 4096 1 130496 4096 [(4096, 126400)] == none,
    cmdPipFree.accepts (cmd 1 (le 4 4096)) up && up.pip.blocks.isEmpty,
    cmdPipFree.accepts (cmd 1 (le 4 4096)) pipped && (pipped.pip.blocks.find? (fun b => b.first == 4096 && b.ctx == 0)).isSome
      && !pipped.pipWaited 4096 2 && !pipped.pipNamed 4096 2,
    poisoned.pipWaited 4096 2,
    cmdPipSignal.accepts (cmd 2 (le 4 4097 ++ [5, 0, 0, 0, 0])) pipped && pipOpOf 5 == some .poison && !pipOperandOk .poison 0,
    cmdPipSignal.accepts (cmd 2 (le 4 4097 ++ [1, 0, 0, 0, 5])) pipped && pipOpOf 1 == some .add && pipOperandOk .add 5
      && pipped.pipAccess (cmd 2 []) 4097 (some .denied) (some .denied) == none,
    cmdPipSignal.accepts (cmd 2 (le 4 131071 ++ [1, 0, 0, 0, 5])) pipped && pipped.pipAccess (cmd 2 []) 131071 (some .denied) (some .denied) == some .denied,
    cmdPipRead.accepts (cmd 1 (le 4 4098)) pipped && pipped.pipAccess (cmd 1 []) 4098 none none == some .notFound,
    cmdPipRead.accepts (cmd 1 (le 4 130496)) pipped && pipped.pipAccess (cmd 1 []) 130496 none none == none,
    cmdPipWait.acceptsAsync (acmd 2 (le 4 4096 ++ [3, 0, 0, 0, 1])) pipped && pipped.pipAccess (cmd 1 []) 4096 (some .denied) none == none,
    cmdPipWait.acceptsAsync (acmd 2 (le 4 4095 ++ [4, 0, 0, 0, 1])) pipped && pipped.pipAccess (cmd 1 []) 4095 (some .denied) none == some .denied]
    = true := by decide +kernel

/-- A device with one held waiter. -/
def holding : State := { pipped with pip := { pipped.pip with overflow := [waiter0] } }

/-- Witnesses of `PipEvents`. -/
theorem witness_pipEvents : allOf [
    ({ err := 0x61 } : Pip).err != 0, ({} : Pip).err == 0 && { waiter0 with eq := true }.eq && !waiter0.eq,
    up.live && pipOpOf 1 == some .add && up.pipFresh (.unit 0 0) && PipOp.add.signal, (up.gateN 0).epoch != 1 && !up.pipFresh (.unit 0 1),
    (pipped.pip.watch ++ pipped.pip.overflow).isEmpty,
    pipped.pipFresh (.unit 0 0) && pipped.sched.cut.isEmpty && pipped.pipAllocated 4096 && waitResult waiter0 (pipped.pipGet 4096) == none && decide (pipped.pip.watch.length < 16384),
    waitResult waiter0 { value := 1 } == some 0, !pipped.pipAllocated 4098,
    waitResult waiter0 { value := 0x80000000 } == some 0, waitResult waiter0 { value := 0x80000001 } == none, waitResult waiter0 { err := 0x61 } == some 0x61,
    waitResult { waiter0 with eq := true } { value := 1 } == some 0, waitResult { waiter0 with eq := true } { value := 2 } == none,
    holding.pip.overflow == [waiter0] && waitResult waiter0 (holding.pipGet 4096) == none,
    ({ holding with pip := { holding.pip with pips := [(4096, { value := 1 })] } } : State).pipGet 4096 == { value := 1 },
    ({ pipped with pip := { pipped.pip with watch := [{ waiter0 with by_ := .command 0 7 (some 0) }] } } : State).pip.watch.find? (fun w => w.ofCommand 0 7 && w.expired 0) == some { waiter0 with by_ := .command 0 7 (some 0) },
    up.host.pcie.dstate == .d0 && up.sup.power != .standby, pipped.pipOpen 4096 && pipOperandOk .set 9 && bitsOf (leAt (leBytes 8 (2 ^ 33 + 9)) 0 8) 36 28 == 0
      && pipOpOf (bitsOf (leAt (leBytes 8 (2 ^ 33 + 9)) 0 8) 32 4) == some .set && PipOp.set.signal,
    !up.pipOpen 4096, bitsOf (leAt (leBytes 8 (2 ^ 36)) 0 8) 36 28 != 0] = true := by decide +kernel

/-- A table with 16,384 waiters is full. -/
theorem witness_watchFull : 16384 ≤ (List.replicate 16384 waiter0).length := by rw [List.length_replicate]

/-- A list pool of two buffers, the first handed out. -/
def pool0 : Pool := { en := true, list := true, bufBytes := 64, count := 2, free := 1, base := 0x10000000, bufs := [(0, { gen := 1, alloc := true })] }

/-- A device with that pool. -/
def pooled : State := { owning with bpm := { pool := (Vector.replicate 16 {}).set 0 pool0 } }

/-- A device with a ring pool of one free buffer. -/
def ringed : State := { owning with bpm := { pool := (Vector.replicate 16 {}).set 0 { pool0 with list := false, cache := [handleOf 0 1 0] } } }

/-- Witnesses of `FreeChecks`. -/
theorem witness_freeChecks : allOf [
    (up.bufFree 1 0 16 0x34).2 == some .notFound, (pooled.bufFree (handleOf 0 2 1) 0 16 0x34).2 == some .notFound,
    (pooled.bufFree (handleOf 0 0 0) 0 16 0x34).2 == some .staleHandle, (pooled.bufFree (handleOf 0 1 0) 0 16 0x34).2 == some .doubleFree,
    (pooled.bufFree (handleOf 0 0 1) 0 16 0x34).2 == none,
    handlePool (handleOf 15 (2 ^ 20 - 1) 255) == 15 && handleIndex (handleOf 15 (2 ^ 20 - 1) 255) == 2 ^ 20 - 1
      && handleGen (handleOf 15 (2 ^ 20 - 1) 255) == 255] = true := by decide +kernel

/-- POOL_CREATE of a ring pool of two buffers of 64 bytes with its ring behind them. -/
def createRing : HostCmd := cmd 6 ([1, 0, 0, 255] ++ le 4 0 ++ le 4 64 ++ le 4 2 ++ le 8 0x10000000 ++ le 8 0x10001000 ++ le 4 0 ++ le 4 0 ++ le 4 0)

/-- POOL_CREATE of a pool in the Feature Store. -/
def createFs : HostCmd := cmd 6 ([1, 1, 0, 255] ++ le 4 4 ++ le 4 64 ++ le 4 2)

/-- The device of `pooled` with every buffer of its pool free, or with the pool held for class S alone. -/
def pooledFree : State := { owning with bpm := { pool := (Vector.replicate 16 {}).set 0 { pool0 with free := 2, bufs := [] } } }
/-- Context 0 is limited to class Q. -/
def limited : State := { pooled with mem := { pooled.mem with ctx := pooled.mem.ctx.set 0 { exists_ := true, maxClass := .q } } }
/-- The pool is being rebuilt. -/
def rebuilding : State := { owning with bpm := { pool := (Vector.replicate 16 {}).set 0 { pool0 with rebuild := true } } }
/-- No buffer of the pool is free. -/
def drained : State := { owning with bpm := { pool := (Vector.replicate 16 {}).set 0 { pool0 with free := 0, listEmpty := true, bufs := [(0, { gen := 1, alloc := true }), (1, { gen := 1, alloc := true })] } } }

/-- Witnesses of `PoolCommands`. -/
theorem witness_poolCommands : allOf [
    cmdPoolCreate.accepts (cmd 6 ([1, 0, 0, 255] ++ le 4 0 ++ le 4 65 ++ le 4 2)) owning
      && !owning.poolFieldsOk (cmd 6 ([1, 0, 0, 255] ++ le 4 0 ++ le 4 65 ++ le 4 2)),
    cmdPoolCreate.accepts { createRing with ctx := 63 } owning && owning.poolFieldsOk { createRing with ctx := 63 } && !owning.ctxLive 63,
    cmdPoolCreate.accepts createRing { owning with bpm := { pool := Vector.replicate 16 pool0 } } && ({ owning with bpm := { pool := Vector.replicate 16 pool0 } } : State).poolFieldsOk createRing,
    cmdPoolCreate.accepts createRing owning && owning.poolFieldsOk createRing && owning.ctxLive 0 && !(owning.poolN 1).en
      && (owning.regionOf 0 0x10000000 128).isSome && (owning.regionOf 0 0x10001000 8).isSome && !bitOf (createRing.f 12 1) 2,
    cmdPoolCreate.accepts createRing up && up.poolFieldsOk createRing && (up.regionOf 0 0x10000000 128).isNone,
    cmdPoolCreate.accepts createFs owning && owning.poolFieldsOk createFs && owning.str.fs.fit 1 == some 0 && bitOf (createFs.f 12 1) 2,
    cmdPoolCreate.accepts createFs { owning with str := { fs := { runs := [(0, 1920)] } } } && ({ runs := [(0, 1920)] } : FeatStore).fit 1 == none,
    decide (createRing.f 8 1 < 16), (up.poolIn 0 0).isNone && cmdPoolDestroy.accepts (cmd 1 [0]) up && cmdPoolAlloc.accepts (cmd 1 [0]) up
      && cmdPoolQuery.accepts (cmd 1 [0]) up && cmdPoolBuoys.accepts (cmd 2 [0]) up,
    cmdPoolDestroy.accepts (cmd 1 [0]) pooled && (pooled.poolIn 0 0).isSome && decide (pool0.free.toNat < pool0.count.toNat),
    cmdPoolDestroy.accepts (cmd 1 [0]) pooledFree && (pooledFree.poolIn 0 0).isSome && !pooledFree.poolNamed 0 && (pooledFree.poolN 0).waiting.isEmpty,
    cmdPoolAlloc.accepts (cmd 1 [0, 0, 0, 0, 9]) pooled && !(pooled.poolN 0).chain,
    cmdPoolAlloc.accepts (cmd 1 [0]) limited && (limited.poolIn 0 0).isSome && decide (Cls.s.code < (limited.ctxN 0).maxClass.code),
    cmdPoolAlloc.accepts (cmd 1 [0]) ringed && (match (ringed.bufNow 0 0 .s 16 (.command 0 7)).2 with | some (.grant _ _) => true | _ => false),
    cmdPoolAlloc.accepts (cmd 1 [0]) drained && (match (drained.bufNow 0 0 .s 16 (.command 0 7)).2 with | some (.empty _) => true | _ => false),
    cmdPoolAlloc.accepts (cmd 1 [0]) rebuilding && (rebuilding.bufNow 0 0 .s 16 (.command 0 7)).2.isNone,
    cmdPoolFree.accepts (cmd 1 (le 4 1)) pooled && (pooled.bufFree 1 0 16 0x34).2 == none,
    cmdPoolFree.accepts (cmd 1 (le 4 0)) pooled && (pooled.bufFree 0 0 16 0x34).2 == some .staleHandle,
    cmdPoolQuery.accepts (cmd 1 [0]) pooled, cmdPoolBuoys.accepts (cmd 2 ([0, 0, 0, 0] ++ le 4 2 ++ le 4 2 ++ le 4 2)) pooled,
    cmdPoolBuoys.accepts (cmd 2 ([0, 0, 0, 0] ++ le 4 0 ++ le 4 2 ++ le 4 2)) pooled] = true := by decide +kernel

/-- One request waits at a ring pool with a free buffer in its cache. -/
def asking : State :=
  { owning with bpm := { pool := (Vector.replicate 16 {}).set 0 { pool0 with list := false, cache := [handleOf 0 1 0], waiting := [{ port := 16, cls := .s, pool := 0, home := 0, reached := [0], reserve := none, use := .command 0 7 }] } } }

/-- Witnesses of `PoolEvents`. -/
theorem witness_poolEvents : allOf [
    pooled.live, rebuilding.bpm.pool[0].rebuild,
    !asking.bpm.pool[0].rebuild && asking.bpm.pool[0].waiting.length == 1 && decide (asking.bpm.pool[0].buoy3.toNat < asking.bpm.pool[0].free.toNat)
      && (asking.bpm.pool[0].waiting.all (fun r => r.reserve.isNone))
      && ((asking.updPoolN 0 (fun x => { x with waiting := [], rr := 0 })).poolTake 0 true).1.isSome,
    (pooled.gateN 0x18).epoch != 1, (pooled.gateN 0x18).epoch == 0,
    ringed.bpm.pool[0].en && !ringed.bpm.pool[0].list && !ringed.bpm.pool[0].rebuild && decide (ringed.bpm.pool[0].cache.length < 16),
    48 < ({ pool0 with cache := List.replicate 49 0 } : Pool).cache.length, 16 ≤ ({ pool0 with cache := List.replicate 48 0 } : Pool).cache.length && ({ pool0 with cache := List.replicate 48 0 } : Pool).cache.length ≤ 48,
    pooled.bpm.pool[0].en && decide (pooled.bpm.pool[0].windowEnd ≤ pooled.clock) && !pooled.bpm.pool[0].adapt, ({ pool0 with adapt := true } : Pool).adapt] = true := by decide +kernel

/-- A device whose controllers serve requests under the regions that boot sets. -/
def driving : State :=
  ({ up with mem := { up.mem with dmc := Vector.replicate 4 { ready := true } } } : State).setRegions

/-- The same with a controller in another state. -/
def drivingAs (d : Dmc) : State := { driving with mem := { driving.mem with dmc := Vector.replicate 4 d } }

/-- Witnesses of `DramEvents`. -/
theorem witness_dramEvents : allOf [
    driving.dmcUp 3 && !driving.mem.dmc[3].strict && driving.hintOf .scrub == (.close, driving) && driving.mem.dmc[3].wq.isEmpty,
    (drivingAs { ready := true, strict := true }).dmcUp 3,
    (drivingAs { ready := true, wq := [{ line := 9, mask := 1, hint := .none }] }).dmcUp 3 && (1 : BitVec 64) &&& ~~~ 1 == 0 && (3 : BitVec 64) &&& ~~~ 1 != 0,
    (driving.deviceAddr 3 (64 * 2 ^ 20)).isSome && (driving.eccOf 3 (2 ^ 20)).isNone,
    (driving.deviceAddr 3 (64 * 2 ^ 20)).any (fun a => ((({ driving with mem := { driving.mem with ecc := [(a / 64, .uncorrectable)] } } : State).eccOf 3 (2 ^ 20)).any (fun e => e.2 == .uncorrectable))),
    (1 : BitVec 64) != 0 && (1 : BitVec 64) != BitVec.allOnes 64,
    driving.dmcOn 3 && decide (driving.mem.dmc[3].postponed < 4) && !driving.mem.dmc[3].refreshX2, decide (2 ≤ ({ refreshX2 := true, postponed := 2 } : Dmc).postponed),
    decide (driving.mem.dmc[3].mr4Due ≤ driving.clock) && driving.mem.dmc[3].mr4Fails == 0, decide (1 ≤ ({ mr4Fails := 1 } : Dmc).mr4Fails),
    decide (driving.mem.dmc[3].driftDue[3] ≤ driving.clock), decide (driving.mem.dmc[3].scrubPos < eccAt driving.chLog2 0 / 64), driving.live]
    = true := by decide +kernel

/-- Context 1 has an empty page table at 0x1000. -/
def walking : State :=
  { driving with mem := { driving.mem with ctx := driving.mem.ctx.set 1 { exists_ := true }, root := driving.mem.root.set 1 { en := true, root := 1 } } }

/-- Witnesses of `TranslationEvents`. -/
theorem witness_translationEvents : allOf [
    up.live, (driving.translate 0 0x10000000 false).2 == none && driving.physOf 0 0x10000000 == 0x10000000, (driving.translate 63 0x40000000 true).2 == some .notFound,
    (driving.translate 0 0x020000000000 false).2 == none && driving.physOf 0 0x02FFFFFFFFFF == 0x02FFFFFFFFFF && driving.canRequest,
    decide (0x10000000 < driving.dramSize) && decide (driving.dramSize ≤ 0x00FFFFFFFFFF),
    ({ driving with mem := { driving.mem with tlb := [{ ctx := 1, va := 0x40000000, size := 4096, pa := 0x10000000, w := true, wp := false }] } } : State).mem.tlb.any (fun t => t.ctx == 1 && t.va ≤ 0x40000FFF && 0x40000FFF < t.va + t.size),
    walking.live && walking.walkReads 4096 0x40000000 == [4096 + 8 * bitsOf 0x40000000 30 9] && (walking.mem.root.toList.getD 1 {}).en && !walking.ctxClosed 1
      && walking.mem.tlb.isEmpty && (walking.locate ((4096 + 8 * bitsOf 0x40000000 30 9) / 64 * 64)).isSome] = true := by decide +kernel

/-- A source on CSI port 5, a source by RTP, a source in a host ring. -/
def csiSource : SrcCfg :=
  { type := .csi, port := 5, vc := 3, dt := 0x1E, codec := .h264, session := 0, width := 640, height := 480, periodUs := 33333,
    ringBase := 0, ringLog2 := 0, lineT := 4, frameT := 12, assyT := 16 }
/-- A source by RTP of session 63. -/
def rtpSource : SrcCfg := { csiSource with type := .rtp, session := 63, codec := .h265 }
/-- A source in a host ring. -/
def hostSource : SrcCfg := { csiSource with type := .host, ringBase := 0x1000, ringLog2 := 12 }

/-- Analytics of class B by instance 255 with pools 0 and 1. -/
def ana0 : AnaCfg :=
  { cls := .b, cropLimit := 0, det := 255, emb := none, srcPool := 0, framePool := none, cropPool := none, recPool := 0, retain := 0, shed := 0 }

/-- A configured slot. -/
def slot0 : Slot := { state := .configured, src := some csiSource, ana := some ana0, res := some .ring }

/-- A device whose slot 63 is in a state. -/
def withSlot (x : Slot) : State :=
  { loaded with str := { slot := (Vector.replicate 64 {}).set 63 x }, bpm := { pool := (Vector.replicate 16 {}).set 0 { pool0 with bufBytes := 614400 } } }

/-- STREAM_ANALYTICS of slot 63. -/
def analytics0 : HostCmd := cmd 2 ([63, 2, 0, 0] ++ le 2 255 ++ le 2 0xFFFF ++ [0, 255, 255, 0, 0, 0])

/-- A flow of port 1 to neighbour 255. -/
def aFlow : Flow := { port := 1, neigh := 255, dscp := 0, sport := 5004, dport := 5004, src := 0xFFFF0A000001, dst := 0xFFFF0A000002 }

/-- STREAM_SOURCE of slot 63, and one by RTP of session 63. -/
def source0 : HostCmd := cmd 4 ([63, 0, 5, 3, 0x1E, 0, 0, 0] ++ le 2 640 ++ le 2 480 ++ le 4 33333)
def source1 : HostCmd := cmd 4 ([63, 1, 0, 0, 0, 1, 63, 0] ++ le 4 0 ++ le 4 33333)

/-- STREAM_VIEW of slot 63 by view 3. -/
def view0 (en : Nat) : HostCmd := cmd 2 ([63, 3, en, 1] ++ le 2 128 ++ le 2 128 ++ [0, 63, 0, 0] ++ le 4 64)

/-- A slot with flow 63 set, its VEE in service or not. -/
def viewing (on : Bool) (w : View) : State :=
  { withSlot slot0 with
      io := { flow := [(63, aFlow)] }, str := { (withSlot slot0).str with view := (Vector.replicate 4 {}).set 3 w }
      gate := Vector.replicate 56 { powered := on } }

/-- Witnesses of `StreamConfiguration`. -/
theorem witness_streamConfiguration : allOf [
    !up.ctxLive 63, decide (({ state := .configured, ctx := 1 } : Slot).ctx ≠ 0),
    (({ withSlot { slot0 with ana := some { ana0 with cls := .s } } with kpr := { lock := some 5 } } : State).slotN 63).cls == .s && (withSlot slot0).ctxLive 0 && slot0.ctx == 0,
    (withSlot slot0).kpr.lock.isNone && slot0.cls != .s,
    cmdStreamSource.accepts source0 (withSlot slot0) && (withSlot slot0).slotCheck source0 true (slotTable none none (some .busy) (some .busy)) == none
      && source0.sourceOk && !(withSlot slot0).sourceTaken 63 source0.source && source0.source.type == .csi,
    cmdStreamSource.accepts (cmd 4 ([63, 0, 5, 3, 0, 0, 0, 0] ++ le 2 640 ++ le 2 480 ++ le 4 33333)) (withSlot slot0)
      && !(cmd 4 ([63, 0, 5, 3, 0, 0, 0, 0] ++ le 2 640 ++ le 2 480 ++ le 4 33333)).sourceOk,
    cmdStreamSource.accepts { source0 with payload := source0.payload.set 0 62 } (withSlot slot0) && (withSlot slot0).sourceTaken 62 source0.source,
    cmdStreamSource.accepts source1 (withSlot slot0) && source1.sourceOk && source1.source.type == .rtp && ((withSlot slot0).io.sess.toList.getD 63 {}).cfg.isNone
      && !(withSlot slot0).sourceTaken 63 source1.source,
    cmdStreamSource.accepts source0 (withSlot { slot0 with state := .running }) && ((withSlot { slot0 with state := .running }).slotN 63).state == .running,
    cmdStreamAnalytics.accepts analytics0 (withSlot slot0) && (withSlot slot0).anaError analytics0 == none
      && (withSlot slot0).slotCheck analytics0 true (slotTable (some .notFound) none (some .busy) (some .busy)) == none,
    cmdStreamAnalytics.accepts { analytics0 with payload := analytics0.payload.set 8 1 } (withSlot slot0)
      && (withSlot slot0).anaError { analytics0 with payload := analytics0.payload.set 8 1 } == some .notFound,
    cmdStreamAnalytics.accepts analytics0 loaded
      && loaded.slotCheck analytics0 true (slotTable (some .notFound) none (some .busy) (some .busy)) == some .notFound,
    cmdStreamResult.accepts (cmd 2 ([63, 0, 16, 0, 0, 0, 0, 0] ++ le 8 4096)) (withSlot slot0) && (cmd 2 ([63, 0, 16, 0, 0, 0, 0, 0] ++ le 8 4096)).resultOk
      && (withSlot slot0).slotCheck (cmd 2 [63]) true (slotTable (some .notFound) none (some .busy) (some .busy)) == none,
    cmdStreamResult.accepts (cmd 2 ([63, 0, 16, 0, 0, 0, 0, 0] ++ le 8 1)) (withSlot slot0) && !(cmd 2 ([63, 0, 16, 0, 0, 0, 0, 0] ++ le 8 1)).resultOk,
    cmdStreamResult.accepts (cmd 2 [63, 1, 0, 63]) (withSlot slot0) && (cmd 2 [63, 1, 0, 63]).resultOk && (lookupN (withSlot slot0).io.flow 63).isNone,
    (lookupN (viewing true {}).io.flow 63).isSome,
    cmdStreamTrack.accepts (cmd 2 ([63, 1, 1, 0] ++ le 2 1 ++ le 2 1 ++ le 2 1024 ++ le 2 65535 ++ [255])) (withSlot slot0)
      && (withSlot slot0).slotCheck (cmd 2 [63]) true (slotTable (some .notFound) none none (some .busy)) == none,
    cmdStreamTrack.accepts (cmd 2 ([63, 1, 1, 0] ++ le 2 1 ++ le 2 1 ++ le 2 1024 ++ le 2 65535 ++ [255])) (withSlot { slot0 with state := .stopping })
      && (withSlot { slot0 with state := .stopping }).slotCheck (cmd 2 [63]) true (slotTable (some .notFound) none none (some .busy)) == some .busy,
    cmdStreamView.accepts (view0 1) (viewing true {}) && (view0 1).viewOk && (viewing true {}).slotCheck (cmd 2 [63]) false (slotTable (some .notFound) none none (some .busy)) == none
      && (viewing true {}).veeThere && decide ((viewing true {}).veeLoad 3 + viewLoad 128 128 ((viewing true {}).slotN 63).periodUs ≤ 1),
    !(viewing false {}).veeThere, cmdStreamView.accepts (view0 0) (viewing true { en := true, slot := 63 }), (viewing true { en := true, slot := 62 }).viewN 3 == { en := true, slot := 62 },
    cmdStreamView.accepts (view0 1) (withSlot slot0) && (lookupN (withSlot slot0).io.flow 63).isNone, !(cmd 2 ([63, 3, 0, 1] ++ le 2 129 ++ le 2 128 ++ [0, 0, 0, 0] ++ le 4 64)).viewOk] = true := by decide +kernel

/-- A running slot with frame 0 retained, or with 4 queued frames. -/
def keeping (q : Nat) : State :=
  withSlot { slot0 with state := .running, kept := [{ seq := 0, buf := 0, capture := 0, age := 0, fmt := none, pitch := 0, auBytes := 0 }]
                        frames := List.replicate q { seq := 9, stage := 0, queued := true, capture := 0, endTime := 0 } }

/-- STREAM_REPROCESS of frame 0. -/
def again0 : HostCmd := cmd 2 ([63, 0, 0, 0] ++ le 4 0 ++ [1])

/-- Witnesses of `StreamOperation`. -/
theorem witness_streamOperation : allOf [
    cmdStreamStart.accepts (cmd 1 [63]) { withSlot slot0 with sup := { power := .low } } && ({ withSlot slot0 with sup := { power := .low } } : State).lowPower,
    cmdStreamStart.accepts (cmd 1 [62]) (withSlot slot0) && (withSlot slot0).slotCheck (cmd 1 [62]) false (slotTable (some .notFound) none (some .busy) (some .busy)) == some .notFound,
    cmdStreamStart.accepts (cmd 1 [63]) (withSlot { slot0 with res := none }) && !(withSlot slot0).lowPower,
    cmdStreamStart.accepts (cmd 1 [63]) (withSlot slot0) && (withSlot slot0).slotCheck (cmd 1 [63]) false (slotTable (some .notFound) none (some .busy) (some .busy)) == none
      && (withSlot slot0).startSizesOk csiSource ana0 && ((withSlot slot0).admitStream ((withSlot slot0).demandOf 63 csiSource ana0)).isSome,
    !(withSlot slot0).startSizesOk { csiSource with width := 8192 } ana0, (up.admitStream (up.demandOf 63 rtpSource { ana0 with cls := .q })).isNone,
    cmdStreamStop.takes (cmd 1 [63]) (withSlot { slot0 with state := .stale }) && (withSlot { slot0 with state := .stale }).slotCheck (cmd 1 [63]) true (slotTable (some .notFound) none none (some .busy)) == none,
    cmdStreamStop.takes (acmd 1 [63]) (withSlot slot0) && ((withSlot slot0).slotN 63).state == .configured, cmdStreamStop.takes (cmd 1 [62]) (withSlot slot0),
    cmdStreamStatus.accepts (cmd 1 [63]) (withSlot { slot0 with ctx := 1 }), cmdStreamStatus.accepts (cmd 1 [0]) (withSlot slot0),
    cmdStreamReprocess.accepts again0 { keeping 0 with sup := { power := .low } } && cmdStreamReprocess.accepts again0 (withSlot slot0),
    cmdStreamReprocess.accepts again0 (keeping 3) && !(keeping 3).lowPower && (keeping 3).slotCheck again0 false (slotTable (some .notFound) (some .notFound) none (some .busy)) == none
      && (((keeping 3).slotN 63).kept.find? (fun x => x.seq == 0)).isSome && ((keeping 3).slotN 63).frames.length == 3,
    cmdStreamReprocess.accepts again0 (keeping 4), (((withSlot { slot0 with state := .running }).slotN 63).kept.find? (fun x => x.seq == 0)).isNone,
    cmdStreamClear.accepts (cmd 1 [63]) (withSlot slot0) && !(withSlot slot0).ckBusy 63, cmdStreamClear.accepts (cmd 1 [62]) (withSlot slot0) && ((withSlot slot0).slotN 62).state == .free,
    ({ withSlot slot0 with ckpt := { run := [{ slot := 63, now := true, phase := .waiting, ctx := 0, win := 0, shards := 1 }] } } : State).ckBusy 63,
    cmdStreamClear.accepts (cmd 1 [63]) (withSlot { slot0 with state := .running })] = true := by decide +kernel

/-- JOB_SUBMIT of instance 255. -/
def submit0 : HostCmd :=
  cmd 5 (le 2 255 ++ [0, 1] ++ le 4 0xFFFFFFFF ++ le 4 0 ++ le 4 0xFFFFFFFF ++ le 8 0x10000000 ++ le 8 0x10000000 ++ le 4 64)

/-- A device with a job. -/
def withJob (j : Job) : State := { loaded with mem := { loaded.mem with jobs := [j] } }

/-- Witnesses of `JobCommands`. -/
theorem witness_jobCommands : allOf [
    cmdJobSubmit.takes submit0 { loaded with sup := { power := .standby } } && ({ loaded with sup := { power := .standby } } : State).lowPower,
    cmdJobSubmit.takes submit0 up && !up.lowPower && (up.jobError submit0).isSome,
    cmdJobSubmit.takes submit0 loaded && (loaded.jobError submit0).isNone && !loaded.lowPower,
    cmdJobSubmit.takes { submit0 with flags := 1 } loaded && (loaded.jobError { submit0 with flags := 1 }).isNone,
    cmdJobCancel.accepts (cmd 1 (le 4 5)) up && (up.jobIn 0 5).isNone,
    cmdJobCancel.accepts (cmd 1 (le 4 5)) (withJob { job0 with state := .running }) && ((withJob { job0 with state := .running }).jobIn 0 5).isSome,
    (withJob job0).jobIn 0 5 == some job0 && job0.state != .running, cmdJobQuery.accepts (cmd 1 (le 4 5)) (withJob job0),
    (withJob job0).pip.overflow.isEmpty && (withJob job0).pip.watch.isEmpty && ((withJob job0).sched.guarded ++ (withJob job0).sched.waiting).isEmpty
      && (List.range 32).all (fun e => (((withJob job0).engN e).queue.toList.flatten ++ ((withJob job0).engN e).saved.toList ++ ((withJob job0).engN e).incoming.toList).isEmpty),
    (loaded.jobIn 0 5).isNone && [{ job0 with state := .done }].find? (fun j => j.id.toNat == 5 && j.ctx == 0) == some { job0 with state := .done },
    loaded.mem.doneJobs.isEmpty] = true := by decide +kernel

/-- Fuses with keys in slots 0 and 1. -/
def fuses0 : Fuses := { keyHash := ((Vector.replicate 4 0).set 0 1).set 1 2 }

/-- A firmware switch is in progress. -/
def swapping : State := { up with running := [{ mbx := 0, op := 0x0D03, seq := 0, noIrq := false, async := true, wait := .fwSwitch }] }

/-- Security version 32 runs, two slots hold keys, a fuse command is in progress or not, the guard is active or not. -/
def fusable (busy guard : Bool) : State :=
  { up with boot := { up.boot with secVersion := 32 }, sup := { fuses := fuses0, guard := guard }
            fw := { fuseTodo := if busy then some (.secver 1) else none } }

/-- FLASH_WRITE of one block of staging region A. -/
def write0 : HostCmd := { cmd 3 (le 4 0x100000 ++ le 4 0x100) with host := .data [] }

/-- Witnesses of `FlashAndFuseCommands`. -/
theorem witness_flashAndFuse : allOf [
    cmdFlashRead.takes (cmd 3 (le 4 0 ++ le 4 256 ++ le 8 1)) up, cmdFlashRead.takes (cmd 3 (le 4 0x03FFFFFF ++ le 4 2)) up,
    cmdFlashRead.takes (cmd 3 (le 4 0 ++ le 4 256)) swapping && swapping.switching,
    cmdFlashRead.takes { cmd 3 (le 4 0 ++ le 4 256) with host := .failed } up && !up.switching,
    cmdFlashRead.takes (cmd 3 (le 4 0 ++ le 4 256)) up && decide (256 ≤ up.sup.flashSize),
    cmdFlashWrite.takes (cmd 3 (le 4 0x20001 ++ le 4 256)) up, cmdFlashWrite.takes (cmd 3 (le 4 0x20000 ++ le 4 256)) up,
    cmdFlashWrite.takes (cmd 3 (le 4 0x8F0000 ++ le 4 0x1000000)) up,
    (flashRegions up.sup.flashSize).any (fun r => decide (r.1 ≤ 0x100000 && 0x100000 + 0x100 ≤ r.2)) && cmdFlashWrite.takes write0 up && cmdFlashWrite.takes write0 swapping,
    !(flashRegions up.sup.flashSize).any (fun r => decide (r.1 ≤ 0x1200000 - 0x10000 && 0x1200000 ≤ r.2)),
    cmdFlashWrite.takes write0 { up with sup := { guard := true } }, cmdFlashWrite.takes { write0 with host := .failed } up,
    cmdFuseSecver.accepts (cmd 1 (le 4 0)) up && up.sup.fuses.secverMin == 0, cmdFuseSecver.accepts (cmd 1 (le 4 1)) up && up.boot.secVersion == 0,
    cmdFuseSecver.accepts (cmd 1 (le 4 32)) (fusable false false) && !(fusable false false).fusing, (fusable true false).fusing && cmdFuseSecver.accepts (cmd 1 (le 4 32)) (fusable true false),
    cmdFuseSecver.accepts (cmd 1 (le 4 32)) (fusable false true),
    cmdFuseKey.accepts (cmd 7 [0]) up, cmdFuseKey.accepts (cmd 7 ([0, 0, 0, 0, 0, 0, 0, 0] ++ [1])) (fusable false false) && fuses0.keyHash[0] != 0,
    cmdFuseKey.accepts (cmd 7 ([3, 0, 0, 0, 0, 0, 0, 0] ++ [1])) (fusable false false) && fuses0.keyHash[3] == 0, cmdFuseKey.accepts (cmd 7 ([3, 0, 0, 0, 0, 0, 0, 0] ++ [1])) (fusable true true),
    cmdFuseRevoke.accepts (cmd 1 [0]) up && up.sup.fuses.lastKey 0, cmdFuseRevoke.accepts (cmd 1 [0]) (fusable false false) && !fuses0.lastKey 0,
    cmdFuseRevoke.accepts (cmd 1 [0]) (fusable true false), cmdFuseRevoke.accepts (cmd 1 [0]) (fusable false true)] = true := by decide +kernel

/-- A switch in a phase. -/
def switchIn (p : FwPhase) : State := { swapping with fw := { phase := p, image := .b } }

/-- Witnesses of `FirmwareSwitch`. -/
theorem witness_firmwareSwitch : allOf [
    cmdFwSwitch.acceptsAsync (acmd 1 [1]) up && !up.switching && !up.flashBusy,
    cmdFwSwitch.acceptsAsync (acmd 1 [1]) swapping && swapping.switching, cmdFwSwitch.acceptsAsync (acmd 1 [1]) { crowded with running := crowded.running.take 1 } && crowded.flashBusy,
    (switchIn .check).live && (switchIn .check).flashImageReason true != .ok, (switchIn .drain).live && (switchIn .drain).running.all (fun r => r.wait == .fwSwitch),
    !({ switchIn .drain with running := crowded.running } : State).running.all (fun r => r.wait == .fwSwitch),
    decide ((switchIn .drain).clock < (switchIn .drain).fw.phaseAt + 100000), decide (({ phase := .drain } : Fw).phaseAt + 100000 ≤ 100000),
    (switchIn .handover).live] = true := by decide +kernel

/-- A Keeper with a lock, a Keeper that supervises slot 63. -/
def locked : State := { up with kpr := { lock := some 5 } }

/-- The Keeper supervises slot 63 with a period of 33,333 µs. -/
def watched : State := { up with kpr := { slot := (Vector.replicate 64 {}).set 63 { periodUs := 33333, state := .ok } } }

/-- Witnesses of `SafetyCommands`. -/
theorem witness_safetyCommands : allOf [
    cmdSafetyArm.accepts (cmd 1 [1]) up, cmdSafetyArm.accepts (cmd 1 [0]) up, cmdSafetyLock.accepts (cmd 1 (le 4 1)) up,
    cmdSafetyLock.accepts (cmd 1 (le 4 0xFFFFFFFF)) locked, cmdSafetyUnlock.accepts (cmd 1 (le 4 0)) up, cmdSafetyUnlock.accepts (cmd 1 (le 4 5)) locked,
    cmdSafetyUnlock.accepts (cmd 1 (le 4 6)) locked, cmdSafetyClear.accepts (cmd 1 []) up && up.kpr.clear.fault &&& 0x3FF#11 == 0,
    ({ fault := 2, live := 2 } : Keeper).clear.fault &&& 0x3FF#11 != 0, cmdSafetyInject.accepts (cmd 1 [1, 63]) locked,
    cmdSafetyInject.accepts (cmd 1 [1, 63]) up && !up.injectTarget 1 63 && up.kpr.lock.isNone, cmdSafetyInject.accepts (cmd 1 [0x0C, 0]) up && up.injectTarget 0x0C 0 && up.kpr.inject.isNone,
    cmdSafetyInject.accepts (cmd 1 [1, 63]) watched && watched.injectTarget 1 63 && watched.kpr.lock.isNone, ({ inject := some (9, 0) } : Keeper).inject != none,
    ({ fault := 2 } : Keeper).fault &&& ({ fault := 2 } : Keeper).causes == 0, ({ fault := 2, live := 2 } : Keeper).fault &&& ({ fault := 2, live := 2 } : Keeper).causes != 0,
    ({ cause := 1, okSince := true } : KprSlot).cause != 0, ({ cause := 1 } : KprSlot).okSince == false] = true := by decide +kernel

/-- An S-class stream that needs every Tower. -/
def heavy : Demand :=
  { slot := 63, cls := .s, periodUs := 1000, tower := 10 ^ 9, vpu := 0, scanC := 0, regionC := 0, vdeC := 0, vde := none, decoded := false, rank := 0 }

/-- A unit state in every gate. -/
def gated (g : UnitGate) : State := { up with gate := Vector.replicate 56 g }

/-- Slot 0 runs, or the S-class load needs every Tower. -/
def inUse : State := { serving with str := { slot := (Vector.replicate 64 {}).set 0 { state := .running } } }
def loadedS : State := { serving with sched := { demand := [heavy] } }

/-- Witnesses of `UnitCommands`. -/
theorem witness_unitCommands : allOf [
    locked.kpr.lock.isSome, up.kpr.lock.isNone && !unitGateable 0x21, unitGateable 0x32 && ({ up with sup := { fuses := { variantL := false } } } : State).unitAbsent 0x32, unitGateable 0x33 && !up.unitAbsent 0x33,
    cmdResetUnit.takes (cmd 1 [0x37]) up && (up.unitRefused 0x37).isSome, cmdResetUnit.takes (acmd 1 [0]) up && (up.unitRefused 0).isNone && !(up.gateN 0).powered,
    cmdResetUnit.takes (cmd 1 [0x33]) serving && (serving.gateN 0x33).powered && (serving.gateN 0x33).seq.isNone && (serving.unitRefused 0x33).isNone,
    cmdPowerUnit.takes (cmd 1 [0x37, 1]) up, cmdPowerUnit.takes (cmd 1 [0, 1]) (gated { seq := some .reset }) && (up.unitRefused 0).isNone,
    cmdPowerUnit.takes (cmd 1 [0, 1]) serving && (serving.gateN 0).powered, cmdPowerUnit.takes (cmd 1 [0, 1]) up && !up.stateOff 0 && !(up.gateN 0).powered,
    cmdPowerUnit.takes (acmd 1 [0, 1]) { up with sup := { power := .low } } && ({ up with sup := { power := .low } } : State).stateOff 0,
    cmdPowerUnit.takes (cmd 1 [0, 0]) (gated { userOff := true }), cmdPowerUnit.takes (cmd 1 [0x1F, 0]) inUse && inUse.unitInUse 0x1F && !(inUse.gateN 0x1F).userOff,
    cmdPowerUnit.takes (cmd 1 [7, 0]) loadedS && !loadedS.sOkWithout 7 && !loadedS.unitInUse 7,
    cmdPowerUnit.takes (cmd 1 [0x33, 0]) serving && serving.sOkWithout 0x33 && !serving.unitInUse 0x33,
    cmdUnitFence.takes (cmd 1 [0x37, 1]) up, cmdUnitFence.takes (cmd 1 [7, 1]) loadedS, cmdUnitFence.takes (acmd 1 [0, 1]) serving && serving.sOkWithout 0,
    cmdUnitFence.takes (cmd 1 [0, 0]) (gated { seq := some .reset }), cmdUnitFence.takes (acmd 1 [0, 0]) serving && (serving.gateN 0).seq.isNone,
    cmdUnitFence.takes (cmd 1 [0, 0]) (gated { fenced := true }) && ((gated { fenced := true }).gateN 0).fenced] = true := by decide +kernel

/-- A host window of one extent, as CKPT_WINDOW describes it. -/
def window0 : HostCmd := dcmd 32 ([15, 0, 0, 0] ++ le 4 1 ++ le 8 0 ++ le 8 0x10000 ++ le 4 0x10000 ++ le 4 0)

/-- A device of ID 5 with port 3 up, a route to device 126 over it, and an open window for that device. -/
def linked : State :=
  { owning with lfn := { devId := 5, port := (Vector.replicate 4 {}).set 3 { state := .up, lanes := 4 }, route := (Vector.replicate 128 0).set 126 8
                         win := [(126, { open_ := true, perm := 7, pages := 512, va := 0x10000000, epoch := 9 })] } }

/-- A device whose slot 63 has window 15 and no checkpoint in progress. -/
def windowed : State :=
  { withSlot slot0 with ckpt := { win := [(15, .host [(0x10000, 0x10000)])], slot := (Vector.replicate 64 {}).set 63 { win := some 15, trigger := 1, period := 1, last := some (1, 2, 3, .ok) } } }

/-- A checkpoint of slot 63. -/
def ckRun0 : CkptRun := { slot := 63, now := true, phase := .snapshot, ctx := 0, win := 15, shards := 1 }

/-- The same with a checkpoint in a phase. -/
def ckIn (p : CkptPhase) : State := { windowed with ckpt := { windowed.ckpt with run := [{ ckRun0 with phase := p }] } }

/-- A restore of slot 63 from window 15 with a host read. -/
def restore0 (h : HostRead) : HostCmd := { acmd 1 [63, 15] with host := h }

/-- Witnesses of `Checkpoints`. -/
theorem witness_checkpoints : allOf [
    cmdCkptWindow.acceptsDesc (dcmd 32 [15, 0, 1]) (padTo 32 [15, 0, 1]) up && windowReserved (padTo 32 [15, 0, 1]),
    cmdCkptWindow.acceptsDesc { window0 with ctx := 63 } (match window0.host with | .data b => b | _ => []) up && !up.ctxLive 63,
    cmdCkptWindow.acceptsDesc (dcmd 32 [16]) (padTo 32 [16]) up && !windowReserved (padTo 32 [16]) && windowOf (padTo 32 [16]) 32 == none,
    cmdCkptWindow.acceptsDesc window0 (match window0.host with | .data b => b | _ => []) up && up.ckpt.run.isEmpty && up.ctxLive 0 && !up.restores 15
      && windowOf (match window0.host with | .data b => b | _ => []) 32 == some (some (.host [(0x10000, 0x10000)])),
    (ckIn .copy).ckpt.run.any (fun r => 16 * r.ctx + r.win == 15) && cmdCkptWindow.acceptsDesc window0 (match window0.host with | .data b => b | _ => []) (ckIn .copy),
    windowOf (padTo 32 [15, 255]) 32 == some none && (lookupN up.ckpt.win 15).isNone && (lookupN windowed.ckpt.win 15).isSome && cmdCkptWindow.acceptsDesc (dcmd 32 [15, 255]) (padTo 32 [15, 255]) windowed,
    cmdCkptConfig.accepts (cmd 2 [62, 15, 0, 1]) windowed && cmdCkptConfig.accepts (cmd 2 [63, 15, 0, 2]) windowed,
    cmdCkptConfig.accepts (cmd 2 [63, 14, 0, 3]) windowed && (lookupN windowed.ckpt.win 14).isNone
      && windowed.slotCheck (cmd 2 [63]) false (slotTable (some .notFound) none none (some .busy)) == none,
    cmdCkptConfig.accepts (cmd 2 ([63, 15, 1, 1] ++ le 4 60000)) windowed && (lookupN windowed.ckpt.win 15).isSome, cmdCkptConfig.accepts (cmd 2 ([63, 15, 2, 1] ++ le 4 65536)) windowed,
    cmdCkptNow.takes (cmd 1 [63]) windowed && (windowed.ckWin 63 (windowed.ckN 63).cfg).isSome && !windowed.ckBusy 63, (ckIn .copy).ckBusy 63 && cmdCkptNow.takes (acmd 1 [63]) (ckIn .copy),
    cmdCkptNow.takes (cmd 1 [63]) (withSlot slot0) && ((withSlot slot0).ckWin 63 ((withSlot slot0).ckN 63).cfg).isNone, cmdCkptNow.takes (cmd 1 [62]) windowed,
    cmdCkptRestore.acceptsAsync (restore0 (.data [])) windowed && (match windowed.ckChoose 63 [] 0x8000 with | .error .invalidField => true | _ => false)
      && windowed.slotCheck (restore0 .none) true (slotTable (some .notFound) none (some .busy) (some .busy)) == none,
    cmdCkptRestore.acceptsAsync (restore0 .ue) windowed && cmdCkptRestore.acceptsAsync (restore0 .failed) windowed && cmdCkptRestore.acceptsAsync (restore0 .failed) (ckIn .copy),
    cmdCkptRestore.acceptsAsync (restore0 .failed) { windowed with ckpt := { windowed.ckpt with win := [(15, .peer 6 0 0x10000)] } },
    cmdCkptRestore.acceptsAsync (restore0 .none) (withSlot slot0), cmdCkptRestore.acceptsAsync (acmd 1 [62, 15]) windowed,
    cmdCkptQuery.accepts (cmd 1 [63]) windowed && (windowed.ckN 63).last.isSome, cmdCkptQuery.accepts (cmd 1 [63]) (withSlot slot0) && ((withSlot slot0).ckN 63).last.isNone, cmdCkptQuery.accepts (cmd 1 [62]) windowed,
    (windowed.ckN 63).trigger == 1 && windowed.live && windowed.devTime == 0 && decide (windowed.devTime.toNat < (windowed.ckN 63).t0 + (windowed.ckN 63).k * (windowed.ckN 63).period * 1000000) && decide (0 + 0 * 1 * 1000000 ≤ windowed.devTime.toNat),
    (ckIn .snapshot).live && ((ckIn .snapshot).ckRun 63).any (·.phase == .snapshot) && !(ckIn .snapshot).tracking 63 && ((ckIn .snapshot).str.fs.fit 1).isSome, (({ runs := [(0, 1920)] } : FeatStore).fit 1).isNone,
    ((ckIn .copy).ckRun 63).any (·.phase == .copy), ((ckIn .reduce).ckRun 63).any (·.phase == .reduce) && (lookupN (ckIn .reduce).ckpt.win 15).isSome,
    decide ((.host [(0x10000, 0x1000)] : CkptWin).half < shardsEnd []), shardsEnd [] ≤ (.host [(0x10000, 0x10000)] : CkptWin).half && (ckIn .reduce).canRequest,
    shardsEnd [] ≤ (.peer 6 0 0x10000 : CkptWin).half && !up.routeUp 6, linked.routeUp 126, !({ ckIn .reduce with host := {} } : State).canRequest]
    = true := by decide +kernel

/-- A device in which port 3 trains. -/
def training (n : Nat) (re : Bool) : State :=
  { serving with lfn := { port := (Vector.replicate 4 {}).set 3 { state := if re then .up else .training, trainDue := some 0, attempts := n, retraining := re } } }

/-- Witnesses of `LinkPorts`. -/
theorem witness_linkPorts : allOf [
    cmdLinkId.accepts (cmd 1 [126]) linked && linked.lfn.win.any (fun w => w.2.open_),
    cmdLinkId.accepts (cmd 1 [0]) up && up.lfn.flushes.isEmpty && up.lfn.flushWait.isEmpty && up.lfn.held.isEmpty && up.lfn.win.isEmpty,
    cmdLinkPort.accepts (cmd 1 [3, 0]) linked, cmdLinkPort.accepts (cmd 1 [3, 1]) linked, cmdLinkPort.accepts (cmd 1 [3, 2]) linked,
    !serving.lfnUp 3 && serving.unitLive (0x2E + 3) && !serving.optical 3 && serving.optical 0 && !serving.ltnLocked 0,
    (linked.lfn.port[3].replay).isEmpty && (linked.lfn.port[3].q0 ++ linked.lfn.port[3].q1 ++ linked.lfn.port[3].q2).isEmpty,
    cmdLinkRoute.accepts (cmd 7 [127, 1, 8]) up, cmdLinkRoute.accepts (cmd 7 [127, 2, 8]) up, cmdLinkRoute.accepts (cmd 7 [82, 46, 8]) up,
    cmdLinkExport.accepts (cmd 3 ([126, 0, 0, 0] ++ le 4 1)) linked && (lookupN linked.lfn.win 126).any (·.open_),
    cmdLinkExport.accepts (cmd 3 ([125, 0, 0, 0] ++ le 4 1)) linked && (lookupN linked.lfn.win 125).isNone,
    cmdLinkExport.accepts (cmd 3 ([126, 7, 63, 0] ++ le 4 1)) linked && !linked.ctxLive 63,
    cmdLinkExport.accepts (cmd 3 ([126, 7, 0, 0] ++ le 4 512 ++ le 8 0x10000000)) linked && linked.ctxLive 0 && linked.mapped 0 0x10000000 (4096 * 512),
    cmdLinkFlush.acceptsAsync (acmd 1 [0]) linked && !linked.routeUp 0,
    cmdLinkFlush.acceptsAsync (acmd 1 [126]) linked && linked.routeUp 126 && (linked.flushers 126).isEmpty && linked.lfn.devId != 0x7F,
    !(({ linked with lfn := { linked.lfn with flushWait := [{ dst := 126, by_ := .firmware }] } } : State).flushers 126).isEmpty,
    cmdLinkErrRing.accepts (cmd 2 (le 8 64 ++ [4])) up,
    cmdLinkErrRing.accepts (cmd 2 (le 8 4096 ++ [12])) { up with lfn := { rer := some (0, 4), producer := 1 } },
    cmdLinkErrRing.accepts (cmd 2 (le 8 4096 ++ [12])) up && up.lfn.rer.isNone,
    (training 0 false).live && trainedWidth 0 [0, 1, 2, 3] == 4 && (training 0 false).lfn.port[3].trainDue.isSome && (training 0 false).lfn.port[3].state == .training,
    trainedWidth 1 [0, 1, 2] == 2 && trainedWidth 0 [] == 0, (training 0 true).lfn.port[3].retraining,
    decide ((training 1 false).lfn.port[3].attempts < 2), decide (2 ≤ (training 2 false).lfn.port[3].attempts), linked.live && linked.lfn.port[3].state == .up]
    = true := by decide +kernel

/-- A flit with a sequence number and its CRC. -/
def flitOf (fseq : Nat) : List Byte :=
  let b : List Byte := zeros 32 ++ leBytes 2 fseq
  b ++ leBytes 2 (crc16 b).toNat

/-- A packet of device 126 for a device. -/
def packetTo (dst hops : Nat) : Packet := { hdr := hdrPut (mkHdr 1 0 dst 126 9 0 0 1 64 []) 4 (leBytes 1 hops), data := zeros 64 }

/-- A device with a route to device 6 over port 2 as well. -/
def hub : State := { linked with lfn := { linked.lfn with port := linked.lfn.port.set 2 { state := .up }, route := linked.lfn.route.set 6 4 } }

/-- A packet that waits at port 3. -/
def out0 : OutPkt := { pkt := packetTo 126 32, from_ := none, at_ := 0 }

/-- Witnesses of `LinkTraffic`. -/
theorem witness_linkTraffic : allOf [
    linked.live && linked.lfn.port[3].state == .up && (zeros 36).length == 36 && crc16 ((zeros 36).take 34) != BitVec.ofNat 16 (leAt (zeros 36) 34 2),
    (flitOf 0).length == 36 && crc16 ((flitOf 0).take 34) == BitVec.ofNat 16 (leAt (flitOf 0) 34 2) && bitsOf (leAt (flitOf 0) 32 2) 14 2 == 0
      && BitVec.ofNat 12 (leAt (flitOf 0) 32 2) == linked.lfn.port[3].lastGood + 1,
    BitVec.ofNat 12 (leAt (flitOf 0x4001) 32 2) != linked.lfn.port[3].lastGood + 1 && !linked.lfn.port[3].waitReplay && bitsOf (leAt (flitOf 0x4001) 32 2) 14 2 == 1,
    bitsOf (leAt (flitOf 0x8000) 32 2) 14 2 == 2 && crc16 ((flitOf 0x8000).take 34) == BitVec.ofNat 16 (leAt (flitOf 0x8000) 34 2),
    ((({ linked with lfn := { linked.lfn with port := (Vector.replicate 4 {}).set 3 { state := .up, inbox := [packetTo 6 1] } } } : State).flitFrom 3 (zeros 36)).lfn.port[3].inbox.getLast?).isSome,
    ({ ackDue := true } : LfnPort).ackDue && !linked.lfn.port[3].retraining,
    hub.live && hub.lfnUp 3 && hub.lfn.devId != 0x7F && !(packetTo 6 0).bad && (packetTo 6 0).dst == 6 && (packetTo 6 0).type == 1 && (packetTo 6 0).hops == 0,
    !(packetTo 7 1).bad && (packetTo 7 1).hops == 1 && ((hub.takeIn 3 (packetTo 7 1)).routePort 7 (some 3)).isNone,
    !(packetTo 6 1).bad && ((hub.takeIn 3 (packetTo 6 1)).routePort 6 (some 3)) == some 2,
    ({ linked with lfn := { linked.lfn with devId := 0x7F } } : State).lfnUp 3 && bitsOf (packetTo 6 1).type 0 4 != 8, ({ hdr := [] } : Packet).bad,
    ((linked.lfn.port[3]).q0 ++ (linked.lfn.port[3]).q1 ++ (linked.lfn.port[3]).q2).isEmpty, decide (out0.at_ + 25 ≤ 25)] = true := by decide +kernel

/-- A packet of device 126 of another type. -/
def packetOf (type flags len : Nat) (rest : List Byte) : Packet := { hdr := mkHdr type flags 5 126 (if type = 1 ∨ type = 2 ∨ type = 4 then 9 else 0) 3 0 1 len rest }

/-- A wait of that FLUSH for its count. -/
def countWait0 : CountWait := { pkt := packetOf 5 0 0 (zeros 4 ++ leBytes 4 1), at_ := 0, port := 3 }

/-- A signal of pip 4096, ADD 5, of device 126. -/
def signal0 : Packet := packetOf 4 0 0 (leBytes 4 5 ++ zeros 8 ++ leBytes 3 4096 ++ leBytes 1 1)

/-- Witnesses of `PeerRequests`. -/
theorem witness_peerRequests : allOf [
    (lookupN linked.lfn.win 126).any (fun w => w.open_ && w.epoch == 9 && bitOf w.perm.toNat 0 && 0 + 64 ≤ w.pages * 4096 && linked.ctxServes w.ctx),
    !({ open_ := false } : Window).open_, decide ((511 : Nat) * 4096 < 511 * 4096 + 1), !linked.ctxServes 63,
    linked.live && linked.lfnUp 3 && linked.lfn.devId != 0x7F && !(packetTo 5 1).bad && (packetTo 5 1).type == 1 && (packetTo 5 1).dst == linked.lfn.devId.toNat && (lookupN linked.lfn.closed 126).isNone,
    (({ linked with lfn := { linked.lfn with win := [] } } : State).winCheck 126 9 0 0 64 (fun _ => true)).1 != 0,
    (linked.winCheck 126 9 0 0 64 (fun _ => true)).1 == 0, (linked.winCheck 126 8 0 0 64 (fun _ => true)).1 == 2,
    ((linked.takeIn 3 (packetTo 5 1)).peerWrite 3 0 0x10000000 ((packetTo 5 1).payload 0)).2 == 0,
    ((linked.takeIn 3 (packetTo 5 1)).peerWrite 3 0 (2 ^ 40 - 64) ((packetTo 5 1).payload 0)).2 != 0,
    ((127 : BitVec 8) - (packetTo 5 1).fgen).toNat < 128, 128 ≤ ((0 : BitVec 8) - 1).toNat,
    !(packetOf 2 0 64 []).bad && (packetOf 2 0 64 []).type == 2, !(packetOf 4 0 0 []).bad && (packetOf 4 0 0 []).type == 4, !(packetOf 5 0 0 []).bad && (packetOf 5 0 0 []).type == 5,
    [countWait0].find? (fun w => w.pkt == countWait0.pkt) == some countWait0 && decide ((linked.countOf 126 3).p + (linked.countOf 126 3).j < countWait0.pkt.wcount) && decide ((0 : Nat) < countWait0.at_ + 1000),
    (packetOf 5 0 0 []).wcount == 0,
    (linked.winCheck 126 9 1 0 64 (fun _ => true)).1 == 0 && (linked.winCheck 126 9 1 (2 ^ 21) 64 (fun _ => true)).1 != 0,
    (linked.reach (0x2E + 3) 0 0x10000000 64 false).2.isNone && (linked.reach (0x2E + 3) 0 (2 ^ 40 - 64) 64 false).2.isSome && (linked.reach (0x2E + 3) 0 0x10000000 64 false).1.mem.ecc.isEmpty,
    pipOpOf (signal0.f 27 1) == some .add && pipOperandOk .add (signal0.f 12 4) && decide (signal0.f 24 3 < 130496)
      && (linked.winCheck 126 9 2 0 0 (fun w => w.pipFirst ≤ 4096 && 4096 < w.pipFirst + w.pipCount)).1 == 3,
    (({ linked with lfn := { linked.lfn with win := [(126, { open_ := true, perm := 7, pages := 512, va := 0x10000000, pipFirst := 4096, pipCount := 1, epoch := 9 })] } } : State).winCheck 126 9 2 0 0
      (fun w => w.pipFirst ≤ 4096 && 4096 < w.pipFirst + w.pipCount)).1 == 0,
    signal0.wcount ≤ (linked.countOf 126 3).p] = true := by decide +kernel

/-- A read of this device that is outstanding. -/
def read0 : RemoteRead := { tag := 1, dst := 126, by_ := .firmware, due := 0 }

/-- A FLUSH of this device that is outstanding. -/
def flush0 : FlushOut := { dst := 126, gen := 3, wcount := 0, by_ := .firmware, due := 0 }

/-- Witnesses of `RemoteRequests`. -/
theorem witness_remoteRequests : allOf [
    linked.live && (RemoteReq.read 5 0 64 0).dst == linked.lfn.devId.toNat && linked.lfn.devId != 0x7F,
    (RemoteReq.write 6 0 [] none 1).isAccess && ({ linked with mem := { linked.mem with jobs := [{ job0 with ctx := 1 }] } } : State).remoteCtx (.job job0.id) != 0,
    up.live && up.lfn.devId == 0x7F && !(RemoteReq.write 126 0 [] none 0).isRead && (RemoteReq.write 126 0 [] none 0).fence == none && up.remoteCtx .firmware == 0,
    !linked.routeUp 6 && (RemoteReq.write 6 0 [] (some 4096) 0).fence == some 4096 && (RemoteReq.write 6 0 [] none 0).dst == 6, (RemoteReq.read 6 0 64 0).isRead,
    linked.routeUp 126 && (RemoteReq.signal 126 4096 1 5 none 0).dst == 126,
    lookupN [(126, ({ epoch := 9, perm := 7, pages := 512, pipFirst := 0, pipCount := 0 } : PeerWin))] 126 != none, (lookupN linked.lfn.known 126).isNone && (lookupN linked.lfn.query 126).isNone,
    !(packetOf 3 0 64 []).bad && (packetOf 3 0 64 []).type == 3 && (packetOf 3 0 64 []).dst == 5 && linked.lfn.reads.isEmpty,
    [read0].find? (fun r => r.tag == (packetOf 3 0 64 []).tag && r.dst == (packetOf 3 0 64 []).src) == some read0,
    [read0].find? (fun r => r.tag == 1 && decide (r.due ≤ 0)) == some read0, !(packetOf 6 0 0 []).bad && (packetOf 6 0 0 []).type == 6,
    [flush0].find? (fun f => f.dst == (packetOf 6 0 0 []).src && f.gen == (packetOf 6 0 0 []).fgen) == some flush0,
    [flush0].find? (fun f => f.dst == 126 && decide (f.due ≤ 0)) == some flush0, lookupN [(126, 0)] 126 == some 0,
    linked.lfn.flushWait.isEmpty, [({ dst := 126, by_ := .firmware } : FlushWait)].find? (fun w => w.dst == 126) == some { dst := 126, by_ := .firmware }] = true := by decide +kernel

/-- A Remote Error Ring of 16 entries, with an entry that waits or none, full or not. -/
def errRing (held full : Bool) : State :=
  { up with lfn := { rer := some (0, 4), producer := if full then 15 else 0, rerHeld := if held then [zeros 32] else [], remoteErr := true } }

/-- Witnesses of `LinkNotices`. -/
theorem witness_linkNotices : allOf [
    !(packetOf 7 0 0 (zeros 12 ++ [8, 1, 0])).bad && (packetOf 7 0 0 (zeros 12 ++ [8, 1, 0])).type == 7 && (packetOf 7 0 0 (zeros 12 ++ [8, 1, 0])).f 24 1 == 8
      && (packetOf 7 0 0 (zeros 12 ++ [8, 1, 0])).f 25 1 == 1 && linked.lfnUp 3 && linked.lfn.devId == 5,
    (packetOf 7 0 0 (zeros 12 ++ [2, 1, 0])).f 24 1 == 2, (packetOf 7 0 0 (zeros 12 ++ [8, 5, 126])).f 25 1 == 5 && (packetOf 7 0 0 (zeros 12 ++ [8, 5, 126])).f 26 1 == 126
      && [flush0].find? (fun f => f.dst == 126) == some flush0,
    !(packetOf 8 0 0 [3]).bad && (packetOf 8 0 0 [3]).type == 8 && (packetOf 8 0 0 [3]).f 12 1 == 3, !(packetOf 8 0 0 [2, 7]).bad && (packetOf 8 0 0 [2, 7]).f 12 1 == 2,
    (linked.takeIn 3 (packetOf 8 0 0 [2, 7])).routeUp 126, !up.routeUp 126, !(packetOf 8 0 0 [1, 2, 3]).bad && (packetOf 8 0 0 [1, 2, 3]).f 12 1 == 1,
    up.lfn.rer.isNone, (errRing false false).canRequest && (0 + 1) % 2 ^ 4 != (errRing false false).lfn.consumer.toNat, (15 + 1) % 2 ^ 4 == (errRing false true).lfn.consumer.toNat,
    [({ hdr := zeros 32, cause := 1, count := 0 } : Notice)].length == 1, lookupN [(126, 0)] 126 == some 0 && decide ((0 : Nat) ≤ up.clock),
    [({ dst := 126, pkt := packetTo 126 1, by_ := .firmware } : HeldReq)].all (fun h => h.dst == 126 && h.pkt.type != 5) && linked.routeUp 126,
    (errRing false false).live && (errRing false false).lfn.remoteErr && (errRing false false).lfn.rerDue.isNone, (errRing true false).lfn.rerHeld == [zeros 32] && (0 + 1) % 2 ^ 4 == (1 : U32).toNat] = true := by decide +kernel

/-- Witnesses of `StaleEpochDrop` and `UnitEvents`. -/
theorem witness_units : allOf [
    up.live && (up.gateN 55).epoch != 255, (up.gateN 55).epoch == 0, ({ by_ := .unit 55 255, waiter := waiter0 } : WaitReq).by_ == .unit 55 255,
    cmdDiagUnit.accepts (cmd 1 [0]) up && !up.unitAbsent 0,
    ((gated { seq := some .reset }).gateN 0).seq == some .reset && !((gated { seq := some .reset }).gateN 0).fenced, ((gated { seq := some .reset, fenced := true }).gateN 0).fenced,
    ((gated { seq := some .powerOn, powered := true }).gateN 0).powered && (gated { seq := some .powerOn, powered := true }).live, ((gated { seq := some .powerOn, powered := true, fenced := true }).gateN 0).fenced,
    ((gated { closed := true, draining := true }).gateN 0).draining && decide ((0 : Nat) < ((gated { closed := true, draining := true }).gateN 0).seqAt + 200),
    decide ((({ gated { closed := true, draining := true } with clock := 200 } : State).gateN 0).seqAt + 200 ≤ 200),
    decide (({ seq := some .reset } : UnitGate).seqAt + unitResetUs 0 + 0 + 1000 ≤ 10 ^ 9), decide ((0 : Nat) < ({ seq := some .powerOn } : UnitGate).seqAt + unitResetUs 0 + 20 + 1000),
    unitGateable 0x33 && !up.unitAbsent 0x33 && ((gated { fenced := true }).gateN 0x33).fenced] = true := by decide +kernel

/-- A supply guard in a state, with a flash operation or without, firmware with a list of operations, a command that waits or none. -/
def guarded (g : Bool) (good : Option Nat) (op : Option FlashOp) (fw : Fw) (waits : Bool) : State :=
  { up with sup := { guard := g, guardGoodAt := good, flashOp := op }, fw := fw
            running := if waits then [{ mbx := 0, op := 0x0D02, seq := 0, noIrq := false, async := true, wait := .flashWrite }] else [] }

/-- Witnesses of `SupplyGuard`. -/
theorem witness_supplyGuard : allOf [
    up.kprRuns && !up.sup.guard, (guarded true none none {} false).sup.guard, (guarded false none (some (.erase 255)) {} true).sup.flashOp == some (.erase 255) && (guarded false none none {} true).writing,
    (guarded true (some 0) none {} false).sup.guardGoodAt == some 0 && (guarded true (some 0) none {} false).poweredOn && up.boot.stage == 0xF && decide ((0 : Nat) < 0 + 10000),
    !({ guarded true (some 0) none {} false with boot := { perstN := false } } : State).poweredOn, decide (0 + 10000 ≤ ({ guarded true (some 0) none {} false with clock := 10000 } : State).clock),
    (guarded true none none { guardWait := some 0 } true).fw.guardWait == some 0 && (guarded true none none { guardWait := some 0 } true).writing,
    (guarded true none none { guardWait := some 0, fuseTodo := some (.revoke 3) } false).fw.fuseTodo == some (.revoke 3), decide ((0 : Nat) + 100000 ≤ 100000) && decide ((99999 : Nat) < 0 + 100000),
    (guarded false none (some (.program 0x100000 [1] false)) { flashTodo := [.program 0x100001 [2] false] } true).poweredOn,
    (guarded false none (some (.program 0x100000 [1] true)) {} true).fw.flashTodo.isEmpty && (guarded false none (some (.program 0x100000 [1] true)) {} true).writing,
    ({ up with sup := { otpOp := some (.secver 1) } } : State).sup.otpOp == some (.secver 1) && ({ up with sup := { otpOp := some (.secver 1) } } : State).sup.flashOp.isNone] = true := by decide +kernel

/-- A device whose mailbox 15 holds an unread response that asks for its message. -/
def unreadIn (irq : Bool) : State :=
  { up with host := { up.host with mbx := up.host.mbx.set 15 { bound := true, err := true, unread := [false, true], rspTail := 2, irqEn := irq } } }

/-- Witnesses of `MailboxRegisters`. -/
theorem witness_mailboxRegisters : allOf [
    up.barUp && decide ((15 : U32).toNat % 4096 < ringLen up.host.mbx[0].cmdSize), decide (ringLen up.host.mbx[0].cmdSize ≤ (16 : U32).toNat % 4096) && !up.host.mbx[0].err,
    (unreadIn true).barUp && (unreadIn true).host.mbx[15].err && decide (ringLen (unreadIn true).host.mbx[15].cmdSize ≤ 4095),
    decide ((unreadIn true).host.mbx[15].rspAhead 1 ≤ (unreadIn true).host.mbx[15].unread.length) && (unreadIn true).host.mbx[15].irqEn
      && ((unreadIn true).host.mbx[15].unread.drop ((unreadIn true).host.mbx[15].rspAhead 1)).any id,
    decide ((unreadIn true).host.mbx[15].rspAhead 2 ≤ 2) && !((unreadIn true).host.mbx[15].unread.drop ((unreadIn true).host.mbx[15].rspAhead 2)).any id, !(unreadIn false).host.mbx[15].irqEn,
    decide ((unreadIn true).host.mbx[15].unread.length < (unreadIn true).host.mbx[15].rspAhead 3), decide (up.host.mbx[0].unread.length < up.host.mbx[0].rspAhead 1) && !up.host.mbx[0].err,
    decide (ringLen up.host.mbx[0].rspSize ≤ 4095), up.host.mbx[0].bound && !up.host.mbx[1].bound,
    !up.host.mbx[15].enabled && up.asyncOut 15 == 0, up.host.mbx[0].enabled, crowded.asyncOut 0 != 0,
    up.barUp && ({ up with host := { up.host with int := { up.host.int with boot := true } } } : State).intActive,
    !bar0Good 1 4 && !bar0Good 0x20 3 && bar0Good 0x20 4, driving.fwRuns] = true := by decide +kernel

/-- A device that may send messages, with an interrupt source set. -/
def ringing : State :=
  { up with host := { up.host with int := { boot := true }, pcie := { busMaster := true, msixEnable := true }, msix := Vector.replicate 64 { mask := false, pend := true } } }

/-- Witnesses of `InterruptBlock` and `VectorZero`. -/
theorem witness_interrupts : allOf [
    up.barUp && up.enablesUp && (List.finRange 64).all (fun v => !up.host.msix[v].pend), ringing.enablesUp && ringing.canRequest && ringing.host.msix[63].pend
      && ringing.host.pcie.msixEnable && !ringing.host.pcie.funcMask,
    !up.intActive && (up.updInt (fun i => { i with boot := true })).intActive, ringing.intActive && ringing.barUp && !ringing.host.msix[0].mask && ringing.canRequest] = true := by decide +kernel

/-- A device with its DRAM behind BAR2. -/
def mapped0 : State := { up with host := { up.host with int := { bar2Base := 0x10000000 } } }

/-- A device in a boot stage. -/
def booting0 (n : BitVec 4) : State := { boot := { stage := n } }

/-- A device in a host-load wait. -/
def hostLoading : State := { boot := { stage := 5, hostWait := true } }

/-- A device in D3hot. -/
def asleep (held : Bool) (p : PowerState) : State :=
  { up with host := { up.host with pcie := { busMaster := true, dstate := .d3hot, held := held } }, sup := { power := p } }

/-- Witnesses of `HostWindows`. -/
theorem witness_hostWindows : allOf [
    decide (3 ≤ up.boot.stage.toNat) && up.sup.power != .off && !bar0Good 1 4 && !bar0Good 0xFFFFFF 16 && !up.host.int.badAccess, ({ up.host.int with badAccess := true } : IntBlk).badAccess,
    mapped0.barUp && !mapped0.bar2Miss 0x10000000 && !mapped0.bar2Miss (0x10000000 + 2 ^ 30 - 1) && decide (0 + 2 ^ 30 ≤ (2 : Nat) ^ 30),
    (List.range 8).all (fun i => !mapped0.byteOpen (0x10000000 + i)), up.barUp && up.bar2Miss 0, !({ mapped0 with boot := { mapped0.boot with chGib := 1 } } : State).bar2Miss 0x10000000
      && ({ mapped0 with boot := { mapped0.boot with chGib := 0 } } : State).bar2Miss (0x10000000 + 7),
    !hostLoading.barUp && hostLoading.boot.hostWait && decide (0x7FFFFF + 1 ≤ (0x800000 : Nat)), !(booting0 4).barUp && !(booting0 4).boot.hostWait && decide (3 ≤ (booting0 4).boot.stage.toNat),
    loaded.barUp && loaded.packaged 0x10000FFF && !loaded.packaged 0x10001000, (List.range 8).all (fun i => !mapped0.packaged (0x10000000 + i)),
    !up.host.int.bar2Miss && (up.missed 5).host.int.bar2Miss,
    up.live && up.host.pcie.dstate == .d0 && !up.atWork, ({ up with str := { slot := (Vector.replicate 64 {}).set 63 { state := .stopping } } } : State).atWork,
    (asleep true .active).live && (asleep true .active).host.pcie.held, (asleep false .active).sup.power == .active, (asleep false .standby).live && !(asleep false .standby).host.pcie.held
      && (asleep false .standby).sup.power != .active] = true := by decide +kernel

/-- A device whose mailbox 0 holds a command. -/
def ordered : State := { up with host := { up.host with mbx := up.host.mbx.set 0 { up.host.mbx[0] with cmdTail := 1 } } }

/-- The same with mailbox 15. -/
def both : State := { ordered with host := { ordered.host with mbx := ordered.host.mbx.set 15 { bound := true, en := true, enabled := true, cmdTail := 1 } } }

/-- A device whose slot 63 has a source and ingest state. -/
def ingesting (x : SrcCfg) (st : SlotState) (i : Ingest) : State :=
  { serving with io := { sess := (Vector.replicate 64 {}).set 63 { cfg := some { port := 1, codec := .h265, pt := 96, vlan := 0xFFFF, udp := 5004, ssrc := 0
                                                                                 laddr := 0xFFFF0A000002, raddr := 0 } }
                         tbs := { running := true, now := 66666000 } }
                 str := { slot := (Vector.replicate 64 {}).set 63 { state := st, src := some x, ana := some ana0, ing := i } } }

/-- A host ring that reads. -/
def hostRuns (i : Ingest) : State := ingesting hostSource .running i

/-- An asynchronous command of mailbox 1 whose final response is due. -/
def finalFor (w : WaitFor) (d : Option (Status × List Byte)) : State :=
  { up with running := [{ mbx := 1, op := 0x0605, seq := 9, noIrq := false, async := true, wait := w, done := d }] }

/-- A device whose mailbox 0 holds a command while a flash write of mailbox 1 is in progress. -/
def orderedBusy : State :=
  { ordered with running := [{ mbx := 1, op := 0x0D02, seq := 0, noIrq := false, async := true, wait := .flashWrite }] }

/-- A device whose Remote Error Ring's CONSUMER is read. -/
def rerReading : State := { up with lfn := { rer := some (0, 4), remoteErr := true } }

/-- Witnesses of `CommandConsumption`. -/
theorem witness_commandConsumption : allOf [
    up.live && up.turn == none, ordered.live && ordered.turn == some 0 && ordered.hasRoom 0 false && ordered.hasRoom 0 true && (commandOf 0xFFFF).isNone && ordered.fw.phase != .handover,
    (({ ordered with host := { ordered.host with mbx := ordered.host.mbx.set 0 { ordered.host.mbx[0] with unread := List.replicate 15 true } } } : State).turn == some 0)
      && !({ ordered with host := { ordered.host with mbx := ordered.host.mbx.set 0 { ordered.host.mbx[0] with unread := List.replicate 15 true } } } : State).hasRoom 0 false,
    (commandOf 0x0100).isSome && (match commandOf 0x0100 with
      | some k => ((ordered.headNext 0).command k (entryCmd 0 (padTo 64 [0, 1]) .none) false).isSome | none => false),
    orderedBusy.turn == some 0 && orderedBusy.hasRoom 0 false && (match commandOf 0x0D01 with
      | some k => ((orderedBusy.headNext 0).command k (entryCmd 0 (padTo 64 [1, 0x0D]) .none) false).isNone | none => false),
    both.mbxReady 0 && both.nextOther == some 15, both.turn == some (if both.host.turnZero then 0 else 15),
    (finalFor (.pip 4096) (some (.ok, []))).live && (finalFor (.pip 4096) (some (.ok, []))).canRequest
      && (((finalFor (.pip 4096) (some (.ok, []))).running.find? (fun r => r.mbx == 1 && r.seq == 9 && r.async && r.final)).any (fun r => r.done.isSome)),
    ((finalFor (.unitFence 3) none).running.find? (fun r => r.mbx == 1 && r.seq == 9 && r.async && r.final)).any (fun r => r.done.isNone && r.wait == .unitFence 3),
    ((finalFor (.modelLoad 0 0x10000000 64) none).running.find? (fun r => r.mbx == 1 && r.seq == 9 && r.async && r.final)).any (fun r => r.done.isNone && r.wait == .modelLoad 0 0x10000000 64),
    (ordered.aerReport .completionTimeout).mbxReady 0 && !(up.aerReport .completionTimeout).mbxReady 0,
    (((hostRuns {}).aerReport .completionTimeout).ringReads 63).isSome && ((up.aerReport .completionTimeout).ringReads 63).isNone,
    (rerReading.aerReport .completionTimeout).rerReads && !(up.aerReport .completionTimeout).rerReads && rerReading.live] = true := by decide +kernel

/-- A 513-byte image: the header and one zero body byte, signed under the key whose point is the curve's generator. -/
def image0 : List Byte :=
  leBytes 4 0x4D49425A ++ leBytes 2 1 ++ zeros 6 ++ leBytes 4 7 ++ leBytes 4 1 ++ zeros 4
    ++ beBytes 48 0xAA87CA22BE8B05378EB1C71EF320AD746E1D3B628BA79B9859F741E082542A385502F25DBF55296C3A545E3872760AB7
    ++ beBytes 48 0x3617DE4A96262C6F5D9E98BF9292DC29F8F41DBD289A147CE9DA3113B5F0B8C00A60B1CE1D7E819D7A431D7C90EA0E5F
    ++ zeros 8
    ++ beBytes 48 0xAA87CA22BE8B05378EB1C71EF320AD746E1D3B628BA79B9859F741E082542A385502F25DBF55296C3A545E3872760AB7
    ++ beBytes 48 0x785A416ECDEC86DFDD4466694D1D9C0DCE7D2F38215C8B730184F95A529A725A25092AB878EDDED70388F6A1FD5BDE4A
    ++ zeros 289

/-- Fuses whose slot 0 holds that key's hash. -/
def imageFuses : Fuses :=
  { keyHash := (Vector.replicate 4 0).set 0 0x654B811F19E108EAB70600D86AA5F04BFAD296F7D87D69500977A9C8D122AA9478E155E5CFB05280EB82B571B14D9DA1 }

/-- A device that waits for a host image, with the image staged. -/
def stagedUp : State :=
  { boot := { hostWait := true, staging := cellsWrite [] 0 image0, hostLen := 513 }, sup := { fuses := imageFuses } }

/-- Bytes as cells from an address on. -/
def bytesAt : Nat → List Byte → List (Nat × Byte)
  | _, [] => []
  | a, b :: bs => (a, b) :: bytesAt (a + 1) bs

/-- A cell of them is the byte at its offset. -/
theorem lookup_bytesAt : ∀ (bs : List Byte) (a i : Nat), lookupN (bytesAt a bs) (a + i) = bs[i]?
  | [], _, _ => rfl
  | b :: bs, a, 0 => by simp [bytesAt, lookupN]
  | b :: bs, a, i + 1 => by
    have h := lookup_bytesAt bs (a + 1) i
    rw [show a + 1 + i = a + (i + 1) by omega] at h
    simp [bytesAt, lookupN, h]

/-- Those of a range that begins with the first are the first of them. -/
theorem filter_bytesAt : ∀ (bs : List Byte) (a k n : Nat), k ≤ a →
    (bytesAt a bs).filter (fun c => decide (k ≤ c.1) && decide (c.1 < a + n)) = bytesAt a (bs.take n)
  | [], _, _, n, _ => by cases n <;> rfl
  | b :: bs, a, k, 0, h => by
    have g := filter_bytesAt bs (a + 1) k 0 (by omega)
    simp only [List.take_zero] at g ⊢
    show List.filter _ ((a, b) :: bytesAt (a + 1) bs) = []
    rw [List.filter_cons_of_neg (by simp)]
    refine List.filter_eq_nil_iff.2 fun c hc => ?_
    have := List.filter_eq_nil_iff.1 g c hc
    simp only [Bool.and_eq_true, decide_eq_true_eq] at this ⊢
    omega
  | b :: bs, a, k, n + 1, h => by
    have g := filter_bytesAt bs (a + 1) k n (by omega)
    rw [show a + 1 + n = a + (n + 1) by omega] at g
    show List.filter _ ((a, b) :: bytesAt (a + 1) bs) = (a, b) :: bytesAt (a + 1) (bs.take n)
    rw [List.filter_cons_of_pos (by simp; omega), g]

/-- The flash that holds them there reads as they are. -/
theorem flashRead_bytesAt (s : State) (a n : Nat) (bs : List Byte) (h : s.sup.flash = bytesAt a bs) (l : n ≤ bs.length) :
    s.flashRead a n = bs.take n := by
  unfold State.flashRead
  rw [h, filter_bytesAt bs a a n (Nat.le_refl a)]
  refine List.ext_getElem (by simp; omega) fun i _ _ => ?_
  simp only [List.getElem_map, List.getElem_range, lookup_bytesAt]
  simp only [List.getElem?_take, List.getElem_take]
  rw [List.length_map, List.length_range] at *
  rw [if_pos ‹_›, List.getElem?_eq_getElem (by omega)]
  rfl

/-- The lengths of laid-out numbers and of padded lists. -/
theorem leBytes_length : ∀ n v, (leBytes n v).length = n
  | 0, _ => rfl
  | n + 1, v => by rw [leBytes, List.length_cons, leBytes_length n]
theorem padTo_length (n : Nat) (bs : List Byte) : (padTo n bs).length = n := by simp [padTo, zeros]

/-- A board configuration of the part of variant `v`, with its digest. -/
def bcfg (v digest : Nat) : List Byte :=
  padTo 224 (leBytes 4 0x4643425A ++ leBytes 2 1 ++ zeros 2 ++ [BitVec.ofNat 8 v, 4, 1, 1]) ++ beBytes 32 digest

/-- A device in stage 0x04 with a flash. -/
def configuring (f : List (Nat × Byte)) (sel : BitVec 2) : State := { boot := { stage := 4, bootSel := sel }, sup := { flash := f } }

/-- A valid configuration of the other part. -/
def bcfgOther : List Byte := bcfg 1 0xe464d431a09a1f16227c1ef125814d96a204cc18e3c8d87965ea135aa7d8d1db
/-- A valid configuration of this part. -/
def bcfgOwn : List Byte := bcfg 2 0xd81992a1734c62d421a5a02ccd1bf694c76bcb771b005fd3ae62d249aced475a

/-- A device in stage 0x05 or 0x06 whose flash holds image A or B or both. -/
def imaged (n : BitVec 4) (a b : Bool) : State :=
  { boot := { stage := n, staging := cellsWrite [] 0 image0 }
    sup := { fuses := imageFuses, flash := (if a then bytesAt 0x100000 image0 else if b then bytesAt 0x900000 image0 else []) } }

/-- A sweep of 16 passing taps, and one of 15. -/
def goodSweep : List Bool := List.replicate 16 true
def badSweep : List Bool := false :: List.replicate 15 true

/-- Witnesses of `Resets`. -/
theorem witness_resets : allOf [
    up.boot.porN && up.boot.perstN, ({ boot := { porN := false, perstN := false } } : State).boot.porN == false, ({ boot := { perstN := false } } : State).boot.perstN == false,
    ({ boot := { perstN := false } } : State).boot.porN, !({ boot := { porN := false } } : State).boot.porN && ({ boot := { porN := false } } : State).boot.perstN,
    ({ flashOp := some (.erase 5) } : Supply).flashOp == some (.erase 5), ({ flashOp := some (.program 0 [1] true) } : Supply).flashOp == some (.program 0 [1] true),
    ({} : Supply).flashOp.isNone] = true := by decide +kernel

/-- Witnesses of `BootStages`. -/
theorem witness_boot : allOf [
    (List.range 15).all (fun n => (booting0 (BitVec.ofNat 4 n)).booting), !up.booting, !bcfgValid ((booting0 4).flashRead 0 256) && !bcfgValid ((booting0 4).flashRead 0x10000 256),
    bcfgValid bcfgOwn && (bcfgMismatch (configuring [] 0).sup.fuses.variantL bcfgOwn).isNone && (configuring (bytesAt 0 bcfgOwn) 0).booting,
    !bcfgValid ((configuring (bytesAt 0x10000 bcfgOwn) 3).flashRead 0 256), bcfgValid bcfgOther && bcfgMismatch (configuring [] 0).sup.fuses.variantL bcfgOther == some 8,
    !((booting0 5).chooseImage false false).2, (imaged 5 true false).boot.image != .hostLoad && !((imaged 5 true false).chooseImage true false).2, ({ boot := { stage := 5, image := .hostLoad } } : State).booting,
    (imaged 6 true false).booting, imageReason (booting0 6).sup.fuses (booting0 6).stagingRead != .ok,
    !(booting0 8).avsSettled, ({ booting0 8 with clock := 1000 } : State).avsSettled && ({ booting0 8 with clock := 1000 } : State).sup.flashOp.isNone && ({ booting0 8 with clock := 1000 } : State).sup.eraseSusp.isNone,
    ({ boot := { stage := 13 }, sup := { switchOn := [1] } } : State).booting && (booting0 13).sup.switchOn.isEmpty,
    bitOf up.boot.fenced.toNat 55 == false && !up.unitAbsent 55 && unitGateable 0,
    stagedUp.boot.hostWait && stagedUp.boot.porN && stagedUp.boot.perstN,
    ({ boot := { hostWait := true } } : State).stagedReason 0 == .badLength, !up.boot.hostWait] = true := by decide +kernel

/-- The configurations are what the flash reads as (witness of stage 0x04 of `BootStages`). -/
theorem witness_bcfg : (configuring (bytesAt 0 bcfgOwn) 0).flashRead 0 256 = bcfgOwn
    ∧ (configuring (bytesAt 0x10000 bcfgOwn) 3).flashRead 0x10000 256 = bcfgOwn ∧ (configuring (bytesAt 0 bcfgOther) 0).flashRead 0 256 = bcfgOther :=
  have l : ∀ v d, (bcfg v d).length = 256 := fun v d => by
    rw [bcfg, List.length_append, padTo_length, beBytes, List.length_reverse, leBytes_length]
  have h : ∀ (s : State) (a v d : Nat), s.sup.flash = bytesAt a (bcfg v d) → s.flashRead a 256 = bcfg v d := fun s a v d e =>
    (flashRead_bytesAt s a 256 _ e (by rw [l])).trans (List.take_of_length_le (by rw [l]))
  ⟨h _ _ _ _ rfl, h _ _ _ _ rfl, h _ _ _ _ rfl⟩

/-- Witnesses of `BootFailures`. -/
theorem witness_bootFailures : allOf [
    decide (1000 * stageMaxMs.getD 13 0 < ({ booting0 13 with clock := 10 ^ 9 } : State).stageSpent), decide ((booting0 13).stageSpent ≤ 1000 * stageMaxMs.getD 13 0),
    decide ((booting0 2).boot.stageAt + 1000 ≤ ({ booting0 2 with clock := 1000 } : State).clock), decide ((booting0 2).clock < (booting0 2).boot.stageAt + 1000),
    ({ booting0 13 with gate := Vector.replicate 56 { powered := true, poweredAt := some 0 } } : State).liveUnit 5
      && (({ booting0 13 with gate := Vector.replicate 56 { powered := true, poweredAt := some 0 } } : State).gateN 5).poweredAt == some 0,
    ((booting0 13).gateN 5).poweredAt.isNone, decide ((booting0 7).clock ≤ (booting0 7).boot.stageAt + 1000), decide ((booting0 7).boot.stageAt + 1000 < (1001 : Nat)),
    longestRun [true, false, true, true] == (2, 2), decide (goodSweep.length ≤ 128) && sweepEye goodSweep == (7, 16),
    decide ((sweepEye badSweep).2.toNat < up.boot.minEye), decide (up.boot.minEye ≤ (sweepEye goodSweep).2.toNat)] = true := by decide +kernel

/-- A device on which AVS runs. -/
def tuned : State := { up with sup := { avsEn := true } }

/-- A device on which AVS runs, with these fields of the supply. -/
def tunedAs (f : Supply → Supply) : State := { up with sup := f { avsEn := true } }

/-- Witnesses of `AdaptiveVoltage`. -/
theorem witness_adaptiveVoltage : allOf [
    up.poweredOn && !up.sup.droop && up.sup.avsLowerDue.isNone, ({ up with sup := { droop := true } } : State).poweredOn, ({ droop := true, avsLowerDue := some 0 } : Supply).avsLowerDue.isSome,
    ({ up with sup := { switchOn := [0] } } : State).sup.switchOn == [0] && ({ up with sup := { switchOn := [0] } } : State).switchFree,
    !({ up with sup := { switchOn := [0, 1], switchAt := some 0 } } : State).switchFree, ({ up with sup := { switchOn := [0], toActive := true } } : State).live,
    tuned.poweredOn && tuned.sup.avsRuns && !tuned.sup.avsLimit && decide (tuned.sup.floor.toNat ≤ tuned.sup.setCode.toNat)
      && decide (tuned.sup.setCode.toNat < tuned.sup.ceil.toNat) && tuned.sup.avsHoldoff.isNone, decide (tuned.sup.floor.toNat < tuned.sup.setCode.toNat),
    (tunedAs (fun p => { p with setCode := 0x168 })).sup.avsRuns && (tunedAs (fun p => { p with setCode := 0x168 })).sup.setCode.toNat == tuned.sup.ceil.toNat,
    (tunedAs (fun p => { p with setCode := 0x168, avsLimit := true })).sup.avsLimit, (tunedAs (fun p => { p with setCode := 0x104, avsLowerDue := some 0 })).sup.avsRuns
      && (tunedAs (fun p => { p with setCode := 0x104, avsLowerDue := some 0 })).poweredOn,
    decide ((tunedAs (fun p => { p with setCode := 0x103 })).sup.setCode.toNat < tuned.sup.floor.toNat) && decide (tuned.sup.floor.toNat ≤ tuned.sup.ceil.toNat),
    decide (tuned.sup.ceil.toNat < (tunedAs (fun p => { p with setCode := 0x169 })).sup.setCode.toNat),
    (tunedAs (fun p => { p with avsLowerDue := some 0 })).sup.avsLowerDue == some 0, (tunedAs (fun p => { p with avsSettle := some 0 })).sup.avsSettle == some 0,
    (tunedAs (fun p => { p with avsHoldoff := some 5 })).sup.avsHoldoff == some 5,
    (tunedAs (fun p => { p with avsFrame := some { code := 320 } })).sup.avsFrame == some { code := 320 }, ({ status := true, retries := 3 } : AvsFrame).status && decide (3 ≤ ({ status := true, retries := 3 } : AvsFrame).retries),
    (tunedAs (fun p => { p with avsFault := true })).barUp && up.barUp && !up.sup.avsFault,
    ({ booting0 8 with pending := [] } : State).poweredOn && !(booting0 8).boot.stopped] = true := by decide +kernel

/-- A device whose twelve sensors hold a reading, and whose throttle is at a level. -/
def sensing (l : Fin 3) (t : Sensor) (f : Supply → Supply) : State := { up with sup := f { throttle := l, temps := Vector.replicate 12 t } }

/-- Witnesses of `Throttle`. -/
theorem witness_throttle : allOf [
    (sensing 1 {} (fun p => { p with dwellDue := some 0 })).poweredOn && (sensing 1 {} (fun p => { p with dwellDue := some 0 })).sup.dwellDue == some 0,
    (sensing 2 {} (fun p => { p with releaseDue := some 0 })).sup.releaseDue == some 0, (sensing 1 {} (fun p => { p with releaseDue := some 0 })).sup.sensorBad,
    !(sensing 1 { valid := true } (fun p => { p with releaseDue := some 0 })).sup.sensorBad,
    (sensing 0 { changedAt := some 0 } id).sup.temps[10].changedAt == some 0 && (sensing 0 { changedAt := some 0 } id).sup.power != .standby && (sensing 0 {} id).sup.temps[11].changedAt.isNone,
    decide ((0 : Nat) + 1000000 ≤ 1000000), hottest [{ temp := 100, valid := true }] == some (100, 0), hottest [{ temp := 100, valid := true }, { temp := 100, valid := true }] == some (100, 0),
    !up.injected 8 0, decide (4 * (up.sup.throttleC.toNat : Int) + 12 ≤ 500), up.sup.power != .standby && up.sup.throttle == 0] = true := by decide +kernel

/-- A device with PTP on port 1, and these fields of the time base. -/
def timing (t : Tbs) : State :=
  { serving with io := { eth := (Vector.replicate 2 {}).set 1 { up := true, ptp := { en := true } }, tbs := t } }

/-- Witnesses of `TimeBase`. -/
theorem witness_time : allOf [
    (timing {}).live && (timing {}).ethUp 1 && (timing {}).io.eth[1].ptp.en && !(timing {}).ethUp 0, (timing {}).io.tbs.syncAt.isNone,
    (timing { syncAt := some 5 }).io.tbs.syncAt == some 5, (timing { syncTimes := some (1, 2), reqAt := some 3 }).io.tbs.reqAt == some 3, (timing { syncTimes := some (1, 2) }).io.tbs.syncTimes.isSome,
    (timing { ptmEnable := true }).canRequest && decide ((timing { ptmEnable := true }).io.tbs.ptmDue ≤ 0), decide ((0 : Nat) < (timing { ptmEnable := true, ptmDue := 1 }).io.tbs.ptmDue),
    (({ timing { ptmEnable := true } with io := { (timing { ptmEnable := true }).io with tbs := { ptmEnable := true, ptm := some 0 } } } : State).chooseSource).io.tbs.source == .ptm,
    (({ timing { ptmEnable := true, sync := some (0, 1) } with io := { (timing { ptmEnable := true, sync := some (0, 1) }).io with
      tbs := { ptmEnable := true, ptm := some 0, sync := some (0, 1) } } } : State).chooseSource).io.tbs.source != .ptm,
    ppsBand 999000000 && ppsBand 1001000000 && !ppsBand 1001000001, (timing { ppsSeen := true, now := 1000000000 }).io.tbs.ppsSeen && ppsBand ((1000000000 : U64) - (timing { ppsSeen := true }).io.tbs.ppsIn).toNat,
    (timing { ppsSeen := true, ppsBad := 1 }).io.tbs.ppsBad == 1, decide ((0 : Nat) + 1500000 ≤ 1500000), (timing { within := some 0 }).io.tbs.within == some 0, decide ((0 : Nat) + 10000000 ≤ 10000000),
    decide ((999999 : U64).toNat % 1000000000 < 1000000), decide (1000000 ≤ (1000000 : U64).toNat % 1000000000), ({ running := true } : Tbs).running] = true := by decide +kernel

/-- A Keeper whose clock window has ended with CLK_CORE at /10 throughout, an injection asked for or none. -/
def windowEnd (inj : Option (Nat × Nat)) : State := { up with kpr := { winDone := some 30000, inject := inj } }

/-- Witnesses of `KeeperMonitors`. -/
theorem witness_keeperMonitors : allOf [
    up.kprRuns && up.kpr.winDone.isNone, (windowEnd none).kprRuns && (windowEnd none).kpr.winDone == some 30000 && decide (3 ≤ (windowEnd none).boot.stage) && up.sup.power != .off,
    (List.finRange 5).all (fun i => clockOk 30000 i.val ((clockExpected 30000).getD i.val 0 / 15)), (List.finRange 5).all (fun i => !clockOk 30000 i.val 0),
    (windowEnd (some (6, 4))).kpr.inject == some (6, 4), ({ up with kpr := { winExp := some 0 } } : State).kpr.winExp == some 0, (up.clock + 1 - ({ tickFrom := 1 } : Keeper).tickFrom) % 100 == 0
      && (up.clock + 1 - ({} : Keeper).tickFrom) % 100 != 0,
    (supplyWindow 0x140 0).1 == 740 && (supplyWindow 0x140 0).2 == 950, (supplyWindow 0x140 7).1 == 1080, ({ up with kpr := { inject := some (7, 8) } } : State).kprRuns, !({ variantL := false } : Fuses).variantL && up.sup.fuses.variantL,
    decide ((99999 : Nat) < up.kpr.selfAt + 100000), ({ up with kpr := { inject := some (0x0C, 0) } } : State).kpr.inject == some (0x0C, 0),
    ({ up with kpr := { wdogAt := some 0 } } : State).kprRuns && ({ wdogAt := some 0 } : Keeper).wdogAt == some 0 && (1 : Byte) == ({} : Keeper).wdogLast + 1,
    decide ((0 : Nat) + 5000 ≤ 5000 ∧ 5000 ≤ 0 + 20000), decide ((20001 : Nat) > 0 + 20000), decide ((4999 : Nat) < 0 + 5000), ({ inject := some (9, 0) } : Keeper).inject == some (9, 0), up.kpr.wdogAt.isNone,
    up.boot.stage == 0xF && (booting0 4).kprRuns && (booting0 4).boot.stage != 0xF, ({ fault := 2 } : Keeper).fault.getLsbD (KprBit.idx .device), !up.kpr.fault.getLsbD (KprBit.idx .device)] = true := by decide +kernel

/-- A Keeper that runs at a time with slot 63 supervised. -/
def watching (now : Nat) (k : KprSlot) (f : Keeper → Keeper) : State :=
  { up with clock := now, kpr := f { slot := (Vector.replicate 64 {}).set 63 { k with periodUs := 33333, state := .ok } } }

/-- Witnesses of `SafetyOutputs`. -/
theorem witness_safetyOutputs : allOf [
    (watching 66700 { lastArrivalAt := some 0 } id).kprRuns && (watching 66700 { lastArrivalAt := some 0 } id).kpr.slot[63].supervised && (watching 66700 {} id).kpr.inject.isNone,
    decide (0 + 2 * (33333 : U32).toNat ≤ (watching 66700 {} id).kprTickAt), decide ((watching 66600 {} id).kprTickAt < 0 + 2 * (33333 : U32).toNat),
    (watching 66700 { sourceTripped := true } id).kpr.slot[63].sourceTripped, (watching 66700 {} (fun k => { k with inject := some (1, 63) })).kpr.inject == some (1, 63),
    (watching 0 {} id).kpr.slot[63].lastArrivalAt.isNone, (watching 33000 { armed := [{ seq := 0, at_ := 0 }] } id).kpr.slot[63].armed == [{ seq := 0, at_ := 0 }] && decide (0 + 33000 ≤ (watching 33000 {} id).kprTickAt),
    ({ seq := 0, at_ := 0 } : Arrival).tripped == false && !({ seq := 0, at_ := 0 } : Arrival).ignored, decide ((watching 32999 {} id).kprTickAt < 0 + 33000),
    (watching 66700 { lastOkAt := some 0 } id).kpr.slot[63].fresh .noResult, (watching 0 {} id).kpr.slot[63].lastOkAt.isNone && (watching 0 {} id).kpr.slot[63].fresh .start,
    decide (0 + 2000000 ≤ (watching 2000000 {} id).kprTickAt), decide ((watching 1999999 {} id).kprTickAt < 0 + 2000000), !up.kpr.slot[63].supervised,
    !up.kpr.safe && !up.releaseOk, (watching 100 {} (fun k => { k with readySeen := true, armed := true })).releaseOk && (watching 100 {} id).kprAtTick && !(watching 101 {} id).kprAtTick,
    (watching 475 {} (fun k => { k with safe := true })).kpr.safe && decide ((watching 475 {} (fun k => { k with safe := true })).kpr.beaconAt + 475 ≤ 475)] = true := by decide +kernel

/-- A slot that takes frames from CSI port 5, virtual channel 3. -/
def csiRuns : State := { serving with str := { slot := (Vector.replicate 64 {}).set 63 { state := .running, src := some csiSource } } }

/-- The same with the lanes of its receiver learned. -/
def csiLearned (w : BitVec 2) : State := { csiRuns with io := { csi := (Vector.replicate 6 {}).set 5 { lanes := w, locked := true } } }

/-- Witnesses of `CsiReceivers`. -/
theorem witness_csiReceivers : allOf [
    csiRuns.live && csiRuns.unitLive (0x28 + 5), lanesOf [0, 2] == none, lanesOf [0, 1, 2, 3] == some 3 && csiRuns.io.csi[5].lanes == 0 && (csiLearned 3).io.csi[5].lanes == 3,
    lanesOf [0] == some 1 && (csiLearned 3).io.csi[5].lanes != 0 && (csiLearned 3).io.csi[5].lanes != 1 && (csiLearned 3).unitLive (0x28 + 5),
    ((csiRuns.csiHeader 5 (.good true)).csiSlot 5 0).isNone, (csiRuns.csiHeader 5 .bad).csiSlot 5 3 == some (63, csiSource),
    (csiRuns.csiHeader 5 (.good false)).csiSlot 5 3 == some (63, csiSource) && CsiHdr.good false != .bad && csiImage csiSource.dt, csiImage 0x24 && decide (0x24 ≠ csiSource.dt), !csiImage 0x2C,
    !up.unitLive (0x28 + 5)] = true := by decide +kernel

/-- Slot 63 with a CSI source in a state. -/
def csiIn (st : SlotState) (i : Ingest) : State := ingesting csiSource st i

/-- Witnesses of `SourcesAndRings`. -/
theorem witness_sourcesAndRings : allOf [
    (csiIn .running { open_ := some { capture := 0 }, lineDue := some 0 }).live && ((csiIn .running { open_ := some { capture := 0 }, lineDue := some 0 }).slotN 63).ing.open_.isSome
      && ((csiIn .running { lineDue := some 0 }).slotN 63).ing.lineDue == some 0, ((csiIn .running {}).slotN 63).ing.open_.isNone,
    ((csiIn .running { frameDue := some 0 }).slotN 63).state == .running && ((csiIn .running { frameDue := some 0 }).slotN 63).ing.frameDue == some 0 && !(csiIn .running { frameDue := some 0 }).ringIdle 63,
    (hostRuns { shed := true, frameDue := some 0 }).ringIdle 63 && ((hostRuns { shed := true, frameDue := some 0 }).slotN 63).src == some hostSource,
    decide ((0 : Nat) < 1) && ((csiIn .stale {}).slotN 63).state != .running,
    (csiIn .stale {}).live && ((csiIn .stale {}).slotN 63).state == .stale
      && decide (0 < ((csiIn .stale {}).slotN 63).ing.dueCount (csiIn .stale {}).devTime ((csiIn .stale {}).slotN 63).periodUs) && ((csiIn .stale {}).slotN 63).ing.open_.isNone,
    decide (((csiIn .stale { k := 2 }).slotN 63).ing.dueCount (csiIn .stale { k := 2 }).devTime ((csiIn .stale { k := 2 }).slotN 63).periodUs ≤ 2),
    ((csiIn .stale { open_ := some { capture := 0 } }).slotN 63).ing.open_.isSome, (up.slotN 63).state == .free,
    (hostRuns { pollDue := 1 }).live && (hostRuns { pollDue := 1 }).ringReads 63 == some hostSource && decide ((hostRuns { pollDue := 1 }).clock < ((hostRuns { pollDue := 1 }).slotN 63).ing.pollDue),
    decide (((hostRuns {}).slotN 63).ing.pollDue ≤ (hostRuns {}).clock),
    (hostRuns { producer := 1 }).ringReads 63 == some hostSource && decide (((hostRuns { producer := 1 }).slotN 63).ing.consumer ≠ ((hostRuns { producer := 1 }).slotN 63).ing.producer),
    ((hostRuns {}).slotN 63).ing.consumer == ((hostRuns {}).slotN 63).ing.producer,
    (csiRuns.ringReads 63).isNone, !({ up with host := {} } : State).canRequest, ((hostRuns { ringHalt := true }).slotN 63).ing.ringHalt, ((hostRuns { shed := true }).slotN 63).ing.shed] = true := by decide +kernel

/-- ETH_PORT of port 1 at the widest values. -/
def ethPort0 : HostCmd := cmd 2 ([1, 2] ++ le 2 9216 ++ [1, 2, 3, 4, 5, 6])
/-- ETH_NEIGHBOUR of entry 255. -/
def ethNeighbour0 (v : Nat) : HostCmd := cmd 4 ([255, v] ++ List.replicate 6 1 ++ le 2 0xFFFF ++ le 6 0 ++ List.replicate 16 2)
/-- ETH_SESSION of session 63. -/
def ethSession0 : HostCmd := cmd 6 ([63, 1, 1, 2, 127, 0] ++ le 2 0xFFFF ++ le 2 5004)
/-- ETH_FLOW of flow 63. -/
def ethFlow0 : HostCmd := cmd 6 ([63, 1, 255, 63] ++ le 2 1 ++ le 2 2)

/-- A datagram to session 63, as an Ethernet frame without its check sequence. -/
def rtpFrame : List Byte :=
  ([0, 0, 0, 0, 0, 1, 0, 0, 0, 0, 0, 2, 8, 0, 0x45, 0, 0, 43, 0, 0, 0, 0, 0x40, 17, 0x66, 0xC0, 10, 0, 0, 1, 10, 0, 0, 2,
    0x13, 0x8C, 0x13, 0x8C, 0, 23, 0, 0, 0x80, 96, 0, 1, 0, 0, 0, 0, 0, 0, 0, 7, 0x26, 1, 0] : List Nat).map (BitVec.ofNat 8)

/-- A frame with its check sequence. -/
def withFcs (bs : List Byte) : List Byte := bs ++ leBytes 4 (crc32 bs).toNat

/-- A device whose port 1 is up. -/
def ported (i : Ingest) : State :=
  let s := ingesting rtpSource .running i
  { s with io := { s.io with eth := (Vector.replicate 2 {}).set 1 { up := true, speed := 2, ptp := { en := true }, queue := [{ prio := 0, bytes := [] }, { prio := 1, bytes := [] }] } } }

/-- A device whose slot 63 runs with results to flow 63, the flow as ETH_FLOW sets it or not. -/
def flowing (same : Bool) : State :=
  { up with io := { neigh := [(255, { mac := 0, vlan := 0, ip := 0 })], flow := [(63, if same then ethFlow0.flow else { ethFlow0.flow with dport := 9 })] }
            str := { slot := (Vector.replicate 64 {}).set 63 { slot0 with state := .running, res := some (.flow 63) } } }

/-- A UDP datagram to session 63 as `etherParse` gives it, and the session's RTP check of it. -/
def rtpChecked : Option (U32 × RtpPkt) :=
  match etherParse rtpFrame with
  | .ok u => match (ported {}).io.sess[(63 : Fin 64)].cfg with
    | some c => rtpCheck c (ported {}).io.sess[(63 : Fin 64)] u.data (ported {}).devTime (ported {}).clock
    | none => none
  | _ => none

/-- The same with a packet held whose number is 5, the next one due being 4. -/
def reordering : State := (ported {}).updSess 63 (fun s => { s with held := [{ seq := 5, ts := 0, marker := true, payload := [], sof := 0, at_ := 0 }], next := some 4 })

/-- Witnesses of `EthernetPorts`. -/
theorem witness_ethernetPorts : allOf [
    cmdEthPort.accepts ethPort0 up && !up.ethUsed (portOf (ethPort0.f 8 1)).val, cmdEthPort.accepts ethPort0 (ported {}) && (ported {}).ethUsed (portOf (ethPort0.f 8 1)).val
      && decide ((ported {}).io.eth[portOf (ethPort0.f 8 1)].mac ≠ BitVec.ofNat 48 (ethPort0.be 12 6)),
    (cmdEthPort.accepts (cmd 2 ([1, 2] ++ le 2 9216)) (ported {})) && (ported {}).io.eth[(1 : Fin 2)].mac == 0 && (ported {}).io.eth[(1 : Fin 2)].speed == 2, ({ speed := 1 } : Eth).speed != 2,
    cmdEthNeighbour.accepts (ethNeighbour0 1) up && (ethNeighbour0 1).f 9 1 == 1, cmdEthNeighbour.accepts (ethNeighbour0 0) up && (ethNeighbour0 0).f 9 1 == 0,
    cmdEthSession.accepts ethSession0 up && ethSession0.f 10 1 == 1 && !up.sessionUsed 63 && up.io.sess[(63 : Fin 64)].cfg.isNone,
    cmdEthSession.accepts ethSession0 (ported {}) && (ported {}).sessionUsed 63 && decide ((ported {}).io.sess[(63 : Fin 64)].cfg ≠ some ethSession0.session),
    cmdEthSession.accepts (cmd 6 ([63, 1, 0, 2, 127, 0] ++ le 2 0xFFFF ++ le 2 5004)) up && (cmd 6 [63, 1, 0]).f 10 1 == 0,
    cmdEthFlow.accepts ethFlow0 up && !up.flowUsed 63 && (lookupN up.io.neigh 255).isNone,
    cmdEthFlow.accepts ethFlow0 (flowing false) && (flowing false).flowUsed 63 && (lookupN (flowing false).io.flow 63).isSome
      && !((lookupN (flowing false).io.flow 63).any (fun f => { f with ident := 0 } == ethFlow0.flow)),
    (flowing true).flowUsed 63 && (lookupN (flowing true).io.flow 63).any (fun f => { f with ident := 0 } == ethFlow0.flow) && (lookupN (flowing true).io.neigh 255).isSome,
    cmdEthFlow.accepts ethFlow0 ({ up with io := { neigh := [(255, { mac := 0, vlan := 0, ip := 0 })] } }), cmdEthPtp.accepts (cmd 1 [1, 1, 127, 1]) up
      && !up.io.eth[portOf ((portOf 1).val + 1)].ptp.en && decide (up.io.eth[portOf 1].ptp ≠ { en := true, domain := 127, transport := 1 }),
    cmdEthPtp.accepts (cmd 1 [0, 1, 0, 0]) (ported {}) && (ported {}).io.eth[portOf ((portOf 0).val + 1)].ptp.en,
    cmdEthPtp.accepts (cmd 1 [1, 1, 0, 0]) (ported {}) && decide ((ported {}).io.eth[portOf 1].ptp = { en := true, domain := 0, transport := 0 }), cmdEthStats.accepts (cmd 1 [1, 1]) up,
    up.live && !up.ethUp 1 && (ported {}).ethUp 1, decide (rtpFrame.length + 4 ≤ 9216), decide (leAt (zeros 18) 14 4 ≠ (crc32 ((zeros 18).take 14)).toNat), decide (9216 < (withFcs (zeros 9213)).length),
    decide (leAt (withFcs rtpFrame) ((withFcs rtpFrame).length - 4) 4 = (crc32 ((withFcs rtpFrame).take ((withFcs rtpFrame).length - 4))).toNat),
    (match etherParse (zeros 14) with | .error d => d == .filter | _ => false),
    (match etherParse rtpFrame with | .ok u => ((ported {}).updEth 1 (·.count 0 1)).sessionFor 1 u == some 63 && ({ up with io := {} } : State).sessionFor 1 u == none | _ => false),
    rtpChecked.isSome, reordering.io.sess[(63 : Fin 64)].held.any (fun q => q.seq == 5) && reordering.io.sess[(63 : Fin 64)].next == some 4 && decide (2 ^ 15 ≤ ((3 : BitVec 16) - 4).toNat),
    (ported {}).unitLive 0x27 && decide ((ported {}).io.eth[(1 : Fin 2)].speed ≠ 0), !up.unitLive 0x27 && up.io.eth[(1 : Fin 2)].speed == 0,
    (ported {}).io.sess[(63 : Fin 64)].cfg.isSome && (ported {}).rtpSlot 63 == some (63, rtpSource) && (up.rtpSlot 63).isNone,
    ((ported { open_ := some { capture := 0 }, assyDue := some 0 }).slotN 63).ing.assyDue == some 0 && (ported {}).slotEth 63 == some 1 && rtpSource.type == .rtp,
    decide ((0 : Nat) < ((ported { open_ := some { capture := 0 }, assyDue := some 1 }).slotN 63).ing.assyDue.getD 0),
    ((ported {}).io.eth[(1 : Fin 2)].queue.map Datagram.prio) == [0, 1], ({ speed := 2 } : Eth).queue.isEmpty] = true := by decide +kernel

/-- A device with a Lantern port in a state, its six ratios nominal. -/
def lit (x : Ltn) : State := { serving with ltn := (Vector.replicate 2 {}).set 1 x }

/-- Ratios at their nominal values, at the lower and the upper edge. -/
def ratios0 (k : Nat) : Vector U32 6 := #v[64, 16, 4, 64, 16, 4].map (fun n => BitVec.ofNat 32 ((n * 65536 * k + 9) / 10))

/-- A port with both chains in one condition. -/
def litAs (x : Ltn) (c : Chain) : State := lit { x with chain := Vector.replicate 2 c }

/-- Witnesses of `LanternAcquisition`. -/
theorem witness_lanternAcquisition : allOf [
    (lit { state := .cal }).ltn[(1 : Fin 2)].state == .cal && (List.finRange 6).all (fun i => decide (9 * (([64, 16, 4, 64, 16, 4] : List Nat).getD i.val 0 * 65536) ≤ 10 * (ratios0 9)[i].toNat
      ∧ 10 * (ratios0 9)[i].toNat ≤ 11 * (([64, 16, 4, 64, 16, 4] : List Nat).getD i.val 0 * 65536))),
    decide ((lit { state := .cal, calAt := 1 }).clock < 1 + 4000) && decide (({ lit { state := .cal } with clock := 4000 } : State).ltn[(1 : Fin 2)].calAt + 4000 ≤ 4000),
    decide (10 * (ratios0 8)[(5 : Fin 6)].toNat < 9 * (4 * 65536)) && decide (11 * (4 * 65536) < 10 * (ratios0 12)[(5 : Fin 6)].toNat), (lit {}).ltn[(1 : Fin 2)].state != .cal && (lit {}).live,
    (lit { state := .acquire }).ltn[(1 : Fin 2)].chain[chainIx true].phase == .idle, (litAs { state := .acquire } { phase := .fine }).ltn[(1 : Fin 2)].chain[chainIx true].phase != .idle,
    decide ((litAs { state := .acquire } { dwellAt := 1 }).clock < (litAs { state := .acquire } { dwellAt := 1 }).ltn[(1 : Fin 2)].chain[chainIx true].dwellAt + 10),
    (litAs { state := .acquire } { phase := .sweep 7 511 }).ltn[(1 : Fin 2)].chain[chainIx true].phase == .sweep 7 511 && decide (512 ≤ 511 + 1)
      && decide ((litAs { state := .acquire } { phase := .sweep 7 511 }).ltn[(1 : Fin 2)].chain[chainIx true].dwellAt + 10 ≤ ({ lit {} with clock := 10 } : State).clock),
    (litAs { state := .acquire } { phase := .sweep 0 0, again := true }).ltn[(1 : Fin 2)].chain[chainIx false].again,
    ({} : Ltn).chain[chainIx true].request.isNone && ({} : Ltn).chain[chainIx true].range != 0 && ({} : Ltn).autoRange,
    ((ringsOf true).find? (fun r => (lit { state := .locked, ring := (Vector.replicate 16 {}).set 15 { relock := .sweep 511 } }).ltn[(1 : Fin 2)].ring[r].sweepStep.isSome)) == some 15,
    (lit { state := .locked, ring := (Vector.replicate 16 {}).set 15 { relock := .sweep 510 } }).ltn[(1 : Fin 2)].ring[(15 : Fin 16)].relock == .sweep 510,
    (litAs { state := .acquire } { phase := .fine, qualifiedAt := some 0 }).ltn[(1 : Fin 2)].chain[(1 : Fin 2)].qualifiedAt == some 0 && decide (max 0 0 + 75000 ≤ 75000),
    (litAs { state := .acquire } { phase := .locked }).ltn[(1 : Fin 2)].chain.toList.all (fun c => c.phase == .locked),
    (lit { state := .fault, upAt := some 0 }).ltn[(1 : Fin 2)].upAt == some 0 && decide ((0 : Nat) + 1000000 ≤ 1000000), (lit { state := .locked }).ltn[(1 : Fin 2)].state == .locked,
    !serving.lfnUp 1 && ({ serving with lfn := linked.lfn } : State).lfnUp 3] = true := by decide +kernel

/-- A port in a state with rings near lock at 50 ms of device time, its chains in one condition. -/
def locking (st : LtnState) (c : Chain) (good : Nat) (f : Ltn → Ltn) : State :=
  { litAs (f { state := st, ring := Vector.replicate 16 { good := good, slope := 65536, codes := 1 } }) c with io := { tbs := { running := true, now := 50000000 } } }

/-- That port after an interval whose lock-in results are at the target. -/
def fined (s : State) : State := ((s.fineInterval 1 true (Vector.replicate 8 0)).slopeless 1 true).updLtn 1 Ltn.limits

/-- Witnesses of `LanternOperation`. -/
theorem witness_lanternOperation : allOf [
    (lit {}).ltn[(1 : Fin 2)].autoRange, !(lit { autoRange := false }).ltn[(1 : Fin 2)].autoRange, (litAs {} { blank := true }).ltn[(1 : Fin 2)].chain[chainIx true].blank,
    !(lit {}).ltn[(1 : Fin 2)].chain[chainIx true].blank, decide ((0 : Nat) + 64 ≤ 64),
    (locking .locked { period := 50 } 0 id).ditherMs == 50, !(locking .off {} 0 id).ltn[(1 : Fin 2)].sweeps true && !(locking .off {} 0 id).ltn[(1 : Fin 2)].runs true,
    (locking .acquire { phase := .sweep 0 0 } 0 id).ltn[(1 : Fin 2)].sweeps true && decide ((locking .acquire { phase := .sweep 0 0 } 0 id).ltn[(1 : Fin 2)].chain[chainIx true].period ≠ 50),
    (locking .locked {} 0 id).ltn[(1 : Fin 2)].runs true && !(locking .locked {} 0 id).ltn[(1 : Fin 2)].sweeps true && ((locking .locked {} 0 id).ltn[(1 : Fin 2)].wanted true 58982).isNone,
    ((locking .locked { range := 0 } 0 id).ltn[(1 : Fin 2)].wanted false 13107) == some 1, ((locking .locked { request := some 3 } 0 (fun x => { x with autoRange := false })).ltn[(1 : Fin 2)].wanted true 0) == some 3,
    (locking .locked { frozen := true } 0 id).ltn[(1 : Fin 2)].chain[chainIx true].frozen,
    !(locking .locked { since := 50 } 0 id).intervalOver 1 true, (locking .locked {} 0 id).intervalOver 1 true && !(locking .locked {} 0 id).ltn[(1 : Fin 2)].chain[chainIx true].frozen,
    (locking .acquire { phase := .fine } 0 id).intervalOver 1 true && !(fined (locking .acquire { phase := .fine } 0 id)).ltn[(1 : Fin 2)].chainGood true,
    (fined (locking .acquire { phase := .fine } 20 id)).ltn[(1 : Fin 2)].chainGood true, (locking .acquire { phase := .locked } 20 id).ltn[(1 : Fin 2)].chain[chainIx true].phase == .locked,
    ((locking .dark {} 0 id).ltn[(1 : Fin 2)].warm).isNone && (locking .dark {} 0 id).intervalOver 1 true, (locking .dark {} 0 (fun x => { x with warm := some 0 })).ltn[(1 : Fin 2)].warm == some 0,
    (lit { state := .locked, ring := Vector.replicate 16 { relock := .fine } }).ltn[(1 : Fin 2)].ring[(15 : Fin 16)].relock == .fine, decide ((0 : Nat) + 100000 ≤ 100000),
    (lit { state := .locked, ring := Vector.replicate 16 { locked := true } }).ltn[(1 : Fin 2)].ring[(15 : Fin 16)].locked, (lit { state := .locked }).live && (lit { state := .locked }).ltn[(1 : Fin 2)].state == .locked,
    (lit { ring := Vector.replicate 16 { faulty := true } }).ltn[(1 : Fin 2)].ring[(15 : Fin 16)].faulty && (lit {}).ltn[(1 : Fin 2)].state == .off,
    (litAs { state := .acquire } { phase := .locked }).ltn[(1 : Fin 2)].chain[(1 : Fin 2)].phase == .locked, (List.finRange 2).all (fun u => ({ serving with ltn := Vector.replicate 2 { state := .locked } } : State).ltn[u].state == .locked),
    (lit { state := .dark }).ltn[(1 : Fin 2)].warm.isNone && !(lit { state := .dark }).ltn[(1 : Fin 2)].resumeCal, (lit { state := .dark, resumeCal := true }).ltn[(1 : Fin 2)].resumeCal,
    (lit { state := .dark, warm := some 0 }).ltn[(1 : Fin 2)].warm == some 0 && decide ((0 : Nat) + 20000 ≤ 20000),
    (litAs { state := .cal } {}).ltn[(1 : Fin 2)].state != .off && !(litAs { state := .cal } {}).ltn[(1 : Fin 2)].chain[chainIx true].dark, (litAs { state := .dark } { dark := true }).ltn[(1 : Fin 2)].chain[chainIx true].dark,
    ({ target := 5 } : Ring).target == 5, decide (0 < signed 32 ({ slope := 1 } : Ring).slope.toNat)] = true := by decide +kernel

/-- A maintenance item of the VPU group. -/
def chore : Item := { id := 0, kind := .maintenance, origin := .maintenance, group := .vpu, level := 3, ctx := 0 }

/-- A device whose engine 31 has this state. -/
def engined (x : Engine) : State := { serving with sched := { eng := (Vector.replicate 32 {}).set 31 x } }

/-- A time-sliced Tower group whose quantum has ended. -/
def shared : State := { serving with sched := { towerShare := { sliced := true, owner := some 0 } } }

/-- An item of level 0 of the VPU group, and a device whose 16 VPUs run an item of level 3. -/
def urgent : Item := { chore with level := 0, origin := .frame 63 0, kind := .step }
def preempting : State := { serving with sched := { eng := Vector.replicate 32 { running := some chore } } }

/-- A step of that job. -/
def jobStep : Item := { id := 0, kind := .step, origin := .job 5, group := .tower, level := 0, ctx := 0 }

/-- A device with a guarded step whose wait is registered or gone. -/
def guardedBy (ws : List Waiter) : State :=
  { serving with sched := { guarded := [chore] }, pip := { watch := ws } }

/-- A Tower group of which two contexts hold items of level 2. -/
def twoOwners : State :=
  { shared with sched := { shared.sched with eng := (Vector.replicate 32 {}).set 0 { queue := (Vector.replicate 4 []).set 2 [{ chore with group := .tower, level := 2, ctx := 5 }] } } }

/-- Witnesses of `WorkPlacement`. -/
theorem witness_workPlacement : allOf [
    serving.live && (serving.released { chore with group := .scan } |>.bind serving.admitItem).isNone, (serving.released chore |>.bind serving.admitItem) == some (chore, none),
    (guardedBy [{ waiter0 with by_ := .item 0 }]).sched.guarded.find? (fun x => x.id == chore.id) == some chore
      && ((guardedBy [{ waiter0 with by_ := .item 0 }]).pip.watch ++ (guardedBy [{ waiter0 with by_ := .item 0 }]).pip.overflow).any (fun w => w.ofItem chore.id),
    !(((guardedBy []).pip.watch ++ (guardedBy []).pip.overflow).any (fun w => w.ofItem chore.id)),
    (serving.place chore) == .start 8, (preempting.place urgent) == .preempt 8, (preempting.place { urgent with level := 3 }) == .queue 8,
    (serving.sched.eng[(31 : Fin 32)]).incoming.isNone, (engined { incoming := some chore }).sched.eng[(31 : Fin 32)].incoming == some chore && !chore.saved,
    (engined { incoming := some { chore with saved := true } }).live && (engined { incoming := some chore, saved := some chore }).sched.eng[(31 : Fin 32)].saved == some chore,
    decide (({ chore with id := 7 } : Item).placedAt + 50000 ≤ 50000), decide (({ shared with sched := { towerShare := { quantumEnd := 1 } } } : State).clock < (({ shared with sched := { towerShare := { quantumEnd := 1 } } } : State).shareOf false).quantumEnd),
    (serving.shareOf true).owner.isNone, (shared.shareOf false).sliced && (shared.shareOf false).owner.isSome && decide ((shared.shareOf false).quantumEnd ≤ shared.clock),
    nextOwner (twoOwners.l2ctx (shareGroup false)) (twoOwners.shareOf false).lastOwner == some 5,
    (engined { yield_ := true, running := some chore }).sched.eng[(31 : Fin 32)].yield_ && (engined { yield_ := true }).sched.eng[(31 : Fin 32)].saved.isNone && (engined {}).live,
    ((engined { running := some chore }).engN 31).running.isSome] = true := by decide +kernel

/-- Witnesses of the clauses of `WorkPlacement` about steps of jobs: one whose input can be read, and one whose input cannot. -/
theorem witness_jobStep : allOf [
    ((withJob job0).admitItem jobStep).isSome, ((withJob job0).jobInput jobStep 255).2.isNone, ({ withJob { job0 with inVa := 2 ^ 40 - 64 } with mem := { (withJob { job0 with inVa := 2 ^ 40 - 64 }).mem with models := [(63, { model0 with inC := 1, inH := 1, inW := 1 })] } } : State).jobInput jobStep 255 |>.2.isSome] = true := by decide +kernel

/-- A 1 × 1 convolution of one channel on the integer path, INT8. -/
def conv0 : Conv :=
  { kh := 1, kw := 1, sy := 1, sx := 1, dy := 1, dx := 1, padT := 0, padB := 0, padL := 0, padR := 0, groups := 1, cin := 1, cout := 1, h := 1, w := 1
    fmt := 5, c32 := true, pad := 0, inAt := 0x010000000000 }

/-- One tile-run of it. -/
def run0 : TileRun :=
  { path := .half, conv := { conv0 with fmt := 1 }, pack := .wide, wfmt := 1, weights := [0x00, 0x3C], group := 0, n0 := 0, cols := 1, tile := 0, run := [(0, 0)], last := none }

/-- A step of instance 255 in slot 63's frame 0. -/
def stepItem : Item := { id := 1, kind := .step, origin := .frame 63 0, group := .tower, level := 0, ctx := 0, model := some 63 }

/-- A device in which every engine runs an item and every Tower and VPU loads an image. -/
def working (i : Item) (load : Bool) : State :=
  { loaded with gate := Vector.replicate 56 { powered := true }
                sched := { eng := Vector.replicate 32 { running := some i, nextDue := some 0 } }
                str := { tower := Vector.replicate 8 { loading := load, fails := [0, 0] }, vpu := Vector.replicate 16 { loading := load }, st := { ssuDue := some 0, trkVec := true } } }

/-- The format of a picture of 640 × 480. -/
def fmt0 : Fmt := { w := 640, h := 480, depth := 8, chroma := .yuv420, matrix := .bt709, full := false, sarW := 1, sarH := 1, conf := [0, 0, 0, 0] }

/-- Frame 0 at a stage, its source buffer held. -/
def frame0 (k : Nat) : Frame := { seq := 0, stage := k, capture := 0, endTime := 0, src := some 0, auBytes := 100, fmt := some fmt0, pitch := 640 }

/-- A view's values. -/
def vcfg0 : ViewCfg := { codec := .h265, width := 128, height := 128, rc := 0, flow := 0, kbps := 64 }

/-- A device in which every engine runs an item of frame 0 of slot 63, which is at a stage that may begin. -/
def framed (kind : ItemKind) (x : Slot) (f : Frame) : State :=
  let s := working { stepItem with kind := kind } false
  { s with str := { s.str with slot := (Vector.replicate 64 {}).set 63 { x with state := .running, frames := [f] }, encoding := some (3, 0)
                               view := (Vector.replicate 4 {}).set 3 { en := true, slot := 63, caps := [(0, vcfg0)] } }
           pip := { pips := (List.range (f.stage)).map (fun k => (130496 + 9 * 63 + k, { value := 1 })) } }

/-- The first word of the Feature Store is poisoned. -/
def poisonAt0 (s : State) : State := { s with str := { s.str with fs := { s.str.fs with poison := [0] } } }

/-- That tile-run, the last of its run. -/
def run1 : TileRun := { run0 with last := some { bias := none, scale := none, act := .none, pool := none, c32 := true, outAt := 0x010000000040 } }

/-- The same with an input outside the partition. -/
def far (r : TileRun) : TileRun := { r with conv := { r.conv with inAt := r.conv.inAt + 65536 } }

/-- A request through the outbound window that waits. -/
def wreq0 : WindowReq := { write := false, addr := 0, len := 64, item := none }

/-- A probe of an engine, for a reason. -/
def probeItem (b : ProbeBy) : Item := { stepItem with kind := .probe, origin := .probe b, only := some 7 }

/-- Witnesses of `TowerItems`: ends of items. -/
theorem witness_towerItems : allOf [
    (working stepItem false).live && (working stepItem false).engRuns 0 == some stepItem && (working stepItem false).engRuns 23 == some stepItem && !(working stepItem false).itemHeld stepItem,
    (({ working stepItem false with host := { up.host with pcie := { busMaster := true, outWait := [{ wreq0 with item := some 1 }] } } } : State).itemHeld stepItem), (serving.engRuns 0).isNone,
    !(working stepItem false).outputOk stepItem [(0x10000000, [1])] && (working stepItem false).outputOk stepItem [],
    (framed .step slot0 (frame0 3)).outside stepItem [(fsBase, 1)] == none && (framed .step slot0 (frame0 3)).outside stepItem [(fsBase + 65536, 1)] == some (fsBase + 65536)
      && (framed .step slot0 (frame0 3)).engRuns 7 == some stepItem,
    (working { jobStep with last := true } false).live && (({ working { jobStep with last := true } false with mem := (withJob job0).mem } : State).outputOk { jobStep with last := true } [(0x10000000, zeros 64)]),
    decide ((0 : Nat) ≤ 0 + 1000000) && (({ lastUe := some 0 } : Vpu).lastUe == some 0) && ({} : Vpu).lastUe.isNone,
    ((working stepItem true).engN 7).running == some stepItem && (working stepItem true).str.tower[(7 : Fin 8)].loading && (working stepItem true).unitLive 7
      && (lookupN (working stepItem true).mem.models 63).isSome && ([] : List (List Byte)).all bookOk && !([[]] : List (List Byte)).all bookOk,
    ((working stepItem true).engN (8 + 15)).running == some stepItem && (working stepItem true).str.vpu[(15 : Fin 16)].loading && (working stepItem true).unitLive (8 + 15)] = true := by decide +kernel

/-- Witnesses of `TowerItems`: tile-runs and retries. -/
theorem witness_tileRuns : allOf [
    run0.ok && run1.ok && run1.follows none && !run0.follows none && stepItem.retry.isNone, !({ run1 with cols := 0 } : TileRun).ok,
    (framed .step slot0 (frame0 3)).outside stepItem (run1.reads.map (fun a => (a, actBytes run1.conv.fmt))) == none
      && run1.reads.all (fun a => !(framed .step slot0 (frame0 3)).readUe a (actBytes run1.conv.fmt)) && (working stepItem false).kpr.inject.isNone,
    ((framed .step slot0 (frame0 3)).outside stepItem ((far run1).reads.map (fun a => (a, actBytes run1.conv.fmt)))).isSome && (far run1).ok && (far run1).follows none,
    run1.reads.any (fun a => (poisonAt0 (working stepItem false)).readUe a (actBytes run1.conv.fmt)),
    ((working stepItem false).tileOut 7 run1 []).2, !((working stepItem false).tileOut 7 run1 [(.cell 0 0, 0x7F800000)]).2,
    ({ working stepItem false with kpr := { inject := some (4, 7) } } : State).kpr.inject == some (4, 7),
    (working { stepItem with retry := some run1 } false).engRuns 7 == some { stepItem with retry := some run1 },
    decide (3 ≤ (0 :: (working stepItem false).str.tower[(7 : Fin 8)].fails.filter (fun c => (working stepItem false).clock ≤ c + 1000000)).length),
    decide ((0 :: (({} : Tower).fails.filter (fun c => decide ((0 : Nat) ≤ c + 1000000)))).length < 3)] = true := by decide +kernel

/-- Witnesses of `TowerItems`: run limits, probes, vectors and the scrubber. -/
theorem witness_probes : allOf [
    ((working { stepItem with ran := 6000000 } false).engN 7).running == some { stepItem with ran := 6000000 } && decide (400000 * 15 ≤ ({ stepItem with ran := 6000000 } : Item).ran), decide (stepItem.ran < 400000 * 15),
    ((working stepItem false).engN 7).nextDue == some 0 && decide ((0 : Nat) ≤ (working stepItem false).clock) && (working stepItem false).unitLive 7, ({ nextDue := some 5 } : Engine).nextDue == some 5,
    (working (probeItem .due) false).engRuns 7 == some (probeItem .due), (working (probeItem .diag) false).engRuns 7 == some (probeItem .diag),
    ((((serving.updEngN 7 (fun x => { x with incoming := some (probeItem .check) })).engN 7).incoming.toList ++ ((serving.engN 7).queue.toList).flatten ++ serving.sched.waiting).find?
      (fun i => i.only == some 7 && i.origin == .probe .check)).isSome,
    (working stepItem false).str.st.ssuDue == some 0 && (working stepItem false).str.st.trkVec && (working stepItem false).unitLive 0x1F && (working stepItem false).unitLive 0x20 && !(working stepItem false).str.st.ssuVec,
    ({ trkDue := some 0, ssuVec := true } : SsuTrk).ssuVec && ({ trkDue := some 0 } : SsuTrk).trkDue == some 0, ((working stepItem false).engN 31).nextDue == some 0 && (working stepItem false).unitLive (unitOfEng 31),
    (working { stepItem with kind := .vector } false).engRuns 31 == some { stepItem with kind := .vector },
    (working stepItem false).kpr.inject.isNone && decide ((working stepItem false).str.fs.pos + 1 < 16777216)] = true := by decide +kernel

/-- A decoded slot, of class Q. -/
def vslot : Slot := { slot0 with src := some rtpSource, ana := some { ana0 with framePool := some 0 } }

/-- A picture that opens a sequence. -/
def pic0 : Picture := { irap := true, fmt := fmt0, decl := { profile := .main265, level := 40 } }

/-- A survivor that covers the frame. -/
def surv0 : Surv := { cls := 0, score := 0x7FFF, x := 0, y := 0, w := 65535, h := 65535 }

/-- A slot whose decoder is in step. -/
def insync : Slot := { vslot with dec := { sync := true } }

/-- Frame 0 of that slot while a VDE decodes it, in a device whose pool 0 has these buffers. -/
def decoding (x : Slot) (f : Frame) (p : Pool) : State :=
  let s := framed .decode x { f with busy := true }
  { s with bpm := { pool := (Vector.replicate 16 {}).set 0 p } }

/-- A list pool of two buffers that hold a picture of 640 × 480, and one with none free. -/
def picPool : Pool := { pool0 with bufBytes := 1048576, base := 0x20000000 }
def noPool : Pool :=
  { pool0 with bufBytes := 1048576, free := 0, listEmpty := true, bufs := [(0, { gen := 1, alloc := true }), (1, { gen := 1, alloc := true })] }

/-- Frame 0 while a VDE decodes it. -/
def frameB : Frame := { frame0 1 with busy := true }

/-- Witnesses of `VideoAndPreprocessing`: the VDE. -/
theorem witness_video : allOf [
    (decoding insync (frame0 1) picPool).live && (decoding insync (frame0 1) picPool).engRuns (28 + 3) == some { stepItem with kind := .decode },
    ((decoding insync (frame0 1) picPool).slotN 63).frame? 0 == some frameB && frameB.stage == 1 && frameB.waitPic.isNone && (((decoding insync (frame0 1) picPool).slotN 63).frame? 1).isNone,
    ((framed .decode insync (frame0 1)).slotN 63).frame? 0 == some (frame0 1) && !(frame0 1).busy, (((decoding insync (frame0 1) picPool).slotN 63).ana.bind AnaCfg.framePool) == some 0,
    ({ frameB with waitPic := some (fmt0, []) } : Frame).waitPic.isSome, ({ frameB with damaged := true } : Frame).damaged && pic0.firstSlice && !({ pic0 with ref := false } : Picture).ref && pic0.ref,
    !frameB.damaged && !frameB.reissued && !frameB.discont && ((decoding insync (frame0 1) picPool).slotN 63).dec.sync,
    !decSupports ((decoding insync (frame0 1) picPool).slotN 63).codec ({ pic0.decl with level := 60 }) fmt0, decSupports ((decoding insync (frame0 1) picPool).slotN 63).codec pic0.decl pic0.fmt,
    ({ pic0 with refUe := true } : Picture).refUe && !pic0.refUe, picError ((decoding insync (frame0 1) picPool).slotN 63).dec { pic0 with error := true }, !picError ((decoding insync (frame0 1) picPool).slotN 63).dec pic0,
    ((((decoding insync (frame0 1) picPool).markRefs 3 63 none []).updDec 63 (decAfter · pic0)).updVde 3 (fun x => { x with pics := x.pics + 1 }) |>.slotN 63).dec.sync,
    (match ((decoding insync (frame0 1) picPool).poolFill 0).bufTry 0 (decBytes fmt0) ((decoding insync (frame0 1) picPool).slotN 63).cls (9 + 3) (.frame 63 0) with
      | (u, some (.grant _ h)) => (u.bufPut (0x18 + 3) h 0 (picBytes fmt0 [])).2.isNone | _ => false),
    (match (decoding insync (frame0 1) noPool).bufTry 0 (decBytes fmt0) ((decoding insync (frame0 1) noPool).slotN 63).cls (9 + 3) (.frame 63 0) with
      | (_, some (.empty _)) => true | _ => false),
    (decoding insync (frame0 1) picPool).decodeOver { stepItem with kind := .decode, ran := 10 ^ 9 } && !(decoding insync (frame0 1) picPool).decodeOver { stepItem with kind := .decode }] = true := by decide +kernel

/-- Witnesses of `VideoAndPreprocessing`: the views and the pipes. -/
theorem witness_videoAndPreprocessing : allOf [
    (framed .decode vslot (frame0 1)).str.view[(3 : Fin 4)].caps == [(0, vcfg0)], (framed .decode vslot (frame0 1)).str.view[(0 : Fin 4)].caps == [],
    (framed .decode vslot (frame0 1)).str.encoding == some ((3 : Fin 4).val, 0), !isParam .h265 [0x26, 1]
      && decide (2 ≤ ((framed .decode vslot (frame0 1)).flowFrame 0).1 - (if ((framed .decode vslot (frame0 1)).flowFrame 0).2 then 62 else 82)),
    (framed .decode vslot (frame0 1)).frameView 3 63 0 == (framed .decode vslot (frame0 1)).str.view[(3 : Fin 4)].cfg,
    (framed .decode vslot { frame0 1 with viewCfg := [(3, vcfg0)] }).frameView 3 63 0 != (framed .decode vslot (frame0 1)).str.view[(3 : Fin 4)].cfg, up.str.encoding.isNone,
    (match (framed .crop slot0 (frame0 5)).cropSome 1 63 (frame0 5) fmt0 model0 0 ((framed .crop slot0 (frame0 5)).reader 0 0) [] with | (_, .done) => true | _ => false),
    (match ({ framed .crop slot0 (frame0 5) with bpm := { pool := (Vector.replicate 16 {}).set 0 noPool } } : State).cropSome 1 63 (frame0 5) fmt0 model0 0
        ((framed .crop slot0 (frame0 5)).reader 0 0) [surv0] with | (_, .empty) => true | _ => false),
    (match ({ framed .crop slot0 (frame0 5) with bpm := { pool := (Vector.replicate 16 {}).set 0 picPool } } : State).cropSome 1 63 (frame0 5) fmt0 { model0 with inW := 1, inH := 1 } 0
        ((framed .crop slot0 (frame0 5)).reader 0 0) [surv0] with | (_, .ratio) => true | _ => false),
    (framed .prep slot0 (frame0 2)).engRuns (24 + 1) == some { stepItem with kind := .prep }
      && (framed .prep slot0 (frame0 2)).itemFrame { stepItem with kind := .prep } == some (63, frame0 2) && (framed .prep slot0 (frame0 3)).itemFrame { stepItem with kind := .prep } == some (63, frame0 3),
    ((framed .prep slot0 { frame0 2 with gap := some .fault }).itemFrame { stepItem with kind := .prep }).isNone,
    (framed .crop slot0 (frame0 5)).engRuns (26 + 1) == some { stepItem with kind := .crop } && (framed .crop slot0 (frame0 5)).itemFrame { stepItem with kind := .crop } == some (63, frame0 5),
    (framed .prep slot0 (frame0 2)).ppeOver { stepItem with kind := .prep, ran := 10 ^ 9 } && !(framed .prep slot0 (frame0 2)).ppeOver { stepItem with kind := .prep },
    (frame0 2).image ((framed .prep slot0 (frame0 2)).slotN 63).decoded == some 0 && ((framed .prep slot0 (frame0 2)).instModel 255).isSome
      && (lookupN (framed .prep slot0 (frame0 2)).mem.insts 255).isSome && (({ framed .prep slot0 (frame0 2) with bpm := { pool := (Vector.replicate 16 {}).set 0 { noPool with va := 2 ^ 40 - 4096 } } } : State).bufGet (0x1D + 1) 0 (frame0 2).imageBytes |>.2.isSome),
    ({ framed .prep slot0 (frame0 2) with bpm := { pool := (Vector.replicate 16 {}).set 0 { picPool with bufs := [(0, { gen := 0, alloc := true })] } } } : State).bufGet (0x1D + 1) 0 (frame0 2).imageBytes |>.2.isNone,
    scanRatioOk fmt0.w (prepGeom fmt0 640 480).2.2.1 && scanRatioOk fmt0.h (prepGeom fmt0 640 480).2.2.2 && !scanRatioOk fmt0.w (prepGeom fmt0 1 1).2.2.1,
    scanRatioOk fmt0.w (prepGeom fmt0 model0.inW model0.inH).2.2.1 && scanRatioOk fmt0.h (prepGeom fmt0 model0.inW model0.inH).2.2.2,
    ({ ana0 with emb := some 255, cropPool := some 0 } : AnaCfg).cropPool == some 0] = true := by decide +kernel

/-- Slot 63 with frame 0 at SELECT or TRACK, its unit at work on it. -/
def atUnit (f : Frame) (x : Slot) : State :=
  let s := framed .step x { f with turn := { stage := f.stage } }
  { s with str := { s.str with st := { ssuRun := some (63, 0) } } }

/-- The same with a record pool. -/
def recording (f : Frame) (p : Pool) : State := { atUnit f slot0 with bpm := { pool := (Vector.replicate 16 {}).set 0 p } }

/-- Frame 0 as it then is. -/
def frameT (k : Nat) : Frame := { frame0 k with turn := { stage := k } }

/-- A time at which any item has run too long. -/
def late (s : State) : State := { s with clock := 10 ^ 9 }

/-- Witnesses of `SelectAndTrack`. -/
theorem witness_selectAndTrack : allOf [
    (atUnit (frame0 4) slot0).live && (atUnit (frame0 4) slot0).unitLive 0x1F && (atUnit (frame0 4) slot0).frameTurn 63 4 == some (frameT 4) && (atUnit (frame0 4) slot0).str.st.ssuRun == some (63, (frameT 4).seq)
      && ((atUnit (frame0 4) slot0).slotN 63).ana == some ana0 && ((atUnit (frame0 4) slot0).instModel 255).isSome && (frameT 4).gap.isNone && (lookupN (atUnit (frame0 4) slot0).mem.insts 255).isSome,
    !(atUnit (frame0 4) slot0).readUe 0x010000000000 (16 + 16 * min 32768 ((atUnit (frame0 4) slot0).memNat 0x010000000000 4)),
    (poisonAt0 (atUnit (frame0 4) slot0)).readUe 0x010000000000 16,
    (atUnit (frame0 7) slot0).unitLive 0x20 && (atUnit (frame0 7) slot0).unitLive 0x1F && !((atUnit (frame0 7) slot0).slotN 63).copying && (atUnit (frame0 7) slot0).frameTurn 63 7 == some (frameT 7)
      && !((atUnit (frame0 7) slot0).slotN 63).needsCost (frameT 7) && !(frameT 7).busy && (frameT 7).turn.stage == 7,
    ({ slot0 with tracks := [{ id := 1, cls := 0, score := 0, confirmed := true, hits := 0, misses := 0, age := 0, time := 0, cx := ⟨0, 0, 0, 0, 0⟩, cy := ⟨0, 0, 0, 0, 0⟩
                               w := ⟨0, 0, 0, 0, 0⟩, h := ⟨0, 0, 0, 0, 0⟩, gal := [some []] }] } : Slot).needsCost { frame0 7 with emb := [(0, [])] },
    ((atUnit (frame0 7) { slot0 with copying := true }).slotN 63).copying && (atUnit (frame0 7) { slot0 with copying := true }).live,
    (match ((recording (frame0 7) { pool0 with base := 0x20000000 }).poolFill 0).bufTry ana0.recPool (((recording (frame0 7) pool0).slotN 63).recSize (frameT 7)) ana0.cls 15 (.record 63 0) with
      | (_, some (.grant _ _)) => true | _ => false),
    (match (recording (frame0 7) { pool0 with free := 0, listEmpty := true, bufs := [] }).bufTry ana0.recPool (((recording (frame0 7) pool0).slotN 63).recSize (frameT 7)) ana0.cls 15 (.record 63 0) with
      | (_, some (.empty _)) => true | _ => false),
    (late (atUnit (frame0 4) slot0)).ssuTrkOver false && (late (atUnit (frame0 7) slot0)).ssuTrkOver true && !(atUnit (frame0 4) slot0).ssuTrkOver false,
    (List.range 63).all (fun n => ((atUnit (frame0 7) slot0).frameTurn n 7).isNone)] = true := by decide +kernel

/-- A device whose slot 63 has a result ring of 4 KiB and a record at POST. -/
def posting (x : Slot) (r : Rrg) : State :=
  let s := framed .step x { frame0 8 with record := zeros 64 }
  { s with host := { s.host with rrg := s.host.rrg.set 63 r } }

/-- Witnesses of `ResultRings`. -/
theorem witness_resultRings : allOf [
    (posting { slot0 with res := some (.flow 63) } {}).live && (posting { slot0 with res := some (.flow 63) } {}).frameTurn 63 8 == some { frame0 8 with record := zeros 64 },
    ((posting slot0 { en := true, log2 := 12 }).slotN 63).res == some .ring && (posting slot0 { en := true, log2 := 12 }).ringFits 63 64
      && (occupied ((posting slot0 {}).recordRead { frame0 8 with record := zeros 64 }).length) == 64,
    !(posting { slot0 with roomDue := some 0 } { en := true, log2 := 12, read := 64 }).ringFits 63 64 && ((posting { slot0 with roomDue := some 0 } {}).slotN 63).roomDue == some 0,
    ((posting slot0 {}).slotN 63).roomDue.isNone, (up.frameTurn 63 8).isNone,
    (posting slot0 { en := true, log2 := 12, write := 4032 }).barUp && (posting slot0 { en := true, log2 := 12, write := 4032 }).host.rrg[(63 : Fin 64)].readOk 4032 && !({ log2 := 12, write := 64 } : Rrg).readOk 128,
    !up.host.rrg[(63 : Fin 64)].en, ((((posting { slot0 with roomDue := some 0 } { en := true, log2 := 12 }).updRrg 63 (fun r => { r with read := 0, armed := true })).ringEval 63).slotN 63).roomDue == some 0,
    decide (17 ≤ bitsOf 0x3F000000 24 6) && decide (bitsOf 0x10000000 24 6 < 17), !(booting0 4).barUp, !({ armed := false } : Rrg).armed,
    ringing.msixTakes (({ vector := 63 } : Rrg).vector.toFin) && !({ ringing with host := { ringing.host with pcie := {} } } : State).msixTakes 63,
    decide (({ en := true } : Rrg).en = true ∧ max 1 ({ sinceMsg := 1 } : Rrg).count.toNat ≤ ({ sinceMsg := 1 } : Rrg).sinceMsg),
    ({ oldestAt := some 0, timeoutUs := 5 } : Rrg).oldestAt == some 0 && decide (({ timeoutUs := 5 } : Rrg).timeoutUs ≠ 0) && decide ((0 : Nat) + 5 ≤ 5)] = true := by decide +kernel

/-- A stopped device, with an event waiting that is no reset. -/
def stopped0 : State := { up with kpr := { stopped := true, fault := 2 }, pending := [.tbsLockTimer] }

/-- Witnesses of `StopHolds`, `StopEntered`, `ResetValues` and `OffLeftByPorOnly`. -/
theorem witness_stop : allOf [
    stopped0.halted && resetFree stopped0.pending, up.kprRuns && up.boot.stage == 0xF && !up.boot.hostWait && !up.kpr.stopped,
    ({ sup := { power := .off }, pending := [.tbsLockTimer] } : State).sup.power == .off, up.live && !(State.reset).live] = true := by decide +kernel

/-- The image passes every check (witness of the accepted clauses of `BootStages`). -/
theorem witness_image : (imageReason imageFuses stagedUp.stagingRead == .ok) = true := by decide +kernel

/-- The header of an accepted image passes its checks. -/
theorem header_of_image (f : Fuses) (rd : Nat → Nat → List Byte) (h : imageReason f rd = .ok) : headerReason f (rd 0 512) = .ok := by
  dsimp only [imageReason] at h
  split at h
  · assumption
  · contradiction

/-- The header as it is staged. -/
theorem witness_stagedHeader : stagedUp.stagingRead 0 512 = image0.take 512 := by decide +kernel

/-- It is what stage 0x06 checks, and what BOOT_HOST_GO does. -/
theorem witness_staged_image : imageReason (imaged 6 true false).sup.fuses (imaged 6 true false).stagingRead = .ok
    ∧ stagedUp.stagedReason stagedUp.boot.hostLen.toNat = .ok := by
  have h : imageReason stagedUp.sup.fuses stagedUp.stagingRead = .ok := eq_of_beq witness_image
  have l : bodyLen (image0.take 512) = 1 := by decide +kernel
  refine ⟨h, ?_⟩
  unfold State.stagedReason
  rw [if_neg (by decide), header_of_image _ _ h, if_neg (by decide), witness_stagedHeader, if_neg (by rw [l]; decide)]
  exact h

/-- The header in the flash passes checks 1 to 6, in either place (witness of the choice of image in `BootStages`). -/
theorem witness_headers : (imaged 5 true false).headReason false false = .ok ∧ (imaged 5 false true).headReason true false = .ok
    ∧ (imaged 5 false true).headReason false false ≠ .ok := by
  have h := header_of_image _ _ (eq_of_beq witness_image)
  rw [witness_stagedHeader] at h
  refine ⟨?_, ?_, by decide +kernel⟩ <;> simp only [State.headReason, Bool.false_eq_true, if_false, State.imageHeader]
  · rw [flashRead_bytesAt _ _ _ image0 rfl (by decide +kernel)]; exact h
  · rw [flashRead_bytesAt _ _ _ image0 rfl (by decide +kernel)]; exact h

/-- The package header with its digest. -/
def pkgDigested : List Byte :=
  pkgHead.take 16 ++ leBytes 32 0x8DA8B912D08169071B8C1B73A983962A0DD372987A6E12AEBC7081BCCD33E818 ++ pkgHead.drop 48

/-- A context that holds it. -/
def digested : State := { owning with mem := { owning.mem with cells := cellsWrite [] 0x10000000 pkgDigested } }

/-- The same with a key for the model whatever the free value is, and its pages as a load leaves them while it reads. -/
def digesting : State :=
  (digested.protect 0 { va := 0x10000000, pa := 0x10000000, bytes := 2 ^ 21, page := 4096 } ((0x10000000, 4096) :: digested.packages 0)).readSense 0x10000000 4096

/-- A valid package in memory (witness of the OK clause of `ModelCommands`, with `witness_package_key`), and one that cannot be read. -/
theorem witness_package : allOf [
    cmdModelLoad.takes (cmd 2 (le 8 0x10000000 ++ le 8 4096)) digested, (digested.regionOf 0 0x10000000 4096).isSome,
    packageOk (digested.memRead 0x10000000 128) 4096 && !digesting.readUe 0x10000000 4096,
    sha256 ((digesting.memRead 0x10000000 4096).drop 48) == ((digesting.memRead 0x10000000 128).drop 16).take 32,
    ({ digested with mem := { digested.mem with ecc := [(0x400000, .uncorrectable)] } } : State).readUe 0x10000000 4096] = true := by decide +kernel

/-- A table with all 64 model numbers. -/
def allModels : List (Nat × Model) := (List.range 64).map (fun k => (k, model0))

/-- No model number is free where all 64 are in use, whatever the free value is. -/
theorem witness_noKey : (digested.pickKey allModels 64).1 = none := by
  have h : ∀ w < 64, (lookupN allModels w).isNone = false := by decide +kernel
  rw [State.pickKey]
  simp only [h _ (Nat.mod_lt _ (by decide))]
  decide +kernel

/-- No room in DRAM for more than it has, wherever firmware looks first. -/
theorem witness_noDram : (roomy.pickDram (2 ^ 40) 4096).1 = none := by
  have h : roomy.dramSize < 2 ^ 40 := by decide +kernel
  have g : ∀ w, (decide (w + 2 ^ 40 ≤ roomy.dramSize)) = false := fun w => decide_eq_false (by omega)
  rw [State.pickDram]
  simp only [g, Bool.false_and]
  decide +kernel

/-- A model number is free there, whatever the free value is. -/
theorem witness_package_key : ∃ id u, digested.pickKey digested.mem.models 64 = (some id, u) :=
  ⟨_, _, rfl⟩

end Sys2Proof.Tests
end

/-!
Proof of `VectorZero` (R135): the rules for a change of an interrupt source and for a message on a vector, then the two
register writes that make vector 0 send again.
-/
namespace Sys2Proof.Machine
open Sys2Proof

/-! ### The rules of vector 0 -/

/-- The enabled status becomes non-zero: vector 0 requests a message (R135). -/
theorem raising_of_rise {s : State} {f : State → State} (before : s.intActive = false) (after : (f s).intActive = true) :
    s.raising f = (f s).sendMsix 0 := by
  simp [State.raising, before, after]

/-- The enabled status was non-zero already, or is zero after the change: no message (R135). -/
theorem raising_of_no_rise {s : State} {f : State → State} (h : s.intActive = true ∨ (f s).intActive = false) :
    s.raising f = f s := by
  rcases h with before | after
  · simp [State.raising, before]
  · simp [State.raising, after]

/-- Nothing holds a message back: it is sent with the address and the data of its vector (R134, R149). -/
theorem sendMsix_of_open {s : State} {v : Fin 64} (enabled : s.host.pcie.msixEnable = true)
    (funcOpen : s.host.pcie.funcMask = false) (vectorOpen : s.host.msix[v].mask = false) (request : s.canRequest = true) :
    s.sendMsix v = s.emit (.msix v.val s.host.msix[v].addr s.host.msix[v].data) := by
  have takes : s.msixTakes v = true := by simp [State.msixTakes, enabled]
  simp only [State.sendMsix, takes, enabled, funcOpen, vectorOpen, request, Bool.not_true, Bool.or_self, Bool.false_eq_true,
    if_false]

/-! ### The registers of the interrupt block -/

/-- The interrupt block after a write of `value` to INT_STATUS: a 1 clears its bit, and the three sources that other registers
hold (bits 1, 2 and 7) stay (R135). -/
def IntBlk.cleared (value : U32) (i : IntBlk) : IntBlk :=
  { i with
    boot := i.boot && !value.getLsbD 0, fwSwitch := i.fwSwitch && !value.getLsbD 3
    bar2Miss := i.bar2Miss && !value.getLsbD 4, dbDrop := i.dbDrop && !value.getLsbD 5
    badAccess := i.badAccess && !value.getLsbD 6, mbxErr := i.mbxErr && !value.getLsbD 8
    unit := i.unit && !value.getLsbD 9 }

/-- A write of INT_STATUS clears what it names, and vector 0 sends again if a source stays. -/
theorem exec_intStatusWrite_of_barUp {s : State} (up : s.barUp = true) (value : U32) :
    exec (.intStatusWrite value) s = .next (s.updInt (IntBlk.cleared value)).resend := by
  change whenBar s (fun s => (s.updInt (IntBlk.cleared value)).resend) = _
  rw [whenBar, if_pos up]

/-- A write of INT_ENABLE replaces the enables, and vector 0 sends again if the enabled status is non-zero then. -/
theorem exec_intEnableWrite_of_enablesUp {s : State} (up : s.enablesUp = true) (value : U32) :
    exec (.intEnableWrite value) s
      = .next (s.updInt (fun i => { i with enable := BitVec.ofNat 10 value.toNat })).resend := by
  change execIntEnableWrite value s = _
  rw [execIntEnableWrite, if_pos up]

/-- A change of the interrupt block leaves everything outside the host interface. -/
theorem updInt_restore_host (s : State) (f : IntBlk → IntBlk) : ({ s.updInt f with host := s.host } : State) = s := rfl

/-! ### The obligation -/

/-- Settles O34: a source's change raises vector 0 exactly at the rise of the enabled status (`raising_of_rise`,
`raising_of_no_rise`), the events of SUP, of KPR and of the
units are such changes by definition, and both register writes end in `State.resend`. -/
theorem vectorZero : Obligations.VectorZero := by
  refine ⟨fun s f => ⟨raising_of_rise, raising_of_no_rise⟩, fun s => sendMsix_of_open (v := 0), fun s b => rfl, fun s b => rfl,
    fun s => rfl, fun value s up => ?_, fun value s up => ?_⟩
  · exact ⟨s.updInt (IntBlk.cleared value), updInt_restore_host s _, exec_intStatusWrite_of_barUp up value⟩
  · exact ⟨s.updInt (fun i => { i with enable := BitVec.ofNat 10 value.toNat }), updInt_restore_host s _, rfl,
      exec_intEnableWrite_of_enablesUp up value⟩

end Sys2Proof.Machine

/-!
Proof of `FreeChecks` (R245, R256, R257): the state table of a pool, what a write to memory leaves of the pools, what a
change of one pool does to it and to the others, the free store after a free, and the parts of a handle.
-/
namespace Sys2Proof.Machine
open Sys2Proof

/-! ### Tables -/

/-- A key that was just set. -/
@[simp] theorem lookupN_insertN_same {α : Type} (l : List (Nat × α)) (k : Nat) (v : α) :
    lookupN (insertN l k v) k = some v := by
  induction l with
  | nil => simp [insertN, lookupN]
  | cons c cs ih =>
    rw [insertN]
    split_ifs with below eq
    · simp [lookupN]
    · simp [lookupN]
    · simp [lookupN, Ne.symm eq, ih]

/-- Setting a key leaves the others. -/
theorem lookupN_insertN_other {α : Type} (l : List (Nat × α)) {k j : Nat} (v : α) (h : j ≠ k) :
    lookupN (insertN l k v) j = lookupN l j := by
  induction l with
  | nil => simp [insertN, lookupN, h.symm]
  | cons c cs ih =>
    rw [insertN]
    split_ifs with below eq
    · simp [lookupN, h.symm]
    · simp [lookupN, ← eq, h.symm]
    · simp [lookupN, ih]

/-- A key that was just removed. -/
@[simp] theorem lookupN_eraseN_same {α : Type} (l : List (Nat × α)) (k : Nat) : lookupN (eraseN l k) k = none := by
  induction l with
  | nil => rfl
  | cons c cs ih =>
    by_cases eq : c.1 = k
    · simpa [eraseN, eq] using ih
    · simpa [eraseN, eq, lookupN] using ih

/-- Removing a key leaves the others. -/
theorem lookupN_eraseN_other {α : Type} (l : List (Nat × α)) {k j : Nat} (h : j ≠ k) :
    lookupN (eraseN l k) j = lookupN l j := by
  induction l with
  | nil => rfl
  | cons c cs ih =>
    by_cases eq : c.1 = k
    · simpa [eraseN, eq, lookupN, h.symm] using ih
    · simpa [eraseN, eq, lookupN] using congrArg (fun x => if c.1 = j then some c.2 else x) ih

/-- A state-table entry that was just set (R247). -/
@[simp] theorem buf_setBuf_same (p : Pool) (i : Nat) (b : Buf) : (p.setBuf i b).buf i = b := by
  rw [Pool.setBuf, Pool.buf]
  split
  case isTrue reset => rw [lookupN_eraseN_same, reset, Option.getD_none]
  case isFalse => rw [lookupN_insertN_same, Option.getD_some]

/-- Setting a state-table entry leaves the others (R247). -/
theorem buf_setBuf_other (p : Pool) {i j : Nat} (b : Buf) (h : j ≠ i) : (p.setBuf i b).buf j = p.buf j := by
  rw [Pool.setBuf, Pool.buf, Pool.buf]
  split
  · rw [lookupN_eraseN_other _ h]
  · rw [lookupN_insertN_other _ _ h]

/-- The entry of a buffer is read from the state table alone. -/
theorem buf_congr {p q : Pool} (h : p.bufs = q.bufs) (i : Nat) : p.buf i = q.buf i := by
  rw [Pool.buf, Pool.buf, h]

/-! ### The parts of a handle (R245) -/

/-- POOL names one of the 16 pools. -/
theorem handlePool_lt (h : U32) : handlePool h < 16 := Nat.mod_lt _ (by decide)

/-- INDEX has 20 bits. -/
theorem handleIndex_lt (h : U32) : handleIndex h < 2 ^ 20 := Nat.mod_lt _ (by decide)

/-- POOL is bits [31:28]. -/
theorem handlePool_eq (h : U32) : handlePool h = h.toNat / 2 ^ 28 := by
  have := h.isLt
  simp only [handlePool, bitsOf]
  omega

/-- GEN is bits [7:0]. -/
theorem handleGen_eq (h : U32) : handleGen h = h.toNat % 2 ^ 8 := by
  rw [handleGen, bitsOf, Nat.pow_zero, Nat.div_one]

/-- GEN has 8 bits. -/
theorem handleGen_lt (h : U32) : handleGen h < 256 := Nat.mod_lt _ (by decide)

/-- The number of a handle made of parts in their ranges. -/
theorem handleOf_toNat {p i g : Nat} (hp : p < 16) (hi : i < 2 ^ 20) (hg : g < 256) :
    (handleOf p i g).toNat = p * 2 ^ 28 + i * 2 ^ 8 + g := by
  rw [handleOf, BitVec.toNat_ofNat, Nat.mod_eq_of_lt hi, Nat.mod_eq_of_lt hg, Nat.mod_eq_of_lt (by omega)]

/-- A handle's parts are those it was made of. -/
theorem parts_handleOf {p i g : Nat} (hp : p < 16) (hi : i < 2 ^ 20) (hg : g < 256) :
    handlePool (handleOf p i g) = p ∧ handleIndex (handleOf p i g) = i ∧ handleGen (handleOf p i g) = g := by
  simp only [handlePool, handleIndex, handleGen, bitsOf, handleOf_toNat hp hi hg]
  omega

/-- A handle is made of its parts. -/
theorem handleOf_parts (h : U32) : handleOf (handlePool h) (handleIndex h) (handleGen h) = h := by
  have := h.isLt
  apply BitVec.eq_of_toNat_eq
  rw [handleOf_toNat (handlePool_lt h) (handleIndex_lt h) (handleGen_lt h)]
  simp only [handlePool, handleIndex, handleGen, bitsOf]
  omega

/-! ### A write to memory leaves the pools -/

/-- A sequence of steps each of which leaves the pools leaves them. -/
theorem foldl_bpm {α : Type} {f : State → α → State} (keeps : ∀ s a, (f s a).bpm = s.bpm) (l : List α) (s : State) :
    (l.foldl f s).bpm = s.bpm := by
  induction l generalizing s with
  | nil => rfl
  | cons a l ih => rw [List.foldl_cons, ih, keeps]

@[simp] theorem faultLog_bpm (s : State) (unit status : Nat) (detail : U32) :
    (s.faultLog unit status detail).bpm = s.bpm := rfl

@[simp] theorem sendMsix_bpm (s : State) (v : Fin 64) : (s.sendMsix v).bpm = s.bpm := by
  obtain ⟨h, o, eq, -⟩ := sendMsix_frame s v
  rw [eq]

@[simp] theorem raising_bpm (s : State) (f : State → State) : (s.raising f).bpm = (f s).bpm := by
  simp only [State.raising]
  split
  · exact sendMsix_bpm _ _
  · rfl

@[simp] theorem kprEvent_bpm (s : State) (bits : BitVec 4) : (s.kprEvent bits).bpm = s.bpm := raising_bpm _ _

@[simp] theorem kprLog_bpm (s : State) (cls cause who : Nat) (flags : Byte) (value : U32) :
    (s.kprLog cls cause who flags value).bpm = s.bpm := kprEvent_bpm _ _

@[simp] theorem safeDrop_bpm (s : State) : s.safeDrop.bpm = s.bpm := by
  rw [State.safeDrop]
  split
  · exact kprEvent_bpm _ _
  · rfl

/-- The stop closes gates and marks the Keeper (R563). -/
@[simp] theorem deviceStop_bpm (s : State) : s.deviceStop.bpm = s.bpm := by
  have closes : ∀ (s : State) (u : Nat), (if unitGateable u then s.gateClose u else s).bpm = s.bpm := by
    intro s u
    split
    · exact updGate_bpm _ _ _
    · rfl
  rw [State.deviceStop]
  split
  · rfl
  · rw [updKpr_bpm]
    exact foldl_bpm closes _ _

@[simp] theorem latch_bpm (s : State) (b : KprBit) (cause who : Nat) (value : U32) :
    (s.latch b cause who value).bpm = s.bpm := by
  simp only [State.latch]
  split_ifs <;> simp [State.updKpr, State.updSup]

@[simp] theorem deviceFault_bpm (s : State) (unit cause : Nat) (value : U32) :
    (s.deviceFault unit cause value).bpm = s.bpm := by
  rw [State.deviceFault]
  split
  · rfl
  · exact latch_bpm _ _ _ _ _

@[simp] theorem ueLine_bpm (s : State) (line : Nat) : (s.ueLine line).bpm = s.bpm := by
  rw [State.ueLine]
  split
  · rfl
  · dsimp only
    split
    · exact deviceFault_bpm _ _ _ _
    · rfl

/-- Correcting or reporting a line touches memory, its controller and the Keeper (R237, R238). -/
@[simp] theorem lineMet_bpm (s : State) (line : Nat) (e : EccErr) : (s.lineMet line e).bpm = s.bpm := by
  cases e with
  | correctable =>
    simp only [State.lineMet]
    split <;> rfl
  | uncorrectable => exact ueLine_bpm s line

@[simp] theorem memPut_bpm (s : State) (a : Nat) (bs : List Byte) : (s.memPut a bs).1.bpm = s.bpm :=
  foldl_bpm (f := fun s (e : Nat × EccErr) => s.lineMet e.1 e.2) (fun s e => lineMet_bpm s e.1 e.2) _ s

/-! ### Pools by number -/

/-- Pool `n` is an entry of the table of pools. -/
theorem poolN_val (s : State) (n : Fin 16) : s.poolN n.val = s.bpm.pool[n] := by
  simp [State.poolN]

/-- A pool is read from the table of pools alone. -/
theorem poolN_congr {s t : State} (h : s.bpm.pool = t.bpm.pool) (n : Nat) : s.poolN n = t.poolN n := by
  rw [State.poolN, State.poolN, h]

@[simp] theorem poolN_memPut (s : State) (a : Nat) (bs : List Byte) (n : Nat) : (s.memPut a bs).1.poolN n = s.poolN n :=
  poolN_congr (congrArg Bpm.pool (memPut_bpm s a bs)) n

/-- The changed pool. -/
theorem poolN_updPoolN_same (s : State) {n : Nat} (h : n < 16) (f : Pool → Pool) :
    (s.updPoolN n f).poolN n = f (s.poolN n) := by
  rw [State.updPoolN, dif_pos h, poolN_val _ ⟨n, h⟩, poolN_val _ ⟨n, h⟩, updPool_bpm]
  exact updAt_get_self _ _ _

/-- A change of one pool leaves the others. -/
theorem poolN_updPoolN_other (s : State) {n m : Nat} (h : m ≠ n) (f : Pool → Pool) :
    (s.updPoolN n f).poolN m = s.poolN m := by
  unfold State.updPoolN
  split
  · simp [State.poolN, updAt, Vector.getElem?_set_ne, h.symm]
  · rfl

/-! ### Spilling and levels -/

/-- A spill moves handles from the cache to the DRAM ring and changes nothing else of the pool (R249). -/
theorem poolSpill_same (s : State) {n : Nat} (h : n < 16) (k : Nat) :
    ∃ c t, (s.poolSpill n k).poolN n = { s.poolN n with cache := c, ringTail := t } := by
  induction k generalizing s with
  | zero => exact ⟨_, _, rfl⟩
  | succ k ih =>
    simp only [State.poolSpill]
    split
    · exact ⟨_, _, rfl⟩
    · obtain ⟨c, t, eq⟩ := ih _
      exact ⟨c, t, by rw [eq, poolN_updPoolN_same _ h, poolN_memPut]⟩

/-- A spill leaves the other pools. -/
theorem poolSpill_other (s : State) {n m : Nat} (h : m ≠ n) (k : Nat) : (s.poolSpill n k).poolN m = s.poolN m := by
  induction k generalizing s with
  | zero => rfl
  | succ k ih =>
    simp only [State.poolSpill]
    split
    · rfl
    · rw [ih, poolN_updPoolN_other _ h, poolN_memPut]

/-- The pool after the sequencer's cycle: its four levels follow FREE (R259). -/
def Pool.leveled (p : Pool) : Pool :=
  { p with
    atBuoy1 := levelNext p.atBuoy1 p.free.toNat p.count.toNat p.buoy1.toNat p.hyst
    pauseB := levelNext p.pauseB p.free.toNat p.count.toNat p.b2.toNat p.hyst
    pauseQ := levelNext p.pauseQ p.free.toNat p.count.toNat p.qp p.hyst
    atBuoy3 := levelNext p.atBuoy3 p.free.toNat p.count.toNat p.buoy3.toNat p.hyst }

@[simp] theorem leveled_bufs (p : Pool) : p.leveled.bufs = p.bufs := rfl
@[simp] theorem leveled_free (p : Pool) : p.leveled.free = p.free := rfl
@[simp] theorem leveled_listHead (p : Pool) : p.leveled.listHead = p.listHead := rfl
@[simp] theorem leveled_listEmpty (p : Pool) : p.leveled.listEmpty = p.listEmpty := rfl
@[simp] theorem leveled_cache (p : Pool) : p.leveled.cache = p.cache := rfl

/-- The reports that the sequencer's cycle may make touch no pool (R260). -/
theorem poolLevels_pool (s : State) {n : Nat} (en : (s.poolN n).en = true) :
    (s.poolLevels n).bpm.pool = (s.updPoolN n (fun _ => (s.poolN n).leveled)).bpm.pool := by
  rw [State.poolLevels, if_neg (by simp [en])]
  dsimp only
  split <;> split <;> rfl

/-- The sequencer's cycle of an enabled pool. -/
theorem poolLevels_same (s : State) {n : Nat} (h : n < 16) (en : (s.poolN n).en = true) :
    (s.poolLevels n).poolN n = (s.poolN n).leveled := by
  rw [poolN_congr (poolLevels_pool s en), poolN_updPoolN_same s h]

/-- The sequencer's cycle of one pool leaves the others. -/
theorem poolLevels_other (s : State) {n m : Nat} (h : m ≠ n) (en : (s.poolN n).en = true) :
    (s.poolLevels n).poolN m = s.poolN m := by
  rw [poolN_congr (poolLevels_pool s en), poolN_updPoolN_other s h]

/-! ### The free store after a free (R249, R250, R256) -/

/-- The pool's state table and FREE after a free of buffer `i`: ALLOC and HOST are clear, the generation stays (R246,
R256). -/
def Pool.given (p : Pool) (i : Nat) : Pool :=
  { p.setBuf i { gen := (p.buf i).gen, alloc := false, host := false } with free := p.free + 1 }

/-- The freed buffer's entry. -/
theorem buf_given_same (p : Pool) (i : Nat) :
    (p.given i).buf i = { gen := (p.buf i).gen, alloc := false, host := false } :=
  buf_setBuf_same p i _

/-- The other buffers' entries. -/
theorem buf_given_other (p : Pool) {i j : Nat} (h : j ≠ i) : (p.given i).buf j = p.buf j :=
  buf_setBuf_other p _ h

@[simp] theorem given_free (p : Pool) (i : Nat) : (p.given i).free = p.free + 1 := rfl
@[simp] theorem given_cache (p : Pool) (i : Nat) : (p.given i).cache = p.cache := rfl

/-- The state with that pool, before its free store takes the buffer. -/
def State.markFree (s : State) (n i : Nat) : State :=
  s.updPoolN n (fun p =>
    { p.setBuf i { gen := ((s.poolN n).buf i).gen, alloc := false, host := false } with free := p.free + 1 })

theorem poolN_markFree_same (s : State) {n : Nat} (h : n < 16) (i : Nat) :
    (s.markFree n i).poolN n = (s.poolN n).given i :=
  poolN_updPoolN_same s h _

theorem poolN_markFree_other (s : State) {n m : Nat} (h : m ≠ n) (i : Nat) : (s.markFree n i).poolN m = s.poolN m :=
  poolN_updPoolN_other s h _

/-- During a rebuild the state table and FREE alone change (R267). -/
theorem poolGive_of_rebuild (s : State) {n : Nat} (i : Nat) (rebuild : (s.poolN n).rebuild = true) :
    s.poolGive n i = s.markFree n i := by
  rw [State.poolGive, if_pos rebuild]
  rfl

/-- A LIST pool's buffer becomes its head, with a link word in its memory (R250). -/
theorem poolGive_of_list (s : State) {n : Nat} (i : Nat) (rebuild : (s.poolN n).rebuild = false)
    (list : (s.poolN n).list = true) :
    ∃ a w, s.poolGive n i = ((s.markFree n i).memPut a w).1.updPoolN n
      (fun p => { p with listHead := BitVec.ofNat 20 i, listEmpty := false }) := by
  rw [State.poolGive, if_neg (by simp [rebuild]), if_pos list]
  exact ⟨_, _, rfl⟩

/-- A RING pool's cache takes the handle, and spills above 64 handles (R249). -/
theorem poolGive_of_ring (s : State) {n : Nat} (i : Nat) (rebuild : (s.poolN n).rebuild = false)
    (ring : (s.poolN n).list = false) :
    let t := (s.markFree n i).updPoolN n
      (fun p => { p with cache := p.cache ++ [handleOf n i ((s.poolN n).buf i).gen.toNat] })
    s.poolGive n i = if 64 < (t.poolN n).cache.length then t.poolSpill n 32 else t := by
  rw [State.poolGive, if_neg (by simp [rebuild]), if_neg (by simp [ring])]
  rfl

/-- What a freed buffer does to its pool: the state table and FREE change as in `Pool.given`, and besides them the free
store alone. A LIST pool's head is then the buffer; a RING pool's cache takes the handle, and is not spilled while it holds
at most 64 (R249, R250). -/
theorem poolGive_same (s : State) {n : Nat} (h : n < 16) (i : Nat) :
    ∃ head empty cache tail, (s.poolGive n i).poolN n =
        { (s.poolN n).given i with listHead := head, listEmpty := empty, cache := cache, ringTail := tail }
      ∧ ((s.poolN n).rebuild = false → (s.poolN n).list = true → head = BitVec.ofNat 20 i ∧ empty = false)
      ∧ ((s.poolN n).rebuild = false → (s.poolN n).list = false → (s.poolN n).cache.length < 64 →
        cache = (s.poolN n).cache ++ [handleOf n i ((s.poolN n).buf i).gen.toNat]) := by
  cases rebuild : (s.poolN n).rebuild
  case true =>
    rw [poolGive_of_rebuild s i rebuild, poolN_markFree_same s h]
    exact ⟨_, _, _, _, rfl, by simp, by simp⟩
  case false =>
    cases store : (s.poolN n).list
    case true =>
      obtain ⟨a, w, eq⟩ := poolGive_of_list s i rebuild store
      rw [eq, poolN_updPoolN_same _ h, poolN_memPut, poolN_markFree_same s h]
      exact ⟨_, _, _, _, rfl, by simp, by simp⟩
    case false =>
      have cached := poolN_updPoolN_same (s.markFree n i) h
        (fun p => { p with cache := p.cache ++ [handleOf n i ((s.poolN n).buf i).gen.toNat] })
      rw [poolN_markFree_same s h] at cached
      rw [poolGive_of_ring s i rebuild store]
      split
      case isTrue full =>
        obtain ⟨c, tail, eq⟩ := poolSpill_same _ h 32
        rw [eq, cached]
        rw [cached, List.length_append, given_cache, List.length_singleton] at full
        exact ⟨_, _, _, _, rfl, by simp, fun _ _ room => by omega⟩
      case isFalse => exact ⟨_, _, _, _, cached, by simp, fun _ _ _ => rfl⟩

/-- A freed buffer leaves the other pools (R256). -/
theorem poolGive_other (s : State) {n m : Nat} (h : m ≠ n) (i : Nat) : (s.poolGive n i).poolN m = s.poolN m := by
  cases rebuild : (s.poolN n).rebuild
  case true => rw [poolGive_of_rebuild s i rebuild, poolN_markFree_other s h]
  case false =>
    cases store : (s.poolN n).list
    case true =>
      obtain ⟨a, w, eq⟩ := poolGive_of_list s i rebuild store
      rw [eq, poolN_updPoolN_other _ h, poolN_memPut, poolN_markFree_other s h]
    case false =>
      rw [poolGive_of_ring s i rebuild store]
      split
      · rw [poolSpill_other _ h, poolN_updPoolN_other _ h, poolN_markFree_other s h]
      · rw [poolN_updPoolN_other _ h, poolN_markFree_other s h]

/-! ### The checks of a free (R256) -/

section
variable {s : State} {h : U32} {ctx : Nat}

/-- The pool is not one of the context's, or has no such buffer. -/
theorem freeCheck_notFound (absent : (s.poolN (handlePool h)).en = false ∨ (s.poolN (handlePool h)).ctx.toNat ≠ ctx
      ∨ (s.poolN (handlePool h)).count.toNat ≤ handleIndex h) :
    s.freeCheck h ctx = some .notFound := by
  rcases absent with off | stranger | past
  · simp [State.freeCheck, off]
  · simp [State.freeCheck, stranger]
  · simp [State.freeCheck, past]

/-- The pool is the context's and has the buffer that the handle names. -/
def State.freeNames (s : State) (h : U32) (ctx : Nat) : Prop :=
  (s.poolN (handlePool h)).en = true ∧ (s.poolN (handlePool h)).ctx.toNat = ctx
    ∧ handleIndex h < (s.poolN (handlePool h)).count.toNat

/-- A handle of a buffer of the context is checked by its generation, and then by ALLOC. -/
theorem freeCheck_of_names (names : s.freeNames h ctx) :
    s.freeCheck h ctx =
      if ((s.poolN (handlePool h)).buf (handleIndex h)).gen.toNat ≠ handleGen h then some .staleHandle
      else if ((s.poolN (handlePool h)).buf (handleIndex h)).alloc = false then some .doubleFree else none := by
  obtain ⟨en, owner, range⟩ := names
  simp [State.freeCheck, en, owner, Nat.not_le.mpr range]

end

/-! ### A free that passes, and one that fails -/

section
variable {s : State} {h : U32} {ctx : Nat} (port unit : Nat)

/-- The outcome of a free is that of its checks. -/
theorem bufFree_outcome : (s.bufFree h ctx port unit).2 = s.freeCheck h ctx := by
  rw [State.bufFree]
  split
  case h_1 check => exact check.symm
  case h_2 check => exact check.symm

/-- A free that fails is reported (R257). -/
theorem bufFree_of_error {e : FreeErr} (check : s.freeCheck h ctx = some e) :
    (s.bufFree h ctx port unit).1 = s.freeFailed h port unit e := by
  rw [State.bufFree, check]

/-- A free that passes returns the buffer to its pool, and the sequencer's levels follow (R256, R259). -/
theorem bufFree_of_pass (check : s.freeCheck h ctx = none) :
    (s.bufFree h ctx port unit).1 = (s.poolGive (handlePool h) (handleIndex h)).poolLevels (handlePool h) := by
  rw [State.bufFree, check]

/-- A pool that is enabled stays so when it takes a buffer back. -/
theorem poolGive_en (s : State) {n : Nat} (hn : n < 16) (i : Nat) (en : (s.poolN n).en = true) :
    ((s.poolGive n i).poolN n).en = true := by
  obtain ⟨head, empty, cache, tail, eq, -, -⟩ := poolGive_same s hn i
  rw [eq]
  exact en

/-- The pool after a free that passes: `Pool.given`, its free store with the buffer, and the levels (R249, R250, R256). -/
theorem bufFree_pool (check : s.freeCheck h ctx = none) (en : (s.poolN (handlePool h)).en = true) :
    (s.bufFree h ctx port unit).1.poolN (handlePool h)
      = ((s.poolGive (handlePool h) (handleIndex h)).poolN (handlePool h)).leveled := by
  rw [bufFree_of_pass port unit check, poolLevels_same _ (handlePool_lt h) (poolGive_en s (handlePool_lt h) _ en)]

/-- A free that passes leaves the other pools. -/
theorem bufFree_pool_other (check : s.freeCheck h ctx = none) (en : (s.poolN (handlePool h)).en = true) (n : Fin 16)
    (other : n.val ≠ handlePool h) : (s.bufFree h ctx port unit).1.bpm.pool[n] = s.bpm.pool[n] := by
  rw [bufFree_of_pass port unit check, ← poolN_val,
    poolLevels_other _ other (poolGive_en s (handlePool_lt h) _ en), poolGive_other s other, poolN_val]

end

/-- A free that passes its checks: the buffer's entry, the others, FREE and the free store of its pool, and the other
pools (R249, R250, R256). -/
theorem bufFree_passes {s : State} {h : U32} {ctx : Nat} (port unit : Nat) (names : s.freeNames h ctx)
    (fresh : ((s.poolN (handlePool h)).buf (handleIndex h)).gen.toNat = handleGen h)
    (alloc : ((s.poolN (handlePool h)).buf (handleIndex h)).alloc = true) :
    let p := s.poolN (handlePool h)
    let r := s.bufFree h ctx port unit
    let q := r.1.poolN (handlePool h)
    r.2 = none ∧ q.buf (handleIndex h) = { gen := (p.buf (handleIndex h)).gen, alloc := false, host := false }
      ∧ (∀ i, i ≠ handleIndex h → q.buf i = p.buf i) ∧ q.free = p.free + 1
      ∧ (p.rebuild = false → p.list = true → q.listHead.toNat = handleIndex h ∧ q.listEmpty = false)
      ∧ (p.rebuild = false → p.list = false → p.cache.length < 64 → q.cache = p.cache ++ [h])
      ∧ ∀ n : Fin 16, n.val ≠ handlePool h → r.1.bpm.pool[n] = s.bpm.pool[n] := by
  intro p r q
  have en := names.1
  have check : s.freeCheck h ctx = none := by simp [freeCheck_of_names names, fresh, alloc]
  have outcome : r.2 = none := (bufFree_outcome port unit).trans check
  have others : ∀ n : Fin 16, n.val ≠ handlePool h → r.1.bpm.pool[n] = s.bpm.pool[n] :=
    bufFree_pool_other port unit check en
  obtain ⟨head, empty, cache, tail, given, onList, onRing⟩ := poolGive_same s (handlePool_lt h) (handleIndex h)
  have pool : q = _ := (bufFree_pool port unit check en).trans (congrArg Pool.leveled given)
  clear_value q r
  have bufs : q.bufs = (p.given (handleIndex h)).bufs := by rw [pool, leveled_bufs]
  refine ⟨outcome, ?entry, fun i other => ?others, ?free, fun rebuild list => ?list, fun rebuild ring room => ?ring, others⟩
  case entry => rw [buf_congr bufs, buf_given_same]
  case others => rw [buf_congr bufs, buf_given_other p other]
  case free => rw [pool, leveled_free, given_free]
  case list =>
    obtain ⟨rfl, rfl⟩ := onList rebuild list
    rw [pool, leveled_listHead, leveled_listEmpty, BitVec.toNat_ofNat, Nat.mod_eq_of_lt (handleIndex_lt h)]
    exact ⟨rfl, rfl⟩
  case ring => rw [pool, leveled_cache, onRing rebuild ring room, fresh, handleOf_parts]

/-- A free that fails changes no pool and no memory, and is counted under its pool's bit (R256, R257). -/
theorem bufFree_fails {s : State} {h : U32} {ctx : Nat} (port unit : Nat)
    (failed : (s.bufFree h ctx port unit).2 ≠ none) :
    let r := s.bufFree h ctx port unit
    r.1.bpm.pool = s.bpm.pool ∧ r.1.mem.cells = s.mem.cells ∧ r.1.bpm.freeErrCount = satInc s.bpm.freeErrCount
      ∧ r.1.bpm.freeErr = s.bpm.freeErr ||| (1#16 <<< handlePool h) := by
  intro r
  rw [bufFree_outcome] at failed
  obtain ⟨e, check⟩ := Option.ne_none_iff_exists'.mp failed
  have reported : r.1 = s.freeFailed h port unit e := bufFree_of_error port unit check
  rw [reported]
  exact ⟨rfl, rfl, rfl, rfl⟩

/-! ### The obligation -/

/-- Settles O11: the outcome is that of the checks in their order (`freeCheck_notFound`, `freeCheck_of_names`), a free that
passes is `bufFree_passes`, one that fails `bufFree_fails`, and the parts of a handle are read from its bits. -/
theorem freeChecks : Obligations.FreeChecks := by
  refine ⟨fun s h ctx port unit => ⟨fun absent => ?notFound, fun en owner range stale => ?stale,
    fun en owner range fresh free => ?double, fun en owner range => bufFree_passes port unit ⟨en, owner, range⟩,
    bufFree_fails port unit⟩, fun h => ⟨handlePool_eq h, rfl, handleGen_eq h⟩, fun p i g => parts_handleOf⟩
  case notFound => rw [bufFree_outcome, freeCheck_notFound absent]
  case stale => rw [bufFree_outcome, freeCheck_of_names ⟨en, owner, range⟩, if_pos stale]
  case double =>
    rw [bufFree_outcome, freeCheck_of_names ⟨en, owner, range⟩, if_neg (not_not.mpr fresh), if_pos free]

end Sys2Proof.Machine

/-!
Proof of `PipOperations` (R271, R274, R275, R286, R288): the pip store as a table, the refill of the watch table, an
operation on a pip before it releases anyone, the responses of released commands leave the pip store, and the waits an
operation releases.
-/
namespace Sys2Proof.Machine
open Sys2Proof

/-! ### The pip store as a table -/

/-- A pip is read from the store's list of pips alone. -/
theorem pipGet_congr {s t : State} (h : s.pip.pips = t.pip.pips) (p : Nat) : s.pipGet p = t.pipGet p := by
  rw [State.pipGet, State.pipGet, h]

/-- A pip that was just set. -/
@[simp] theorem pipGet_pipSet_same (s : State) (p : Nat) (x : Pip) : (s.pipSet p x).pipGet p = x := by
  rw [State.pipSet, State.pipGet]
  split
  case isTrue clear => rw [lookupN_eraseN_same, clear, Option.getD_none]
  case isFalse => rw [lookupN_insertN_same, Option.getD_some]

/-- Setting a pip leaves the others. -/
theorem pipGet_pipSet_other (s : State) {p q : Nat} (x : Pip) (h : q ≠ p) : (s.pipSet p x).pipGet q = s.pipGet q := by
  rw [State.pipSet, State.pipGet, State.pipGet]
  split
  · rw [lookupN_eraseN_other _ h]
  · rw [lookupN_insertN_other _ _ h]

/-! ### The watch table is filled up (R288) -/

/-- Waiters that move from outside the table into it are not lost. -/
theorem mem_of_entered {w : Waiter} {watch held : List Waiter} (entered : List Waiter) (h : w ∈ watch ++ held) :
    w ∈ (watch ++ entered) ++ entered.foldl List.erase held := by
  rw [← List.diff_eq_foldl]
  by_cases moved : w ∈ entered
  · exact List.mem_append_left _ (List.mem_append_right _ moved)
  · rcases List.mem_append.mp h with inWatch | outside
    · exact List.mem_append_left _ (List.mem_append_left _ inWatch)
    · exact List.mem_append_right _ (List.mem_diff_of_mem outside moved)

/-- Filling the watch table changes the pip store alone, there no pip, and loses no waiter. -/
theorem watchFill_frame (s : State) :
    ∃ x : PipStore, s.watchFill = { s with pip := x } ∧ x.pips = s.pip.pips
      ∧ ∀ w ∈ s.pip.watch ++ s.pip.overflow, w ∈ x.watch ++ x.overflow := by
  simp only [State.watchFill]
  split
  · exact ⟨s.pip, rfl, rfl, fun _ h => h⟩
  · exact ⟨_, rfl, rfl, fun _ => mem_of_entered _⟩

@[simp] theorem pipGet_watchFill (s : State) (p : Nat) : s.watchFill.pipGet p = s.pipGet p := by
  obtain ⟨x, eq, pips, -⟩ := watchFill_frame s
  exact pipGet_congr (by rw [eq, pips]) p

/-- With no waiter held outside the table nothing is entered. -/
theorem watchFill_of_none_held {s : State} (h : s.pip.overflow = []) : s.watchFill = s := by
  simp [State.watchFill, h]

/-! ### An operation on a pip, before it releases waiters -/

/-- Operations on a pip of the store are performed, but for a POISON of a stage pip (R271, R286). -/
theorem pipRefused_eq_false {p : Nat} {o : PipOp} (inside : pipKind p ≠ .outside)
    (stage : o = .poison → pipKind p ≠ .stage) : pipRefused p o = false := by
  simpa [pipRefused, inside] using stage

/-- What an operation does to the pip it names, and to the count of poisons. -/
def State.pipStepped (s : State) (p : Nat) (op : PipOp) (v : U32) : State :=
  let x := s.pipGet p
  let t := s.pipSet p (pipStep op v x)
  if op = .poison && x.err == 0 && (pipStep op v x).err != 0 then
    { t with pip := { t.pip with poisons := t.pip.poisons + 1 } }
  else t

/-- The operation changes the pip store alone, there no waiter. -/
theorem pipStepped_frame (s : State) (p : Nat) (op : PipOp) (v : U32) :
    ∃ x : PipStore, s.pipStepped p op v = { s with pip := x } ∧ x.watch = s.pip.watch ∧ x.overflow = s.pip.overflow := by
  simp only [State.pipStepped]
  split <;> exact ⟨_, rfl, rfl, rfl⟩

@[simp] theorem pipStepped_watch (s : State) (p : Nat) (op : PipOp) (v : U32) :
    (s.pipStepped p op v).pip.watch = s.pip.watch := by
  obtain ⟨x, eq, watch, -⟩ := pipStepped_frame s p op v
  rw [eq, watch]

@[simp] theorem pipStepped_overflow (s : State) (p : Nat) (op : PipOp) (v : U32) :
    (s.pipStepped p op v).pip.overflow = s.pip.overflow := by
  obtain ⟨x, eq, -, overflow⟩ := pipStepped_frame s p op v
  rw [eq, overflow]

/-- The pips after the operation are those after the pip was set. -/
theorem pipGet_pipStepped (s : State) (p : Nat) (op : PipOp) (v : U32) (q : Nat) :
    (s.pipStepped p op v).pipGet q = (s.pipSet p (pipStep op v (s.pipGet p))).pipGet q := by
  simp only [State.pipStepped]
  split <;> rfl

/-- Only a POISON is counted. -/
theorem pipStepped_of_ne_poison {op : PipOp} (h : op ≠ .poison) (s : State) (p : Nat) (v : U32) :
    s.pipStepped p op v = s.pipSet p (pipStep op v (s.pipGet p)) := by
  simp [State.pipStepped, h]

/-! ### An operation and the waiters it releases -/

/-- A pip that has become `x` releases the waiter (R275). -/
def Waiter.hit (w : Waiter) (p : Nat) (x : Pip) : Bool := w.pip == p && (waitResult w x).isSome

/-- The waiters that the pip releases have left the table. -/
def State.hitsLeave (s : State) (p : Nat) (x : Pip) : State :=
  { s with pip := { s.pip with watch := s.pip.watch.filter (fun w => !w.hit p x) } }

/-- Where the pip releases nobody the table stays. -/
theorem hitsLeave_of_no_hit {s : State} {p : Nat} {x : Pip} (misses : ∀ w ∈ s.pip.watch, w.hit p x = false) :
    s.hitsLeave p x = s := by
  rw [State.hitsLeave, List.filter_eq_self.mpr (by simpa using misses)]

/-- One waiter is released from a pip that has become `x`; what it poisons in turn is applied with a chain of `n`
(R277, R285). -/
def State.releaseChained (n : Nat) (x : Pip) (s : State) (w : Waiter) : State :=
  let r := s.releaseOne w ((waitResult w x).getD 0) x.value
  match r.2 with
  | none => r.1
  | some (q, code) => State.pipApplyN n r.1 q .poison (BitVec.ofNat 32 code)

/-- A refused operation leaves every pip (R271, R286). -/
theorem pipApply_of_refused {s : State} {p : Nat} {op : PipOp} (refused : pipRefused p op = true) (v : U32) :
    s.pipApply p op v = s.watchFill := by
  rw [State.pipApply, State.pipApplyN, if_pos refused]

/-- A performed operation: the pip changes, then the waiters it releases are released in the order of the table, none by
CLEAR_ERR, then the table is filled up (R274, R275, R288). -/
theorem pipApply_of_performed {s : State} {p : Nat} {op : PipOp} {v : U32} {x : Pip} (performed : pipRefused p op = false)
    (stepped : x = pipStep op v (s.pipGet p)) :
    s.pipApply p op v =
      (if op = .clearErr then s.pipStepped p op v
        else (s.pip.watch.filter (fun w => w.hit p x)).foldl
          (State.releaseChained (s.mem.jobs.length + s.sched.guarded.length) x)
          ((s.pipStepped p op v).hitsLeave p x)).watchFill := by
  subst stepped
  rw [State.pipApply, State.pipApplyN, if_neg (by simp [performed]), ← pipStepped_watch s p op v]
  rfl

/-- CLEAR_ERR releases no waiter, and no operation releases one where none waits on its pip in the table (R274). -/
theorem pipApply_of_quiet {s : State} {p : Nat} {op : PipOp} (performed : pipRefused p op = false)
    (quiet : op = .clearErr ∨ ∀ w ∈ s.pip.watch, w.pip ≠ p) (v : U32) :
    s.pipApply p op v = (s.pipStepped p op v).watchFill := by
  rw [pipApply_of_performed performed rfl]
  split
  case isTrue => rfl
  case isFalse releasing =>
    have misses : ∀ w ∈ s.pip.watch, w.hit p (pipStep op v (s.pipGet p)) = false := by
      intro w mem
      simp [Waiter.hit, quiet.resolve_left releasing w mem]
    rw [List.filter_eq_nil_iff.mpr (by simpa using misses), List.foldl_nil, hitsLeave_of_no_hit (by simpa using misses)]

/-- An operation that releases no waiter changes its pip as `pipStep` says. -/
theorem pipGet_pipApply_same {s : State} {p : Nat} {op : PipOp} (performed : pipRefused p op = false)
    (quiet : op = .clearErr ∨ ∀ w ∈ s.pip.watch, w.pip ≠ p) (v : U32) :
    (s.pipApply p op v).pipGet p = pipStep op v (s.pipGet p) := by
  rw [pipApply_of_quiet performed quiet, pipGet_watchFill, pipGet_pipStepped, pipGet_pipSet_same]

/-- An operation that releases no waiter leaves the other pips. -/
theorem pipGet_pipApply_other {s : State} {p q : Nat} {op : PipOp} (h : q ≠ p)
    (quiet : op = .clearErr ∨ ∀ w ∈ s.pip.watch, w.pip ≠ p) (v : U32) :
    (s.pipApply p op v).pipGet q = s.pipGet q := by
  cases refused : pipRefused p op with
  | true => rw [pipApply_of_refused refused, pipGet_watchFill]
  | false =>
    rw [pipApply_of_quiet refused quiet, pipGet_watchFill, pipGet_pipStepped, pipGet_pipSet_other _ _ h]

/-- CLEAR_ERR changes the pip store alone and keeps every waiter (R274). -/
theorem pipApply_clearErr_frame (s : State) {p : Nat} (inside : pipKind p ≠ .outside) (v : U32) :
    ∃ x : PipStore, s.pipApply p .clearErr v = { s with pip := x }
      ∧ ∀ w ∈ s.pip.watch ++ s.pip.overflow, w ∈ x.watch ++ x.overflow := by
  have performed := pipRefused_eq_false (o := .clearErr) inside (by simp)
  obtain ⟨_, stepped, -⟩ := pipStepped_frame s p .clearErr v
  obtain ⟨y, filled, -, kept⟩ := watchFill_frame (s.pipStepped p .clearErr v)
  refine ⟨y, ?_, fun w mem => kept w ?_⟩
  · rw [pipApply_of_quiet performed (.inl rfl), filled, stepped]
  · rwa [pipStepped_watch, pipStepped_overflow]

/-- An error releases a waiter with its status whatever the value is. -/
theorem waitResult_of_err {x : Pip} (h : x.err ≠ 0) (w : Waiter) : waitResult w x = some x.err.toNat := by
  rw [waitResult, if_pos h]

/-! ### Released commands -/

/-- A sequence of steps each of which leaves the pip store leaves it. -/
theorem foldl_pip {α : Type} {f : State → α → State} {l : List α} (keeps : ∀ s, ∀ a ∈ l, (f s a).pip = s.pip)
    (s : State) : (l.foldl f s).pip = s.pip :=
  List.foldlRecOn l f (motive := fun t => t.pip = s.pip) rfl fun t h a mem => (keeps t a mem).trans h

@[simp] theorem respond_pip (s : State) (m : Fin 16) (op : Nat) (q : BitVec 16) (ni : Bool) (st : Status) (d : List Byte) :
    (s.respond m op q ni st d).pip = s.pip := by
  obtain ⟨h, o, eq⟩ := respond_frame s m op q ni st d
  rw [eq]

@[simp] theorem settleMbx_pip (s : State) (m : Fin 16) : (s.settleMbx m).pip = s.pip := by
  rw [State.settleMbx]
  split
  · rw [updMbx_pip]
  · rfl

@[simp] theorem postFinal_pip (s : State) (r : Running) : (s.postFinal r).pip = s.pip := by
  rw [State.postFinal]
  split
  · rfl
  · simp

@[simp] theorem postReady_pip (s : State) : s.postReady.pip = s.pip := by
  rw [State.postReady]
  split
  · exact foldl_pip (fun s r _ => postFinal_pip s r) s
  · rfl

@[simp] theorem finishOne_pip (s : State) (m : Fin 16) (q : BitVec 16) (w : WaitFor) (st : Status) (d : List Byte) :
    (s.finishOne m q w st d).pip = s.pip := postReady_pip _

/-- A PIP_WAIT that is released poisons nothing in turn: it is released the same within an operation and outside one. -/
theorem releaseChained_of_command {w : Waiter} (command : ∃ m q d, w.by_ = .command m q d) (n : Nat) (x : Pip) (s : State) :
    s.releaseChained n x w = s.releaseNow w ((waitResult w x).getD 0) x.value := by
  obtain ⟨m, q, d, by_eq⟩ := command
  simp [State.releaseChained, State.releaseNow, State.releaseOne, by_eq]

/-- A released PIP_WAIT leaves the pip store. -/
theorem releaseNow_pip_of_command {w : Waiter} (command : ∃ m q d, w.by_ = .command m q d) (s : State) (code : Nat)
    (value : U32) : (s.releaseNow w code value).pip = s.pip := by
  obtain ⟨m, q, d, by_eq⟩ := command
  simp [State.releaseNow, State.releaseOne, by_eq]

/-- ADD and SET on a pip on which commands alone wait release those whose condition then holds, in the order of the
table (R274, R275). -/
theorem pipApply_of_commands {s : State} {p : Nat} {op : PipOp} {v : U32} {x : Pip} (inside : pipKind p ≠ .outside)
    (isAddSet : op = .add ∨ op = .set) (stepped : x = pipStep op v (s.pipGet p)) (none_held : s.pip.overflow = [])
    (commands : ∀ w ∈ s.pip.watch, w.pip = p → ∃ m q d, w.by_ = .command m q d) :
    s.pipApply p op v = (s.pip.watch.filter (fun w => w.hit p x)).foldl
      (fun t w => t.releaseNow w ((waitResult w x).getD 0) x.value) ((s.pipSet p x).hitsLeave p x) := by
  have not_poison : op ≠ .poison := by rcases isAddSet with rfl | rfl <;> decide
  have not_clear : op ≠ .clearErr := by rcases isAddSet with rfl | rfl <;> decide
  have hits_command : ∀ w ∈ s.pip.watch.filter (fun w => w.hit p x), ∃ m q d, w.by_ = .command m q d := by
    intro w mem
    obtain ⟨watched, hit⟩ := List.mem_filter.mp mem
    obtain ⟨onPip, -⟩ := Bool.and_eq_true_iff.mp hit
    exact commands w watched (beq_iff_eq.mp onPip)
  rw [pipApply_of_performed (pipRefused_eq_false inside (absurd · not_poison)) stepped, if_neg not_clear,
    pipStepped_of_ne_poison not_poison, ← stepped,
    List.foldl_ext _ _ _ fun t w mem => releaseChained_of_command (hits_command w mem) _ x t]
  apply watchFill_of_none_held
  rw [foldl_pip fun t w mem => releaseNow_pip_of_command (hits_command w mem) t _ _]
  exact none_held

/-! ### The obligation -/

/-- Settles O8: an operation that releases no waiter is `pipStep` on its pip (`pipGet_pipApply_same`,
`pipGet_pipApply_other`), CLEAR_ERR keeps every waiter (`pipApply_clearErr_frame`), ADD and SET keep the error, by which a
waiter on a poisoned pip is released, and release PIP_WAITs in order (`pipApply_of_commands`); a refused operation changes
no pip (`pipApply_of_refused`). -/
theorem pipOperations : Obligations.PipOperations := by
  refine ⟨fun s p v inside unwatched => ?quiet, fun s p v inside => ?clear, fun x v w err => ?poisoned,
    fun s p op v x inside isAddSet none_held commands eq => ?release, fun s p v q => ?refused⟩
  case quiet =>
    have same {op : PipOp} (stage : op = .poison → pipKind p ≠ .stage) :
        (s.pipApply p op v).pipGet p = pipStep op v (s.pipGet p) :=
      pipGet_pipApply_same (pipRefused_eq_false inside stage) (.inr unwatched) v
    refine ⟨same (by simp), same (by simp), fun stage clear => ?_, fun stage poisoned => ?_,
      fun q other op => pipGet_pipApply_other other (.inr unwatched) v⟩
    · rw [same (fun _ => stage), pipStep, if_pos clear]
    · rw [same (fun _ => stage), pipStep, if_neg poisoned]
  case clear =>
    obtain ⟨x, eq, kept⟩ := pipApply_clearErr_frame s inside v
    refine ⟨pipGet_pipApply_same (pipRefused_eq_false inside (by simp)) (.inl rfl) v,
      fun q other => pipGet_pipApply_other other (.inl rfl) v, ?_, ?_⟩
    · rwa [eq]
    · rw [eq]
  case poisoned =>
    have keeps (op : PipOp) (h : (pipStep op v x).err = x.err) : waitResult w (pipStep op v x) = waitResult w x := by
      rw [waitResult_of_err err, waitResult_of_err (h ▸ err), h]
    exact ⟨keeps .add rfl, keeps .set rfl⟩
  case release =>
    exact pipApply_of_commands inside isAddSet eq none_held commands
  case refused =>
    refine ⟨fun stage => ?_, fun outside op => ?_⟩
    · rw [pipApply_of_refused (by simp [pipRefused, stage]), pipGet_watchFill]
    · rw [pipApply_of_refused (by simp [pipRefused, outside]), pipGet_watchFill]

end Sys2Proof.Machine

/-!
Proof of `StaleEpochDrop` (R291, R547): the rules for a change of one unit's gate, the counted drop, the messages that are dropped
under a stale epoch, and the bytes of DIAG_UNIT that answer the count.
-/
namespace Sys2Proof.Machine
open Sys2Proof

/-! ### Gates by unit -/

/-- The gate of unit `n` is an entry of the table of gates. -/
theorem gateN_val (s : State) (n : Fin 56) : s.gateN n.val = s.gate[n] := by
  simp [State.gateN]

/-- The changed gate. -/
theorem gateN_updGate_same (s : State) {u : Nat} (h : u < 56) (f : UnitGate → UnitGate) :
    (s.updGate u f).gateN u = f (s.gateN u) := by
  rw [State.updGate, dif_pos h, gateN_val _ ⟨u, h⟩, gateN_val _ ⟨u, h⟩]
  exact updAt_get_self _ _ _

/-- A change of one gate leaves the others. -/
theorem gateN_updGate_other (s : State) {u v : Nat} (h : v ≠ u) (f : UnitGate → UnitGate) :
    (s.updGate u f).gateN v = s.gateN v := by
  unfold State.updGate
  split
  · simp [State.gateN, updAt, Vector.getElem?_set_ne, h.symm]
  · rfl

/-- A change of one gate changes the table of gates alone. -/
theorem updGate_frame (s : State) (u : Nat) (f : UnitGate → UnitGate) : ∃ g, s.updGate u f = { s with gate := g } := by
  unfold State.updGate
  split
  · exact ⟨_, rfl⟩
  · exact ⟨s.gate, rfl⟩

/-! ### The counted drop (R547) -/

/-- A drop is counted in the unit's STALE_DROPS. -/
def State.dropCounted (s : State) (u : Nat) : State :=
  s.updGate u (fun g => { g with staleDrops := satInc g.staleDrops })

/-- Counting a drop changes the table of gates alone. -/
theorem dropCounted_restore_gate (s : State) (u : Nat) : ({ s.dropCounted u with gate := s.gate } : State) = s := by
  obtain ⟨g, eq⟩ := updGate_frame s u (fun g => { g with staleDrops := satInc g.staleDrops })
  rw [State.dropCounted, eq]

/-- The count goes up by one; the unit's epoch, the gates of the other units and all else stay. -/
theorem dropCounted_counts (s : State) {u : Nat} (h : u < 56) :
    ((s.dropCounted u).gateN u).staleDrops = satInc (s.gateN u).staleDrops
      ∧ ((s.dropCounted u).gateN u).epoch = (s.gateN u).epoch
      ∧ (∀ v, v ≠ u → (s.dropCounted u).gateN v = s.gateN v)
      ∧ ({ s.dropCounted u with gate := s.gate } : State) = s := by
  have changed : (s.dropCounted u).gateN u = { s.gateN u with staleDrops := satInc (s.gateN u).staleDrops } :=
    gateN_updGate_same s h _
  rw [changed]
  exact ⟨rfl, rfl, fun v other => gateN_updGate_other s other _, dropCounted_restore_gate s u⟩

/-- The pip store's own count of stale signals and waits goes up by one (R291). -/
def State.pipDropCounted (s : State) : State :=
  { s with pip := { s.pip with staleDrop := satInc s.pip.staleDrop } }

/-- The pip store's count and the table of gates are all that a stale signal or wait changes. -/
theorem dropCounted_pipDropCounted_restore (s : State) (u : Nat) :
    let t := s.pipDropCounted.dropCounted u
    ({ t with gate := s.gate, pip := { t.pip with staleDrop := s.pip.staleDrop } } : State) = s := by
  obtain ⟨g, eq⟩ := updGate_frame s.pipDropCounted u (fun g => { g with staleDrops := satInc g.staleDrops })
  rw [State.dropCounted, eq]
  rfl

/-! ### What carries a stale epoch -/

section
variable {u : Nat} {e : BitVec 8} {s : State}

/-- A reply under a stale epoch is dropped and counted. -/
theorem exec_staleEpochDrop_of_stale (live : s.live = true) (stale : (s.gateN u).epoch ≠ e) :
    exec (.staleEpochDrop u e) s = .next (s.dropCounted u) := by
  change execStaleEpochDrop u e s = _
  rw [execStaleEpochDrop, whenLive_of_live live, if_pos (bne_iff_ne.mpr stale)]
  rfl

/-- A reply under the present epoch is not dropped. -/
theorem exec_staleEpochDrop_of_present (live : s.live = true) (present : (s.gateN u).epoch = e) :
    exec (.staleEpochDrop u e) s = .next s := by
  change execStaleEpochDrop u e s = _
  rw [execStaleEpochDrop, whenLive_of_live live, if_neg (by simp [present])]

/-- A free under a stale epoch is dropped and counted. -/
theorem exec_bpmFree_of_stale (live : s.live = true) (stale : (s.gateN u).epoch ≠ e) (h : FreeReq) :
    exec (.bpmFree u e h) s = .next (s.dropCounted u) := by
  change execBpmFree u e h s = _
  rw [execBpmFree, whenLive_of_live live, if_pos (bne_iff_ne.mpr stale)]
  rfl

/-- A sender under a stale epoch is not fresh. -/
theorem pipFresh_of_stale (stale : (s.gateN u).epoch ≠ e) : s.pipFresh (.unit u e) = false :=
  beq_eq_false_iff_ne.mpr stale

/-- A signal under a stale epoch is dropped, and counted at the pip store and for its unit. -/
theorem exec_pipSignalApply_of_stale (live : s.live = true) (stale : (s.gateN u).epoch ≠ e) (p op : Nat) (v : U32)
    (err : Option EccErr) :
    exec (.pipSignalApply (.unit u e) p op v err) s = .next (s.pipDropCounted.dropCounted u) := by
  change execPipSignalApply (.unit u e) p op v err s = _
  rw [execPipSignalApply, whenLive_of_live live, if_pos (by simp [pipFresh_of_stale stale])]
  rfl

/-- A wait under a stale epoch is dropped, and counted at the pip store and for its unit. -/
theorem exec_pipWaitRegister_of_stale (live : s.live = true) (stale : (s.gateN u).epoch ≠ e) {w : WaitReq}
    (sender : w.by_ = .unit u e) :
    exec (.pipWaitRegister w) s = .next (s.pipDropCounted.dropCounted u) := by
  change execPipWaitRegister w s = _
  rw [execPipWaitRegister, whenLive_of_live live, sender, if_pos (by simp [pipFresh_of_stale stale])]
  rfl

end

/-! ### DIAG_UNIT (R170) -/

/-- The data of DIAG_UNIT's response: power, fence, epoch, a reserved byte, STALE_DROPS. -/
def UnitGate.diagData (g : UnitGate) : List Byte :=
  leBytes 1 (b2n g.powered) ++ leBytes 1 (b2n g.fenced) ++ leBytes 1 g.epoch.toNat ++ zeros 1 ++ leBytes 4 g.staleDrops.toNat

/-- STALE_DROPS is the second word of the data. -/
theorem diagData_staleDrops (g : UnitGate) : (g.diagData.drop 4).take 4 = leBytes 4 g.staleDrops.toNat := rfl

/-- DIAG_UNIT of a unit that the variant has answers the data of its gate. -/
theorem exec_diagUnit_of_accepts {c : HostCmd} {s : State} (accepted : cmdDiagUnit.accepts c s = true)
    (present : s.unitAbsent (c.f 8 1) = false) :
    exec (.diagUnit c) s = .next (s.answer c 0x0C03 .ok (s.gateN (c.f 8 1)).diagData) := by
  have own : cmdDiagUnit.own c s = .ok s (s.gateN (c.f 8 1)).diagData := if_neg (by simp [present])
  exact direct_ok accepted own

/-! ### The obligation -/

/-- Settles O28: a stale reply or free is `State.dropCounted`, which `dropCounted_counts` describes; a stale signal or wait is
the same after `State.pipDropCounted`; and DIAG_UNIT answers the count (`diagData_staleDrops`). -/
theorem staleEpochDrop : Obligations.StaleEpochDrop := by
  refine ⟨fun u e s live unit => ⟨fun stale => ⟨?reply, fun i message => ?pip, fun h => ?free⟩,
    exec_staleEpochDrop_of_present live⟩, fun c s accepted present => ?diag⟩
  case reply => exact ⟨_, exec_staleEpochDrop_of_stale live stale, dropCounted_counts s unit⟩
  case free => exact ⟨_, exec_bpmFree_of_stale live stale h, dropCounted_counts s unit⟩
  case pip =>
    have dropped : exec i s = .next (s.pipDropCounted.dropCounted u) := by
      rcases message with ⟨p, op, v, err, rfl⟩ | ⟨w, sender, rfl⟩
      · exact exec_pipSignalApply_of_stale live stale p op v err
      · exact exec_pipWaitRegister_of_stale live stale sender
    obtain ⟨counted, epoch, others, -⟩ := dropCounted_counts s.pipDropCounted unit
    exact ⟨_, dropped, counted, epoch, others, congrArg PipStore.staleDrop (updGate_pip _ u _),
      dropCounted_pipDropCounted_restore s u⟩
  case diag => exact ⟨_, exec_diagUnit_of_accepts accepted present, diagData_staleDrops _⟩

end Sys2Proof.Machine

/-!
Proof of `StopHolds` and `OffLeftByPorOnly` (R563, R75; 02, Power states): what a step may do to a device that is in OFF or has
stopped after a device fault. Both devices run neither the data plane nor firmware, so one relation, `Rests`, serves both; each
shared operation keeps it, and so does each command that acts on such a device.
-/
namespace Sys2Proof.Machine
open Sys2Proof
set_option Elab.async false

/-! ### The relation -/

/-- The Keeper of a stopped device: STOPPED, DEVICE latched, SAFE_N low (R563, R581). -/
def Keeper.down (k : Keeper) : Bool := k.stopped && k.fault.getLsbD 1 && !k.safe

/-- What a stopped device keeps from `s` to `t`, and what it may send meanwhile. -/
structure StopFrame (s t : State) : Prop where
  halted : t.halted = true
  pending : t.pending = s.pending
  gate : ∀ u : Fin 56, s.gate[u].closed = true → t.gate[u].closed = true
  cells : t.mem.cells = s.mem.cells
  str : t.str = s.str
  pip : t.pip = s.pip
  bpm : t.bpm = s.bpm
  lfn : t.lfn = s.lfn
  sched : t.sched = s.sched
  out : ∀ x ∈ t.out, x ∈ s.out ∨ x.whenHalted = true

/-- From `s` to `t` a device in OFF stays in OFF, and a stopped one keeps what a stopped device keeps. -/
structure Rests (s t : State) : Prop where
  off : s.sup.power = .off → t.sup.power = .off
  stop : s.halted = true → StopFrame s t

theorem halted_iff (s : State) :
    s.halted = true ↔ s.kpr.down = true ∧ s.boot.stage = 0xF ∧ s.boot.hostWait = false := by
  simp [State.halted, Keeper.down, and_assoc]

theorem stopped_of_down {k : Keeper} (h : k.down = true) : k.stopped = true := by
  simp only [Keeper.down, Bool.and_eq_true] at h
  exact h.1.1

theorem stopped_of_halted {s : State} (h : s.halted = true) : s.kpr.stopped = true :=
  stopped_of_down ((halted_iff s).mp h).1

theorem live_of_halted {s : State} (h : s.halted = true) : s.live = false := by
  simp [State.live, stopped_of_halted h]

theorem live_of_off {s : State} (h : s.sup.power = .off) : s.live = false := by
  simp [State.live, h]

theorem canRequest_of_halted {s : State} (h : s.halted = true) : s.canRequest = false := by
  simp [State.canRequest, stopped_of_halted h]

/-- A response changes the host interface and what is sent alone, so a device in OFF stays there. -/
theorem respond_sup (s : State) (m : Fin 16) (op : Nat) (q : BitVec 16) (ni : Bool) (st : Status) (d : List Byte) :
    (s.respond m op q ni st d).sup = s.sup := by
  obtain ⟨_, _, eq⟩ := respond_frame s m op q ni st d
  rw [eq]

theorem sendMsix_sup (s : State) (v : Fin 64) : (s.sendMsix v).sup = s.sup := by
  obtain ⟨_, _, eq, -⟩ := sendMsix_frame s v
  rw [eq]

theorem raising_sup {f : State → State} (s : State) (h : (f s).sup = s.sup) : (s.raising f).sup = s.sup := by
  unfold State.raising
  dsimp only
  split
  · exact (sendMsix_sup _ _).trans h
  · exact h

theorem settleMbx_sup (s : State) (m : Fin 16) : (s.settleMbx m).sup = s.sup := by
  unfold State.settleMbx
  split <;> rfl

theorem postFinal_sup (s : State) (r : Running) : (s.postFinal r).sup = s.sup := by
  unfold State.postFinal
  split
  · rfl
  · exact (settleMbx_sup _ r.mbx).trans (respond_sup ..)

namespace StopFrame

theorem refl {s : State} (h : s.halted = true) : StopFrame s s where
  halted := h
  pending := rfl
  gate _ c := c
  cells := rfl
  str := rfl
  pip := rfl
  bpm := rfl
  lfn := rfl
  sched := rfl
  out _ m := .inl m

theorem trans {s t u : State} (a : StopFrame s t) (b : StopFrame t u) : StopFrame s u where
  halted := b.halted
  pending := b.pending.trans a.pending
  gate n c := b.gate n (a.gate n c)
  cells := b.cells.trans a.cells
  str := b.str.trans a.str
  pip := b.pip.trans a.pip
  bpm := b.bpm.trans a.bpm
  lfn := b.lfn.trans a.lfn
  sched := b.sched.trans a.sched
  out x m := (b.out x m).elim (a.out x) .inr

end StopFrame

namespace Rests

variable {s t u : State}

theorem refl : Rests s s := ⟨id, .refl⟩

theorem trans (a : Rests s t) (b : Rests t u) : Rests s u where
  off h := b.off (a.off h)
  stop h := (a.stop h).trans (b.stop (a.stop h).halted)

/-- Only a device at rest has anything to show. -/
theorem of_rest (h : s.sup.power = .off ∨ s.halted = true → Rests s t) : Rests s t where
  off o := (h (.inl o)).off o
  stop p := (h (.inr p)).stop p

theorem rest (r : Rests s t) (h : s.sup.power = .off ∨ s.halted = true) : t.sup.power = .off ∨ t.halted = true :=
  h.imp r.off fun p => (r.stop p).halted

theorem not_live (r : Rests s t) (h : s.sup.power = .off ∨ s.halted = true) : t.live = false :=
  (r.rest h).elim live_of_off live_of_halted

theorem ite {c : Prop} [Decidable c] (a : Rests s t) (b : Rests s u) : Rests s (if c then t else u) := by
  split
  · exact a
  · exact b

theorem ite_not {c : Prop} [Decidable c] (h : ¬ c) (b : Rests s u) : Rests s (if c then t else u) := by
  rw [if_neg h]
  exact b

theorem ite_stopped {v : State} (h : u.live = false) (b : Rests s t) : Rests s (if !u.live then t else v) := by
  rw [h]
  exact b

/-- A part that needs the running device does not happen. -/
theorem ite_live {v : State} (r : Rests s u) (b : Rests s t) : Rests s (if u.live = true then v else t) :=
  .of_rest fun h => by rw [r.not_live h, if_neg Bool.false_ne_true]; exact b

theorem foldl {α : Type} {f : State → α → State} (h : ∀ s x, Rests s (f s x)) (l : List α) (r : Rests s t) :
    Rests s (l.foldl f t) := by
  induction l generalizing t with
  | nil => exact r
  | cons x xs ih => exact ih (r.trans (h t x))

/-! ### Changes of one part of the state -/

section
variable (r : Rests s t)
include r

theorem updSup {f : Supply → Supply} (h : ∀ p : Supply, p.power = .off → (f p).power = .off := by exact fun _ h => h) :
    Rests s (t.updSup f) :=
  r.trans ⟨h _, fun p => { StopFrame.refl p with halted := p }⟩

theorem updKpr {f : Keeper → Keeper} (h : ∀ k : Keeper, k.down = true → (f k).down = true := by exact fun _ h => h) :
    Rests s (t.updKpr f) :=
  r.trans ⟨id, fun p => { StopFrame.refl p with
    halted := (halted_iff _).mpr ⟨h _ ((halted_iff t).mp p).1, ((halted_iff t).mp p).2⟩ }⟩

theorem updKslot {n : Fin 64} {f : KprSlot → KprSlot} : Rests s (t.updKslot n f) := r.updKpr

theorem updBoot {f : Boot → Boot} (stage : ∀ b : Boot, (f b).stage = b.stage := by exact fun _ => rfl)
    (wait : ∀ b : Boot, (f b).hostWait = b.hostWait := by exact fun _ => rfl) :
    Rests s (t.updBoot f) :=
  r.trans ⟨id, fun p => { StopFrame.refl p with
    halted := by
      obtain ⟨down, ready, go⟩ := (halted_iff t).mp p
      exact (halted_iff _).mpr ⟨down, (stage _).trans ready, (wait _).trans go⟩ }⟩

theorem host {x : HostIf} : Rests s { t with host := x } := r.trans ⟨id, fun p => { StopFrame.refl p with halted := p }⟩
theorem pins {x : Pins} : Rests s { t with pins := x } := r.trans ⟨id, fun p => { StopFrame.refl p with halted := p }⟩
theorem fw {x : Fw} : Rests s { t with fw := x } := r.trans ⟨id, fun p => { StopFrame.refl p with halted := p }⟩
theorem running {x : List Running} : Rests s { t with running := x } :=
  r.trans ⟨id, fun p => { StopFrame.refl p with halted := p }⟩
theorem free {n : Nat} : Rests s { t with free := n } := r.trans ⟨id, fun p => { StopFrame.refl p with halted := p }⟩
theorem updTbs {f : Tbs → Tbs} : Rests s (t.updTbs f) := r.trans ⟨id, fun p => { StopFrame.refl p with halted := p }⟩

theorem emit {o : Out} (h : o.whenHalted = true := by rfl) : Rests s (t.emit o) :=
  r.trans ⟨id, fun p => { StopFrame.refl p with
    halted := p
    out := fun x m => (List.mem_cons.mp m).elim (fun e => .inr (e ▸ h)) .inl }⟩

theorem faultLog {unit status : Nat} {detail : U32} : Rests s (t.faultLog unit status detail) :=
  r.trans ⟨id, fun p => { StopFrame.refl p with halted := p }⟩

theorem updGate {n : Nat} {f : UnitGate → UnitGate} 
    (h : ∀ g : UnitGate, g.closed = true → (f g).closed = true := by exact fun _ c => c) : Rests s (t.updGate n f) := by
  unfold State.updGate
  split
  case isFalse => exact r
  case isTrue lt =>
    refine r.trans ⟨id, fun p => { StopFrame.refl p with halted := p, gate := fun v c => ?_ }⟩
    by_cases e : (⟨n, lt⟩ : Fin 56) = v
    · subst e
      exact (congrArg UnitGate.closed (updAt_get_self _ _ _)).trans (h _ c)
    · exact (congrArg UnitGate.closed (updAt_get_other _ _ _ _ e)).trans c

/-! ### Interrupts: a stopped device keeps its messages as pending -/

theorem sendMsix {v : Fin 64} : Rests s (t.sendMsix v) := by
  refine r.trans ⟨fun o => ?_, fun p => ?_⟩
  · exact (congrArg Supply.power (sendMsix_sup t v)).trans o
  · have kept : t.canRequest = false := canRequest_of_halted p
    simp only [State.sendMsix, kept, Bool.not_false, Bool.or_true, if_true]
    exact ((Rests.refl (s := t)).ite (Rests.refl.host)).stop p

theorem raising {f : State → State} (h : ∀ x, Rests s x → Rests s (f x)) : Rests s (t.raising f) :=
  .ite (h t r).sendMsix (h t r)

theorem supEvent {bits : BitVec 7} : Rests s (t.supEvent bits) := r.raising fun _ q => q.updSup
theorem kprEvent {bits : BitVec 4} : Rests s (t.kprEvent bits) := r.raising fun _ q => q.updKpr

theorem flushMsix : Rests s t.flushMsix :=
  foldl (fun x _ => by
    refine ⟨fun o => ?_, fun p => ?_⟩
    · dsimp only
      split <;> exact o
    · have kept : x.canRequest = false := canRequest_of_halted p
      simpa [kept] using StopFrame.refl p) _ r

/-! ### The Keeper -/

theorem kprLog {cls cause who : Nat} {flags : Byte} {value : U32} : Rests s (t.kprLog cls cause who flags value) :=
  r.updKpr.kprEvent

theorem safeDrop : Rests s t.safeDrop :=
  .ite (updKpr r fun k h => by simp_all [Keeper.down]).kprEvent r

theorem deviceStop : Rests s t.deviceStop := by
  refine .ite r (updKpr ?_ fun k h => by simp_all [Keeper.down])
  exact foldl (fun x u => .ite (Rests.refl.updGate fun g c => by simp [c]) .refl) _ r

theorem latch {b : KprBit} {cause who : Nat} {value : U32} : Rests s (t.latch b cause who value) := by
  unfold State.latch
  refine .ite (deviceStop ?_) (.ite (updSup ?_ fun _ _ => rfl) ?_) <;>
    exact (updKpr r.kprLog fun k h => by simp_all [Keeper.down]).kprEvent.safeDrop

theorem monitor {b : KprBit} {who : Nat} {value : U32} {injected : Bool} : Rests s (t.monitor b who value injected) :=
  .ite r r.updKpr.latch

theorem streamFault {n : Fin 64} {c : StreamCause} {value : U32} {injected : Bool} :
    Rests s (t.streamFault n c value injected) :=
  r.updKpr.latch.updKslot

theorem injectDone {b : Bool} : Rests s (t.injectDone b) := .ite r.updKpr r

/-! ### Supply, flash and commands in progress -/

theorem avsRequest {code : Nat} : Rests s (t.avsRequest code) := r.updSup.emit

theorem setThrottle {l : Fin 3} : Rests s (t.setThrottle l) :=
  .ite r (.ite_live r.updSup.pins.supEvent r.updSup.pins.supEvent)

theorem faultLogOpen {unit : Nat} : Rests s (t.faultLogOpen unit) := r.free.free.faultLog

theorem flashStart {o : FlashOp} : Rests s (t.flashStart o) := by
  cases o with
  | erase b => exact updSup r (f := fun p => { p with
      flashOp := some (.erase b), eraseSusp := none, flash := flashErase p.flash b })
  | program a bs again => exact updSup r (f := fun p => { p with flashOp := some (.program a bs again) })

theorem logCopy : Rests s t.logCopy := .ite r.updSup r

theorem flashKick : Rests s t.flashKick := by
  unfold State.flashKick
  refine .ite r (.ite (.ite r.fw r) ?_)
  split
  · exact r.updSup
  · split
    · exact r.fw.updSup
    · split
      · exact r.fw.flashStart
      · exact r.logCopy

theorem updPcie {f : Pcie → Pcie} : Rests s (t.updPcie f) := r.host

theorem postReady : Rests s t.postReady := by
  refine r.trans ⟨fun o => ?_, fun p => ?_⟩
  · unfold State.postReady
    split
    · exact List.foldlRecOn (motive := fun x : State => x.sup.power = .off) _ _ o
        fun x px q _ => (congrArg Supply.power (postFinal_sup x q)).trans px
    · exact o
  · rw [State.postReady, canRequest_of_halted p, if_neg Bool.false_ne_true]
    exact .refl p

theorem finish {w : WaitFor} {st : Status} {data : List Byte} : Rests s (t.finish w st data) := r.running.postReady

theorem flashFinish {st : Status} {data : List Byte} : Rests s (t.flashFinish st data) := r.fw.finish

theorem programDone {a : Nat} {bs : List Byte} {retry ok : Bool} : Rests s (t.programDone a bs retry ok) := by
  have done := (r.updSup (f := fun p => { p with flashOp := none, flash := flashProgram p.flash a bs }))
  exact .ite (.ite (done.fw.flashFinish.flashKick) done.fw.flashKick)
    (.ite r.free.updSup.fw.flashKick r.free.updSup.faultLog.flashFinish.flashKick)

theorem otpDone {o : OtpOp} {ok : Bool} : Rests s (t.otpDone o ok) := by
  unfold State.otpDone
  split
  · extract_lets s₁ n s₂
    have blown : Rests s s₂ := (updSup r).updBoot
    exact blown.finish.flashKick
  · extract_lets f x s₁ wrong s₂ n s₃ g s₄
    have blown : Rests s s₂ := updSup r.free
    have logged : Rests s s₄ := blown.updBoot.free.faultLog
    exact logged.finish.flashKick

/-! ### The host -/

theorem badAccess {o : BitVec 24} {n : Nat} {w : Bool} : Rests s (t.badAccess o n w) :=
  .ite r (.ite (r.raising fun _ q => q.host) ((r.raising fun _ q => q.host).emit))

theorem missed {a : Nat} : Rests s (t.missed a) := by
  unfold State.missed
  exact r.raising fun _ q => q.host

theorem aerReport {k : AerKind} : Rests s (t.aerReport k) := r.host

end

end Rests

/-! ### What does not act on a device at rest -/

section
variable {s : State} (rest : s.sup.power = .off ∨ s.halted = true)
include rest

theorem live_of_rest : s.live = false := rest.elim live_of_off live_of_halted

theorem barUp_of_rest : s.barUp = false := by simp [State.barUp, live_of_rest rest]

theorem enablesUp_of_rest : s.enablesUp = false := by
  rcases rest with off | halted
  · simp [State.enablesUp, off]
  · simp [State.enablesUp, stopped_of_halted halted]

theorem fwRuns_of_rest : s.fwRuns = false := by
  rcases rest with off | halted
  · simp [State.fwRuns, off]
  · simp [State.fwRuns, stopped_of_halted halted]

theorem booting_of_rest : s.booting = false := by
  rcases rest with off | halted
  · simp [State.booting, off]
  · simp [State.booting, stopped_of_halted halted]

theorem dmcOn_of_rest (n : Fin 4) : s.dmcOn n = false := by simp [State.dmcOn, live_of_rest rest]

theorem dmcUp_of_rest (n : Fin 4) : s.dmcUp n = false := by simp [State.dmcUp, dmcOn_of_rest rest]

theorem whenLive_of_rest (f : State → State) : whenLive s f = .next s := whenLive_of_not_live (live_of_rest rest) f

theorem whenBar_of_rest (f : State → State) : whenBar s f = .next s := by simp [whenBar, barUp_of_rest rest]

theorem direct_of_rest (k : Command) (c : HostCmd) : direct k c s = .next s := by
  simp [direct, State.served, live_of_rest rest]

end

/-- The outcome is a next state that keeps what a device at rest keeps. -/
def RestsTo (s : State) (r : Res) : Prop := ∃ t, r = .next t ∧ Rests s t

namespace RestsTo

variable {s t : State}

theorem next (r : Rests s t) : RestsTo s (.next t) := ⟨t, rfl, r⟩

theorem same {r : Res} (h : r = .next s) : RestsTo s r := ⟨s, h, .refl⟩

theorem keeper {f : State → State} (r : Rests s (f s)) : RestsTo s (whenKeeper s f) := next (.ite r .refl)

theorem powered {f : State → State} (r : Rests s (f s)) : RestsTo s (whenPowered s f) := next (.ite r .refl)

end RestsTo

/-! ### The Keeper's rows -/

section
variable (s : State)

theorem rests_keeperClockWindow (counts : Vector Nat 5) : RestsTo s (execKeeperClockWindow counts s) := by
  refine .keeper ?_
  split
  · exact .refl
  · refine .ite .refl (Rests.foldl (fun x i => ?_) _ Rests.refl.updKpr)
    exact .ite Rests.refl.injectDone Rests.refl.injectDone.monitor

theorem rests_keeperSupplyFault (supply : Nat) (mv : U32) : RestsTo s (execKeeperSupplyFault supply mv s) :=
  .keeper (.ite .refl (.ite .refl Rests.refl.injectDone.monitor))

theorem rests_keeperSelfTest (pass : Bool) : RestsTo s (execKeeperSelfTest pass s) :=
  have tested := Rests.refl.updKpr.injectDone
  .keeper (.ite .refl (.ite tested tested.monitor))

theorem rests_watchdogTimeout : RestsTo s (execWatchdogTimeout s) := by
  refine .keeper ?_
  split
  · exact .ite Rests.refl.monitor .refl
  · exact .refl

theorem rests_kprWdogKick (token : Byte) : RestsTo s (execKprWdogKick token s) := by
  refine .keeper ?_
  split
  · exact .refl
  · exact .ite Rests.refl.injectDone.updKpr Rests.refl.injectDone.monitor

theorem rests_hylLockstepMismatch : RestsTo s (execHylLockstepMismatch s) := .keeper (.ite Rests.refl.monitor .refl)

theorem rests_deviceFaultReport (unit detail : Byte) (value : U32) : RestsTo s (execDeviceFaultReport unit detail value s) :=
  .keeper (.ite (.ite .refl Rests.refl.latch) .refl)

theorem rests_sourceWatchExpiry (n : Fin 64) : RestsTo s (execSourceWatchExpiry n s) := by
  refine .keeper ?_
  dsimp only
  split
  · exact .ite Rests.refl.injectDone.streamFault.updKslot .refl
  · exact .refl

theorem rests_deadlineWatchExpiry (n : Fin 64) : RestsTo s (execDeadlineWatchExpiry n s) := by
  refine .keeper ?_
  dsimp only
  split
  · exact .ite Rests.refl.injectDone.streamFault.updKslot .refl
  · exact .refl

theorem rests_noResultWatchExpiry (n : Fin 64) : RestsTo s (execNoResultWatchExpiry n s) := by
  refine .keeper ?_
  dsimp only
  split
  · exact .ite Rests.refl.streamFault .refl
  · exact .refl

theorem rests_startWatchExpiry (n : Fin 64) : RestsTo s (execStartWatchExpiry n s) :=
  .keeper (.ite Rests.refl.streamFault .refl)

/-- SAFE_N is not released while a fault is latched (R580). -/
theorem releaseOk_of_halted {s : State} (h : s.halted = true) : s.releaseOk = false := by
  have latched : s.kpr.fault ≠ 0 := fun zero => by simp [State.halted, zero] at h
  simp only [State.releaseOk, beq_eq_false_iff_ne.mpr latched, Bool.and_false, Bool.false_and]

/-- SAFE_N's release leaves the supply block. -/
theorem rests_safeNRelease : RestsTo s (execSafeNRelease s) := by
  refine .keeper ⟨fun o => ?_, fun p => ?_⟩
  · dsimp only
    split
    · exact (Rests.refl.kprEvent (s := s.updKpr _)).off o
    · exact o
  · simp only [releaseOk_of_halted p]
    exact .refl p

theorem rests_beaconToggle : RestsTo s (execBeaconToggle s) := .keeper (.ite Rests.refl.updKpr .refl)

/-! ### The supply block's rows -/

theorem rests_droopTrip : RestsTo s (execDroopTrip s) :=
  have cancelled := Rests.ite (c := s.sup.avsLowerDue.isSome = true)
    (Rests.refl.updSup (s := s) (f := fun p => { p with avsLowerDue := none, avsHoldoff := some (s.clock + 10000) })) .refl
  .powered (.ite cancelled cancelled.updSup.supEvent)

theorem rests_droopBlockEnd (e : DroopEnd) : RestsTo s (execDroopBlockEnd e s) :=
  .powered (.ite Rests.refl.updSup.updKpr .refl)

theorem rests_avsEvaluation (worst : Nat) : RestsTo s (execAvsEvaluation worst s) := by
  have limited := Rests.ite (c := (decide (8 ≤ worst) && s.sup.avsLimit) = true)
    (Rests.refl.updSup (s := s) (f := fun p => { p.mixed with avsLimit := false })) .refl
  have counted := limited.updSup (f := fun p => { p with avsLowerDue := none })
  refine .powered (.ite .refl (.ite limited.avsRequest (.ite limited.updSup (.ite counted ?_))))
  exact .ite (.ite counted counted.updSup.supEvent) counted.updSup.avsRequest

theorem rests_avsLowerTimer : RestsTo s (execAvsLowerTimer s) :=
  have waits := Rests.refl.updSup (s := s) (f := fun p => { p with avsLowerDue := some (s.clock + 1000) })
  .powered (.ite (.ite waits.avsRequest waits) .refl)

theorem rests_avsSettleWaitEnd : RestsTo s (execAvsSettleWaitEnd s) := .powered (.ite Rests.refl.updSup .refl)

theorem rests_avsDroopHoldoffEnd : RestsTo s (execAvsDroopHoldoffEnd s) :=
  .powered (.ite Rests.refl.updSup .refl)

theorem avsFrame_out_whenHalted (f : AvsFrame) : f.out.whenHalted = true := by
  unfold AvsFrame.out
  split <;> rfl

theorem rests_avsbusFrameDone (ok : Bool) (measMv : BitVec 16) : RestsTo s (execAvsbusFrameDone ok measMv s) := by
  have measured := Rests.refl.updSup (s := s) (f := fun p => { p with measMv := measMv })
  refine .powered ?_
  dsimp only
  split
  · exact measured
  · refine .ite measured.updSup (.ite (measured.updSup.emit (avsFrame_out_whenHalted _)) ?_)
    exact .ite (measured.updSup.emit (avsFrame_out_whenHalted _)) measured.updSup.supEvent

theorem rests_supAvsEnable (on : Bool) : RestsTo s (execSupAvsEnable on s) := .next (.ite Rests.refl.updSup .refl)

theorem rests_tempSensorRead (temps : Vector (BitVec 16) 12) (valid : Vector Bool 12) :
    RestsTo s (execTempSensorRead temps valid s) := by
  refine .powered ?_
  dsimp only
  split
  · exact (Rests.setThrottle (.injectDone (.ite (Rests.updSup .refl).supEvent (.updSup .refl)))).updSup
  · refine .ite (Rests.monitor ?_) ?_ <;>
      exact (Rests.setThrottle (.updSup (.injectDone (.ite (Rests.updSup .refl).supEvent
        (.updSup .refl))))).updSup

theorem rests_throttleDwellExpiry : RestsTo s (execThrottleDwellExpiry s) := .powered (.ite Rests.refl.setThrottle .refl)

theorem rests_throttleReleaseExpiry : RestsTo s (execThrottleReleaseExpiry s) :=
  .powered (.ite Rests.refl.setThrottle.updSup .refl)

theorem rests_sensorStuckTimeout (n : Fin 12) : RestsTo s (execSensorStuckTimeout n s) :=
  .powered (.ite .refl (.ite Rests.refl.updSup.setThrottle Rests.refl.updSup))

theorem rests_powerSwitchOnStep : RestsTo s (execPowerSwitchOnStep s) := by
  refine .powered ?_
  split
  case h_1 => exact .refl
  case h_2 u us _ =>
    refine .ite .refl (.of_rest fun rest => ?_)
    have switched := (Rests.refl.updSup (s := s) (f := fun p => { p with switchOn := us, switchAt := some s.clock })).updGate
      (n := u) (f := fun g => { g with powered := true, poweredAt := some s.clock })
    exact .ite_not (fun running =>
      Bool.false_ne_true ((switched.not_live rest).symm.trans (Bool.and_eq_true_iff.mp running).2)) switched

/-! ### The guard and the flash controller -/

theorem rests_supplyGuardActivate (sag warn : Bool) : RestsTo s (execSupplyGuardActivate sag warn s) := by
  refine .next (.ite .refl ?_)
  dsimp only
  refine .ite (Rests.updSup .refl) ?_
  refine .ite (Rests.fw ?_) ?_ <;>
  · split
    · exact (Rests.supEvent (.updSup (.updSup .refl))).updSup
    · exact Rests.supEvent (.updSup (.updSup .refl))

theorem rests_supplyGuardRelease : RestsTo s (execSupplyGuardRelease s) :=
  have released := (Rests.refl.updSup (s := s) (f := fun p => { p with guard := false, guardGoodAt := none }))
  .next (.ite .refl (.ite released.fw.flashKick released.fw))

theorem rests_guardWaitTimeout : RestsTo s (execGuardWaitTimeout s) := by
  refine .next ?_
  split
  · refine .ite ?_ .refl
    dsimp only
    split
    · exact .ite Rests.refl.fw.finish.fw.flashFinish Rests.refl.fw.finish.fw
    · exact .ite Rests.refl.fw.flashFinish Rests.refl.fw
  · exact .refl

theorem rests_flashOpComplete (ok : Bool) : RestsTo s (execFlashOpComplete ok s) := by
  refine .next (.ite .refl ?_)
  split
  · exact Rests.refl.updSup.flashKick
  · exact Rests.refl.programDone
  · split
    · exact Rests.refl.otpDone
    · exact .refl

/-! ### The host's rows -/

theorem rests_bar2Read (offset len : Nat) : RestsTo s (execBar2Read offset len s) := by
  refine .next (.of_rest fun rest => ?_)
  simp only [barUp_of_rest rest, Bool.false_eq_true, if_false]
  exact .ite .refl (.ite Rests.refl.emit (.ite Rests.refl.emit .refl))

/-- A host load writes the staging area alone. -/
theorem rests_bar2Write (offset : Nat) (bytes : List Byte) (poisoned : Bool) :
    RestsTo s (execBar2Write offset bytes poisoned s) := by
  refine .next (.of_rest fun rest => ?_)
  have reported := Rests.ite (c := poisoned = true) (Rests.refl.aerReport (t := s) (k := .poisonedTlp)) .refl
  have down := barUp_of_rest (reported.rest rest)
  exact .ite reported (.ite reported.missed (.ite_not (by simp [down]) (.ite reported.updBoot reported)))

theorem rests_bar4DoorbellWrite (offset : Nat) (bytes : List Byte) (poisoned : Bool) :
    RestsTo s (execBar4DoorbellWrite offset bytes poisoned s) := by
  refine .next (.of_rest fun rest => ?_)
  simp only [barUp_of_rest rest, Bool.not_false, Bool.true_or, if_true]
  exact .ite Rests.refl.aerReport .refl

theorem rests_pmD3hotEntry : RestsTo s (execPmD3hotEntry s) := by
  refine .next (.ite .refl (.of_rest fun rest => ?_))
  have entered := Rests.refl.updPcie (s := s) (f := fun p => { p with dstate := .d3hot })
  exact .ite_stopped (entered.not_live rest) entered

theorem rests_pmD0Return : RestsTo s (execPmD0Return s) := by
  refine .next (.ite .refl (.of_rest fun rest => ?_))
  have returned := Rests.refl.updPcie (s := s) (f := fun p => { p with dstate := .d0, held := false })
  exact .ite_stopped (returned.not_live rest) returned

theorem rests_busMasterEnableChange (on : Bool) : RestsTo s (execBusMasterEnableChange on s) := by
  refine .next (.of_rest fun rest => ?_)
  have set := Rests.refl.updPcie (s := s) (f := fun p => { p with busMaster := on })
  exact .ite_not (by simp [set.not_live rest]) set

/-- A stopped device has booted, so no host load ends in it; one of a device in OFF leaves the supply block. -/
theorem rests_bootHostGo : RestsTo s (execBootHostGo s) := by
  refine .next ⟨fun o => ?_, fun p => ?_⟩
  · split
    · exact o
    · dsimp only
      split
      · exact o
      · exact (congrArg Supply.power (raising_sup _ rfl)).trans o
  · simp only [((halted_iff s).mp p).2.2, Bool.not_false, Bool.true_or, if_true]
    exact .refl p

/-! ### Register writes -/

theorem orElse_rests {r : Res} (h : RestsTo s r) : Rests s (Res.orElse r s) := by
  obtain ⟨t, rfl, kept⟩ := h
  exact kept

theorem mbxCtrl_of_rest (m : Fin 16) (v : U32) (rest : s.sup.power = .off ∨ s.halted = true) : s.mbxCtrl m v = s := by
  have reset : execMbxIndexReset m s = .next s := whenBar_of_rest rest _
  have irqEn : execMbxIrqEnWrite m (v.getLsbD 1) s = .next s := whenBar_of_rest rest _
  have on : execMbxEnable m s = .next s := whenBar_of_rest rest _
  have off : execMbxDisable m s = .next s := whenBar_of_rest rest _
  simp only [State.mbxCtrl, reset, irqEn, on, off, Res.orElse, ite_self]

theorem mbxWord_of_rest (m : Fin 16) (o : Nat) (v : U32) (rest : s.sup.power = .off ∨ s.halted = true) :
    s.mbxWord m o v = s := by
  have tail : execMbxCmdTailWrite m v s = .next s := whenBar_of_rest rest _
  have head : execMbxRspHeadWrite m v s = .next s := whenBar_of_rest rest _
  simp [State.mbxWord, tail, head, Res.orElse, mbxCtrl_of_rest s m v rest, barUp_of_rest rest]

theorem rests_bar0Word (o : Nat) (v : U32) : Rests s (s.bar0Word o v) := by
  refine .of_rest fun rest => ?_
  have status : execIntStatusWrite v s = .next s := whenBar_of_rest rest _
  have enable : execIntEnableWrite v s = .next s := by simp [execIntEnableWrite, enablesUp_of_rest rest]
  have read (n : Fin 64) : execRrgReadWrite n v s = .next s := whenBar_of_rest rest _
  have irq (n : Fin 64) : execRrgIrqWrite n v s = .next s := whenBar_of_rest rest _
  unfold State.bar0Word
  split
  case h_1 => exact .ite Rests.refl.updBoot .refl
  case h_7 => exact .ite (orElse_rests s (rests_bootHostGo s)) .refl
  case h_5 m o _ => rw [mbxWord_of_rest s m o v rest]; exact .refl
  case h_10 => exact .refl
  all_goals
    simp only [barUp_of_rest rest, enablesUp_of_rest rest, status, enable, read, irq, Res.orElse, Bool.false_eq_true, if_false,
      ite_self]
    exact .refl

theorem rests_registerWrite (w : RegWrite) : RestsTo s (execRegisterWrite w s) := by
  refine .next (.of_rest fun rest => ?_)
  cases w with
  | bar0 o bytes value poisoned =>
    exact .ite Rests.refl.aerReport (.ite Rests.refl.badAccess
      (Rests.foldl (fun x (w : Nat × U32) => rests_bar0Word x w.1 w.2) _ .refl))
  | control a bytes value =>
    simp only [fwRuns_of_rest rest, Bool.not_false, Bool.true_or, if_true]
    exact .refl
  | msixEnable on => exact (Rests.refl.updPcie (s := s)).flushMsix
  | funcMask on => exact (Rests.refl.updPcie (s := s)).flushMsix
  | completionTimeout us => exact Rests.refl.updPcie
  | ptmEnable on => exact Rests.refl.updTbs


/-! ### Every row, and the tick -/

/-- A row whose first check fails for a device at rest does nothing. -/
theorem next_of_check {c : Prop} [Decidable c] (h : c) (t : State) : (.next (if c then s else t) : Res) = .next s :=
  congrArg _ (if_pos h)

/-- No row but a reset's acts on a device at rest beyond `Rests`: a host command, an event of the running part and a write to
BAR0 do nothing, and neither does a boot stage, a DRAM controller or firmware; the Keeper's and the supply block's rows and the
others that still act keep it one by one. -/
theorem exec_rests (i : Instr) (free : resetFree [i] = true) (rest : s.sup.power = .off ∨ s.halted = true) :
    RestsTo s (exec i s) := by
  have notLive : ¬ s.live = true := by simp [live_of_rest rest]
  have notUp : ¬ s.barUp = true := by simp [barUp_of_rest rest]
  have notBooting := booting_of_rest rest
  have noEnables := enablesUp_of_rest rest
  cases i with
  | deviceNop | deviceInfo | devicePower | ctxCreate | ctxDestroy | mbxBind | memAlloc | memFree | bar2Window
  | modelLoad | modelUnload | instanceCreate | instanceDestroy | modelQuery | pipAlloc | pipFree | pipSignal
  | pipRead | pipWait | poolCreate | poolDestroy | poolAlloc | poolFree | poolQuery | poolBuoys | diagFaultLog
  | diagProbe | diagUnit | flashRead | flashWrite | fwSwitch | fuseSecver | fuseKey | fuseRevoke | streamSource
  | streamAnalytics | streamResult | streamStart | streamStop | streamStatus | streamReprocess | streamClear
  | streamTrack | streamView | jobSubmit | jobCancel | jobQuery | ckptWindow | ckptConfig | ckptNow | ckptRestore
  | ckptQuery | safetyArm | safetyLock | safetyUnlock | safetyClear | safetyInject | resetUnit | powerUnit
  | unitFence | linkId | linkPort | linkRoute | linkExport | linkFlush | linkErrRing | ethPort | ethNeighbour
  | ethSession | ethFlow | ethPtp | ethStats =>
    exact .same (direct_of_rest rest _ _)
  | commandConsume | asyncFinalResponse | rrgIrqTimeout | ltnRangeWrite | mmuInvalWrite | lineTimerExpiry
  | frameTimerExpiry | ethFrameReceive | rtpGapTimer | assemblyTimerExpiry | hostRingPoll | hostRingEntryCopy
  | hostRingHalt | staleRecordDue | ptpMessageReceive | ptmRequest | ptmDialogueDone | ppsEdge | ppsTimeout
  | disciplineSourceLoss | tbsLockTimer | ppsOutPulse | workItemEligible | saveRestoreDone | unitYield
  | engineItemComplete | weightImageLoadDone | vpuLocalLoadDone | tileRunComplete | tileRunRetryDone
  | runLimitExceeded | probeDue | probeComplete | referenceVectorDue | referenceVectorComplete | level3Promotion
  | quantumEnd | admissionReevaluate | fsScrubAccess | decodeComplete | decodeStopTimeout | veeEncodeComplete
  | veeSliceSend | prepComplete | cropComplete | ppeStopTimeout | selectComplete | trackComplete | ssuTrkStopTimeout
  | resultPost | resultRingFullTimeout | udpDatagramSend | bpmAllocDecision | bpmFree | bpmCacheRefill
  | bpmCacheSpill | bpmRebuildDone | adaptiveWindowEnd | pipSignalApply | pipWaitRegister | pipOverflowPoll
  | pipWaitTimeout | dmcUnansweredTimeout | mmuTranslate | teardownDrainDone | staleEpochDrop | unitResetComplete
  | unitPowerOnDone | epochDrainTimeout | fwImageCheckDone | fwSwitchDrainDone | fwSwitchDrainTimeout
  | fwSwitchHandoverDone | fwSwitchRevert | ckptTimerTrigger | ckptSnapshot | ckptCopyDone | ckptReductionDone
  | linkTrainingDone | linkTrainingTimeout | flitReceive | linkControlFlitSend | retrainTimeout | lfnLossOfLock
  | lfnPacketForward | creditWaitTimeout | writePostedArrive | readReqArrive | pipSignalPacketArrive | flushArrive
  | wcountServe | readRspArrive | readTimeout | flushAckArrive | flushAckTimeout | errNoticeArrive | errNoticeSend
  | helloArrive | windowArrive | windowQueryArrive | windowQueryTimeout | remoteRequestIssue | rerConsumerPoll
  | ltnCalDone | ltnLightQualified | ltnSweepDwellEnd | ltnIntegrationEnd | ltnDitherBoundary | ltnBlankingEnd
  | ltnAcquireTimeout | ltnRelockTimeout | ltnLockDeadline | ltnLightLoss | ltnWarmRelockStart
  | ltnWarmRelockTimeout | ltnHeaterFault | ltnMonitorFault | pcieCompletionTimeout | flushSpacingEnd
  | unitInternalFault | unitReadyTimeout | ptpDelayReqSend | ethPcsLockChange | csiHsBurstStart | csiFrameStart
  | csiLongPacket | csiFrameEnd | csiLaneFault =>
    exact .same (congrArg _ (if_neg notLive))
  | mbxCmdTailWrite | mbxRspHeadWrite | mbxEnable | mbxDisable | mbxIndexReset | mbxIrqEnWrite | rrgReadWrite
  | rrgIrqWrite | intStatusWrite | supAvsClearFault =>
    exact .same (congrArg _ (if_neg notUp))
  | porNAssert | porNRelease | perstNAssert | perstNRelease | hotReset | linkDownReset | vddIo18Loss =>
    simp [resetFree] at free
  | bootStageComplete => exact .same (next_of_check s (by simp [notBooting]) _)
  | bootStageTimeout | pllNoLock | flashNoResponse | unitInitFail | lockstepFail =>
    exact .same (congrArg _ (if_neg (by simp [notBooting])))
  | intEnableWrite | msixUnmask => exact .same (congrArg _ (if_neg (by simp [noEnables])))
  | dmcReadRequest n | dmcWriteRequest n | patrolScrubStep n => exact .same (next_of_check s (by simp [dmcUp_of_rest rest n]) _)
  | dramRefresh n | mr4Poll n | driftUpdate n => exact .same (next_of_check s (by simp [dmcOn_of_rest rest n]) _)
  | pageIdleClose n => exact .same (congrArg _ (if_neg (by simp [dmcUp_of_rest rest n])))
  | bar0BadAccess => exact .next Rests.refl.badAccess
  | pcieTlpError => exact .next Rests.refl.aerReport
  | keeperSmMismatch => exact .keeper (f := (State.monitor · .keeper 0x35 0 false)) Rests.refl.monitor
  | bar2Read offset len => exact rests_bar2Read s offset len
  | bar2Write offset bytes poisoned => exact rests_bar2Write s offset bytes poisoned
  | bar4DoorbellWrite offset bytes poisoned => exact rests_bar4DoorbellWrite s offset bytes poisoned
  | bootHostGo => exact rests_bootHostGo s
  | supAvsEnable on => exact rests_supAvsEnable s on
  | kprWdogKick token => exact rests_kprWdogKick s token
  | registerWrite w => exact rests_registerWrite s w
  | pmD3hotEntry => exact rests_pmD3hotEntry s
  | pmD0Return => exact rests_pmD0Return s
  | busMasterEnableChange on => exact rests_busMasterEnableChange s on
  | supplyGuardActivate sag warn => exact rests_supplyGuardActivate s sag warn
  | supplyGuardRelease => exact rests_supplyGuardRelease s
  | guardWaitTimeout => exact rests_guardWaitTimeout s
  | flashOpComplete ok => exact rests_flashOpComplete s ok
  | droopTrip => exact rests_droopTrip s
  | droopBlockEnd e => exact rests_droopBlockEnd s e
  | avsEvaluation worst => exact rests_avsEvaluation s worst
  | avsLowerTimer => exact rests_avsLowerTimer s
  | avsSettleWaitEnd => exact rests_avsSettleWaitEnd s
  | avsDroopHoldoffEnd => exact rests_avsDroopHoldoffEnd s
  | avsbusFrameDone ok measMv => exact rests_avsbusFrameDone s ok measMv
  | tempSensorRead temps valid => exact rests_tempSensorRead s temps valid
  | throttleDwellExpiry => exact rests_throttleDwellExpiry s
  | throttleReleaseExpiry => exact rests_throttleReleaseExpiry s
  | sensorStuckTimeout n => exact rests_sensorStuckTimeout s n
  | powerSwitchOnStep => exact rests_powerSwitchOnStep s
  | keeperClockWindow counts => exact rests_keeperClockWindow s counts
  | keeperSupplyFault supply mv => exact rests_keeperSupplyFault s supply mv
  | keeperSelfTest pass => exact rests_keeperSelfTest s pass
  | watchdogTimeout => exact rests_watchdogTimeout s
  | hylLockstepMismatch => exact rests_hylLockstepMismatch s
  | deviceFaultReport unit detail value => exact rests_deviceFaultReport s unit detail value
  | sourceWatchExpiry n => exact rests_sourceWatchExpiry s n
  | deadlineWatchExpiry n => exact rests_deadlineWatchExpiry s n
  | noResultWatchExpiry n => exact rests_noResultWatchExpiry s n
  | startWatchExpiry n => exact rests_startWatchExpiry s n
  | safeNRelease => exact rests_safeNRelease s
  | beaconToggle => exact rests_beaconToggle s

theorem idleTick_rests : Rests s s.idleTick := by
  unfold State.idleTick
  refine Rests.updTbs ?_
  refine ⟨id, fun p => ?_⟩
  simp only [live_of_halted p]
  refine { StopFrame.refl p with halted := ?_ }
  obtain ⟨down, ready, go⟩ := (halted_iff s).mp p
  refine (halted_iff _).mpr ⟨?_, ready, go⟩
  have ticked : (kprTick (s.clock + 1) s.kpr).down = true := by
    unfold kprTick
    split <;> exact down
  split
  · unfold winTick
    dsimp only
    split
    · exact ticked
    · split <;> exact ticked
  · exact down

/-- A reset but POR_N's assertion leaves a device in OFF there (R75). -/
theorem perstScope_power (off : s.sup.power = .off) : s.perstScope.sup.power = .off := by
  unfold State.perstScope
  simp only [off, beq_self_eq_true, if_true]
  split <;> rfl

theorem resetReleased_sup (bootSel : BitVec 2) : (s.resetReleased bootSel).sup = s.sup := by
  unfold State.resetReleased
  dsimp only
  split <;> rfl

end

theorem inBand_power {s : State} (off : s.sup.power = .off) (bootSel : BitVec 2) : (s.inBand bootSel).sup.power = .off := by
  unfold State.inBand
  split
  · rw [resetReleased_sup]
    exact perstScope_power s off
  · exact off

/-- What leaves OFF is POR_N's assertion alone. -/
theorem exec_keeps_off {i : Instr} {s t : State} (off : s.sup.power = .off) (notPor : i ≠ .porNAssert)
    (went : exec i s = .next t) : t.sup.power = .off := by
  by_cases free : resetFree [i] = true
  · obtain ⟨u, goes, kept⟩ := exec_rests s i free (.inl off)
    obtain rfl : u = t := Host.Outcome.next.inj (goes.symm.trans went)
    exact kept.off off
  · cases i with
    | porNAssert => exact absurd rfl notPor
    | porNRelease sel =>
      obtain rfl := Host.Outcome.next.inj went
      split
      · exact off
      · rw [resetReleased_sup]
        exact off
    | perstNAssert =>
      obtain rfl := Host.Outcome.next.inj went
      split
      · exact perstScope_power s off
      · exact off
    | perstNRelease sel =>
      obtain rfl := Host.Outcome.next.inj went
      split
      · exact off
      · dsimp only
        split
        · rw [resetReleased_sup]
          exact off
        · exact off
    | hotReset sel | linkDownReset sel =>
      obtain rfl := Host.Outcome.next.inj went
      exact inBand_power off sel
    | vddIo18Loss =>
      obtain rfl := Host.Outcome.next.inj went
      exact off
    | _ => exact absurd rfl free

/-! ### The obligations -/

/-- A command of a queue without resets is no reset, and neither is any behind it. -/
theorem resetFree_cons (i : Instr) (rest : List Instr) :
    resetFree (i :: rest) = true ↔ resetFree [i] = true ∧ resetFree rest = true := by
  simp [resetFree]

/-- Settles O56: a step from a stopped device is a tick (`idleTick_rests`) or runs a command that is no reset (`exec_rests`). -/
theorem stopHolds : Obligations.StopHolds := by
  intro s t halted free went
  have frame : StopFrame s t ∨ ∃ i rest, s.pending = i :: rest ∧ StopFrame { s with pending := rest } t := by
    unfold step at went
    split at went
    · obtain rfl := Host.Outcome.next.inj went
      exact .inl ((idleTick_rests s).stop halted)
    · rename_i i rest queue
      rw [queue, resetFree_cons] at free
      obtain ⟨u, goes, kept⟩ := exec_rests { s with pending := rest } i free.1 (.inr halted)
      obtain rfl : u = t := Host.Outcome.next.inj (goes.symm.trans went)
      exact .inr ⟨i, rest, queue, kept.stop halted⟩
  rcases frame with f | ⟨i, rest, queue, f⟩
  · exact ⟨f.halted, f.pending ▸ free, f.gate, f.cells, f.str, f.pip, f.bpm, f.lfn, f.sched, f.out⟩
  · rw [queue, resetFree_cons] at free
    exact ⟨f.halted, f.pending ▸ free.2, f.gate, f.cells, f.str, f.pip, f.bpm, f.lfn, f.sched, f.out⟩

/-- Settles O59: no row but POR_N's assertion leaves OFF (`exec_keeps_off`), and a tick leaves the supply block. -/
theorem offLeftByPorOnly : Obligations.OffLeftByPorOnly := by
  intro s t off notPor went
  unfold step at went
  split at went
  · obtain rfl := Host.Outcome.next.inj went
    exact (idleTick_rests s).off off
  · rename_i i rest queue
    exact exec_keeps_off (s := { s with pending := rest }) off (fun e => notPor (by simp [queue, e])) went

end Sys2Proof.Machine

/-!
Proofs of `Latching`, `KeeperMonitors`, `SafetyOutputs` and `StopEntered` (20; 02 R44, R63; 19 R562, R563): what latching a fault
leaves in the Keeper and outside it, the gates that the device-fault stop closes, and the Keeper's rows one by one.
-/
namespace Sys2Proof.Machine
open Sys2Proof
set_option Elab.async false

/-! ### Sources of vector 0 -/

/-- A change of a source is that change, and a message or a pending bit. -/
theorem raising_frame (s : State) (f : State → State) : ∃ h o, s.raising f = { f s with host := h, out := o } := by
  unfold State.raising
  dsimp only
  split
  · obtain ⟨h, o, eq, -⟩ := sendMsix_frame (f s) 0
    exact ⟨h, o, eq⟩
  · exact ⟨(f s).host, (f s).out, rfl⟩

theorem kprEvent_frame (s : State) (bits : BitVec 4) :
    ∃ h o, s.kprEvent bits = { s with kpr := { s.kpr with event := s.kpr.event ||| bits }, host := h, out := o } :=
  raising_frame s _

/-! ### The Keeper's latch (R576, R581, R592) -/

/-- The Keeper `k'` that a latched fault of class `b` leaves of `k`, apart from the device-fault stop. -/
structure Keeper.LatchedFrom (b : KprBit) (k k' : Keeper) : Prop where
  fault : k'.fault = k.fault ||| (b.bits ||| if k.injecting then 0x400#11 else 0)
  live : k'.live = k.live ||| b.bits
  safe : k'.safe = false
  logCount : k'.logCount = k.logCount + 1
  stopped : k'.stopped = k.stopped
  slot : k'.slot = k.slot
  inject : k'.inject = k.inject

theorem Keeper.LatchedFrom.bit {b : KprBit} {k k' : Keeper} (h : k.LatchedFrom b k') {i : Nat} (set : b.bits.getLsbD i = true) :
    k'.fault.getLsbD i = true := by
  rw [h.fault, BitVec.getLsbD_or, BitVec.getLsbD_or, set, Bool.true_or, Bool.or_true]

/-- The state after the entry, the latch and SAFE_N's fall, before the reaction to the fault's class. -/
def State.latched (s : State) (b : KprBit) (cause who : Nat) (value : U32) : State :=
  let flags := b2n s.kpr.injecting + 2 * b2n s.kpr.safe + 4 * b2n (b.bits &&& 0x222#11 != 0) + 8 * b2n (b == .thermal)
  ((((s.kprLog b.idx cause who (BitVec.ofNat 8 flags) value).updKpr (fun k => { k with
    fault := k.fault ||| (b.bits ||| if s.kpr.injecting then 0x400#11 else 0), live := k.live ||| b.bits
    injecting := false })).kprEvent 1)).safeDrop

/-- The reaction to a latched fault goes by its class (R576). -/
theorem latch_eq (s : State) (b : KprBit) (cause who : Nat) (value : U32) :
    s.latch b cause who value = if b.bits &&& 2#11 != 0 then (s.latched b cause who value).deviceStop
      else if b = .thermal then (s.latched b cause who value).updSup (fun p => { p with power := .off })
      else s.latched b cause who value := rfl

theorem safeDrop_frame (s : State) : ∃ h o e c, s.safeDrop
    = { s with kpr := { s.kpr with safe := false, beacon := c, event := e }, host := h, out := o } := by
  unfold State.safeDrop
  split
  · obtain ⟨h, o, eq⟩ := kprEvent_frame (s.updKpr (fun k => { k with safe := false, beacon := false })) 2
    exact ⟨h, o, _, _, eq⟩
  next low => exact ⟨s.host, s.out, s.kpr.event, s.kpr.beacon, by rw [← Bool.eq_false_of_not_eq_true low]⟩

theorem kprLog_frame (s : State) (cls cause who : Nat) (flags : Byte) (value : U32) : ∃ h o e l,
    s.kprLog cls cause who flags value
      = { s with kpr := { s.kpr with log := l, logCount := s.kpr.logCount + 1, event := e }, host := h, out := o } := by
  obtain ⟨h, o, eq⟩ := kprEvent_frame (s.updKpr (fun k => { k with
    log := k.log.set (⟨s.kpr.logCount.toNat % 64, Nat.mod_lt _ (by decide)⟩ : Fin 64)
      { ktick := s.kpr.tick, boots := s.kpr.boots, devTime := s.devTime, cls := BitVec.ofNat 8 cls
        cause := BitVec.ofNat 8 cause, who := BitVec.ofNat 8 who, flags := flags, value := value }
    logCount := k.logCount + 1 })) 8
  exact ⟨h, o, _, _, eq⟩

/-- Up to the reaction, a latched fault changes the Keeper, the interrupt block and what is sent. -/
theorem latched_frame (s : State) (b : KprBit) (cause who : Nat) (value : U32) :
    ∃ h o k, s.latched b cause who value = { s with kpr := k, host := h, out := o } ∧ s.kpr.LatchedFrom b k := by
  unfold State.latched
  extract_lets flags
  obtain ⟨h₁, o₁, e₁, l, logged⟩ := kprLog_frame s b.idx cause who (BitVec.ofNat 8 flags) value
  rw [logged]
  generalize latching : State.updKpr _ _ = t
  obtain ⟨h₂, o₂, event⟩ := kprEvent_frame t 1
  obtain ⟨h₃, o₃, e₃, c, dropped⟩ := safeDrop_frame (t.kprEvent 1)
  rw [dropped, event, ← latching]
  exact ⟨h₃, o₃, _, rfl, ⟨rfl, rfl, rfl, rfl, rfl, rfl, rfl⟩⟩

/-! ### The device-fault stop (R563) -/

/-- A gate that closes: its epoch advances (R546). -/
def UnitGate.shut (g : UnitGate) : UnitGate := if g.closed then g else { g with epoch := g.epoch + 1, closed := true }

theorem shut_closed (g : UnitGate) : g.shut.closed = true := by
  unfold UnitGate.shut
  split
  · assumption
  · rfl

theorem shut_epoch (g : UnitGate) : g.shut.epoch = if g.closed then g.epoch else g.epoch + 1 := by
  unfold UnitGate.shut
  split <;> rfl

theorem shut_shut (g : UnitGate) : g.shut.shut = g.shut := if_pos (shut_closed g)

/-- The gates of the gateable units among `l` close. -/
theorem stopGates (l : List Nat) (s : State) : ∃ g : Vector UnitGate 56,
    l.foldl (fun s u => if unitGateable u then s.gateClose u else s) s = { s with gate := g }
    ∧ ∀ k : Fin 56, g[k] = if k.val ∈ l ∧ unitGateable k.val = true then s.gate[k].shut else s.gate[k] := by
  induction l generalizing s with
  | nil => exact ⟨s.gate, rfl, by simp⟩
  | cons u us ih =>
    rw [List.foldl_cons]
    by_cases gateable : unitGateable u = true
    case neg =>
      rw [if_neg gateable]
      obtain ⟨g, eq, closed⟩ := ih s
      refine ⟨g, eq, fun k => (closed k).trans (if_congr ?_ rfl rfl)⟩
      constructor
      · exact fun h => ⟨List.mem_cons_of_mem _ h.1, h.2⟩
      · rintro ⟨mem, able⟩
        exact ⟨(List.mem_cons.mp mem).resolve_left fun e => gateable (e ▸ able), able⟩
    case pos =>
      rw [if_pos gateable]
      obtain ⟨g₁, one⟩ : ∃ g₁, s.gateClose u = { s with gate := g₁ } := updGate_frame s u _
      have first (k : Fin 56) : g₁[k] = if k.val = u then s.gate[k].shut else s.gate[k] := by
        have at_k : g₁[k] = (s.gateClose u).gateN k.val := by rw [gateN_val, one]
        rw [at_k, ← gateN_val s]
        split
        next e => subst e; exact gateN_updGate_same s k.isLt _
        next ne => exact gateN_updGate_other s ne _
      obtain ⟨g, eq, closed⟩ := ih { s with gate := g₁ }
      refine ⟨g, by rw [one]; exact eq, fun k => ?_⟩
      rw [closed k, first k]
      by_cases here : k.val = u
      · simp [here, gateable, shut_shut]
      · simp [here]

/-- The stop of a device that runs closes every gateable unit's gate, and nothing else but STOPPED changes (R563). -/
theorem deviceStop_frame {s : State} (runs : s.kpr.stopped = false) : ∃ g : Vector UnitGate 56,
    s.deviceStop = { s with gate := g, kpr := { s.kpr with stopped := true } }
    ∧ ∀ k : Fin 56, g[k] = if unitGateable k.val = true then s.gate[k].shut else s.gate[k] := by
  obtain ⟨g, eq, closed⟩ := stopGates (List.range 56) s
  refine ⟨g, ?_, fun k => by simpa using closed k⟩
  rw [State.deviceStop, if_neg (by simp [runs])]
  exact congrArg (State.updKpr · _) eq

theorem deviceStop_of_stopped {s : State} (stopped : s.kpr.stopped = true) : s.deviceStop = s := if_pos stopped

/-- Whether it stops now or had stopped: it is stopped, and only gates and STOPPED change. -/
theorem deviceStop_stops (s : State) : ∃ g, s.deviceStop = { s with gate := g, kpr := { s.kpr with stopped := true } } := by
  cases stopped : s.kpr.stopped
  · obtain ⟨g, eq, -⟩ := deviceStop_frame stopped
    exact ⟨g, eq⟩
  · exact ⟨s.gate, by rw [deviceStop_of_stopped stopped, ← stopped]⟩

/-- A latched fault: what changes, and what becomes of the Keeper and of the power state. -/
theorem latch_frame (s : State) (b : KprBit) (cause who : Nat) (value : U32) : ∃ h o g k,
    s.latch b cause who value = { s with
      host := h, out := o, gate := g, sup := if b = .thermal then { s.sup with power := .off } else s.sup
      kpr := { k with stopped := s.kpr.stopped || b.bits &&& 2#11 != 0 } } ∧ s.kpr.LatchedFrom b k := by
  obtain ⟨h, o, k, eq, from_⟩ := latched_frame s b cause who value
  rw [latch_eq, eq, ← from_.stopped]
  split
  next device =>
    obtain ⟨g, stop⟩ := deviceStop_stops { s with kpr := k, host := h, out := o }
    have notThermal : b ≠ .thermal := fun e => by rw [e] at device; exact absurd device (by decide)
    exact ⟨h, o, g, k, by rw [stop, if_neg notThermal, device, Bool.or_true], from_⟩
  next other =>
    rw [Bool.eq_false_of_not_eq_true other, Bool.or_false]
    split
    · exact ⟨h, o, s.gate, k, rfl, from_⟩
    · exact ⟨h, o, s.gate, k, rfl, from_⟩

theorem bits_idx (b : KprBit) : b.bits.getLsbD b.idx = true := by cases b <;> decide

/-- The classes of a device fault latch DEVICE, and with it the stop (R576). -/
theorem bits_device {b : KprBit} (h : b = .clock ∨ b = .refclk ∨ b = .supply ∨ b = .watchdog ∨ b = .lockstep ∨ b = .keeper
    ∨ b = .device) : b.bits.getLsbD 1 = true ∧ (b.bits &&& 2#11 != 0) = true := by
  rcases h with rfl | rfl | rfl | rfl | rfl | rfl | rfl <;> decide

/-- FAULT_N goes by three bits (R583). -/
theorem faultNLow_iff (s : State) : s.faultNLow = true ↔
    s.kpr.fault.getLsbD 1 = true ∨ s.kpr.fault.getLsbD 5 = true ∨ s.kpr.fault.getLsbD 9 = true := by
  rw [State.faultNLow, bne_iff_ne]
  generalize s.kpr.fault = f
  revert f
  decide

/-- Settles O43: `latch_frame` says what a latched fault leaves; the rest is a fact of the bits of its class. -/
theorem latching : Obligations.Latching := by
  refine ⟨fun s b cause who v => ?_, faultNLow_iff⟩
  obtain ⟨h, o, g, k, eq, from_⟩ := latch_frame s b cause who v
  rw [eq]
  refine ⟨?fault, ?live, from_.safe, from_.logCount, fun i _ set => ?keeps, fun device => ⟨?device, ?stops⟩, ?thermal, rfl, rfl⟩
  case fault => exact from_.bit (bits_idx b)
  case live => rw [from_.live, BitVec.getLsbD_or, bits_idx, Bool.or_true]
  case keeps => rw [from_.fault, BitVec.getLsbD_or, set, Bool.true_or]
  case device => exact from_.bit (bits_device device).1
  case stops => rw [(bits_device device).2, Bool.or_true]
  case thermal =>
    rintro rfl
    exact ⟨rfl, Bool.or_false _⟩

/-! ### The stop of a running device -/

theorem exec_deviceFaultReport {s : State} (runs : s.kprRuns = true) (ready : s.boot.stage = 0xF) (u d : Byte) (v : U32) :
    exec (.deviceFaultReport u d v) s = .next (s.deviceFault u.toNat d.toNat v) := by
  exact (congrArg _ (if_pos runs)).trans (congrArg _ (if_pos (beq_iff_eq.mpr ready)))

/-- Settles O57: after the latch (`latched_frame`) the device stops (`deviceStop_frame`). -/
theorem stopEntered : Obligations.StopEntered := by
  intro u d v s runs ready noWait going
  obtain ⟨h, o, k, eq, from_⟩ := latched_frame s .device d.toNat u.toNat v
  obtain ⟨g, stop, closed⟩ := deviceStop_frame (s := { s with kpr := k, host := h, out := o }) (from_.stopped.trans going)
  have done : s.deviceFault u.toNat d.toNat v = { s with kpr := { k with stopped := true }, host := h, out := o, gate := g } := by
    rw [State.deviceFault, if_neg (by simp [going]), latch_eq, if_pos (by decide), eq, stop]
  have device : k.fault.getLsbD 1 = true := from_.bit (bits_device (b := .device) (by simp)).1
  refine ⟨_, exec_deviceFaultReport runs ready u d v, ?_⟩
  rw [done]
  refine ⟨?halted, (faultNLow_iff _).mpr (.inl device), ?request, ?live, fun n gateable => ?gate, rfl, rfl⟩
  case halted => simp [State.halted, device, from_.safe, ready, noWait]
  case request => simp [State.canRequest]
  case live => simp [State.live]
  case gate =>
    have shut : g[n] = s.gate[n].shut := (closed n).trans (if_pos gateable)
    exact ⟨(congrArg _ shut).trans (shut_closed _), (congrArg _ shut).trans (shut_epoch _)⟩

/-! ### Monitors (R44, R63, R570, R576, R577) -/

/-- A monitor that trips keeps what an injection still asks for. -/
theorem monitor_inject (s : State) (b : KprBit) (who : Nat) (v : U32) (inj : Bool) :
    (s.monitor b who v inj).kpr.inject = s.kpr.inject := by
  unfold State.monitor
  split
  · rfl
  · obtain ⟨h, o, g, k, eq, from_⟩ := latch_frame (s.updKpr (fun k => { k with injecting := inj })) b 0 who v
    rw [eq]
    exact from_.inject

theorem monitor_latches (s : State) (b : KprBit) (who : Nat) (v : U32) (inj : Bool) :
    (s.kpr.fault.getLsbD b.idx = true → s.monitor b who v inj = s)
    ∧ (s.kpr.fault.getLsbD b.idx = false → (s.monitor b who v inj).kpr.fault.getLsbD b.idx = true) := by
  refine ⟨fun set => if_pos set, fun clear => ?_⟩
  obtain ⟨h, o, g, k, eq, from_⟩ := latch_frame (s.updKpr (fun k => { k with injecting := inj })) b 0 who v
  rw [State.monitor, if_neg (by simp [clear]), eq]
  exact from_.bit (bits_idx b)

theorem injected_false {s : State} (h : s.kpr.inject = none) (m t : Nat) : s.injected m t = false := by
  simp [State.injected, h]

theorem injected_true {s : State} {m t : Nat} (h : s.kpr.inject = some (m, t)) : s.injected m t = true := by
  simp [State.injected, h]

/-- A fold over a list of which no entry changes the start. -/
theorem foldl_same {α σ : Type} {f : σ → α → σ} {l : List α} {s : σ} (h : ∀ j ∈ l, f s j = s) : l.foldl f s = s := by
  induction l with
  | nil => rfl
  | cons a as ih =>
    rw [List.foldl_cons, h a (List.mem_cons_self ..)]
    exact ih fun j mem => h j (List.mem_cons_of_mem _ mem)

/-- A fold over a list of which one entry alone changes anything. -/
theorem foldl_one {α σ : Type} {f : σ → α → σ} {l : List α} {s : σ} {i : α} (mem : i ∈ l) (nodup : l.Nodup)
    (before : ∀ j ∈ l, j ≠ i → f s j = s) (after : ∀ j ∈ l, j ≠ i → f (f s i) j = f s i) : l.foldl f s = f s i := by
  induction l with
  | nil => simp at mem
  | cons a as ih =>
    obtain ⟨notIn, nodup⟩ := List.nodup_cons.mp nodup
    rw [List.foldl_cons]
    by_cases e : a = i
    · subst e
      exact foldl_same fun j inTail => after j (List.mem_cons_of_mem _ inTail) fun eq => notIn (eq ▸ inTail)
    · rw [before a (List.mem_cons_self ..) e]
      exact ih ((List.mem_cons.mp mem).resolve_left (Ne.symm e)) nodup
        (fun j inTail => before j (List.mem_cons_of_mem _ inTail)) fun j inTail => after j (List.mem_cons_of_mem _ inTail)

/-- One of the five counts of a window that has ended (R44). -/
def clockStep (core : Nat) (counts : Vector Nat 5) (s : State) (i : Fin 5) : State :=
  let inj := s.injected 6 i.val
  let s := s.injectDone inj
  let c := if inj then counts[i] * 105 / 100 else counts[i]
  if clockOk core i.val c && !inj then s
  else s.monitor (if i.val = 4 then .refclk else .clock) i.val (BitVec.ofNat 32 c) inj

section
variable {core : Nat} {counts : Vector Nat 5} {s : State} {i : Fin 5}

theorem clockStep_ok (ok : clockOk core i.val counts[i] = true) (noInject : s.kpr.inject ≠ some (6, i.val)) :
    clockStep core counts s i = s := by
  have clear : s.injected 6 i.val = false := by simp [State.injected, noInject]
  simp only [clockStep, clear, State.injectDone, Bool.false_eq_true, if_false, ok, Bool.not_false, Bool.and_self, if_true]

theorem clockStep_bad (bad : clockOk core i.val counts[i] = false) (noInject : s.kpr.inject = none) :
    clockStep core counts s i
      = s.monitor (if i.val = 4 then .refclk else .clock) i.val (BitVec.ofNat 32 counts[i]) false := by
  simp only [clockStep, injected_false noInject, State.injectDone, Bool.false_eq_true, if_false, bad, Bool.false_and]

theorem clockStep_injected (inject : s.kpr.inject = some (6, i.val)) :
    clockStep core counts s i = ({ s with kpr := { s.kpr with inject := none } } : State).monitor
      (if i.val = 4 then .refclk else .clock) i.val (BitVec.ofNat 32 (counts[i] * 105 / 100)) true := by
  simp [clockStep, injected_true inject, State.injectDone, State.updKpr]

/-- The comparison of a window that has ended runs over the five counts. -/
theorem exec_keeperClockWindow (runs : s.kprRuns = true) (done : s.kpr.winDone = some core) (stage : 3 ≤ s.boot.stage)
    (on : s.sup.power ≠ .off) : exec (.keeperClockWindow counts) s
      = .next ((List.finRange 5).foldl (clockStep core counts) { s with kpr := { s.kpr with winDone := none } }) := by
  refine (congrArg _ (if_pos runs)).trans ?_
  have early : decide (s.boot.stage < 3) = false := by simpa using stage
  simp only [done, early, Bool.false_or, beq_iff_eq, on, if_false]
  rfl

/-- One count alone is outside its tolerance or injected. -/
theorem exec_keeperClockWindow_one {t : State} (runs : s.kprRuns = true) (done : s.kpr.winDone = some core) (stage : 3 ≤ s.boot.stage)
    (on : s.sup.power ≠ .off) (others : ∀ j : Fin 5, j ≠ i → clockOk core j.val counts[j] = true)
    (inject : ∀ j : Fin 5, j ≠ i → s.kpr.inject ≠ some (6, j.val)) (spent : t.kpr.inject = none)
    (step : clockStep core counts { s with kpr := { s.kpr with winDone := none } } i = t) :
    exec (.keeperClockWindow counts) s = .next t := by
  refine (exec_keeperClockWindow runs done stage on).trans (congrArg _ (.trans ?_ step))
  refine foldl_one (List.mem_finRange i) (List.nodup_finRange 5) (fun j _ ne => clockStep_ok (others j ne) (inject j ne)) ?_
  rw [step]
  exact fun j _ ne => clockStep_ok (others j ne) (by simp [spent])

end

/-- A tolerance of `t` percent as two bounds (R44). -/
theorem clockOk_iff (core i c : Nat) : clockOk core i c = true ↔
    (clockExpected core).getD i 0 * (100 - if i = 4 then 10 else 2) ≤ 15 * c * 100
      ∧ 15 * c * 100 ≤ (clockExpected core).getD i 0 * (100 + if i = 4 then 10 else 2) := by
  simp only [clockOk, decide_eq_true_eq]
  generalize (clockExpected core).getD i 0 = e
  split <;> split <;> omega

/-- A window ends with KPR_TICK and goes on at any other microsecond (R44; log entry 17). -/
theorem winTick_of_exp {s : State} {k : Keeper} {w : Nat} (stage : 3 ≤ s.boot.stage) (on : s.sup.power ≠ .off)
    (exp : k.winExp = some w) : winTick s k
      = if (s.clock + 1 - k.tickFrom) % 100 = 0 then { k with winExp := some 0, winDone := some (w + coreFifteenths s) }
        else { k with winExp := some (w + coreFifteenths s) } := by
  have early : decide (s.boot.stage < 3) = false := by simpa using stage
  simp only [winTick, early, Bool.false_or, beq_iff_eq, on, if_false, exp, Option.map_some]

section
variable {s : State} (runs : s.kprRuns = true)
include runs

theorem exec_keeperSupplyFault (n : Nat) (mv : U32) (present : n < 8 ∨ (n = 8 ∧ s.sup.fuses.variantL = true)) :
    exec (.keeperSupplyFault n mv) s = .next (
      if (decide ((supplyWindow s.sup.setCode.toNat n).1 ≤ mv.toNat) && decide (mv.toNat ≤ (supplyWindow s.sup.setCode.toNat n).2)
        && !s.injected 7 n) = true then s
      else (s.injectDone (s.injected 7 n)).monitor .supply n mv (s.injected 7 n)) := by
  refine (congrArg _ (if_pos runs)).trans (congrArg _ (if_neg ?_))
  rcases present with low | ⟨rfl, variant⟩
  · simp [Nat.not_lt.mpr low.le, low.ne]
  · simp [variant]

theorem exec_keeperSelfTest (ok : Bool) : exec (.keeperSelfTest ok) s = .next (
    if s.clock < s.kpr.selfAt + 100000 then s
    else
      let t := ({ s with kpr := { s.kpr with selfAt := s.clock } } : State)
      if (ok && !t.injected 0x0C 0) = true then t.injectDone (t.injected 0x0C 0)
      else (t.injectDone (t.injected 0x0C 0)).monitor .keeper 0x35 0 (t.injected 0x0C 0)) :=
  congrArg _ (if_pos runs)

theorem exec_kprWdogKick (token : Byte) {t : Nat} (window : s.kpr.wdogAt = some t) : exec (.kprWdogKick token) s = .next (
    if (decide (token = s.kpr.wdogLast + 1) && decide (t + 5000 ≤ s.clock) && decide (s.clock ≤ t + 20000) && !s.injected 9 0) = true then
      (s.injectDone (s.injected 9 0)).updKpr (fun k => { k with wdogLast := token, wdogAt := some s.clock })
    else (s.injectDone (s.injected 9 0)).monitor .watchdog 0x34 0 (s.injected 9 0)) := by
  refine (congrArg _ (if_pos runs)).trans ?_
  have last (b : Bool) : (s.injectDone b).kpr.wdogLast = s.kpr.wdogLast := by cases b <;> rfl
  have now (b : Bool) : (s.injectDone b).clock = s.clock := by cases b <;> rfl
  simp only [window, last, now]

theorem exec_watchdogTimeout {t : Nat} (window : s.kpr.wdogAt = some t) : exec .watchdogTimeout s = .next (
    if t + 20000 ≤ s.clock then s.monitor .watchdog 0x34 0 false else s) := by
  refine (congrArg _ (if_pos runs)).trans ?_
  dsimp only
  rw [window]

end

/-- No watchdog window has begun. -/
theorem watchdog_of_none {s : State} (none : s.kpr.wdogAt = none) (token : Byte) :
    exec (.kprWdogKick token) s = .next s ∧ exec .watchdogTimeout s = .next s := by
  constructor
  · change execKprWdogKick token s = _
    simp [execKprWdogKick, whenKeeper, none]
  · change execWatchdogTimeout s = _
    simp [execWatchdogTimeout, whenKeeper, none]

theorem exec_keeperSupplyFault_of_absent {s : State} {n : Nat} (absent : 8 < n ∨ (n = 8 ∧ s.sup.fuses.variantL = false)) (mv : U32) :
    exec (.keeperSupplyFault n mv) s = .next s := by
  change execKeeperSupplyFault n mv s = _
  rcases absent with high | ⟨rfl, variant⟩
  · simp [execKeeperSupplyFault, whenKeeper, high]
  · simp [execKeeperSupplyFault, whenKeeper, variant]

/-- Settles O44: the rows' equations above, at the values that each clause names. -/
theorem keeperMonitors : Obligations.KeeperMonitors := by
  refine ⟨fun counts s runs => ⟨fun none => ?noWindow, fun core done stage on => ⟨fun clear ok => ?allOk, fun i clear bad others => ?oneBad,
      fun i inject others => ?oneInjected⟩⟩, fun core i c _ => clockOk_iff core i c, fun s k w stage on exp => ?window,
    fun n mv s runs present => ⟨fun clear low high => ?inside, fun clear out => ?outside, fun inject => ?supplyInjected⟩,
    fun n mv s absent => exec_keeperSupplyFault_of_absent absent mv, fun s v ok runs later => ?selfTest,
    fun token s t runs window => ?watchdog, fun token s none => watchdog_of_none none token,
    fun u d v s runs => ⟨fun ready => ?ready, fun early => ?early⟩, monitor_latches⟩
  case noWindow =>
    refine (congrArg _ (if_pos runs)).trans ?_
    simp [none]
  case allOk =>
    refine (exec_keeperClockWindow runs done stage on).trans (congrArg _ (foldl_same fun j _ => clockStep_ok (ok j) ?_))
    simp [clear]
  case oneBad =>
    refine exec_keeperClockWindow_one runs done stage on others (by simp [clear]) ?_ (clockStep_bad bad clear)
    rw [monitor_inject]
    exact clear
  case oneInjected =>
    refine exec_keeperClockWindow_one runs done stage on others (fun j ne => ?_) ?_ (clockStep_injected inject)
    · simpa [inject, Fin.val_inj] using ne.symm
    · rw [monitor_inject]
  case window =>
    rw [winTick_of_exp stage on exp]
    exact ⟨fun tick => by simp [tick], fun other => by simp [other]⟩
  case inside => simp [exec_keeperSupplyFault runs n mv present, injected_false clear, low, high]
  case outside =>
    rw [exec_keeperSupplyFault runs n mv present, injected_false clear, if_neg]
    · rfl
    · simp only [Bool.not_false, Bool.and_true, Bool.and_eq_true, decide_eq_true_eq]
      omega
  case supplyInjected =>
    rw [exec_keeperSupplyFault runs n mv present, injected_true inject, if_neg (by simp)]
    rfl
  case selfTest =>
    subst later
    refine ⟨fun soon => ?_, fun due => ⟨fun clear => ⟨?_, ?_⟩, fun inject => ?_⟩, congrArg _ (if_pos runs)⟩
    · rw [exec_keeperSelfTest runs, if_pos soon]
    · rw [exec_keeperSelfTest runs, if_neg (by omega)]
      simp [State.injected, clear, State.injectDone]
    · rw [exec_keeperSelfTest runs, if_neg (by omega)]
      simp [State.injected, clear, State.injectDone]
    · rw [exec_keeperSelfTest runs, if_neg (by omega)]
      simp [State.injected, inject, State.injectDone, State.updKpr]
  case watchdog =>
    rw [exec_kprWdogKick runs token window, exec_watchdogTimeout runs window]
    refine ⟨fun clear next early late => ?_, fun clear off => ?_, fun inject => ?_, fun due => by rw [if_pos due],
      fun soon => by rw [if_neg (by omega)]⟩
    · simp [State.injected, clear, next, early, late, State.injectDone, State.updKpr]
    · have wrong : ¬ (token = s.kpr.wdogLast + 1 ∧ t + 5000 ≤ s.clock ∧ s.clock ≤ t + 20000) := by
        rintro ⟨next, low, high⟩
        rcases off with other | early | late
        · exact other next
        · omega
        · omega
      have inj : s.injected 9 0 = false := by simp [State.injected, clear]
      rw [inj, if_neg (by simpa [and_assoc] using wrong)]
      rfl
    · rw [injected_true inject, if_neg (by simp)]
      rfl
  case ready =>
    exact ⟨exec_deviceFaultReport runs ready u d v,
      (congrArg _ (if_pos runs)).trans (congrArg _ (if_pos (beq_iff_eq.mpr ready)))⟩
  case early =>
    exact ⟨(congrArg _ (if_pos runs)).trans (congrArg _ (if_neg (by simpa using early))),
      (congrArg _ (if_pos runs)).trans (congrArg _ (if_neg (by simpa using early)))⟩

/-! ### Stream watches (R569, R571, R572) -/

/-- A trip: the slot is in FAULT with the cause, SAFE_N is low, and the other slots stay. -/
theorem streamFault_frame (s : State) (n : Fin 64) (c : StreamCause) (v : U32) (inj : Bool) :
    (s.streamFault n c v inj).kpr.slot[n] = { s.kpr.slot[n] with state := .fault, cause := s.kpr.slot[n].cause ||| c.bit, okSince := false }
    ∧ (s.streamFault n c v inj).kpr.safe = false
    ∧ ∀ m : Fin 64, m ≠ n → (s.streamFault n c v inj).kpr.slot[m] = s.kpr.slot[m] := by
  obtain ⟨h, o, g, k, eq, from_⟩ := latch_frame (s.updKpr (fun k => { k with injecting := inj })) .stream c.code n.val v
  have slots : k.slot = s.kpr.slot := from_.slot
  rw [State.streamFault, eq]
  refine ⟨?_, from_.safe, fun m other => ?_⟩
  · refine (updAt_get_self _ _ _).trans ?_
    rw [slots]
  · refine (updAt_get_other _ _ _ _ (Ne.symm other)).trans ?_
    rw [slots]

/-- Two changes of a slot that agree on it are one. -/
theorem updKslot_congr {s : State} {n : Fin 64} {f g : KprSlot → KprSlot} (h : f s.kpr.slot[n] = g s.kpr.slot[n]) :
    s.updKslot n f = s.updKslot n g := by
  simp only [State.updKslot, State.updKpr, updAt, h]

/-- The last tick lies less than 100 µs back (R569). -/
theorem kprTickAt_bounds (s : State) : s.kprTickAt ≤ s.clock ∧ s.clock < s.kprTickAt + 100 := by
  unfold State.kprTickAt
  omega

theorem releaseOk_iff (s : State) : s.releaseOk = true ↔ s.kpr.readySeen = true ∧ s.kpr.armed = true ∧ s.kpr.fault = 0
    ∧ (∃ n : Fin 64, s.kpr.slot[n].supervised = true) ∧ ∀ n : Fin 64, s.kpr.slot[n].supervised = true → s.kpr.slot[n].state = .ok := by
  simp only [State.releaseOk, Bool.and_eq_true, beq_iff_eq, and_assoc, List.any_eq_true, List.all_eq_true, Vector.mem_toList_iff,
    Bool.or_eq_true, KprSlot.supervised, bne_iff_ne]
  refine and_congr_right fun _ => and_congr_right fun _ => and_congr_right fun _ => and_congr ?_ ?_
  · constructor
    · rintro ⟨x, mem, supervised⟩
      obtain ⟨i, lt, rfl⟩ := Vector.getElem_of_mem mem
      exact ⟨⟨i, lt⟩, supervised⟩
    · rintro ⟨n, supervised⟩
      exact ⟨s.kpr.slot[n], Vector.getElem_mem n.isLt, supervised⟩
  · constructor
    · intro all n supervised
      exact (all _ (Vector.getElem_mem n.isLt)).resolve_left supervised
    · intro all x mem
      obtain ⟨i, lt, rfl⟩ := Vector.getElem_of_mem mem
      exact or_iff_not_imp_left.mpr (all ⟨i, lt⟩)

section
variable {s : State} {n : Fin 64} (runs : s.kprRuns = true)
include runs

theorem exec_sourceWatchExpiry : exec (.sourceWatchExpiry n) s = .next (match s.kpr.slot[n].lastArrivalAt with
    | some t =>
      if (s.kpr.slot[n].supervised && !s.kpr.slot[n].sourceTripped
        && decide (t + 2 * s.kpr.slot[n].periodUs.toNat ≤ s.kprTickAt)) = true then
        ((s.injectDone (s.injected 1 n.val)).streamFault n .source s.kpr.slot[n].safetySeq (s.injected 1 n.val)).updKslot n
          (fun k => { k with sourceTripped := true })
      else s
    | none => s) := congrArg _ (if_pos runs)

theorem exec_deadlineWatchExpiry : exec (.deadlineWatchExpiry n) s = .next (
    match s.kpr.slot[n].armed.find? (fun a => !a.tripped && decide (a.at_ + 33000 ≤ s.kprTickAt)) with
    | some a =>
      if s.kpr.slot[n].supervised = true then
        ((s.injectDone a.ignored).streamFault n .deadline a.seq a.ignored).updKslot n (fun k => { k with
          armed := if a.ignored then k.armed.filter (fun x => x.seq != a.seq)
                   else k.armed.map (fun x => if x.seq == a.seq then { x with tripped := true } else x) })
      else s
    | none => s) := congrArg _ (if_pos runs)

theorem exec_noResultWatchExpiry : exec (.noResultWatchExpiry n) s = .next (match s.kpr.slot[n].lastOkAt with
    | some t =>
      if (s.kpr.slot[n].supervised && !s.kpr.slot[n].sourceTripped && s.kpr.slot[n].fresh .noResult
        && decide (t + 2 * s.kpr.slot[n].periodUs.toNat ≤ s.kprTickAt)) = true then
        s.streamFault n .noResult s.kpr.slot[n].safetySeq false
      else s
    | none => s) := congrArg _ (if_pos runs)

theorem exec_startWatchExpiry : exec (.startWatchExpiry n) s = .next (
    if (s.kpr.slot[n].supervised && s.kpr.slot[n].lastOkAt.isNone && s.kpr.slot[n].fresh .start
      && decide (s.kpr.slot[n].startAt + 2000000 ≤ s.kprTickAt)) = true then
      s.streamFault n .start s.kpr.slot[n].safetySeq false
    else s) := congrArg _ (if_pos runs)

end

/-- A row of the Keeper's leaves the state of a Keeper that does not run. -/
theorem whenKeeper_of_same {s : State} {f : State → State} (h : f s = s) : whenKeeper s f = .next s := by
  simp [whenKeeper, h]

/-- No watch of a slot that is not supervised trips. -/
theorem watches_of_unsupervised {s : State} {n : Fin 64} (idle : s.kpr.slot[n].supervised = false) :
    exec (.sourceWatchExpiry n) s = .next s ∧ exec (.deadlineWatchExpiry n) s = .next s
    ∧ exec (.noResultWatchExpiry n) s = .next s ∧ exec (.startWatchExpiry n) s = .next s := by
  cases runs : s.kprRuns
  · have still : ¬ s.kprRuns = true := by simp [runs]
    exact ⟨congrArg _ (if_neg still), congrArg _ (if_neg still), congrArg _ (if_neg still), congrArg _ (if_neg still)⟩
  · rw [exec_sourceWatchExpiry runs, exec_deadlineWatchExpiry runs, exec_noResultWatchExpiry runs, exec_startWatchExpiry runs]
    simp only [idle, Bool.false_and, Bool.false_eq_true, if_false, and_true]
    refine ⟨?_, ?_, ?_⟩ <;> split <;> rfl

/-! ### SAFE_N and BEACON (R580, R582) -/

section
variable {s : State} (runs : s.kprRuns = true)
include runs

theorem exec_safeNRelease : exec .safeNRelease s = .next (
    if (s.releaseOk && !s.kpr.safe && s.kprAtTick) = true then
      (s.updKpr (fun k => { k with safe := true, beacon := true, beaconAt := s.clock })).kprEvent 4
    else s) := congrArg _ (if_pos runs)

theorem exec_beaconToggle : exec .beaconToggle s = .next (
    if (s.kpr.safe && decide (s.kpr.beaconAt + 475 ≤ s.clock)) = true then
      s.updKpr (fun k => { k with beacon := !k.beacon, beaconAt := s.clock })
    else s) := congrArg _ (if_pos runs)

end

/-- Settles O45: each watch's row (`exec_sourceWatchExpiry` and its fellows) at the values that a clause names, a trip's frame
(`streamFault_frame`) and the two output rows. -/
theorem safetyOutputs : Obligations.SafetyOutputs := by
  refine ⟨fun n s k runs same supervised => ?watches, fun n s idle => watches_of_unsupervised idle, kprTickAt_bounds,
    fun n s c v inj => ?trip, fun s runs low => ?release, releaseOk_iff, fun s runs => ?beacon⟩
  case watches =>
    subst same
    rw [exec_sourceWatchExpiry runs, exec_noResultWatchExpiry runs, exec_startWatchExpiry runs]
    refine ⟨fun t arrived => ⟨fun fresh due clear => ?_, fun fresh due inject => ?_, fun off => ?_⟩, fun none => by rw [none],
      fun a armed running counted due => ?_, fun none => ?_, fun t ok => ⟨fun arrives fresh due => ?_, fun off => ?_⟩,
      fun none => by rw [none], fun none fresh due => ?_, fun off => ?_⟩
    · simp only [arrived, supervised, fresh, due, injected_false clear, decide_true, Bool.not_false, Bool.and_self, if_true]
      rfl
    · simp only [arrived, supervised, fresh, due, injected_true inject, decide_true, Bool.not_false, Bool.and_self, if_true]
      rfl
    · rw [arrived]
      refine congrArg _ (if_neg ?_)
      rcases off with tripped | early
      · simp [-Fin.getElem_fin, tripped]
      · simp [-Fin.getElem_fin, Nat.not_le.mpr early]
    · have found : s.kpr.slot[n].armed.find? (fun a => !a.tripped && decide (a.at_ + 33000 ≤ s.kprTickAt)) = some a := by
        rw [armed, List.find?_cons_of_pos (by simp [running, due])]
      obtain ⟨slot, -, -⟩ := streamFault_frame s n .deadline a.seq false
      have armedStill : (s.streamFault n .deadline a.seq false).kpr.slot[n].armed = [a] := (congrArg _ slot).trans armed
      have done : exec (.deadlineWatchExpiry n) s = .next ((s.streamFault n .deadline a.seq false).updKslot n
          (fun k => { k with armed := [{ a with tripped := true }] })) := by
        rw [exec_deadlineWatchExpiry runs, found]
        simp only [supervised, counted, if_true, State.injectDone, Bool.false_eq_true, if_false]
        refine congrArg _ (updKslot_congr ?_)
        simp only [armedStill, List.map_cons, List.map_nil, beq_self_eq_true, if_true, counted]
      refine ⟨_, done, ?_, ?_, ?_, rfl⟩
      · exact congrArg _ (updAt_get_self _ _ _)
      · exact (congrArg _ (updAt_get_self _ _ _)).trans (congrArg KprSlot.state slot)
      · exact (congrArg _ (updAt_get_self _ _ _)).trans (congrArg KprSlot.cause slot)
    · rw [exec_deadlineWatchExpiry runs, List.find?_eq_none.mpr]
      intro a mem
      rcases none a mem with tripped | early
      · simp [tripped]
      · simp [Nat.not_le.mpr early]
    · simp only [ok, supervised, arrives, fresh, due, decide_true, Bool.not_false, Bool.and_self, if_true]
    · rw [ok]
      refine congrArg _ (if_neg ?_)
      rcases off with tripped | stale | early
      · simp [-Fin.getElem_fin, tripped]
      · simp [-Fin.getElem_fin, stale]
      · simp [-Fin.getElem_fin, Nat.not_le.mpr early]
    · simp only [none, supervised, fresh, due, Option.isNone_none, decide_true, Bool.and_self, if_true]
    · refine congrArg _ (if_neg ?_)
      rcases off with some_ | stale | early
      · simp [-Fin.getElem_fin, some_]
      · simp [-Fin.getElem_fin, stale]
      · simp [-Fin.getElem_fin, Nat.not_le.mpr early]
  case trip =>
    obtain ⟨slot, safe, others⟩ := streamFault_frame s n c v inj
    exact ⟨congrArg _ slot, congrArg _ slot, safe, others⟩
  case release =>
    rw [exec_safeNRelease runs]
    refine ⟨fun ok tick => ?_, fun off => congrArg _ (if_neg ?_)⟩
    · obtain ⟨h, o, eq⟩ := kprEvent_frame (s.updKpr (fun k => { k with safe := true, beacon := true, beaconAt := s.clock })) 4
      refine ⟨_, congrArg _ ((if_pos (by simp [ok, low, tick])).trans eq), rfl, rfl, rfl, rfl, rfl⟩
    · rcases off with refused | between
      · simp [refused]
      · simp [between]
  case beacon =>
    rw [exec_beaconToggle runs]
    refine ⟨fun high due => congrArg _ (if_pos (by simp [high, due])), fun off => congrArg _ (if_neg ?_)⟩
    rcases off with low | soon
    · simp [low]
    · simp [Nat.not_le.mpr soon]

end Sys2Proof.Machine

/-!
Proofs of `StepRunsFront`, `ResponsePosted`, `ResetValues`, `InterruptBlock`, `FirmwareSwitch` and `UnitEvents`: what a response
and a message on a vector change, and the rows of the firmware switch and of the ends of a unit's reset or power-on.
-/
namespace Sys2Proof.Machine
open Sys2Proof
set_option Elab.async false

/-! ### Steps and reset -/

/-- Settles O1: a step is defined by the queue's front. -/
theorem stepRunsFront : Obligations.StepRunsFront := ⟨fun _ _ _ => rfl, fun _ => rfl⟩

/-- Settles O58: the reset state's fields have the tables' values. -/
theorem resetValues : Obligations.ResetValues := by
  have gate (u : Fin 56) : State.reset.gate[u] = {} := Vector.getElem_replicate u.isLt
  refine ⟨rfl, rfl, by decide, by decide, rfl, rfl, rfl, by decide, fun u => ?_, reset_memory_wf, rfl, by decide⟩
  rw [gate]
  exact ⟨rfl, rfl⟩

/-! ### Responses (R123, R136) -/

/-- A response is put at the ring's tail, the tail goes round the ring, and then at most a message follows. -/
theorem respond_posts (s : State) (m : Fin 16) (op : Nat) (q : BitVec 16) (ni : Bool) (st : Status) (d : List Byte) :
    ∃ h o x, s.respond m op q ni st d = { s with host := h, out := o } ∧ h.mbx = updAt s.host.mbx m (fun _ => x)
      ∧ x.rspTail = BitVec.ofNat 12 ((s.host.mbx[m].rspTail.toNat + 1) % ringLen s.host.mbx[m].rspSize)
      ∧ .hostWrite (s.host.mbx[m].rspBase.toNat + 64 * s.host.mbx[m].rspTail.toNat) (rspBytes op q st d) ∈ o := by
  unfold State.respond
  extract_lets x t send taken u
  have posted : Out.hostWrite (x.rspBase.toNat + 64 * x.rspTail.toNat) (rspBytes op q st d) ∈ u.out := List.mem_cons_self ..
  split
  · obtain ⟨h, o, eq, mbx, kept⟩ := sendMsix_frame u ⟨m.val + 1, by omega⟩
    exact ⟨h, o, _, eq, mbx, rfl, kept _ posted⟩
  · exact ⟨u.host, u.out, _, rfl, rfl, rfl, posted⟩

/-- Settles O2: `respond_posts`, read field by field. -/
theorem responsePosted : Obligations.ResponsePosted := by
  intro s m op seq ni st data
  obtain ⟨h, o, x, eq, mbx, tail, posted⟩ := respond_posts s m op seq ni st data
  rw [eq]
  have at_ (i : Fin 16) : h.mbx[i] = (updAt s.host.mbx m (fun _ => x))[i] := by rw [mbx]
  refine ⟨posted, ?_, fun i other => ?_, rfl⟩
  · exact (congrArg Mbx.rspTail ((at_ m).trans (updAt_get_self _ _ _))).trans tail
  · exact (at_ i).trans (updAt_get_other _ _ _ _ (Ne.symm other))

/-! ### The interrupt block (R135, R149) -/

theorem sendMsix_int (s : State) (v : Fin 64) : (s.sendMsix v).host.int = s.host.int := by
  unfold State.sendMsix
  dsimp only
  split
  · rfl
  · split <;> rfl

theorem resend_int (s : State) : s.resend.host.int = s.host.int := by
  unfold State.resend
  split
  · exact sendMsix_int s 0
  · rfl

/-- One vector of `State.flushMsix`. -/
def flushStep (s : State) (v : Fin 64) : State :=
  let e := s.host.msix[v]
  if e.pend && s.host.pcie.msixEnable && !s.host.pcie.funcMask && !e.mask && s.canRequest then
    ({ s with host := { s.host with msix := updAt s.host.msix v (fun e => { e with pend := false }) } } : State).emit
      (.msix v.val e.addr e.data)
  else s

theorem flushMsix_eq (s : State) : s.flushMsix = (List.finRange 64).foldl flushStep s := rfl

theorem flushStep_of_clear {s : State} {v : Fin 64} (clear : s.host.msix[v].pend = false) : flushStep s v = s := by
  simp only [flushStep, clear, Bool.false_and, Bool.false_eq_true, if_false]

/-- Sending the pending messages of other vectors leaves vector `v`, the function and what was sent. -/
structure FlushKeeps (v : Fin 64) (s t : State) : Prop where
  entry : t.host.msix[v] = s.host.msix[v]
  pcie : t.host.pcie = s.host.pcie
  kpr : t.kpr = s.kpr
  out : ∀ x ∈ s.out, x ∈ t.out

theorem flushStep_keeps (s : State) {v w : Fin 64} (other : w ≠ v) : FlushKeeps v s (flushStep s w) := by
  unfold flushStep
  dsimp only
  split
  · exact ⟨updAt_get_other _ _ _ _ other, rfl, rfl, fun _ => List.mem_cons_of_mem _⟩
  · exact ⟨rfl, rfl, rfl, fun _ => id⟩

theorem flush_keeps {v : Fin 64} (l : List (Fin 64)) (s : State) (without : v ∉ l) : FlushKeeps v s (l.foldl flushStep s) := by
  induction l generalizing s with
  | nil => exact ⟨rfl, rfl, rfl, fun _ => id⟩
  | cons w ws ih =>
    obtain ⟨other, rest⟩ := List.ne_and_not_mem_of_not_mem_cons without
    have first := flushStep_keeps s (Ne.symm other)
    have later := ih (flushStep s w) rest
    exact ⟨later.entry.trans first.entry, later.pcie.trans first.pcie, later.kpr.trans first.kpr,
      fun x m => later.out x (first.out x m)⟩

/-- A vector that may send sends what is pending. -/
theorem flushMsix_sends {s : State} {v : Fin 64} (enabled : s.host.pcie.msixEnable = true) (open_ : s.host.pcie.funcMask = false)
    (request : s.canRequest = true) (pend : s.host.msix[v].pend = true) (unmasked : s.host.msix[v].mask = false) :
    s.flushMsix.host.msix[v] = { s.host.msix[v] with pend := false }
      ∧ .msix v.val s.host.msix[v].addr s.host.msix[v].data ∈ s.flushMsix.out := by
  obtain ⟨l₁, l₂, split⟩ := List.append_of_mem (List.mem_finRange v)
  have nodup := List.nodup_finRange 64
  rw [split, List.nodup_append] at nodup
  obtain ⟨-, second, disjoint⟩ := nodup
  have before := flush_keeps l₁ s (v := v) fun mem => disjoint v mem v (List.mem_cons_self ..) rfl
  generalize step₁ : l₁.foldl flushStep s = t at before
  have sends : flushStep t v = ({ t with host := { t.host with
      msix := updAt t.host.msix v (fun e => { e with pend := false }) } } : State).emit
        (.msix v.val t.host.msix[v].addr t.host.msix[v].data) := by
    have may : t.canRequest = true := by
      rw [← request, State.canRequest, State.canRequest, before.pcie, before.kpr]
    refine if_pos ?_
    rw [before.entry, before.pcie, pend, enabled, open_, unmasked, may]
    rfl
  have after := flush_keeps l₂ (flushStep t v) (v := v) (List.nodup_cons.mp second).1
  have whole : s.flushMsix = l₂.foldl flushStep (flushStep t v) := by
    rw [flushMsix_eq, split, List.foldl_append, List.foldl_cons, step₁]
  rw [whole]
  refine ⟨after.entry.trans ?_, after.out _ ?_⟩
  · rw [sends]
    exact (updAt_get_self _ _ _).trans (by rw [before.entry])
  · rw [sends, before.entry]
    exact List.mem_cons_self ..

/-- An unmasked entry keeps its other fields. -/
theorem updAt_mask_pend (t : Vector MsixEntry 64) (v w : Fin 64) :
    (updAt t v (fun e => { e with mask := false }))[w].pend = t[w].pend := by
  by_cases e : v = w
  · subst e
    rw [updAt_get_self]
  · exact congrArg MsixEntry.pend (updAt_get_other _ _ _ _ e)

/-- The state with vector `v` unmasked. -/
def State.unmask (s : State) (v : Fin 64) : State :=
  { s with host := { s.host with msix := updAt s.host.msix v (fun e => { e with mask := false }) } }

theorem exec_msixUnmask {s : State} (up : s.enablesUp = true) (v : Fin 64) :
    exec (.msixUnmask v) s = .next (s.unmask v).flushMsix := by
  change execMsixUnmask v s = _
  rw [execMsixUnmask, if_pos up, State.unmask]

/-- Settles O33: the two register writes end in `State.resend`, which leaves the block; an unmasked vector sends what is pending
(`flushMsix_sends`), and no other vector does while nothing is (`flushStep_of_clear`). -/
theorem interruptBlock : Obligations.InterruptBlock := by
  refine ⟨fun v s up => ⟨_, exec_intStatusWrite_of_barUp up v, resend_int _⟩,
    fun v s up => ⟨_, exec_intEnableWrite_of_enablesUp up v, resend_int _⟩, fun v s up clear => ?quiet,
    fun v s up enabled open_ request pend => ?sends⟩
  case quiet =>
    have still : (s.unmask v).flushMsix = s.unmask v :=
      foldl_same fun w _ => flushStep_of_clear ((updAt_mask_pend _ _ _).trans (clear w))
    exact (exec_msixUnmask up v).trans (congrArg _ still)
  case sends =>
    have unmasked : (s.unmask v).host.msix[v] = { s.host.msix[v] with mask := false } := updAt_get_self _ _ _
    obtain ⟨entry, sent⟩ := flushMsix_sends (s := s.unmask v) (v := v) enabled open_ request
      ((updAt_mask_pend _ _ _).trans pend) (congrArg MsixEntry.mask unmasked)
    rw [unmasked] at entry sent
    exact ⟨_, exec_msixUnmask up v, congrArg MsixEntry.pend entry, congrArg MsixEntry.mask entry, sent⟩

/-! ### The firmware switch (R139 to R141, R174) -/

/-- Settles O20: each row at the phase that its clause names. -/
theorem firmwareSwitch : Obligations.FirmwareSwitch := by
  refine ⟨fun c s taken => ⟨fun busy => ?busy, fun idle free => ?goes⟩, fun s live check => ⟨fun refused => ?refused, fun good => ?good⟩,
    fun s st data => ⟨_, rfl, rfl, fun m => ?marks⟩, fun s live drain => ⟨fun all => ?done, fun some_ => ?notDone, fun late => ?late,
      fun soon => ?soon⟩, fun s live handover => ⟨?handed, ?reverted⟩⟩
  case busy =>
    have own : cmdFwSwitch.own c s = .st s .busy := if_pos (by rcases busy with h | h <;> simp [h])
    refine (direct_of_acceptsAsync taken).trans ?_
    rw [own]
    simp [HostCmd.conclude, CmdRes.st, cmdFwSwitch]
  case goes =>
    have own : cmdFwSwitch.own c s = .wait { s with fw := { s.fw with
        phase := .check, image := if c.f 8 1 = 0 then .a else .b, phaseAt := s.clock } } .fwSwitch :=
      if_neg (by simp [idle, free])
    exact direct_waitAsync taken own
  case refused =>
    refine (congrArg _ (if_pos live)).trans (congrArg _ ((if_neg ?_).trans (if_pos refused)))
    simp [check]
  case good =>
    refine (congrArg _ (if_pos live)).trans (congrArg _ ((if_neg ?_).trans (if_neg (not_not.mpr good))))
    simp [check]
  case marks => exact congrArg _ (Vector.getElem_map ..)
  case done => exact (congrArg _ (if_pos live)).trans (congrArg _ (if_pos (by simp [drain, all])))
  case notDone => exact (congrArg _ (if_pos live)).trans (congrArg _ (if_neg (by simp [drain, some_])))
  case late => exact (congrArg _ (if_pos live)).trans (congrArg _ (if_pos (by simp [drain, late])))
  case soon => exact (congrArg _ (if_pos live)).trans (congrArg _ (if_neg (by simp [Nat.not_le.mpr soon])))
  case handed => exact (congrArg _ (if_pos live)).trans (congrArg _ (if_pos (by simp [handover])))
  case reverted => exact (congrArg _ (if_pos live)).trans (congrArg _ (if_pos (by simp [handover])))

/-! ### The ends of a reset or power-on (R549, R550, R562, R566) -/

theorem stopped_of_live {s : State} (live : s.live = true) : s.kpr.stopped = false := by
  simp only [State.live, Bool.and_eq_true, Bool.not_eq_true'] at live
  exact live.1.2

/-- Settles O29: each row at the gate that its clause names. -/
theorem unitEvents : Obligations.UnitEvents := by
  refine ⟨fun u s t live seq => ⟨fun serves same => ?opens, fun fenced same => ?stays⟩,
    fun u s t live seq powered => ⟨fun serves same => ?opensOn, fun fenced same => ?staysOn⟩,
    fun u s live closed draining => ⟨fun late => ?late, fun soon => ?soon⟩,
    fun u s q live seq => ⟨fun late => ?unready, fun soon => ?waits⟩, fun u s live => ⟨fun port => ?port, fun light => ?light⟩,
    fun u d s gateable present fenced => ?again⟩
  case opens =>
    rw [same]
    exact (congrArg _ (if_pos live)).trans (congrArg _ ((if_pos (by simp [seq])).trans (if_neg (by simp [serves]))))
  case stays =>
    rw [same]
    exact (congrArg _ (if_pos live)).trans (congrArg _ ((if_pos (by simp [seq])).trans (if_pos fenced)))
  case opensOn =>
    rw [same]
    refine (congrArg _ (if_pos live)).trans (congrArg _ ((if_pos (by simp [seq, powered])).trans ?_))
    simp only [serves, Bool.false_eq_true, if_false]
  case staysOn =>
    rw [same]
    refine (congrArg _ (if_pos live)).trans (congrArg _ ((if_pos (by simp [seq, powered])).trans ?_))
    simp only [fenced, if_true]
  case late =>
    refine (congrArg _ (if_pos live)).trans (congrArg _ ((if_pos (by simp [closed, draining, late])).trans (if_neg ?_)))
    simp [stopped_of_live live]
  case soon => exact (congrArg _ (if_pos live)).trans (congrArg _ (if_neg (by simp [Nat.not_le.mpr soon])))
  case unready =>
    refine (congrArg _ (if_pos live)).trans (congrArg _ (if_pos ?_))
    cases q <;> simp_all [UnitGate.readyAt]
  case waits =>
    refine (congrArg _ (if_pos live)).trans (congrArg _ (if_neg ?_))
    cases q <;> simp_all [UnitGate.readyAt]
  case port => exact (congrArg _ (if_pos live)).trans (congrArg _ ((if_neg (by omega)).trans (if_pos port)))
  case light => exact (congrArg _ (if_pos live)).trans (congrArg _ (if_pos light))
  case again =>
    have still : ((s.faultLog u Status.discardedFault.code d).gateN u).fenced = true := fenced
    exact (if_neg (by simp [gateable, present])).trans (if_pos still)

end Sys2Proof.Machine

/-!
Proof of `SupplyGuard` (R64 to R70, R175, R177): the guard's rows, and an operation of the flash or of the fuses that ends.
-/
namespace Sys2Proof.Machine
open Sys2Proof
set_option Elab.async false

theorem supEvent_frame (s : State) (bits : BitVec 7) :
    ∃ h o, s.supEvent bits = { s with sup := { s.sup with event := s.sup.event ||| bits }, host := h, out := o } :=
  raising_frame s _

/-! ### The guard -/

section
variable {s : State} (runs : s.kprRuns = true)
include runs

/-- While the guard is active its levels and the time since which neither condition holds follow (log entry 119). -/
theorem exec_supplyGuardActivate_of_active (active : s.sup.guard = true) (sag warn : Bool) :
    exec (.supplyGuardActivate sag warn) s = .next { s with sup := { s.sup with
      v3v3Low := sag, pwrWarn := warn
      guardGoodAt := if sag || warn then none else some (s.sup.guardGoodAt.getD s.clock) } } := by
  change execSupplyGuardActivate sag warn s = _
  rw [execSupplyGuardActivate, if_neg (by simp [runs])]
  cases sag <;> cases warn <;> simp [active, State.updSup]

/-- Neither condition holds and the guard is clear: the levels alone follow. -/
theorem exec_supplyGuardActivate_of_clear (clear : s.sup.guard = false) :
    exec (.supplyGuardActivate false false) s
      = .next { s with sup := { s.sup with v3v3Low := false, pwrWarn := false, guardGoodAt := none } } := by
  change execSupplyGuardActivate false false s = _
  rw [execSupplyGuardActivate, if_neg (by simp [runs])]
  simp [clear, State.updSup]

end

/-- The guard's level after it activates, before its effect on the flash. -/
def State.guarded (s : State) (sag warn : Bool) : State :=
  ((s.updSup (fun p => { p with v3v3Low := sag, pwrWarn := warn, guardGoodAt := none })).updSup
    (fun p => { p with guard := true, guardCount := satInc p.guardCount })).supEvent 1

/-- An erase in progress is suspended (R66). -/
def State.eraseSuspended (s : State) : State :=
  match s.sup.flashOp with
  | some (.erase b) => s.updSup (fun p => { p with flashOp := none, eraseSusp := some b })
  | _ => s

/-- The first condition that holds makes the guard active (R64). -/
theorem exec_supplyGuardActivate_of_rise {s : State} (runs : s.kprRuns = true) (clear : s.sup.guard = false) {sag warn : Bool}
    (low : sag = true ∨ warn = true) : exec (.supplyGuardActivate sag warn) s = .next (
      let t := (s.guarded sag warn).eraseSuspended
      if t.flashWants || t.writing then { t with fw := { t.fw with guardWait := some t.clock } } else t) := by
  have rises : (sag || warn) = true := by simpa using low
  change execSupplyGuardActivate sag warn s = _
  rw [execSupplyGuardActivate, if_neg (by simp [runs])]
  have level : s.updSup (fun p => { p with
        v3v3Low := sag, pwrWarn := warn
        guardGoodAt := if p.guard && !sag && !warn then some (p.guardGoodAt.getD s.clock) else none })
      = s.updSup (fun p => { p with v3v3Low := sag, pwrWarn := warn, guardGoodAt := none }) := by
    simp only [State.updSup, clear, Bool.false_and, Bool.false_eq_true, if_false]
  simp only [level, clear, rises, Bool.not_true, Bool.or_self, Bool.false_eq_true, if_false]
  rfl

/-- What a rise of the guard leaves of each part. -/
theorem guarded_frame (s : State) (sag warn : Bool) : ∃ h o, s.guarded sag warn = { s with host := h, out := o, sup := { s.sup with
    v3v3Low := sag, pwrWarn := warn, guardGoodAt := none, guard := true, guardCount := satInc s.sup.guardCount
    event := s.sup.event ||| 1 } } := supEvent_frame _ 1

/-- Suspending an erase changes the operation in progress and the erase that waits. -/
theorem eraseSuspended_frame (s : State) : ∃ f e, s.eraseSuspended = { s with sup := { s.sup with flashOp := f, eraseSusp := e } }
    ∧ (∀ b, s.sup.flashOp = some (.erase b) → e = some b ∧ f = none)
    ∧ ((∀ b, s.sup.flashOp ≠ some (.erase b)) → e = s.sup.eraseSusp ∧ f = s.sup.flashOp) := by
  unfold State.eraseSuspended
  split
  · next b op => exact ⟨none, some b, rfl, fun c is => by simp_all, fun none => absurd op (none b)⟩
  · next other => exact ⟨s.sup.flashOp, s.sup.eraseSusp, rfl, fun b is => absurd is (other b), fun _ => ⟨rfl, rfl⟩⟩

theorem exec_supplyGuardRelease {s : State} : exec .supplyGuardRelease s = .next (
    if (!s.sup.guard || !s.kprRuns || !(s.sup.guardGoodAt.any (· + 10000 ≤ s.clock))) = true then s
    else
      let u : State := { s with sup := { s.sup with guard := false, guardGoodAt := none }, fw := { s.fw with guardWait := none } }
      if (u.poweredOn && (u.boot.stage == 0xF || decide (7 ≤ u.boot.stage.toNat))) = true then u.flashKick else u) := rfl

/-! ### Operations that end -/

theorem exec_flashOpComplete_of_program {s : State} (on : s.poweredOn = true) {a : Nat} {bs : List Byte} {r : Bool}
    (op : s.sup.flashOp = some (.program a bs r)) (ok : Bool) : exec (.flashOpComplete ok) s = .next (s.programDone a bs r ok) := by
  change execFlashOpComplete ok s = _
  rw [execFlashOpComplete, if_neg (by simp [on]), op]

theorem exec_flashOpComplete_of_otp {s : State} (on : s.poweredOn = true) (idle : s.sup.flashOp = none) {o : OtpOp}
    (op : s.sup.otpOp = some o) (ok : Bool) : exec (.flashOpComplete ok) s = .next (s.otpDone o ok) := by
  change execFlashOpComplete ok s = _
  rw [execFlashOpComplete, if_neg (by simp [on]), idle, op]

/-- Settles O31: the rows above, and the two ways in which a page or fuse program ends. -/
theorem supplyGuard : Obligations.SupplyGuard := by
  refine ⟨fun sag warn s runs => ⟨fun active => exec_supplyGuardActivate_of_active runs active sag warn, fun clear low ok => ?clear,
      fun clear low => ?rises⟩, fun s u g active runs good same => ⟨fun late on stage => ?kicks, fun late off => ?noKick, fun soon => ?soon⟩,
    fun s good => ?neverGood, fun s t waits active => ⟨fun soon => ?waits, fun late => ⟨fun none writing => ?flash, fun none idle => ?noFlash,
      fun o u todo same => ?fuse⟩⟩, fun s b ok on op => ?erase, fun s u a bs r on op same => ⟨fun more => ?more, fun last writing => ?last⟩,
    fun s u a bs r on op same => ⟨fun first => ?first, fun second => ?second⟩, fun s o on idle op => ⟨?blown, fun f fuses => ?wrong⟩⟩
  case clear =>
    subst low ok
    exact exec_supplyGuardActivate_of_clear runs clear
  case rises =>
    obtain ⟨h, o, eq⟩ := guarded_frame s sag warn
    refine ⟨_, exec_supplyGuardActivate_of_rise runs clear low, ?_⟩
    rw [eq]
    obtain ⟨f, e, suspended, erase, other⟩ := eraseSuspended_frame { s with host := h, out := o, sup := { s.sup with
      v3v3Low := sag, pwrWarn := warn, guardGoodAt := none, guard := true, guardCount := satInc s.sup.guardCount
      event := s.sup.event ||| 1 } }
    rw [suspended]
    dsimp only
    split <;> rename_i waits
    · exact ⟨rfl, rfl, rfl, rfl, rfl, rfl, erase, other, (if_pos waits).symm, rfl, rfl⟩
    · exact ⟨rfl, rfl, rfl, rfl, rfl, rfl, erase, other, (if_neg waits).symm, rfl, rfl⟩
  case kicks =>
    subst same
    refine exec_supplyGuardRelease.trans (congrArg _ ((if_neg ?_).trans (if_pos ?_)))
    · simp [active, runs, good, late]
    · simpa [State.poweredOn, stage] using on
  case noKick =>
    subst same
    refine exec_supplyGuardRelease.trans (congrArg _ ((if_neg ?_).trans (if_neg ?_)))
    · simp [active, runs, good, late]
    · simp only [Bool.and_eq_true, Bool.or_eq_true, beq_iff_eq, decide_eq_true_eq]
      rintro ⟨on, stage⟩
      rcases off with off | low
      · exact Bool.false_ne_true (off.symm.trans on)
      · rcases stage with ready | past
        · exact absurd (congrArg BitVec.toNat ready) (Nat.ne_of_lt (Nat.lt_trans low (by decide)))
        · exact Nat.not_le.mpr low past
  case soon => exact exec_supplyGuardRelease.trans (congrArg _ (if_pos (by simp [good, soon])))
  case neverGood => exact exec_supplyGuardRelease.trans (congrArg _ (if_pos (by simp [good])))
  case waits =>
    change execGuardWaitTimeout s = _
    simp [execGuardWaitTimeout, waits, Nat.not_le.mpr soon]
  case flash =>
    change execGuardWaitTimeout s = _
    have due : (s.sup.guard && decide (t + 100000 ≤ s.clock)) = true := by simp [active, late]
    simp only [execGuardWaitTimeout, waits, due, if_true, none]
    exact congrArg _ (if_pos writing)
  case noFlash =>
    change execGuardWaitTimeout s = _
    have due : (s.sup.guard && decide (t + 100000 ≤ s.clock)) = true := by simp [active, late]
    simp only [execGuardWaitTimeout, waits, due, if_true, none]
    exact congrArg _ (if_neg (by simpa [State.writing] using idle))
  case fuse =>
    subst same
    change execGuardWaitTimeout s = _
    have due : (s.sup.guard && decide (t + 100000 ≤ s.clock)) = true := by simp [active, late]
    simp only [execGuardWaitTimeout, waits, due, if_true, todo]
  case erase =>
    change execFlashOpComplete ok s = _
    rw [execFlashOpComplete, if_neg (by simp [on]), op]
    rfl
  case more =>
    rw [same, exec_flashOpComplete_of_program on op]
    exact congrArg _ ((if_pos rfl).trans (if_neg (by simp [more])))
  case last =>
    rw [same, exec_flashOpComplete_of_program on op]
    exact congrArg _ ((if_pos rfl).trans (if_pos (by simpa [last, State.writing] using writing)))
  case first =>
    rw [same, exec_flashOpComplete_of_program on op, first]
    rfl
  case second =>
    rw [same, exec_flashOpComplete_of_program on op, second]
    rfl
  case blown => exact exec_flashOpComplete_of_otp on idle op true
  case wrong =>
    rw [exec_flashOpComplete_of_otp on idle op]
    cases o with
    | secver m => subst fuses; rfl
    | key i x => subst fuses; rfl
    | revoke i => subst fuses; rfl

end Sys2Proof.Machine

/-!
Proofs of `Resets`, `BootStages` and `BootFailures` (03): what each reset keeps, each boot stage's row, what stopping boot leaves,
and the longest run of passing taps.
-/
namespace Sys2Proof.Machine
open Sys2Proof
set_option Elab.async false

/-! ### Resets (R75) -/

/-- What a reset makes of the flash and fuse operations in progress. -/
theorem onReset_frame (p : Supply) : p.onReset.guard = false ∧ p.onReset.v3v3Low = false ∧ p.onReset.fuses = p.fuses
    ∧ p.onReset.flashSize = p.flashSize ∧ p.onReset.flashOp = none ∧ p.onReset.otpOp = none := by
  unfold Supply.onReset
  dsimp only
  split <;> exact ⟨rfl, rfl, rfl, rfl, rfl, rfl⟩

theorem onReset_of_idle {p : Supply} (op : p.flashOp = none) : p.onReset.flash = p.flash ∧ p.onReset.eraseSusp = p.eraseSusp := by
  simp [Supply.onReset, op]

theorem onReset_of_erase {p : Supply} {b : Nat} (op : p.flashOp = some (.erase b)) :
    p.onReset.flash = p.flash ∧ p.onReset.eraseSusp = some b := by
  simp [Supply.onReset, op]

theorem onReset_of_program {p : Supply} {a : Nat} {bs : List Byte} {r : Bool} (op : p.flashOp = some (.program a bs r)) :
    p.onReset.flash = flashProgram p.flash a bs := by
  simp [Supply.onReset, op]

/-- PERST_N's scope: the Keeper goes on, the guard keeps its level, and the rest is at its reset value. -/
theorem perstScope_frame (s : State) : ∃ p, s.perstScope = { s.cold with
      sup := p
      kpr := { s.kpr.onPerst with event := if s.kpr.safe then s.kpr.event ||| 2 else s.kpr.event } }
    ∧ p.fuses = s.sup.fuses ∧ p.guard = s.sup.guard ∧ p.v3v3Low = s.sup.v3v3Low ∧ p.pwrWarn = s.sup.pwrWarn
    ∧ p.guardGoodAt = s.sup.guardGoodAt := by
  refine ⟨{ s.sup.onReset.keepGuard s.sup with power := if s.sup.power == .off then .off else .active }, ?_,
    (onReset_frame s.sup).2.2.1, rfl, rfl, rfl, rfl⟩
  unfold State.perstScope
  dsimp only
  cases safe : s.kpr.safe
  · rw [if_neg (by simp)]
    rfl
  · rw [if_pos rfl]
    rfl

/-- Settles O37: the rows of the reset inputs, with `perstScope_frame` and what `Supply.onReset` keeps. -/
theorem resets : Obligations.Resets := by
  refine ⟨fun s => rfl, fun s por => ?perst, fun p => ?supply, fun s low => ?lowPerst, fun b s => ⟨fun high => ?porAgain, fun high => ?perstAgain⟩,
    fun b s low => ?porRelease, fun b s low => ⟨fun por => ?released, fun noPor => ?waits⟩, fun b s => ⟨fun perst por => ?inBand, fun off => ?ignored⟩,
    fun s => rfl⟩
  case perst =>
    obtain ⟨p, eq, fuses, guard, low, warn, good⟩ := perstScope_frame s
    refine ⟨_, congrArg Host.Outcome.next (if_pos por), ?_⟩
    rw [eq]
    exact ⟨rfl, rfl, rfl, rfl, rfl, rfl, rfl, rfl, rfl, rfl, fuses, guard, low, warn, good, congrArg (fun p => ({ porN := p, perstN := false } : Boot)) por,
      rfl, rfl, rfl, rfl, rfl, rfl, rfl, rfl, rfl, rfl, rfl, rfl, rfl⟩
  case supply =>
    obtain ⟨guard, -, fuses, size, op, otp⟩ := onReset_frame p
    exact ⟨guard, fuses, size, op, otp, onReset_of_idle, fun _ => onReset_of_erase, fun _ _ _ => onReset_of_program⟩
  case lowPerst => exact congrArg Host.Outcome.next (if_neg (by simp [low]))
  case porAgain => exact congrArg Host.Outcome.next (if_pos high)
  case perstAgain => exact congrArg Host.Outcome.next (if_pos high)
  case porRelease =>
    refine ⟨_, congrArg Host.Outcome.next (if_neg (by simp [low])), ?_⟩
    cases perst : s.boot.perstN <;> simp [State.resetReleased, State.updBoot, State.updKpr, perst]
  case released =>
    refine (congrArg Host.Outcome.next (if_neg (by simp [low]))).trans (congrArg Host.Outcome.next ((if_pos por).trans ?_))
    simp [State.resetReleased, State.updBoot, State.updKpr, por]
  case waits => exact (congrArg Host.Outcome.next (if_neg (by simp [low]))).trans (congrArg Host.Outcome.next (if_neg (by simp [State.updBoot, noPor])))
  case inBand =>
    have both : (s.boot.porN && s.boot.perstN) = true := by simp [por, perst]
    exact ⟨congrArg Host.Outcome.next (if_pos both), congrArg Host.Outcome.next (if_pos both)⟩
  case ignored =>
    have notBoth : ¬ (s.boot.porN && s.boot.perstN) = true := by rcases off with h | h <;> simp [h]
    exact ⟨congrArg Host.Outcome.next (if_neg notBoth), congrArg Host.Outcome.next (if_neg notBoth)⟩

/-! ### Stopping boot (R107) -/

/-- `s` with the vector table as messages left it. -/
def State.SameHost (s t : State) : Prop := ∃ m, t.host = { s.host with msix := m }

theorem sameHost_of_eq {s t : State} (h : t.host = s.host) : s.SameHost t := ⟨s.host.msix, h⟩

theorem sameHost_trans {s t u : State} (a : s.SameHost t) (b : t.SameHost u) : s.SameHost u := by
  obtain ⟨m, eq⟩ := a
  obtain ⟨n, eq'⟩ := b
  exact ⟨n, by rw [eq', eq]⟩

theorem sendMsix_host (s : State) (v : Fin 64) : s.SameHost (s.sendMsix v) := by
  unfold State.sendMsix
  dsimp only
  split
  · exact sameHost_of_eq rfl
  · split
    · exact ⟨_, rfl⟩
    · exact sameHost_of_eq rfl

theorem raising_host (s : State) (f : State → State) : (f s).SameHost (s.raising f) := by
  unfold State.raising
  dsimp only
  split
  · exact sendMsix_host (f s) 0
  · exact sameHost_of_eq rfl

theorem kprEvent_host (s : State) (bits : BitVec 4) : s.SameHost (s.kprEvent bits) := raising_host s _

theorem supEvent_host (s : State) (bits : BitVec 7) : s.SameHost (s.supEvent bits) := raising_host s _

theorem safeDrop_host (s : State) : s.SameHost s.safeDrop := by
  unfold State.safeDrop
  split
  · exact kprEvent_host _ 2
  · exact sameHost_of_eq rfl

theorem kprLog_host (s : State) (cls cause who : Nat) (flags : Byte) (value : U32) : s.SameHost (s.kprLog cls cause who flags value) :=
  kprEvent_host _ 8

theorem latched_host (s : State) (b : KprBit) (cause who : Nat) (value : U32) : s.SameHost (s.latched b cause who value) := by
  unfold State.latched
  extract_lets flags
  have logged := kprLog_host s b.idx cause who (BitVec.ofNat 8 flags) value
  generalize s.kprLog b.idx cause who (BitVec.ofNat 8 flags) value = u at logged ⊢
  generalize latching : u.updKpr _ = t
  have same : u.SameHost t := sameHost_of_eq (by rw [← latching]; rfl)
  exact sameHost_trans logged (sameHost_trans same (sameHost_trans (kprEvent_host t 1) (safeDrop_host _)))

/-- A latched fault leaves the host interface's registers as they are. -/
theorem latch_host (s : State) (b : KprBit) (cause who : Nat) (value : U32) : s.SameHost (s.latch b cause who value) := by
  rw [latch_eq]
  split
  · obtain ⟨g, eq⟩ := deviceStop_stops (s.latched b cause who value)
    rw [eq]
    exact latched_host s b cause who value
  · split
    · exact latched_host s b cause who value
    · exact latched_host s b cause who value

/-- `State.raiseBoot`: the BOOT source, with its message. -/
theorem raiseBoot_frame (s : State) : ∃ h o, s.raiseBoot = { s with host := h, out := o } ∧ h.int = { s.host.int with boot := true } := by
  obtain ⟨h, o, eq⟩ := raising_frame s (·.updInt (fun i => { i with boot := true }))
  obtain ⟨m, host⟩ := raising_host s (·.updInt (fun i => { i with boot := true }))
  rw [eq] at host
  exact ⟨h, o, eq, congrArg HostIf.int host⟩

/-- The BOOT source and fault are raised together. -/
theorem raiseBoot_latch (s : State) (value : U32) : ∃ h o g k, s.raiseBoot.latch .boot 0 0 value
    = { s with host := h, out := o, gate := g, kpr := k } ∧ h.int.boot = true := by
  obtain ⟨h₁, o₁, raised, int⟩ := raiseBoot_frame s
  rw [raised]
  obtain ⟨h, o, g, k, eq, -⟩ := latch_frame { s with host := h₁, out := o₁ } .boot 0 0 value
  obtain ⟨m, host⟩ := latch_host { s with host := h₁, out := o₁ } .boot 0 0 value
  rw [eq, if_neg (by decide)] at host
  refine ⟨h, o, g, _, by rw [eq, if_neg (by decide)], ?_⟩
  rw [show h = _ from host]
  exact congrArg IntBlk.boot int

/-- `State.bootStop`: what is recorded, with the BOOT source and the Keeper's fault. -/
theorem bootStop_frame (s : State) (e : BootErr) (d : Nat) : ∃ h o g k, s.bootStop e d = { s with
      host := h, out := o, gate := g, kpr := k
      boot := { s.boot with error := true, stopped := true, errCode := e, errStage := BitVec.ofNat 8 s.boot.stage.toNat
                            errDetail := BitVec.ofNat 16 d, timeMs := s.bootMs } }
    ∧ h.int.boot = true := by
  exact raiseBoot_latch _ _

/-! ### The longest run of passing taps (R99) -/

/-- One step of `longestRun`'s sweep: taps seen, length of the run that ends here, first tap and length of the best run. -/
def runStep (acc : Nat × Nat × Nat × Nat) (p : Bool) : Nat × Nat × Nat × Nat :=
  let cur := if p then acc.2.1 + 1 else 0
  if acc.2.2.2 < cur then (acc.1 + 1, cur, acc.1 + 1 - cur, cur) else (acc.1 + 1, cur, acc.2.2.1, acc.2.2.2)

theorem longestRun_eq (taps : List Bool) : longestRun taps = ((taps.take 128).foldl runStep (0, 0, 0, 0)).2.2 := rfl

/-- `m` taps from `b` on pass. -/
def IsRun (P : Nat → Bool) (b m : Nat) : Prop := ∀ i, i < m → P (b + i) = true

/-- What the sweep knows after the first `r.1` taps. -/
structure RunsUpTo (P : Nat → Bool) (r : Nat × Nat × Nat × Nat) : Prop where
  fits : r.2.1 ≤ r.1
  ends : IsRun P (r.1 - r.2.1) r.2.1
  maximal : r.2.1 < r.1 → P (r.1 - r.2.1 - 1) = false
  bestFits : r.2.2.1 + r.2.2.2 ≤ r.1
  best : IsRun P r.2.2.1 r.2.2.2
  longest : ∀ b m, b + m ≤ r.1 → IsRun P b m → m ≤ r.2.2.2 ∧ (m = r.2.2.2 → 0 < r.2.2.2 → r.2.2.1 ≤ b)

/-- A run that ends at a passing tap starts no earlier than the maximal run there. -/
theorem RunsUpTo.start_le {P : Nat → Bool} {i cur a n b m : Nat} (h : RunsUpTo P (i, cur, a, n)) (run : IsRun P b m)
    (last : b + m = i + 1) (some : 0 < m) : i - cur ≤ b := by
  by_contra early
  have off : P (i - cur - 1) = false := h.maximal (by dsimp only; omega)
  have on := run (i - cur - 1 - b) (by omega)
  rw [show b + (i - cur - 1 - b) = i - cur - 1 by omega, off] at on
  exact absurd on (by decide)

theorem runStep_runsUpTo {P : Nat → Bool} {r : Nat × Nat × Nat × Nat} (h : RunsUpTo P r) : RunsUpTo P (runStep r (P r.1)) := by
  obtain ⟨i, cur, a, n⟩ := r
  have fits : cur ≤ i := h.fits
  have bestFits : a + n ≤ i := h.bestFits
  have old : ∀ b m, b + m ≤ i → IsRun P b m → m ≤ n ∧ (m = n → 0 < n → a ≤ b) := h.longest
  cases tap : P i with
  | false =>
    have step : runStep (i, cur, a, n) false = (i + 1, 0, a, n) := by simp [runStep]
    rw [step]
    refine ⟨Nat.zero_le _, fun j lt => absurd lt (Nat.not_lt_zero j), fun _ => tap, Nat.le_succ_of_le bestFits, h.best, fun b m le run => ?_⟩
    rcases Nat.lt_or_ge i (b + m) with past | inside
    · rcases Nat.eq_zero_or_pos m with none | some
      · exact ⟨by omega, fun e pos => by dsimp only at e pos; omega⟩
      · have on := run (m - 1) (by omega)
        rw [show b + (m - 1) = i by dsimp only at le; omega, tap] at on
        exact absurd on (by decide)
    · exact old b m inside run
  | true =>
    have ends : IsRun P (i - cur) (cur + 1) := fun j lt => by
      rcases Nat.lt_or_ge j cur with before | here
      · exact h.ends j before
      · rw [show i - cur + j = i by omega]
        exact tap
    have maximal : cur + 1 < i + 1 → P (i + 1 - (cur + 1) - 1) = false := fun lt => by
      rw [Nat.add_sub_add_right]
      exact h.maximal (Nat.lt_of_succ_lt_succ lt)
    have start : i + 1 - (cur + 1) = i - cur := Nat.add_sub_add_right i 1 cur
    have newRun : ∀ b m, b + m = i + 1 → 0 < m → IsRun P b m → i - cur ≤ b := fun b m last some run => h.start_le run last some
    rcases Nat.lt_or_ge n (cur + 1) with longer | shorter
    · have step : runStep (i, cur, a, n) true = (i + 1, cur + 1, i - cur, cur + 1) := by simp [runStep, longer]
      rw [step]
      refine ⟨Nat.succ_le_succ fits, by rw [start]; exact ends, maximal, by dsimp only; omega, ends, fun b m le run => ?_⟩
      dsimp only at le ⊢
      rcases Nat.lt_or_ge i (b + m) with past | inside
      · rcases Nat.eq_zero_or_pos m with none | some
        · omega
        · have := newRun b m (by omega) some run
          omega
      · have := (old b m inside run).1
        omega
    · have step : runStep (i, cur, a, n) true = (i + 1, cur + 1, a, n) := by simp [runStep, Nat.not_lt.mpr shorter]
      rw [step]
      refine ⟨Nat.succ_le_succ fits, by rw [start]; exact ends, maximal, Nat.le_succ_of_le bestFits, h.best, fun b m le run => ?_⟩
      dsimp only at le ⊢
      rcases Nat.lt_or_ge i (b + m) with past | inside
      · rcases Nat.eq_zero_or_pos m with none | some
        · omega
        · have := newRun b m (by omega) some run
          omega
      · exact old b m inside run

theorem foldl_runStep_runsUpTo {P : Nat → Bool} (l : List Bool) : ∀ r, RunsUpTo P r → (∀ j, j < l.length → P (r.1 + j) = l.getD j false) →
    RunsUpTo P (l.foldl runStep r) ∧ (l.foldl runStep r).1 = r.1 + l.length := by
  induction l with
  | nil => exact fun r h _ => ⟨h, rfl⟩
  | cons p l ih =>
    intro r h taps
    have head : P r.1 = p := taps 0 (by simp)
    have count : (runStep r p).1 = r.1 + 1 := by
      simp only [runStep, apply_ite Prod.fst, ite_self]
    obtain ⟨all, seen⟩ := ih (runStep r p) (head ▸ runStep_runsUpTo h) fun j lt => by
      rw [count, Nat.add_assoc, Nat.add_comm 1 j]
      simpa using taps (j + 1) (by simpa using lt)
    exact ⟨all, by rw [List.foldl_cons, seen, count, List.length_cons]; omega⟩

/-- A sweep of at most 128 taps: its best run, and that none is longer, nor as long and further left. -/
theorem longestRun_longest {taps : List Bool} {a n : Nat} (eq : longestRun taps = (a, n)) (len : taps.length ≤ 128) :
    IsRun (taps.getD · false) a n
    ∧ ∀ b m, IsRun (taps.getD · false) b m → m ≤ n ∧ (m = n → 0 < n → a ≤ b) := by
  obtain ⟨known, seen⟩ := foldl_runStep_runsUpTo (P := (taps.getD · false)) taps (0, 0, 0, 0)
    ⟨Nat.le_refl 0, fun j lt => absurd lt (Nat.not_lt_zero j), fun lt => absurd lt (Nat.lt_irrefl 0), Nat.le_refl 0,
      fun j lt => absurd lt (Nat.not_lt_zero j), fun b m le _ => by dsimp only at le ⊢; omega⟩ (fun j _ => by rw [Nat.zero_add])
  rw [longestRun_eq, List.take_of_length_le len] at eq
  generalize taps.foldl runStep (0, 0, 0, 0) = r at known seen eq
  obtain ⟨i, cur, a', n'⟩ := r
  obtain ⟨rfl, rfl⟩ : a' = a ∧ n' = n := by simpa using eq
  obtain rfl : i = taps.length := by simpa using seen
  refine ⟨known.best, fun b m run => ?_⟩
  rcases Nat.eq_zero_or_pos m with none | some
  · omega
  · have inside : b + (m - 1) < taps.length := by
      by_contra out
      have on : taps.getD (b + (m - 1)) false = true := run (m - 1) (by omega)
      rw [List.getD_eq_default _ _ (by omega)] at on
      exact absurd on (by decide)
    exact known.longest b m (by dsimp only; omega) run

/-! ### Training -/

/-- A lane whose windows are long enough. -/
theorem trainLane_of_long {s : State} {n : Fin 16} {x : List Bool × List Bool} (read : s.boot.minEye ≤ (sweepEye x.1).2.toNat)
    (write : s.boot.minEye ≤ (sweepEye x.2).2.toNat) : ∃ e : Vector Eye 16,
      s.trainLane n x = ({ s with boot := { s.boot with eyes := e } }, none)
      ∧ e[n] = { s.boot.eyes[n] with rdCentre := (sweepEye x.1).1, rdWidth := (sweepEye x.1).2
                                     wrCentre := (sweepEye x.2).1, wrWidth := (sweepEye x.2).2 } := by
  refine ⟨updAt (updAt s.boot.eyes n (fun e => { e with rdCentre := (sweepEye x.1).1, rdWidth := (sweepEye x.1).2 })) n
    (fun e => { e with wrCentre := (sweepEye x.2).1, wrWidth := (sweepEye x.2).2 }), ?_, ?_⟩
  · rw [State.trainLane]
    dsimp only
    rw [if_neg (Nat.not_lt.mpr read), if_neg (Nat.not_lt.mpr write)]
    rfl
  · simp [-Fin.getElem_fin]

/-- Lanes that all pass change the eyes only. -/
theorem trainLanes_of_long (xs : List (List Bool × List Bool)) (m : Nat)
    (long : ∀ n : Fin 16, m ≤ (sweepEye (xs.getD n.val ([], [])).1).2.toNat ∧ m ≤ (sweepEye (xs.getD n.val ([], [])).2).2.toNat)
    (l : List (Fin 16)) : ∀ s : State, s.boot.minEye = m → ∃ e : Vector Eye 16,
      l.foldl (fun (acc : State × Option Nat) n => if acc.2.isSome then acc else acc.1.trainLane n (xs.getD n.val ([], []))) (s, none)
        = ({ s with boot := { s.boot with eyes := e } }, none) := by
  induction l with
  | nil => exact fun s _ => ⟨s.boot.eyes, rfl⟩
  | cons n l ih =>
    intro s min
    obtain ⟨e, lane, -⟩ := trainLane_of_long (s := s) (n := n) (min ▸ (long n).1) (min ▸ (long n).2)
    obtain ⟨e', rest⟩ := ih { s with boot := { s.boot with eyes := e } } min
    refine ⟨e', ?_⟩
    rw [List.foldl_cons, if_neg (by simp), lane, rest]

theorem train_of_lanes {s t : State} {xs : List (List Bool × List Bool)} (all : (List.finRange 16).foldl (fun (acc : State × Option Nat) n =>
    if acc.2.isSome then acc else acc.1.trainLane n (xs.getD n.val ([], []))) (s, none) = (t, none)) :
    s.train xs = t.setRegions.bootNext 0xB := by
  unfold State.train
  extract_lets r
  have same : r = (t, none) := all
  rw [same]

theorem setRegions_region0 (s : State) :
    s.setRegions.mem.region[(0 : Fin 8)] = { size := 0x10000000, en := true, grain := 8, ways := 2 } := by
  simp [State.setRegions]

/-- Settles O39: the conditions of each boot failure, `bootStop_frame`, `longestRun_longest` and the lanes' training. -/
theorem bootFailures : Obligations.BootFailures := by
  refine ⟨fun s booting => ⟨fun later spent => ?late, fun soon => ?inTime, fun stage late => ?noLock, fun ok => ?lock, fun stage late => ?noFlash,
      fun ok => ?flash, fun u p stage live powered => ⟨fun late => ?unit, fun soon => ?unitSoon⟩, fun u ok => ?noUnit, fun stage soon => ?lockstep,
      fun ok => ?noLockstep⟩,
    fun s => rfl, fun s e d => ?stop, fun taps a n eq len => ?longest, fun s t n x o eq => ⟨fun short => ?shortRead, fun long short => ?shortWrite,
      fun read write => ?long⟩, fun s xs long => ?train⟩
  case late => exact congrArg Host.Outcome.next (if_pos (by simp_all))
  case inTime => exact congrArg Host.Outcome.next (if_neg (by rcases soon with stage | le <;> simp_all))
  case noLock => exact congrArg Host.Outcome.next (if_pos (by simp [booting, stage, State.stagePast1ms, late]))
  case lock => exact congrArg Host.Outcome.next (if_neg (by rcases ok with stage | lt <;> simp_all [State.stagePast1ms]))
  case noFlash => exact congrArg Host.Outcome.next (if_pos (by simp [booting, stage, State.stagePast1ms, late]))
  case flash => exact congrArg Host.Outcome.next (if_neg (by rcases ok with stage | lt <;> simp_all [State.stagePast1ms]))
  case unit => exact congrArg Host.Outcome.next (if_pos (by simp [booting, stage, live, powered, late]))
  case unitSoon => exact congrArg Host.Outcome.next (if_neg (by simp [powered, soon]))
  case noUnit => exact congrArg Host.Outcome.next (if_neg (by rcases ok with stage | live | off <;> simp_all))
  case lockstep => exact congrArg Host.Outcome.next (if_pos (by simp [booting, stage, soon]))
  case noLockstep => exact congrArg Host.Outcome.next (if_neg (by rcases ok with stage | lt <;> simp_all))
  case stop =>
    obtain ⟨h, o, g, k, eq, int⟩ := bootStop_frame s e d
    rw [eq]
    exact ⟨rfl, rfl, rfl, rfl, rfl, rfl, rfl, int⟩
  case longest =>
    obtain ⟨best, longest⟩ := longestRun_longest eq len
    refine ⟨best, longest, fun some => ?_⟩
    rw [sweepEye, eq]
    dsimp only
    rw [if_neg (Nat.ne_of_gt some), show a + (a + n - 1) = 2 * a + n - 1 by omega]
  case shortRead =>
    rw [State.trainLane] at eq
    dsimp only at eq
    rw [if_pos (by simpa using short)] at eq
    exact congrArg Prod.snd eq
  case shortWrite =>
    rw [State.trainLane] at eq
    dsimp only at eq
    rw [if_neg (by simpa using long), if_pos (by simpa using short)] at eq
    exact congrArg Prod.snd eq
  case long =>
    obtain ⟨e, lane, eye⟩ := trainLane_of_long (n := n) read write
    rw [lane] at eq
    obtain ⟨rfl, rfl⟩ := Prod.mk.inj eq
    exact ⟨rfl, eye⟩
  case train =>
    obtain ⟨e, all⟩ := trainLanes_of_long xs s.boot.minEye long (List.finRange 16) s rfl
    rw [train_of_lanes all]
    exact ⟨rfl, rfl, setRegions_region0 _⟩

end Sys2Proof.Machine

/-!
Proof of `BootStages` (03): the row of each boot stage.
-/
namespace Sys2Proof.Machine
open Sys2Proof
set_option Elab.async false

section
variable {r : StageResult} {s : State} (booting : s.booting = true)
include booting

theorem bootStage0 (stage : s.boot.stage = 0) : exec (.bootStageComplete r) s = .next (s.bootNext 1) := by
  change execBootStageComplete r s = _
  rw [execBootStageComplete, if_neg (by simp [booting]), stage]
  rfl

theorem bootStage1 (stage : s.boot.stage = 1) (good : r.otpBad = none) : exec (.bootStageComplete r) s
    = .next ((s.bootNext 2).updBoot (fun b => { b with secverMin := BitVec.ofNat 8 s.sup.fuses.secverMin })) := by
  change execBootStageComplete r s = _
  rw [execBootStageComplete, if_neg (by simp [booting]), stage, good]
  rfl

theorem bootStage1_of_bad {i : Nat} (stage : s.boot.stage = 1) (bad : r.otpBad = some i) :
    exec (.bootStageComplete r) s = .next (s.bootStop .otpInvalid i) := by
  change execBootStageComplete r s = _
  rw [execBootStageComplete, if_neg (by simp [booting]), stage, bad]
  rfl

theorem bootStage2 (stage : s.boot.stage = 2) :
    exec (.bootStageComplete r) s = .next ((s.bootNext 3).updSup (fun p => { p with pllLock := true })) := by
  change execBootStageComplete r s = _
  rw [execBootStageComplete, if_neg (by simp [booting]), stage]
  rfl

theorem bootStage3 (stage : s.boot.stage = 3) : exec (.bootStageComplete r) s = .next (s.bootNext 4) := by
  change execBootStageComplete r s = _
  rw [execBootStageComplete, if_neg (by simp [booting]), stage]
  rfl

theorem bootStage4 (stage : s.boot.stage = 4) : exec (.bootStageComplete r) s = .next s.readBcfg := by
  change execBootStageComplete r s = _
  rw [execBootStageComplete, if_neg (by simp [booting]), stage]
  rfl

theorem bootStage5 (stage : s.boot.stage = 5) : exec (.bootStageComplete r) s = .next (s.imgLoad r) := by
  change execBootStageComplete r s = _
  rw [execBootStageComplete, if_neg (by simp [booting]), stage]
  rfl

theorem bootStage6 (stage : s.boot.stage = 6) : exec (.bootStageComplete r) s = .next (s.verifyImage r.readFail) := by
  change execBootStageComplete r s = _
  rw [execBootStageComplete, if_neg (by simp [booting]), stage]
  rfl

theorem bootStage7 (stage : s.boot.stage = 7) : exec (.bootStageComplete r) s = .next s.avsStart := by
  change execBootStageComplete r s = _
  rw [execBootStageComplete, if_neg (by simp [booting]), stage]
  rfl

theorem bootStage8 (stage : s.boot.stage = 8) : exec (.bootStageComplete r) s = .next
    (if s.sup.flashOp.isSome || s.sup.eraseSusp.isSome || !s.avsSettled then s
      else (s.dramSetup.bootNext 9).updBoot (fun b => { b with degraded := b.degraded || s.sup.avsFault })) := by
  change execBootStageComplete r s = _
  rw [execBootStageComplete, if_neg (by simp [booting]), stage]
  rfl

theorem bootStage9 (stage : s.boot.stage = 9) (good : r.dramFail = []) : exec (.bootStageComplete r) s = .next (s.bootNext 0xA) := by
  change execBootStageComplete r s = _
  rw [execBootStageComplete, if_neg (by simp [booting]), stage, good]
  rfl

theorem bootStage9_of_bad {c : Nat} {cs : List Nat} (stage : s.boot.stage = 9) (bad : r.dramFail = c :: cs) :
    exec (.bootStageComplete r) s = .next (s.bootStop .dramInitFail c) := by
  change execBootStageComplete r s = _
  rw [execBootStageComplete, if_neg (by simp [booting]), stage, bad]
  rfl

theorem bootStage10 (stage : s.boot.stage = 10) : exec (.bootStageComplete r) s = .next ((s.oscKept r.osc).train r.sweeps) := by
  change execBootStageComplete r s = _
  rw [execBootStageComplete, if_neg (by simp [booting]), stage]
  rfl

theorem bootStage11_of_bad {c : Nat} {cs : List Nat} (stage : s.boot.stage = 11) (bad : r.eccFail = c :: cs) :
    exec (.bootStageComplete r) s = .next (s.bootStop .eccInitFail c) := by
  change execBootStageComplete r s = _
  rw [execBootStageComplete, if_neg (by simp [booting]), stage, bad]
  rfl

/-- Stage 0x0B's end: memory reads zero and the controllers serve (R100). -/
theorem bootStage11 (stage : s.boot.stage = 11) (good : r.eccFail = []) : exec (.bootStageComplete r) s = .next
    (({ s with
        boot := { s.boot with fwDram := Config.firmwareParts s.stagedBody }
        mem := { s.mem with
          cells := [], ecc := [], dmc := s.mem.dmc.map (fun d => { d with
            ready := true, mr4Due := s.clock + 16000, driftDue := Vector.replicate 4 (s.clock + 100000) }) } } : State).bootNext 0xC) := by
  change execBootStageComplete r s = _
  rw [execBootStageComplete, if_neg (by simp [booting]), stage, good]
  rfl

theorem bootStage12 (stage : s.boot.stage = 12) : exec (.bootStageComplete r) s = .next (if r.tableFail then s.tablesFail
    else ((List.finRange 4).foldl (fun s n => if r.fwdFail.contains n.val then s.strictMode n else s) s).selfTest r.bistFail) := by
  change execBootStageComplete r s = _
  rw [execBootStageComplete, if_neg (by simp [booting]), stage]
  rfl

theorem bootStage13 (stage : s.boot.stage = 13) :
    exec (.bootStageComplete r) s = .next (if s.sup.switchOn.isEmpty then s.unitsDone else s) := by
  change execBootStageComplete r s = _
  rw [execBootStageComplete, if_neg (by simp [booting]), stage]
  rfl

theorem bootStage14 (stage : s.boot.stage = 14) : exec (.bootStageComplete r) s = .next s.ready := by
  change execBootStageComplete r s = _
  rw [execBootStageComplete, if_neg (by simp [booting]), stage]
  rfl

end

/-- The board configuration that is used, by which copies are valid (R86). -/
theorem readBcfg_of_valid {s : State} {c : List Byte} {copy1 : Bool}
    (used : (bcfgValid (s.flashRead 0 256) = true ∧ c = s.flashRead 0 256 ∧ copy1 = false)
      ∨ (bcfgValid (s.flashRead 0 256) = false ∧ bcfgValid (s.flashRead 0x10000 256) = true ∧ c = s.flashRead 0x10000 256 ∧ copy1 = true)) :
    (∀ off, bcfgMismatch s.sup.fuses.variantL c = some off →
      s.readBcfg = (s.updBoot (fun b => { b with bcfgCopy := copy1 })).bootStop .bcfgMismatch off)
    ∧ (bcfgMismatch s.sup.fuses.variantL c = none → s.readBcfg = (s.updBoot (·.takeBcfg copy1 c)).imgStart) := by
  rcases used with ⟨valid, rfl, rfl⟩ | ⟨bad, valid, rfl, rfl⟩
  · refine ⟨fun off mismatch => ?_, fun fits => ?_⟩
    · simp [State.readBcfg, State.updBoot, valid, mismatch]
    · simp [State.readBcfg, State.updBoot, valid, fits, Boot.takeBcfg]
  · refine ⟨fun off mismatch => ?_, fun fits => ?_⟩
    · simp [State.readBcfg, State.updBoot, bad, valid, mismatch]
    · simp [State.readBcfg, State.updBoot, bad, valid, fits, Boot.takeBcfg]

/-- What firmware's start leaves of the boot record and the Keeper (R93). -/
theorem fwStart_frame (s : State) : s.fwStart.boot = ((s.updBoot (fun b => { b with hylSram := Config.hyldoCode s.stagedBody })).bootNext 7).boot
    ∧ s.fwStart.kpr = { s.kpr with wdogAt := some s.clock, wdogLast := 0 } := by
  unfold State.fwStart
  dsimp only
  split
  · split
    · exact ⟨rfl, rfl⟩
    · exact ⟨rfl, rfl⟩
  · exact ⟨rfl, rfl⟩

/-- The images' verdicts alone differ between a verdict recorded and none: the staging area is as it was. -/
theorem setReason_frame (b : Boot) (isB : Bool) (r : ImgReason) :
    ∃ ra rb, b.setReason isB r = { b with reasonA := ra, reasonB := rb } := by
  unfold Boot.setReason
  split
  · exact ⟨_, _, rfl⟩
  · exact ⟨_, _, rfl⟩

/-- An accepted image: what stage 0x06 leaves (R90). -/
theorem verifyImage_of_ok {s : State} {readFail : Bool} (flash : s.boot.image ≠ .hostLoad)
    (good : (if readFail then ImgReason.readFail else imageReason s.sup.fuses s.stagingRead) = .ok) :
    (s.verifyImage readFail).boot.stage = 7 ∧ (s.verifyImage readFail).boot.image = (if s.boot.tryB then .b else .a)
    ∧ (s.verifyImage readFail).boot.imgVersion = BitVec.ofNat 32 (leAt (s.stagingRead 0 512) 12 4)
    ∧ (s.verifyImage readFail).boot.secVersion = BitVec.ofNat 8 (leAt (s.stagingRead 0 512) 8 4)
    ∧ (s.verifyImage readFail).boot.hylSram = Config.hyldoCode s.stagedBody
    ∧ (s.verifyImage readFail).kpr.wdogAt = some s.clock := by
  obtain ⟨ra, rb, eq⟩ := setReason_frame s.boot s.boot.tryB .ok
  have row : s.verifyImage readFail = (({ s with boot := ({ s.boot with reasonA := ra, reasonB := rb } : Boot).refusedDetail } : State).acceptImage
      (if s.boot.tryB then .b else .a) (s.stagingRead 0 512)).fwStart := by
    rw [State.verifyImage, if_neg (by simpa using flash)]
    dsimp only
    rw [if_pos good, State.updBoot, eq]
    rfl
  obtain ⟨boot, kpr⟩ := fwStart_frame (({ s with boot := ({ s.boot with reasonA := ra, reasonB := rb } : Boot).refusedDetail } : State).acceptImage
      (if s.boot.tryB then .b else .a) (s.stagingRead 0 512))
  rw [row, boot, kpr]
  exact ⟨rfl, rfl, rfl, rfl, rfl, rfl⟩

theorem verifyImage_of_refused {s : State} {readFail : Bool} {q : ImgReason} (flash : s.boot.image ≠ .hostLoad)
    (verdict : q = (if readFail then .readFail else imageReason s.sup.fuses s.stagingRead)) (bad : q ≠ .ok) :
    s.verifyImage readFail = s.refuseImage q := by
  rw [State.verifyImage, if_neg (by simpa using flash)]
  dsimp only
  rw [← verdict, if_neg bad]

/-- Both images' headers decide which is read first (R89). -/
theorem chooseImage_of_both {s t : State} {ok fa fb : Bool} (sel : s.boot.bootSel = 0) (choice : (t, ok) = s.chooseImage fa fb) :
    (s.headReason false fa ≠ .ok → s.headReason true fb ≠ .ok → ok = false)
    ∧ (s.headReason false fa = .ok → s.headReason true fb = .ok → ok = true
      ∧ (t.boot.tryB = true ↔ leAt (s.imageHeader false) 12 4 < leAt (s.imageHeader true) 12 4))
    ∧ (s.headReason false fa = .ok → s.headReason true fb ≠ .ok → ok = true ∧ t.boot.tryB = false)
    ∧ (s.headReason false fa ≠ .ok → s.headReason true fb = .ok → ok = true ∧ t.boot.tryB = true) := by
  rw [State.chooseImage, if_pos sel] at choice
  refine ⟨fun a b => ?_, fun a b => ?_, fun a b => ?_, fun a b => ?_⟩ <;> simp only [a, b] at choice
  · simp [a, b] at choice
    exact choice.2
  · simp at choice
    obtain ⟨rfl, rfl⟩ := choice
    simp [State.updBoot]
  · simp [b] at choice
    obtain ⟨rfl, rfl⟩ := choice
    simp [State.updBoot]
  · simp [a] at choice
    obtain ⟨rfl, rfl⟩ := choice
    simp [State.updBoot]

/-- A unit that is present and passed its test is on, or among those to be switched on (R102, R103). -/
theorem unitsStart_gate {s : State} {u : Fin 56} (good : bitOf s.boot.fenced.toNat u.val = false) (there : s.unitAbsent u.val = false) :
    s.unitsStart.gate[u] = { powered := !unitGateable u.val } ∧ (unitGateable u.val = true → u.val ∈ s.unitsStart.sup.switchOn) := by
  refine ⟨?_, fun gateable => ?_⟩
  · simp [State.unitsStart, State.bootNext, good, there]
  · simp [State.unitsStart, State.bootNext, good, there, gateable]

/-- Self-tests that all pass (R101). -/
theorem selfTest_nil (s : State) :
    s.selfTest [] = ({ s with mem := { s.mem with cells := [], ecc := [] }, boot := { s.boot with staging := [] } } : State).unitsStart := by
  unfold State.selfTest
  extract_lets mem s₁ s₂ r
  have same : r = (s₂, none) := foldl_same fun _ _ => if_pos (by simp)
  rw [same]
  rfl

/-- READY: device time starts and the BOOT source is raised (R81, R83, R326). -/
theorem ready_frame (s : State) : s.ready.boot.stage = 0xF ∧ s.ready.kpr.readySeen = true ∧ s.ready.boot.timeMs = s.bootMs
    ∧ s.ready.boot.staging = [] ∧ s.ready.io.tbs.running = true ∧ s.ready.io.tbs.now = 0 ∧ s.ready.host.int.boot = true := by
  unfold State.ready
  extract_lets now ms s₁ s₂ s₃ eng sched s₄ str st s₅
  obtain ⟨h, o, eq, int⟩ := raiseBoot_frame s₅
  rw [eq]
  exact ⟨rfl, rfl, rfl, rfl, rfl, rfl, by simp [int]⟩

/-- BOOT_HOST_GO on an image that is accepted (R92). -/
theorem exec_bootHostGo_of_ok {s : State} (wait : s.boot.hostWait = true) (por : s.boot.porN = true) (perst : s.boot.perstN = true)
    (good : s.stagedReason s.boot.hostLen.toNat = .ok) : ∃ t : State, exec .bootHostGo s = .next t ∧ t.boot.hostWait = false
      ∧ t.boot.image = .hostLoad ∧ t.boot.stage = 6 ∧ t.boot.error = false := by
  refine ⟨_, congrArg Host.Outcome.next ((if_neg (by simp [wait, por, perst])).trans (if_pos good)), rfl, rfl, rfl, rfl⟩

/-- BOOT_HOST_GO on an image that is refused (R92). -/
theorem exec_bootHostGo_of_refused {s : State} (wait : s.boot.hostWait = true) (por : s.boot.porN = true) (perst : s.boot.perstN = true)
    {r : ImgReason} (reason : s.stagedReason s.boot.hostLen.toNat = r) (bad : r ≠ .ok) : ∃ t : State, exec .bootHostGo s = .next t
      ∧ t.boot.hostWait = true ∧ t.boot.error = true ∧ t.boot.errCode = .hostImageInvalid ∧ t.boot.errDetail = BitVec.ofNat 16 r.code
      ∧ t.boot.timeMs = s.bootMs ∧ t.boot.stage = s.boot.stage ∧ t.host.int.boot = true := by
  subst reason
  have row : exec .bootHostGo s = .next ({ s with boot := { s.boot with
      error := true, errCode := .hostImageInvalid, errStage := 6, timeMs := s.bootMs
      errDetail := BitVec.ofNat 16 (s.stagedReason s.boot.hostLen.toNat).code } } : State).raiseBoot :=
    congrArg Host.Outcome.next ((if_neg (by simp [wait, por, perst])).trans (if_neg bad))
  obtain ⟨h, o, eq, int⟩ := raiseBoot_frame { s with boot := { s.boot with
    error := true, errCode := .hostImageInvalid, errStage := 6, timeMs := s.bootMs
    errDetail := BitVec.ofNat 16 (s.stagedReason s.boot.hostLen.toNat).code } }
  exact ⟨_, row.trans (congrArg Host.Outcome.next eq), wait, rfl, rfl, rfl, rfl, rfl, by simp [int]⟩

/-- Settles O38: one row per stage, the choice of an image, and BOOT_HOST_GO's two answers. -/
theorem bootStages : Obligations.BootStages := by
  refine ⟨fun r s booting => ⟨bootStage0 booting, bootStage1 booting, fun i => bootStage1_of_bad booting, bootStage2 booting, bootStage3 booting,
      fun stage => ?bcfg, fun stage => ?load, fun stage => ?verify, bootStage7 booting, fun stage => ?avs, fun c cs => bootStage9_of_bad booting,
      bootStage9 booting, bootStage10 booting, fun c cs => bootStage11_of_bad booting, fun stage good => ?clear, fun stage bad => ?tables,
      fun stage good pass still => ?clean, fun stage good => ?tests, fun stage more => ?switching, fun stage none => ?switched, fun stage => ?ready⟩,
    fun r s off => ?idle, fun s t ok fa fb sel choice => chooseImage_of_both sel choice, fun s => ⟨rfl, fun u good there => unitsStart_gate good there⟩,
    fun s n => ⟨rfl, rfl⟩, fun s wait por perst => ⟨exec_bootHostGo_of_ok wait por perst, fun r => exec_bootHostGo_of_refused wait por perst⟩,
    fun s off => ?noWait⟩
  case bcfg =>
    rw [bootStage4 booting stage]
    refine ⟨fun a b => ?_, fun c copy1 used => ?_⟩
    · simp [State.readBcfg, a, b]
    · obtain ⟨mismatch, fits⟩ := readBcfg_of_valid used
      refine ⟨fun off bad => congrArg Host.Outcome.next (mismatch off bad), fun good => ⟨fun auto => ?_, fun wait => ?_⟩⟩
      · exact congrArg Host.Outcome.next ((fits good).trans (if_neg auto))
      · exact congrArg Host.Outcome.next ((fits good).trans (if_pos wait))
  case load =>
    rw [bootStage5 booting stage]
    refine ⟨fun host => congrArg Host.Outcome.next (if_pos (by simp [host])), fun t ok flash choice => ?_⟩
    have row : s.imgLoad r = if !ok then t.noValidImage else if r.readFail then t.refuseImage .readFail else t.loadImage.bootNext 6 := by
      rw [State.imgLoad, if_neg (by simpa using flash)]
      dsimp only
      rw [← choice]
    rw [row]
    refine ⟨fun none => ?_, fun found fail => ?_, fun found good => ?_⟩
    · rw [none]
      rfl
    · rw [found, fail]
      rfl
    · rw [found, good]
      rfl
  case verify =>
    rw [bootStage6 booting stage]
    refine ⟨fun host => congrArg Host.Outcome.next (if_pos (by simp [host])), fun q flash verdict => ⟨fun bad => ?_, fun good => ?_⟩⟩
    · rw [verifyImage_of_refused flash verdict bad]
    · exact ⟨_, rfl, verifyImage_of_ok flash (verdict.symm.trans good)⟩
  case avs =>
    rw [bootStage8 booting stage]
    refine ⟨fun busy => ?_, fun op susp settled => ?_⟩
    · rw [if_pos]
      simp only [Bool.or_eq_true, Bool.not_eq_true', Option.isSome_iff_ne_none]
      tauto
    · rw [if_neg (by simp [op, susp, settled])]
  case clear => exact ⟨_, bootStage11 booting stage good, rfl, rfl, rfl, fun c => by simp [State.bootNext], rfl⟩
  case tables => rw [bootStage12 booting stage, if_pos bad]
  case clean =>
    have modes : (List.finRange 4).foldl (fun s n => if r.fwdFail.contains n.val then s.strictMode n else s) s = s :=
      foldl_same fun _ _ => if_neg (by simp [still])
    rw [bootStage12 booting stage, if_neg (by simp [good]), modes, pass, selfTest_nil]
  case tests => rw [bootStage12 booting stage, if_neg (by simp [good])]
  case switching => rw [bootStage13 booting stage, if_neg (by simpa using more)]
  case switched => rw [bootStage13 booting stage, if_pos (by simpa using none)]
  case ready => exact ⟨_, bootStage14 booting stage, ready_frame s⟩
  case idle => exact congrArg Host.Outcome.next (if_pos (by simp [off]))
  case noWait => exact congrArg Host.Outcome.next (if_pos (by simp [off]))

end Sys2Proof.Machine

/-!
Proofs of `AdaptiveVoltage` and `Throttle` (02).
-/
namespace Sys2Proof.Machine
open Sys2Proof
set_option Elab.async false

/-! ### Droop and adaptive voltage -/

theorem whenPowered_of_on {s : State} {f : State → State} (on : s.poweredOn = true) : whenPowered s f = .next (f s) :=
  congrArg Host.Outcome.next (if_pos on)

/-- The voltage of a code is 2.5 mV a step, rounded to the millivolt (R52). -/
theorem avsMv_rounds (code : Nat) : 10 * avsMv code ≤ 25 * code + 5 ∧ 25 * code ≤ 10 * avsMv code := by
  unfold avsMv
  omega

/-- A limit that is no longer needed falls before the code is weighed (R50). -/
def State.limitCleared (s : State) (worst : Nat) : State :=
  if 8 ≤ worst && s.sup.avsLimit then { s with sup := { s.sup.mixed with avsLimit := false } } else s

theorem limitCleared_frame (s : State) (worst : Nat) : (s.limitCleared worst).clock = s.clock ∧ (s.limitCleared worst).sup.floor = s.sup.floor
    ∧ (s.limitCleared worst).sup.ceil = s.sup.ceil ∧ (s.limitCleared worst).sup.setCode = s.sup.setCode
    ∧ (s.limitCleared worst).sup.avsHoldoff = s.sup.avsHoldoff ∧ (s.limitCleared worst).sup.avsLowerDue = s.sup.avsLowerDue := by
  unfold State.limitCleared
  split
  · exact ⟨rfl, rfl, rfl, rfl, rfl, rfl⟩
  · exact ⟨rfl, rfl, rfl, rfl, rfl, rfl⟩

/-- Below 8 nothing clears the limit. -/
theorem limitCleared_of_bad {s : State} {worst : Nat} (bad : worst < 8) : s.limitCleared worst = s :=
  if_neg (by simp [bad])

/-- AVS_EVALUATION's row while AVS runs: the code kept inside its limits, then R50's three ranges. -/
theorem exec_avsEvaluation {worst : Nat} {s : State} (on : s.poweredOn = true) (runs : s.sup.avsRuns = true) (range : worst ≤ 63) :
    exec (.avsEvaluation worst) s = .next (
      let inside := max s.sup.floor.toNat (min s.sup.ceil.toNat s.sup.setCode.toNat)
      let v := s.limitCleared worst
      if inside ≠ s.sup.setCode.toNat then v.avsRequest inside
      else if 16 < worst then
        { v with sup := { v.sup with avsLowerDue := if s.sup.avsHoldoff.isSome then none else some (s.sup.avsLowerDue.getD (s.clock + 1000)) } }
      else
        let v : State := { v with sup := { v.sup with avsLowerDue := none } }
        if 8 ≤ worst then v
        else if s.sup.ceil.toNat ≤ s.sup.setCode.toNat then
          if v.sup.avsLimit then v else (v.updSup (fun p => { p.mixed with avsLimit := true })).supEvent 0x10
        else (v.updSup (fun p => { p with avsRaiseAt := some s.clock })).avsRequest
          (min s.sup.ceil.toNat (s.sup.setCode.toNat + (if worst < 4 then 4 else 1)))) := by
  obtain ⟨-, floor, ceil, code, holdoff, due⟩ := limitCleared_frame s worst
  rw [← floor, ← ceil, ← code, ← holdoff, ← due]
  change execAvsEvaluation worst s = _
  rw [execAvsEvaluation, whenPowered_of_on on, if_neg (by simp [runs, range])]
  rfl

/-- POWER_SWITCH_ON_STEP's row when the next domain may be switched on (R61). -/
theorem exec_powerSwitchOnStep {s v : State} {u : Nat} {us : List Nat} (on : s.poweredOn = true) (next : s.sup.switchOn = u :: us)
    (free : s.switchFree = true) (eq : v = ({ s with sup := { s.sup with switchOn := us, switchAt := some s.clock } } : State).updGate u
      (fun g => { g with powered := true, poweredAt := some s.clock })) :
    exec .powerSwitchOnStep s = .next (if v.sup.toActive && v.live then (if us.isEmpty then (v.unitBack u).activeNow else v.unitBack u) else v)
    ∧ v.sup.toActive = s.sup.toActive ∧ v.live = s.live := by
  obtain ⟨g, frame⟩ := updGate_frame ({ s with sup := { s.sup with switchOn := us, switchAt := some s.clock } } : State) u
    (fun g => { g with powered := true, poweredAt := some s.clock })
  have same : v.sup.toActive = s.sup.toActive ∧ v.live = s.live := by
    rw [eq, frame]
    exact ⟨rfl, rfl⟩
  refine ⟨?_, same⟩
  change execPowerSwitchOnStep s = _
  rw [execPowerSwitchOnStep, whenPowered_of_on on]
  simp only [next, free, Bool.not_true, Bool.false_eq_true, if_false, eq]
  rfl

/-- Settles O40: each row of the droop detectors, the power switches and the AVS loop, by its conditions. -/
theorem adaptiveVoltage : Obligations.AdaptiveVoltage := by
  refine ⟨fun s on calm => ?trip, fun s on stretched => ⟨fun none => ?tripAgain, fun waits => ?tripCancels⟩, fun e s n on stretched cycles => ?blockEnd,
    fun s u us on next => ⟨fun soon => ?switchSoon, fun v free eq => ⟨fun still => ?switchOn, fun act live more => ?switchBack,
      fun act live last => ?switchLast⟩⟩, fun s => ?switchFree,
    fun worst s v on runs range eq => ⟨fun under order => ?under, fun above order => ?above, fun low high => ⟨fun a b => ?calm, fun bad room => ?raise,
      fun bad top set => ?limitKept, fun bad top clear => ?limit, fun due good eqDue => ?lower⟩⟩, fun s code => ⟨rfl, rfl, List.mem_cons_self .., avsMv_rounds code⟩,
    fun s d on runs due => ⟨fun soon => ?lowerSoon, fun past above => ?lowerStep, fun past floor => ?lowerFloor⟩,
    fun s d on => ⟨fun past due => ?settled, fun soon due => ?settling, fun past due => ?held, fun soon due => ?holding⟩,
    fun mv s f on frame => ⟨fun write => ?ackWrite, fun read => ?ackRead, fun few => ?retry, fun many => ?fault⟩, fun ok mv s on none => ?noFrame,
    fun s up => ⟨fun fault => ?clear, fun good => ?clearNone⟩, fun s able => ⟨?enable, ?disable⟩⟩
  case trip =>
    have row : exec .droopTrip s = .next (({ s with sup := { s.sup with
        avsLowerDue := none, avsHoldoff := if s.sup.avsLowerDue.isSome then some (s.clock + 10000) else s.sup.avsHoldoff
        droop := true, droopMixed := false, droopCount := if s.coreDiv = 10 then satInc s.sup.droopCount else s.sup.droopCount } } : State).supEvent 2) := by
      change execDroopTrip s = _
      rw [execDroopTrip, whenPowered_of_on on]
      cases waits : s.sup.avsLowerDue <;> simp [State.updSup, State.coreDiv, calm, waits]
    obtain ⟨h, o, eq⟩ := supEvent_frame _ 2
    exact ⟨_, row.trans (congrArg Host.Outcome.next eq), rfl, rfl, rfl, rfl, rfl, rfl, rfl, rfl⟩
  case tripAgain =>
    change execDroopTrip s = _
    simp [execDroopTrip, whenPowered_of_on on, stretched, none]
  case tripCancels =>
    change execDroopTrip s = _
    simp [execDroopTrip, whenPowered_of_on on, stretched, waits, State.updSup]
  case blockEnd =>
    subst cycles
    exact (whenPowered_of_on on).trans (congrArg Host.Outcome.next (if_pos stretched))
  case switchSoon =>
    change execPowerSwitchOnStep s = _
    simp [execPowerSwitchOnStep, whenPowered_of_on on, next, soon]
  case switchOn =>
    obtain ⟨row, act, live⟩ := exec_powerSwitchOnStep on next free eq
    rw [row, if_neg (by rw [act, live]; rcases still with off | off <;> simp [off])]
  case switchBack =>
    obtain ⟨row, sameAct, sameLive⟩ := exec_powerSwitchOnStep on next free eq
    rw [row, if_pos (by simp [sameAct, sameLive, act, live]), if_neg (by simpa using more)]
  case switchLast =>
    obtain ⟨row, sameAct, sameLive⟩ := exec_powerSwitchOnStep on next free eq
    rw [row, if_pos (by simp [sameAct, sameLive, act, live]), if_pos (by simpa using last)]
  case switchFree =>
    cases last : s.sup.switchAt <;> simp [State.switchFree, last]
  case under =>
    have inside : max s.sup.floor.toNat (min s.sup.ceil.toNat s.sup.setCode.toNat) = s.sup.floor.toNat := by omega
    subst eq
    rw [exec_avsEvaluation on runs range, inside]
    exact congrArg Host.Outcome.next (if_pos (by omega))
  case above =>
    have inside : max s.sup.floor.toNat (min s.sup.ceil.toNat s.sup.setCode.toNat) = s.sup.ceil.toNat := by omega
    subst eq
    rw [exec_avsEvaluation on runs range, inside]
    exact congrArg Host.Outcome.next (if_pos (by omega))
  case calm =>
    subst eq
    rw [exec_avsEvaluation on runs range]
    exact congrArg Host.Outcome.next ((if_neg (by omega)).trans ((if_neg (by omega)).trans (if_pos a)))
  case raise =>
    rw [exec_avsEvaluation on runs range, limitCleared_of_bad bad]
    exact congrArg Host.Outcome.next ((if_neg (by omega)).trans ((if_neg (by omega)).trans ((if_neg (by omega)).trans (if_neg (by omega)))))
  case limitKept =>
    rw [exec_avsEvaluation on runs range, limitCleared_of_bad bad]
    exact congrArg Host.Outcome.next
      ((if_neg (by omega)).trans ((if_neg (by omega)).trans ((if_neg (by omega)).trans ((if_pos (by omega)).trans (if_pos set)))))
  case limit =>
    obtain ⟨h, o, eq⟩ := supEvent_frame ({ s with sup := { ({ s.sup with avsLowerDue := none } : Supply).mixed with avsLimit := true } }) 0x10
    have row : exec (.avsEvaluation worst) s = .next
        (({ s with sup := { ({ s.sup with avsLowerDue := none } : Supply).mixed with avsLimit := true } } : State).supEvent 0x10) := by
      rw [exec_avsEvaluation on runs range, limitCleared_of_bad bad]
      exact congrArg Host.Outcome.next
        ((if_neg (by omega)).trans ((if_neg (by omega)).trans ((if_neg (by omega)).trans ((if_pos (by omega)).trans (if_neg (by simp [clear]))))))
    exact ⟨_, row.trans (congrArg Host.Outcome.next eq), rfl, rfl, rfl, rfl⟩
  case lower =>
    subst eq eqDue
    rw [exec_avsEvaluation on runs range]
    exact congrArg Host.Outcome.next ((if_neg (by omega)).trans (if_pos good))
  case lowerSoon =>
    change execAvsLowerTimer s = _
    simp [execAvsLowerTimer, whenPowered_of_on on, runs, due, soon]
  case lowerStep =>
    change execAvsLowerTimer s = _
    simp [execAvsLowerTimer, whenPowered_of_on on, runs, due, past, above, State.updSup]
  case lowerFloor =>
    change execAvsLowerTimer s = _
    simp [execAvsLowerTimer, whenPowered_of_on on, runs, due, past, Nat.not_lt.mpr floor, State.updSup]
  case settled =>
    change execAvsSettleWaitEnd s = _
    simp [execAvsSettleWaitEnd, whenPowered_of_on on, due, past, State.updSup]
  case settling =>
    change execAvsSettleWaitEnd s = _
    simp [execAvsSettleWaitEnd, whenPowered_of_on on, due, soon]
  case held =>
    change execAvsDroopHoldoffEnd s = _
    simp [execAvsDroopHoldoffEnd, whenPowered_of_on on, due, past, State.updSup]
  case holding =>
    change execAvsDroopHoldoffEnd s = _
    simp [execAvsDroopHoldoffEnd, whenPowered_of_on on, due, soon]
  case ackWrite =>
    change execAvsbusFrameDone true mv s = _
    simp [execAvsbusFrameDone, whenPowered_of_on on, frame, write, State.updSup, AvsFrame.out]
  case ackRead =>
    change execAvsbusFrameDone true mv s = _
    simp [execAvsbusFrameDone, whenPowered_of_on on, frame, read, State.updSup]
  case retry =>
    change execAvsbusFrameDone false mv s = _
    simp [execAvsbusFrameDone, whenPowered_of_on on, frame, few, State.updSup]
  case fault =>
    have row : exec (.avsbusFrameDone false mv) s = .next (({ s with sup := { ({ s.sup with measMv := mv } : Supply).mixed with
        avsFrame := none, avsLowerDue := none, avsSettle := none, avsFault := true } } : State).supEvent 0x20) := by
      change execAvsbusFrameDone false mv s = _
      simp [execAvsbusFrameDone, whenPowered_of_on on, frame, Nat.not_lt.mpr many, State.updSup]
    obtain ⟨h, o, eq⟩ := supEvent_frame _ 0x20
    exact ⟨_, row.trans (congrArg Host.Outcome.next eq), rfl, rfl, rfl, by simp [Supply.avsRuns], rfl⟩
  case noFrame =>
    change execAvsbusFrameDone ok mv s = _
    simp [execAvsbusFrameDone, whenPowered_of_on on, none, State.updSup]
  case clear => exact congrArg Host.Outcome.next ((if_pos up).trans (if_pos fault))
  case clearNone => exact congrArg Host.Outcome.next ((if_pos up).trans (if_neg (by simp [good])))
  case enable => exact congrArg Host.Outcome.next (if_pos (by rcases able with up | ⟨on, stage, boots⟩ <;> simp [*]))
  case disable => exact congrArg Host.Outcome.next (if_pos (by rcases able with up | ⟨on, stage, boots⟩ <;> simp [*]))

/-! ### The dispatcher's re-evaluation leaves the rest alone -/

theorem foldl_keeps {α σ β : Type} {f : σ → α → σ} (p : σ → β) (keeps : ∀ s a, p (f s a) = p s) (l : List α) :
    ∀ s, p (l.foldl f s) = p s := by
  induction l with
  | nil => exact fun _ => rfl
  | cons a l ih => exact fun s => (ih (f s a)).trans (keeps s a)

/-- The state without streams, schedule and fault log, which a re-evaluation may change. -/
def State.aside (s : State) : State := { s with str := {}, sched := {}, mem := { s.mem with log := [], logNext := 0 } }

/-- States that agree aside agree on what is neither a stream, nor the schedule, nor the fault log. -/
theorem fields_of_aside {s t : State} (eq : s.aside = t.aside) :
    s.sup = t.sup ∧ s.pins = t.pins ∧ s.mem.cells = t.mem.cells ∧ s.host = t.host ∧ s.kpr = t.kpr := by
  have mem := congrArg State.mem eq
  exact ⟨(congrArg State.sup eq : _), (congrArg State.pins eq : _), (congrArg MemSys.cells mem : _), (congrArg State.host eq : _),
    (congrArg State.kpr eq : _)⟩

theorem updSlotN_aside (s : State) (n : Nat) (f : Slot → Slot) : (s.updSlotN n f).aside = s.aside := by
  unfold State.updSlotN
  split <;> rfl

theorem faultLog_aside (s : State) (u c : Nat) (d : U32) : (s.faultLog u c d).aside = s.aside := rfl

theorem shedSome_aside (k : Nat) : ∀ s : State, (s.shedSome k).aside = s.aside := by
  induction k with
  | zero => exact fun _ => rfl
  | succ k ih =>
    intro s
    unfold State.shedSome
    dsimp only
    split
    · rfl
    · split
      · rfl
      · rw [ih, updSlotN_aside]

theorem restoreSome_aside (s : State) : s.restoreSome.aside = s.aside := by
  unfold State.restoreSome
  refine foldl_keeps State.aside (fun s x => ?_) _ s
  dsimp only
  split
  · exact updSlotN_aside _ _ _
  · rfl

theorem degradedLog_aside (s : State) : s.degradedLog.aside = s.aside := by
  unfold State.degradedLog
  refine (foldl_keeps State.aside (fun s g => ?_) _ _).trans rfl
  split
  · exact faultLog_aside _ _ _ _
  · split
    · exact faultLog_aside _ _ _ _
    · rfl

theorem reevaluate_aside (s : State) : s.reevaluate.aside = s.aside := by
  rw [State.reevaluate, degradedLog_aside, restoreSome_aside, shedSome_aside]

theorem reevaluate_aside_if (s : State) (b : Bool) : (if b then s.reevaluate else s).aside = s.aside := by
  cases b
  · rfl
  · exact reevaluate_aside s

/-! ### The throttle (R55) -/

/-- A new level: its indications, and the dispatcher's re-evaluation. -/
theorem setThrottle_of_new {s : State} {l : Fin 3} (new : l ≠ s.sup.throttle) : ∃ h o,
    (s.setThrottle l).aside = ({ s with
      sup := { s.sup.mixed with throttle := l, dwellDue := if l = 1 then s.sup.dwellDue else none,
                                event := s.sup.event ||| (if s.sup.throttle < l then 4 else 8) }
      pins := { s.pins with thermLow := decide (l ≠ 0) }, host := h, out := o } : State).aside
    ∧ h.mbx = s.host.mbx := by
  rw [State.setThrottle]
  dsimp only
  rw [if_neg new]
  generalize set : ({ (s.updSup _) with pins := _ } : State) = u
  obtain ⟨h, o, eq⟩ := supEvent_frame u (if s.sup.throttle < l then 4 else 8)
  obtain ⟨m, host⟩ := supEvent_host u (if s.sup.throttle < l then 4 else 8)
  rw [eq] at host ⊢
  refine ⟨h, o, ?_, by rw [show h = _ from host, ← set]; rfl⟩
  rw [reevaluate_aside_if, ← set]
  rfl

/-- What any level leaves alone. -/
theorem setThrottle_keeps (s : State) (l : Fin 3) : ∃ e dwell mixed, (s.setThrottle l).sup = { s.sup with
      throttle := l, event := e, dwellDue := dwell, droopMixed := mixed }
    ∧ (s.setThrottle l).mem.cells = s.mem.cells ∧ (s.setThrottle l).host.mbx = s.host.mbx ∧ (s.setThrottle l).kpr = s.kpr := by
  rcases Decidable.em (l = s.sup.throttle) with same | new
  · rw [State.setThrottle]
    dsimp only
    rw [if_pos same, same]
    exact ⟨_, _, _, rfl, rfl, rfl, rfl⟩
  · obtain ⟨h, o, eq, mbx⟩ := setThrottle_of_new new
    obtain ⟨sup, -, cells, host, kpr⟩ := fields_of_aside eq
    exact ⟨_, _, _, sup, cells, (congrArg HostIf.mbx host).trans mbx, kpr⟩

/-! ### The hottest sensor -/

/-- One step of `hottest`. -/
def hotter (best : Option (Int × Nat)) (x : Sensor × Nat) : Option (Int × Nat) :=
  match best with
  | none => some (x.1.temp.toInt, x.2)
  | some b => if b.1 < x.1.temp.toInt then some (x.1.temp.toInt, x.2) else some b

theorem hottest_eq (ts : List Sensor) : hottest ts = (ts.zipIdx.filter (fun x => x.1.valid)).foldl hotter none := rfl

/-- What `hotter` leaves is no cooler than either, and is one of them. -/
theorem hotter_best (best : Option (Int × Nat)) (x : Sensor × Nat) : ∃ b, hotter best x = some b ∧ x.1.temp.toInt ≤ b.1
    ∧ (∀ a, best = some a → a.1 ≤ b.1) ∧ (b = (x.1.temp.toInt, x.2) ∨ best = some b) := by
  cases best with
  | none => exact ⟨_, rfl, Int.le_refl _, fun a none => (nomatch none), .inl rfl⟩
  | some a =>
    rcases Decidable.em (a.1 < x.1.temp.toInt) with hot | cool
    · exact ⟨_, if_pos hot, Int.le_refl _, fun a' e => Option.some.inj e ▸ Int.le_of_lt hot, .inl rfl⟩
    · exact ⟨a, if_neg cool, Int.not_lt.mp cool, fun a' e => Option.some.inj e ▸ Int.le_refl _, .inr rfl⟩

theorem foldl_hotter (l : List (Sensor × Nat)) : ∀ best b, l.foldl hotter best = some b →
    (∀ x ∈ l, x.1.temp.toInt ≤ b.1) ∧ (∀ a, best = some a → a.1 ≤ b.1) ∧ (best = some b ∨ ∃ x ∈ l, b = (x.1.temp.toInt, x.2)) := by
  induction l with
  | nil =>
    intro best b e
    have same : best = some b := e
    refine ⟨fun x mem => (nomatch mem), fun a e' => ?_, .inl same⟩
    rw [same] at e'
    exact Option.some.inj e' ▸ Int.le_refl _
  | cons x l ih =>
    intro best b e
    obtain ⟨c, step, covers, above, origin⟩ := hotter_best best x
    rw [List.foldl_cons, step] at e
    obtain ⟨rest, le, found⟩ := ih (some c) b e
    have up : c.1 ≤ b.1 := le c rfl
    refine ⟨fun y mem => ?_, fun a e' => Int.le_trans (above a e') up, ?_⟩
    · rcases List.mem_cons.mp mem with rfl | mem
      · exact Int.le_trans covers up
      · exact rest y mem
    · rcases found with e' | ⟨y, mem, e'⟩
      · obtain rfl := Option.some.inj e'
        rcases origin with here | before
        · exact .inr ⟨x, List.mem_cons_self .., here⟩
        · exact .inl before
      · exact .inr ⟨y, List.mem_cons_of_mem _ mem, e'⟩

theorem hottest_spec {ts : List Sensor} {m : Int} {i : Nat} (h : hottest ts = some (m, i)) :
    (∀ x ∈ ts, x.valid = true → x.temp.toInt ≤ m) ∧ ∃ x, ts[i]? = some x ∧ x.valid = true ∧ x.temp.toInt = m := by
  rw [hottest_eq] at h
  obtain ⟨all, -, found⟩ := foldl_hotter _ _ _ h
  refine ⟨fun x mem valid => ?_, ?_⟩
  · obtain ⟨k, at_⟩ := List.getElem?_of_mem mem
    exact all (x, k) (List.mem_filter.mpr ⟨List.mem_zipIdx_iff_getElem?.mpr at_, valid⟩)
  · rcases found with none | ⟨⟨x, k⟩, mem, e⟩
    · exact nomatch none
    · obtain ⟨rfl, rfl⟩ := Prod.mk.inj e
      obtain ⟨mem, valid⟩ := List.mem_filter.mp mem
      exact ⟨x, List.mem_zipIdx_iff_getElem?.mp mem, valid, rfl⟩

/-! ### A reading of the sensors -/

/-- A byte put together from its bits. -/
theorem getLsbD_sum_bits (b : Fin 8 → Bool) (j : Fin 8) :
    (BitVec.ofNat 8 ((List.finRange 8).map (fun i => if b i then 2 ^ i.val else 0)).sum).getLsbD j.val = b j := by
  have bits : ∀ b₀ b₁ b₂ b₃ b₄ b₅ b₆ b₇ : Bool, ∀ j : Fin 8, (BitVec.ofNat 8 (b₀.toNat + 2 * b₁.toNat + 4 * b₂.toNat + 8 * b₃.toNat
      + 16 * b₄.toNat + 32 * b₅.toNat + 64 * b₆.toNat + 128 * b₇.toNat)).getLsbD j.val = (#v[b₀, b₁, b₂, b₃, b₄, b₅, b₆, b₇])[j] := by decide
  have weigh : ∀ (x : Bool) (n : Nat), (if x = true then n else 0) = n * x.toNat := by
    intro x n
    cases x <;> simp
  have sum : ((List.finRange 8).map (fun i => if b i then 2 ^ i.val else 0)).sum = (b 0).toNat + 2 * (b 1).toNat + 4 * (b 2).toNat
      + 8 * (b 3).toNat + 16 * (b 4).toNat + 32 * (b 5).toNat + 64 * (b 6).toNat + 128 * (b 7).toNat := by
    simp [List.finRange_succ, weigh]
    omega
  rw [sum, bits]
  fin_cases j <;> rfl

/-- What a reading's reaction leaves of the reading, of memory and of the mailboxes. -/
structure State.KeepsReading (s t : State) : Prop where
  cells : t.mem.cells = s.mem.cells
  mbx : t.host.mbx = s.host.mbx
  temps : t.sup.temps = s.sup.temps
  hot : t.sup.hot = s.sup.hot
  towers : t.sup.towerTemp = s.sup.towerTemp
  tmax : t.sup.tmax = s.sup.tmax
  tmaxIndex : t.sup.tmaxIndex = s.sup.tmaxIndex

theorem keepsReading_trans {s t u : State} (a : s.KeepsReading t) (b : t.KeepsReading u) : s.KeepsReading u :=
  ⟨b.cells.trans a.cells, b.mbx.trans a.mbx, b.temps.trans a.temps, b.hot.trans a.hot, b.towers.trans a.towers, b.tmax.trans a.tmax,
    b.tmaxIndex.trans a.tmaxIndex⟩

theorem setThrottle_keepsReading (s : State) (l : Fin 3) : s.KeepsReading (s.setThrottle l) := by
  obtain ⟨e, dwell, mixed, sup, cells, mbx, -⟩ := setThrottle_keeps s l
  exact ⟨cells, mbx, by rw [sup], by rw [sup], by rw [sup], by rw [sup], by rw [sup]⟩

theorem supEvent_keepsReading (s : State) (bits : BitVec 7) : s.KeepsReading (s.supEvent bits) := by
  obtain ⟨h, o, eq⟩ := supEvent_frame s bits
  obtain ⟨m, host⟩ := supEvent_host s bits
  refine ⟨by rw [eq], by rw [host], ?_, ?_, ?_, ?_, ?_⟩ <;> rw [eq]

theorem monitor_keepsReading (s : State) (b : KprBit) (who : Nat) (value : U32) (inj : Bool) : s.KeepsReading (s.monitor b who value inj) := by
  unfold State.monitor
  split
  · exact ⟨rfl, rfl, rfl, rfl, rfl, rfl, rfl⟩
  · obtain ⟨h, o, g, k, eq, -⟩ := latch_frame (s.updKpr (fun k => { k with injecting := inj })) b 0 who value
    obtain ⟨m, host⟩ := latch_host (s.updKpr (fun k => { k with injecting := inj })) b 0 who value
    have sup : ∃ p, (State.latch (s.updKpr (fun k => { k with injecting := inj })) b 0 who value).sup = { s.sup with power := p } := by
      rw [eq]
      dsimp only
      split
      · exact ⟨_, rfl⟩
      · exact ⟨s.sup.power, rfl⟩
    obtain ⟨p, sup⟩ := sup
    exact ⟨by rw [eq]; rfl, by rw [host]; rfl, by rw [sup], by rw [sup], by rw [sup], by rw [sup], by rw [sup]⟩

theorem timers_keepsReading (s : State) (m : Int) (now : Nat) : s.KeepsReading (s.updSup (fun p => p.timers m now)) :=
  ⟨rfl, rfl, rfl, rfl, rfl, rfl, rfl⟩

theorem injectDone_keepsReading (s : State) (b : Bool) : s.KeepsReading (s.injectDone b) := by
  unfold State.injectDone
  split
  · exact ⟨rfl, rfl, rfl, rfl, rfl, rfl, rfl⟩
  · exact ⟨rfl, rfl, rfl, rfl, rfl, rfl, rfl⟩

/-- What TEMP_SENSOR_READ does once the reading is stored: the level, its timers and the monitor (R55, R57). -/
def State.readingTaken (s : State) (now : Nat) (inj : Bool) (m : Option (Int × Nat)) : State :=
  match (if inj then some (460, (m.map Prod.snd).getD 0) else m) with
  | none => (s.setThrottle (s.sup.nextLevel (-1000))).updSup (fun p => { p with dwellDue := none, releaseDue := none })
  | some (tmax, i) =>
    let s := s.updSup (fun p => { p with tmax := BitVec.ofInt 16 tmax, tmaxIndex := BitVec.ofNat 8 i })
    let t := (s.setThrottle (s.sup.nextLevel tmax)).updSup (fun p => p.timers tmax now)
    if 460 ≤ tmax then t.monitor .thermal i (BitVec.ofInt 32 tmax) inj else t

theorem readingTaken_keeps (s : State) (now : Nat) (inj : Bool) (m : Option (Int × Nat)) : ∃ tmax i,
    ({ s with sup := { s.sup with tmax := tmax, tmaxIndex := i } } : State).KeepsReading (s.readingTaken now inj m)
    ∧ ∀ c j, inj = false → m = some (c, j) → tmax = BitVec.ofInt 16 c ∧ i = BitVec.ofNat 8 j := by
  unfold State.readingTaken
  split
  next none =>
    obtain ⟨cells, mbx, temps, hot, towers, tmax, index⟩ := setThrottle_keepsReading s (s.sup.nextLevel (-1000))
    refine ⟨s.sup.tmax, s.sup.tmaxIndex, ⟨cells, mbx, temps, hot, towers, tmax, index⟩, fun c j off e => ?_⟩
    rw [off, e] at none
    exact nomatch none
  next c j e =>
    have level := setThrottle_keepsReading (s.updSup (fun p => { p with tmax := BitVec.ofInt 16 c, tmaxIndex := BitVec.ofNat 8 j }))
      ((s.updSup (fun p => { p with tmax := BitVec.ofInt 16 c, tmaxIndex := BitVec.ofNat 8 j })).sup.nextLevel c)
    have timed := keepsReading_trans level (timers_keepsReading _ c now)
    refine ⟨BitVec.ofInt 16 c, BitVec.ofNat 8 j, ?_, fun c' j' off e' => ?_⟩
    · dsimp only
      split
      · exact keepsReading_trans timed (monitor_keepsReading _ _ _ _ _)
      · exact timed
    · rw [off, e', if_neg (by decide)] at e
      obtain ⟨rfl, rfl⟩ := Prod.mk.inj (Option.some.inj e)
      exact ⟨rfl, rfl⟩

/-- The reading as TEMP_SENSOR_READ stores it (R55, R59, R71). -/
def State.readingStored (s : State) (temps : Vector (BitVec 16) 12) (valid : Vector Bool 12) : State :=
  { s with sup := { s.sup with
      temps := Vector.ofFn (fun i : Fin 12 => s.sup.temps[i].read s.clock temps[i] (valid[i] && (i.val != 11 || s.sup.fuses.variantL)))
      hot := BitVec.ofNat 8 (((List.finRange 8).map (fun i => if decide (380 ≤ temps[i].toInt) then 2 ^ i.val else 0)).sum)
      towerTemp := Vector.ofFn (fun i : Fin 8 => temps[i]) } }

/-- The event of a sensor that has become hot, and an injection that is spent. -/
def State.hotNoted (s : State) (newHot : BitVec 8) (inj : Bool) : State := (if newHot != 0 then s.supEvent 0x40 else s).injectDone inj

theorem hotNoted_keepsReading (s : State) (newHot : BitVec 8) (inj : Bool) : s.KeepsReading (s.hotNoted newHot inj) := by
  unfold State.hotNoted
  split
  · exact keepsReading_trans (supEvent_keepsReading s 0x40) (injectDone_keepsReading _ inj)
  · exact injectDone_keepsReading s inj

theorem readingNoted_injected (s : State) (temps : Vector (BitVec 16) 12) (valid : Vector Bool 12) (newHot : BitVec 8) :
    (if newHot != 0 then (s.readingStored temps valid).supEvent 0x40 else s.readingStored temps valid).injected 8 0 = s.injected 8 0 := by
  split
  · obtain ⟨h, o, eq⟩ := supEvent_frame (s.readingStored temps valid) 0x40
    rw [eq]
    rfl
  · rfl

theorem exec_tempSensorRead {temps : Vector (BitVec 16) 12} {valid : Vector Bool 12} {s : State} (on : s.poweredOn = true) : ∃ newHot,
    exec (.tempSensorRead temps valid) s = .next (((s.readingStored temps valid).hotNoted newHot (s.injected 8 0)).readingTaken
      s.clock (s.injected 8 0) (hottest (s.readingStored temps valid).sup.temps.toList)) := by
  refine ⟨(s.readingStored temps valid).sup.hot &&& ~~~ s.sup.hot, ?_⟩
  change execTempSensorRead temps valid s = _
  rw [execTempSensorRead, whenPowered_of_on on]
  unfold State.hotNoted
  rw [← readingNoted_injected s temps valid]
  rfl

/-- The sensor without a change for 1 s: invalid and stuck (R71). -/
def State.sensorStuck (s : State) (n : Fin 12) : State :=
  { s with sup := { s.sup with temps := updAt s.sup.temps n (fun t => { t with valid := false, stuck := true }) } }

/-- THROTTLE_RELEASE_EXPIRY when it is due: the next lower level, but not 0 while a sensor is invalid (R55, R72). -/
theorem exec_throttleRelease {s : State} {d : Nat} (on : s.poweredOn = true) (due : s.sup.releaseDue = some d) (past : d ≤ s.clock) (next : Fin 3)
    (level : (if s.sup.throttle = 2 then (1 : Fin 3) else if s.sup.throttle = 1 && s.sup.sensorBad then 1 else 0) = next) :
    exec .throttleReleaseExpiry s = .next ((s.setThrottle next).updSup
      (fun p => { p with releaseDue := if next = 0 then none else some (s.clock + 100000) })) := by
  subst level
  exact (whenPowered_of_on on).trans (congrArg Host.Outcome.next (if_pos (by simp [due, past])))

/-- SENSOR_STUCK_TIMEOUT of a sensor unchanged for 1 s (R71): the reading is invalid from then on. -/
theorem exec_sensorStuck {n : Fin 12} {s : State} {c : Nat} (on : s.poweredOn = true) (changed : s.sup.temps[n].changedAt = some c)
    (past : c + 1000000 ≤ s.clock) :
    exec (.sensorStuckTimeout n) s = .next (if n.val ≤ 10 && s.sup.throttle = 0 && s.sup.power != .standby then (s.sensorStuck n).setThrottle 1
      else s.sensorStuck n) := by
  change execSensorStuckTimeout n s = _
  have stuck : s.sup.temps[n].changedAt.any (· + 1000000 ≤ s.clock) = true := by
    rw [changed, Option.any_some, decide_eq_true_iff]
    exact past
  rw [execSensorStuckTimeout, whenPowered_of_on on]
  exact congrArg Host.Outcome.next (if_neg (by simp only [stuck, Bool.not_true, Bool.false_eq_true, not_false_iff]))

/-- SENSOR_STUCK_TIMEOUT before the second has passed. -/
theorem exec_sensorStuck_soon {n : Fin 12} {s : State} {c : Nat} (on : s.poweredOn = true) (changed : s.sup.temps[n].changedAt = some c)
    (soon : s.clock < c + 1000000) : exec (.sensorStuckTimeout n) s = .next s := by
  change execSensorStuckTimeout n s = _
  have fresh : s.sup.temps[n].changedAt.any (· + 1000000 ≤ s.clock) = false := by
    rw [changed, Option.any_some, decide_eq_false_iff_not]
    exact Nat.not_le.mpr soon
  rw [execSensorStuckTimeout, whenPowered_of_on on]
  exact congrArg Host.Outcome.next (if_pos (by simp only [fresh, Bool.not_false]))

/-- A sensor found stuck in service raises level 0 to 1 and warns (R72). -/
theorem sensorStuck_raises {n : Fin 12} {s : State} {c : Nat} (on : s.poweredOn = true) (changed : s.sup.temps[n].changedAt = some c)
    (past : c + 1000000 ≤ s.clock) (act : s.sup.power ≠ .standby) (sensor : n.val ≤ 10) (none : s.sup.throttle = 0) :
    ∃ t : State, exec (.sensorStuckTimeout n) s = .next t ∧ t.sup.throttle = 1 ∧ t.sup.temps[n].valid = false
      ∧ t.sup.temps[n].stuck = true ∧ t.pins.thermLow = true := by
  obtain ⟨h, o, eq, -⟩ := setThrottle_of_new (s := s.sensorStuck n) (l := 1) (by simp [State.sensorStuck, none])
  obtain ⟨sup, pins, -⟩ := fields_of_aside eq
  have sensors : ((s.sensorStuck n).setThrottle 1).sup.temps = _ := congrArg Supply.temps sup
  refine ⟨(s.sensorStuck n).setThrottle 1, (exec_sensorStuck on changed past).trans (congrArg Host.Outcome.next (if_pos (by simp [sensor, none, act]))),
    congrArg Supply.throttle sup, ?_, ?_, congrArg Pins.thermLow pins⟩
  · rw [sensors]
    exact congrArg Sensor.valid (updAt_get_self _ _ _)
  · rw [sensors]
    exact congrArg Sensor.stuck (updAt_get_self _ _ _)

/-- THROTTLE_RELEASE_EXPIRY at level 2 goes to level 1 and restarts the timer. -/
theorem throttleRelease_of_two {s : State} {d : Nat} (on : s.poweredOn = true) (due : s.sup.releaseDue = some d) (past : d ≤ s.clock)
    (two : s.sup.throttle = 2) : ∃ t : State, exec .throttleReleaseExpiry s = .next t ∧ t.sup.throttle = 1
      ∧ t.sup.releaseDue = some (s.clock + 100000) := by
  obtain ⟨e, dwell, mixed, sup, -⟩ := setThrottle_keeps s 1
  refine ⟨_, exec_throttleRelease on due past 1 (by simp [two]), ?_, rfl⟩
  exact congrArg Supply.throttle sup

/-- THROTTLE_RELEASE_EXPIRY at level 1 stays there while a sensor is invalid (R72). -/
theorem throttleRelease_of_bad {s : State} {d : Nat} (on : s.poweredOn = true) (due : s.sup.releaseDue = some d) (past : d ≤ s.clock)
    (one : s.sup.throttle = 1) (bad : s.sup.sensorBad = true) :
    exec .throttleReleaseExpiry s = .next { s with sup := { s.sup with releaseDue := some (s.clock + 100000) } } := by
  rw [exec_throttleRelease on due past 1 (by simp [one, bad]), show s.setThrottle 1 = s from if_pos one.symm]
  rfl

/-- THROTTLE_RELEASE_EXPIRY at level 1 with good sensors ends the throttle. -/
theorem throttleRelease_of_good {s : State} {d : Nat} (on : s.poweredOn = true) (due : s.sup.releaseDue = some d) (past : d ≤ s.clock)
    (one : s.sup.throttle = 1) (good : s.sup.sensorBad = false) : ∃ t : State, exec .throttleReleaseExpiry s = .next t ∧ t.sup.throttle = 0
      ∧ t.sup.releaseDue = none ∧ t.pins.thermLow = false := by
  obtain ⟨h, o, eq, -⟩ := setThrottle_of_new (s := s) (l := 0) (by simp [one])
  obtain ⟨sup, pins, -⟩ := fields_of_aside eq
  refine ⟨_, exec_throttleRelease on due past 0 (by simp [one, good]), ?_, rfl, ?_⟩
  · exact congrArg Supply.throttle sup
  · exact congrArg Pins.thermLow pins

/-- Settles O41: the level's rule and timers, `setThrottle_of_new`, `hottest_spec`, and what a reading keeps. -/
theorem throttle : Obligations.Throttle := by
  refine ⟨fun s d on level due => ⟨fun past => ?dwell, fun soon => ?dwellSoon⟩,
    fun s d on due => ⟨fun soon => ?releaseSoon, fun past => ⟨fun two => ?release2, fun one bad => ?releaseBad, fun one good => ?release1⟩⟩,
    fun n s c on changed => ⟨fun soon => ?stuckSoon, fun past => ⟨fun act sensor none => ?stuck, fun other => ?stuckOther⟩⟩,
    fun n s none => ?never, fun s l new => ?level, fun temps valid s on => ?reading,
    fun p m awake => ⟨fun hot low => ?next2, fun two => ?stay2, fun none hot cool => ?next1, fun none cool => ?next0⟩,
    fun p m now one => ⟨fun hot => ?dwellOn, fun cool => ?dwellOff, fun cool => ?releaseOn, fun hot => ?releaseOff⟩,
    fun ts m i h => hottest_spec h⟩
  case dwell => exact (whenPowered_of_on on).trans (congrArg Host.Outcome.next (if_pos (by simp [level, due, past])))
  case dwellSoon => exact (whenPowered_of_on on).trans (congrArg Host.Outcome.next (if_neg (by simp [due, soon])))
  case releaseSoon => exact (whenPowered_of_on on).trans (congrArg Host.Outcome.next (if_neg (by simp [due, soon])))
  case release2 => exact throttleRelease_of_two on due past two
  case releaseBad => exact throttleRelease_of_bad on due past one bad
  case release1 => exact throttleRelease_of_good on due past one good
  case stuckSoon => exact exec_sensorStuck_soon on changed soon
  case stuck => exact sensorStuck_raises on changed past act sensor none
  case stuckOther =>
    refine (exec_sensorStuck on changed past).trans (congrArg Host.Outcome.next (if_neg ?_))
    rcases other with standby | ambient | level <;> simp [*]
  case never =>
    refine congrArg Host.Outcome.next ?_
    split
    · exact if_pos (by simp [-Fin.getElem_fin, none])
    · rfl
  case level =>
    obtain ⟨h, o, eq, -⟩ := setThrottle_of_new new
    obtain ⟨sup, pins, -⟩ := fields_of_aside eq
    rw [sup, pins]
    exact ⟨rfl, by simp, rfl⟩
  case reading =>
    obtain ⟨newHot, row⟩ := exec_tempSensorRead (temps := temps) (valid := valid) on
    have noted := hotNoted_keepsReading (s.readingStored temps valid) newHot (s.injected 8 0)
    obtain ⟨tmax, j, taken, max⟩ := readingTaken_keeps ((s.readingStored temps valid).hotNoted newHot (s.injected 8 0)) s.clock (s.injected 8 0)
      (hottest (s.readingStored temps valid).sup.temps.toList)
    have sensors := taken.temps.trans noted.temps
    refine ⟨_, row, taken.cells.trans noted.cells, taken.mbx.trans noted.mbx, fun i => ⟨?_, ?_⟩, fun i => ?_, fun m i clean hot => ?_⟩
    · rw [taken.towers.trans noted.towers]
      simp [State.readingStored]
    · rw [taken.hot.trans noted.hot]
      exact getLsbD_sum_bits (fun i => decide (380 ≤ temps[i.val].toInt)) i
    · rw [sensors]
      simp [State.readingStored]
    · rw [sensors] at hot
      rw [taken.tmax, taken.tmaxIndex]
      exact max m i clean hot
  case next2 =>
    have notStandby : (p.power == .standby) = false := by simpa using awake
    have over1 : 4 * (p.throttleC.toNat : Int) ≤ m := by omega
    have level : p.throttle = 0 ∨ p.throttle = 1 := by omega
    rcases level with l | l <;> simp [Supply.nextLevel, notStandby, l, hot, over1]
  case stay2 => simp [Supply.nextLevel, awake, two]
  case next1 => simp [Supply.nextLevel, awake, none, hot, Int.not_le.mpr cool]
  case next0 => simp [Supply.nextLevel, awake, none, Int.not_le.mpr cool]
  case dwellOn => simp [Supply.timers, one, hot]
  case dwellOff => simp [Supply.timers, one, Int.not_le.mpr cool]
  case releaseOn => simp [Supply.timers, one, cool]
  case releaseOff => simp [Supply.timers, one, Int.not_lt.mpr hot]

end Sys2Proof.Machine

/-!
Proof of `TimeBase` (11).
-/
namespace Sys2Proof.Machine
open Sys2Proof
set_option Elab.async false

/-! ### The source and the servo (R326 to R329) -/

/-- The choice of a source changes the source and its lock alone. -/
theorem chooseSource_frame (s : State) : ∃ src lock near hold, s.chooseSource
    = s.updTbs (fun t => { t with source := src, locked := lock, within := near, holdover := hold }) := by
  unfold State.chooseSource
  dsimp only
  split
  · exact ⟨s.io.tbs.source, s.io.tbs.locked, s.io.tbs.within, s.io.tbs.holdover, rfl⟩
  · exact ⟨_, _, _, _, rfl⟩

theorem chooseSource_source (s : State) : s.chooseSource.io.tbs.source = s.bestSource := by
  unfold State.chooseSource
  dsimp only
  split
  next same => exact same.symm
  next => rfl

/-- The servo leaves what is known of the PPS input. -/
theorem servo_pps (s : State) (off : Int) : (s.servo off).io.tbs.ppsIn = s.io.tbs.ppsIn ∧ (s.servo off).io.tbs.ppsAt = s.io.tbs.ppsAt
    ∧ (s.servo off).io.tbs.ppsGood = s.io.tbs.ppsGood ∧ (s.servo off).io.tbs.pps = s.io.tbs.pps
    ∧ (s.servo off).io.tbs.ppsSeen = s.io.tbs.ppsSeen := by
  unfold State.servo
  dsimp only
  split
  · exact ⟨rfl, rfl, rfl, rfl, rfl⟩
  · exact ⟨rfl, rfl, rfl, rfl, rfl⟩

/-- An edge: what `Tbs.ppsEdge` gives, whichever the source (R328). -/
theorem exec_ppsEdge {s : State} (live : s.live = true) : ∃ t : State, exec .ppsEdge s = .next t
    ∧ t.io.tbs.ppsIn = s.io.tbs.now ∧ t.io.tbs.ppsAt = s.clock ∧ t.io.tbs.ppsSeen = true
    ∧ t.io.tbs.ppsGood = s.io.tbs.ppsEdge.ppsGood ∧ t.io.tbs.pps = s.io.tbs.ppsEdge.pps := by
  obtain ⟨src, lock, near, hold, eq⟩ := chooseSource_frame (s.updTbs (fun t => { t.ppsEdge with ppsAt := s.clock }))
  have row : exec .ppsEdge s = .next (if (s.updTbs (fun t => { t.ppsEdge with ppsAt := s.clock })).chooseSource.io.tbs.source = .pps
        && (s.io.tbs.ppsSeen && ppsBand (s.io.tbs.now - s.io.tbs.ppsIn).toNat)
      then (s.updTbs (fun t => { t.ppsEdge with ppsAt := s.clock })).chooseSource.servo (secondOffset s.io.tbs.now.toNat)
      else (s.updTbs (fun t => { t.ppsEdge with ppsAt := s.clock })).chooseSource) := by
    change execPpsEdge s = _
    rw [execPpsEdge, whenLive_of_live live]
  refine ⟨_, row, ?_⟩
  split
  · obtain ⟨edge, at_, good, pps, seen⟩ := servo_pps (s.updTbs (fun t => { t.ppsEdge with ppsAt := s.clock })).chooseSource
      (secondOffset s.io.tbs.now.toNat)
    rw [edge, at_, good, pps, seen, eq]
    exact ⟨rfl, rfl, rfl, rfl, rfl⟩
  · rw [eq]
    exact ⟨rfl, rfl, rfl, rfl, rfl⟩

/-- Device time's 96 bits are one sum (R326). -/
theorem tbsTick_sum {t : Tbs} (on : t.running = true) : (tbsTick t).now.toNat * 2 ^ 32 + (tbsTick t).frac.toNat
    = (t.now.toNat * 2 ^ 32 + t.frac.toNat + 800 * t.step.toNat) % 2 ^ 96 := by
  rw [tbsTick, if_pos on]
  simp only [BitVec.toNat_ofNat]
  omega

/-- PTP_MESSAGE_RECEIVE for a message that the port takes. -/
theorem exec_ptpMessage {e : Fin 2} {d : Nat} {m : PtpIn} {s : State} (live : s.live = true) (up : s.ethUp e = true)
    (on : s.io.eth[e].ptp.en = true) (domain : s.io.eth[e].ptp.domain = d) (transport : s.io.eth[e].ptp.transport = m.transport) :
    exec (.ptpMessageReceive e d m) s = .next (s.ptpTake e m.msg) := by
  change execPtpMessageReceive e d m s = _
  rw [execPtpMessageReceive, whenLive_of_live live _]
  exact congrArg Host.Outcome.next (if_neg (by simp [-Fin.getElem_fin, up, on, domain, transport]))

/-- Settles O42: each message, edge and timer by its row, with `tbsTick_sum` for device time. -/
theorem timeBase : Obligations.TimeBase := by
  refine ⟨fun e d m s live => ⟨fun off => ?notTaken, fun up on domain transport => ?taken⟩,
    fun e s live => ⟨fun up on times => ?delayReq, fun off => ?noDelayReq⟩, fun s live => ⟨fun on able due => ?ptmReq, fun off => ?noPtmReq⟩,
    fun off s u live on eq => ⟨?ptmFail, fun src => ?ptmServo, fun src => ?ptmOnly⟩,
    fun s live => ⟨fun seen good => ?goodEdge, fun fresh => ?firstEdge, fun seen bad => ?badEdge⟩,
    fun s live => ⟨fun seen late => ?lost, fun ok => ?notLost⟩, fun s live => whenLive_of_live live _, chooseSource_source,
    fun s t live near => ⟨fun late => ?lock, fun soon => ?noLock⟩, fun s live => ⟨fun early => ?rise, fun late => ?fall⟩, fun t on => tbsTick_sum on⟩
  case notTaken =>
    change execPtpMessageReceive e d m s = _
    rw [execPtpMessageReceive, whenLive_of_live live _]
    exact congrArg Host.Outcome.next (if_pos (by rcases off with h | h | h | h <;> simp [-Fin.getElem_fin, h]))
  case taken =>
    rw [exec_ptpMessage live up on domain transport]
    refine ⟨fun msg => ?_, fun t1 msg none => ?_, fun t1 t2 u msg times eq => ?_, fun t1 t2 t3 t4 msg times req => ?_, fun t4 msg missing => ?_, fun msg => ?_⟩
    · rw [msg]
      rfl
    · rw [msg]
      simp [State.ptpTake, none]
    · subst eq
      rw [msg, State.ptpTake]
      simp only [times]
      rfl
    · rw [msg]
      simp [State.ptpTake, times, req, State.updTbs]
    · rw [msg]
      rcases missing with h | h
      · simp [State.ptpTake, h]
      · cases times : s.io.tbs.syncTimes <;> simp [State.ptpTake, h, times]
    · rw [msg]
      rfl
  case delayReq => exact (whenLive_of_live live _).trans (congrArg Host.Outcome.next (if_pos (by simp [-Fin.getElem_fin, up, on, times])))
  case noDelayReq =>
    exact (whenLive_of_live live _).trans (congrArg Host.Outcome.next (if_neg (by rcases off with h | h | h <;> simp [-Fin.getElem_fin, h])))
  case ptmReq => exact (whenLive_of_live live _).trans (congrArg Host.Outcome.next (if_pos (by simp [on, able, due])))
  case noPtmReq => exact (whenLive_of_live live _).trans (congrArg Host.Outcome.next (if_neg (by rcases off with h | h | h <;> simp [h])))
  case ptmFail =>
    change execPtmDialogueDone false off s = _
    rw [execPtmDialogueDone, whenLive_of_live live]
    rfl
  case ptmServo =>
    subst eq
    change execPtmDialogueDone true off s = _
    rw [execPtmDialogueDone, whenLive_of_live live, if_neg (by simp [on])]
    exact congrArg Host.Outcome.next (if_pos src)
  case ptmOnly =>
    subst eq
    change execPtmDialogueDone true off s = _
    rw [execPtmDialogueDone, whenLive_of_live live, if_neg (by simp [on])]
    exact congrArg Host.Outcome.next (if_neg src)
  case goodEdge =>
    obtain ⟨t, row, edge, at_, -, count, pps⟩ := exec_ppsEdge live
    refine ⟨t, row, edge, at_, ?_, ?_⟩
    · rw [count, Tbs.ppsEdge]
      dsimp only
      rw [good]
      simp [seen]
    · rw [pps, Tbs.ppsEdge]
      dsimp only
      rw [good]
      simp [seen]
  case firstEdge =>
    obtain ⟨t, row, edge, -, seen, count, -⟩ := exec_ppsEdge live
    refine ⟨t, row, edge, seen, ?_⟩
    rw [count]
    simp [Tbs.ppsEdge, fresh]
  case badEdge =>
    obtain ⟨t, row, -, -, -, count, pps⟩ := exec_ppsEdge live
    refine ⟨t, row, ?_, fun again => ?_, fun first => ?_⟩
    · rw [count, Tbs.ppsEdge]
      dsimp only
      rw [bad]
      simp
    · rw [pps, Tbs.ppsEdge]
      dsimp only
      rw [bad]
      simp [seen, again]
    · rw [pps, Tbs.ppsEdge]
      dsimp only
      rw [bad]
      simp [seen, first]
  case lost =>
    change execPpsTimeout s = _
    rw [execPpsTimeout, whenLive_of_live live, if_pos (by simp [seen, late])]
    rfl
  case notLost =>
    change execPpsTimeout s = _
    rw [execPpsTimeout, whenLive_of_live live, if_neg (by rcases ok with h | h <;> simp [h])]
  case lock =>
    have due : s.io.tbs.within.any (fun t => decide (t + 10000000 ≤ s.clock)) = true := by
      rw [near, Option.any_some]
      exact decide_eq_true late
    change execTbsLockTimer s = _
    rw [execTbsLockTimer, whenLive_of_live live, if_pos due]
    rfl
  case noLock =>
    have due : s.io.tbs.within.any (fun t => decide (t + 10000000 ≤ s.clock)) = false := by
      rw [near, Option.any_some]
      exact decide_eq_false (Nat.not_le.mpr soon)
    change execTbsLockTimer s = _
    rw [execTbsLockTimer, whenLive_of_live live, if_neg (by rw [due]; decide)]
  case rise =>
    change execPpsOutPulse true s = _
    simp [execPpsOutPulse, whenLive_of_live live _, early]
  case fall =>
    change execPpsOutPulse false s = _
    simp [execPpsOutPulse, whenLive_of_live live _, Nat.not_lt.mpr late]

end Sys2Proof.Machine

/-!
Proof of `MailboxRegisters` (04).
-/
namespace Sys2Proof.Machine
open Sys2Proof
set_option Elab.async false

/-! ### The mailbox registers (R119 to R144) -/

theorem whenBar_of_up {s : State} {f : State → State} (up : s.barUp = true) : whenBar s f = .next (f s) :=
  congrArg Host.Outcome.next (if_pos up)

/-- The first error of a mailbox is recorded (R121). -/
theorem mbxError_first {s : State} {m : Fin 16} {e : MbxErr} (none : s.host.mbx[m].err = false) :
    (s.mbxError m e).host.mbx[m] = { s.host.mbx[m] with err := true, errCode := e } := by
  rw [State.mbxError, if_neg (by simp [-Fin.getElem_fin, none])]
  obtain ⟨v, host⟩ := raising_host s (fun s => (s.updMbx m (fun x => { x with err := true, errCode := e })).updInt
    (fun i => { i with mbxErr := true }))
  rw [host]
  exact updAt_get_self _ _ _

theorem mbxError_again {s : State} {m : Fin 16} {e : MbxErr} (err : s.host.mbx[m].err = true) : s.mbxError m e = s := if_pos err

theorem exec_mbxCmdTail_bad {m : Fin 16} {s : State} {v : U32} (up : s.barUp = true) (bad : ringLen s.host.mbx[m].cmdSize ≤ v.toNat % 4096) :
    exec (.mbxCmdTailWrite m v) s = .next (s.mbxError m .badTail) := by
  change execMbxCmdTailWrite m v s = _
  rw [execMbxCmdTailWrite, whenBar_of_up up]
  exact congrArg Host.Outcome.next (if_neg (Nat.not_lt.mpr bad))

theorem exec_mbxRspHead_bad {m : Fin 16} {s : State} {v : U32} (up : s.barUp = true)
    (bad : s.host.mbx[m].unread.length < s.host.mbx[m].rspAhead (v.toNat % 4096) ∨ ringLen s.host.mbx[m].rspSize ≤ v.toNat % 4096) :
    exec (.mbxRspHeadWrite m v) s = .next (s.mbxError m .badHead) := by
  change execMbxRspHeadWrite m v s = _
  rw [execMbxRspHeadWrite, whenBar_of_up up]
  exact congrArg Host.Outcome.next (if_neg (by simp only [Bool.and_eq_true, decide_eq_true_eq]; omega))

/-- A head that moves within what is unread (R124, R136). -/
theorem exec_mbxRspHead_good {m : Fin 16} {s : State} {v : U32} (up : s.barUp = true)
    (few : s.host.mbx[m].rspAhead (v.toNat % 4096) ≤ s.host.mbx[m].unread.length) (inside : v.toNat % 4096 < ringLen s.host.mbx[m].rspSize) :
    exec (.mbxRspHeadWrite m v) s = .next (
      let x := s.host.mbx[m]
      let rest := x.unread.drop (x.rspAhead (v.toNat % 4096))
      let send := x.irqEn && rest.any id
      let u := s.updMbx m (fun x => { x with rspHead := BitVec.ofNat 12 (v.toNat % 4096), unread := rest
                                             armed := !(send && s.msixTakes ⟨m.val + 1, by omega⟩) })
      let t := u.updMbx m (fun y => { y with rspStall := y.rspStall && !u.hasRoom m x.stallAsync })
      if send then t.sendMsix ⟨m.val + 1, by omega⟩ else t) := by
  change execMbxRspHeadWrite m v s = _
  rw [execMbxRspHeadWrite, whenBar_of_up up]
  exact congrArg Host.Outcome.next (if_pos (by simp [-Fin.getElem_fin, few, inside]))

/-! ### Register writes (R10, R11) -/

/-- An aligned write of four bytes to BAR0 is one word. -/
theorem exec_registerWrite_word {o : Nat} {v : U32} {s : State} (aligned : o % 4 = 0) :
    exec (.registerWrite (.bar0 o 4 v.toNat false)) s = .next (s.bar0Word o v) := by
  have good : bar0Good o 4 = true := by simp [bar0Good, aligned]
  change execRegisterWrite (.bar0 o 4 v.toNat false) s = _
  simp [execRegisterWrite, accessWords, good]

/-- The words of a mailbox's page. -/
theorem bar0Block_mbx (m : Fin 16) : bar0Block (0x10000 + 0x1000 * m.val) = .mbx m 0 := by
  revert m
  decide

theorem updAt_congr {α : Type} {n : Nat} {v : Vector α n} {i : Fin n} {f g : α → α} (h : f v[i] = g v[i]) : updAt v i f = updAt v i g := by
  rw [updAt, updAt, h]

theorem updAt_same {α : Type} {n : Nat} {v : Vector α n} {i : Fin n} {f : α → α} (h : f v[i] = v[i]) : updAt v i f = v := by
  rw [updAt, h]
  exact Vector.set_getElem_self i.isLt

theorem updMbx_congr {s : State} {m : Fin 16} {f g : Mbx → Mbx} (h : f s.host.mbx[m] = g s.host.mbx[m]) : s.updMbx m f = s.updMbx m g := by
  rw [State.updMbx, State.updMbx, updAt_congr h]

theorem updMbx_same {s : State} {m : Fin 16} {f : Mbx → Mbx} (h : f s.host.mbx[m] = s.host.mbx[m]) : s.updMbx m f = s := by
  rw [State.updMbx, updAt_same h]

/-- CMD_BASE's low word reaches the mailbox. -/
theorem exec_registerWrite_cmdBase {s : State} {m : Fin 16} {v : U32} (up : s.barUp = true) :
    exec (.registerWrite (.bar0 (0x10000 + 0x1000 * m.val) 4 v.toNat false)) s = .next (s.updMbx m (·.write 0 v)) := by
  rw [exec_registerWrite_word (by omega), State.bar0Word, bar0Block_mbx]
  exact congrArg Host.Outcome.next (if_pos up)

/-- With an interrupt active, an event of the supply sends no message. -/
theorem raising_of_active {s : State} {f : State → State} (active : s.intActive = true) : s.raising f = f s := if_neg (by simp [active])

/-- Firmware's word write to a controller's first register (log entry 22). -/
theorem exec_registerWrite_dmc {s : State} {n : Fin 4} {v : U32} (fw : s.fwRuns = true) :
    exec (.registerWrite (.control (0x013000000000 + 0x1000 * n.val) 4 v.toNat)) s = .next (s.updDmc n (·.write 0 v)) := by
  have reg : 0x013000000000 + 0x1000 * n.val - 0x013000000000 = 0x1000 * n.val := by omega
  have words : accessWords (0x1000 * n.val) 4 v.toNat = [(0x1000 * n.val, v)] := by simp [accessWords, bar0Good]; omega
  have unit : (⟨0x1000 * n.val / 0x1000 % 4, Nat.mod_lt _ (by decide)⟩ : Fin 4) = n := Fin.ext (by dsimp only; omega)
  have word : s.ctlWord (0x1000 * n.val) v = s.updDmc n (·.write 0 v) := by
    rw [State.ctlWord, if_pos (by omega), unit, show 0x1000 * n.val % 0x1000 = 0 by omega]
  change execRegisterWrite (.control (0x013000000000 + 0x1000 * n.val) 4 v.toNat) s = _
  rw [execRegisterWrite]
  refine congrArg Host.Outcome.next ((if_neg (by simp [fw])).trans ((if_neg (by simp)).trans ?_))
  rw [reg, words, List.foldl_cons, List.foldl_nil, word]

/-- Settles O32: each register's row, and what a write reaches through `State.bar0Word`. -/
theorem mailboxRegisters : Obligations.MailboxRegisters := by
  refine ⟨fun m s x up eq => ?mailbox, fun s v up => ?scratch, fun s v up active => ⟨?enables, ?events⟩, fun s m v up => ⟨fun en => ?based, fun off => ?base⟩,
    fun s o n v => rfl, fun s o n v bad => ?bad, fun s us => rfl, fun s n v fw => ?dmc⟩
  case mailbox =>
    subst eq
    refine ⟨fun v inside => ?_, fun v bad => ⟨fun none => ?_, fun err => ?_⟩, fun v rest u send few inside eqRest eqSend eqU => ⟨fun quiet => ?_, fun sends => ?_⟩,
      fun v bad => ⟨fun none => ?_, fun err => ?_⟩, fun bound => ?_, fun free => ?_, congrArg Host.Outcome.next (if_pos up), fun off idle => ?_, fun busy => ?_, fun on => congrArg Host.Outcome.next (if_pos up)⟩
    · change execMbxCmdTailWrite m v s = _
      rw [execMbxCmdTailWrite, whenBar_of_up up]
      exact congrArg Host.Outcome.next (if_pos inside)
    · exact ⟨_, exec_mbxCmdTail_bad up bad, mbxError_first none⟩
    · rw [exec_mbxCmdTail_bad up bad, mbxError_again err]
    · subst eqRest eqSend eqU
      rw [exec_mbxRspHead_good up few inside]
      exact congrArg Host.Outcome.next (if_neg (by rw [quiet]; decide))
    · subst eqRest eqSend eqU
      rw [exec_mbxRspHead_good up few inside]
      exact congrArg Host.Outcome.next (if_pos sends)
    · exact ⟨_, exec_mbxRspHead_bad up bad, mbxError_first none⟩
    · rw [exec_mbxRspHead_bad up bad, mbxError_again err]
    · exact (whenBar_of_up up).trans (congrArg Host.Outcome.next (if_pos bound))
    · exact (whenBar_of_up up).trans (congrArg Host.Outcome.next (if_neg (by simp [-Fin.getElem_fin, free])))
    · exact (whenBar_of_up up).trans (congrArg Host.Outcome.next (if_pos (by simp [-Fin.getElem_fin, off, idle])))
    · exact (whenBar_of_up up).trans (congrArg Host.Outcome.next (if_neg (by rcases busy with h | h <;> simp [-Fin.getElem_fin, h])))
  case scratch =>
    rw [exec_registerWrite_word (by decide)]
    exact congrArg Host.Outcome.next (if_pos up)
  case enables =>
    rw [exec_registerWrite_word (by decide)]
    refine congrArg Host.Outcome.next ((if_pos up).trans ((raising_of_active active).trans ?_))
    simp [State.updSup, Supply.write, field, supBlock]
  case events =>
    rw [exec_registerWrite_word (by decide)]
    refine congrArg Host.Outcome.next ((if_pos up).trans ((raising_of_active active).trans ?_))
    simp [State.updSup, Supply.write, field, supBlock]
  case based =>
    rw [exec_registerWrite_cmdBase up, updMbx_same]
    simp [-Fin.getElem_fin, Mbx.write, en]
  case base =>
    rw [exec_registerWrite_cmdBase up, updMbx_congr]
    simp [-Fin.getElem_fin, Mbx.write, off]
  case bad =>
    change execRegisterWrite (.bar0 o n v false) s = _
    simp [execRegisterWrite, bad]
  case dmc =>
    rw [exec_registerWrite_dmc fw]
    simp [Dmc.write, field]

end Sys2Proof.Machine

/-!
Proof of `HostWindows` (04): BAR0 accesses of another size, BAR2's window, the PCIe power states.
-/
namespace Sys2Proof.Machine
open Sys2Proof
set_option Elab.async false

/-! ### Accesses (R113, R115, R116) -/

/-- An interrupt source that rises: the interrupt block, with the message. -/
theorem raising_updInt (s : State) (f : IntBlk → IntBlk) : ∃ h o, s.raising (·.updInt f) = { s with host := h, out := o }
    ∧ h.int = f s.host.int ∧ h.mbx = s.host.mbx ∧ h.pcie = s.host.pcie := by
  obtain ⟨h, o, eq⟩ := raising_frame s (·.updInt f)
  obtain ⟨m, host⟩ := raising_host s (·.updInt f)
  rw [eq] at host
  exact ⟨h, o, eq, (congrArg HostIf.int host : _), (congrArg HostIf.mbx host : _), (congrArg HostIf.pcie host : _)⟩

/-- A write or a read of another size or alignment, with the first one's details (R113). -/
theorem badAccess_frame {s : State} {o : BitVec 24} {n : Nat} {w : Bool} (past : 3 ≤ s.boot.stage.toNat) (on : s.sup.power ≠ .off)
    (bad : bar0Good o.toNat n = false) : ∃ h x, s.badAccess o n w = { s with host := h, out := x }
    ∧ h.int.badAccess = true ∧ h.mbx = s.host.mbx
    ∧ (s.host.int.badAccess = false → h.int.badOffset = o ∧ h.int.badWrite = w ∧ h.int.badBytes = if 16 ≤ n then 0 else BitVec.ofNat 4 n)
    ∧ (s.host.int.badAccess = true → h.int.badOffset = s.host.int.badOffset ∧ h.int.badBytes = s.host.int.badBytes
      ∧ h.int.badWrite = s.host.int.badWrite)
    ∧ (w = false → .barData (zeros n) ∈ x) := by
  rw [State.badAccess, if_neg (by simp [bad, on, Nat.not_lt.mpr past])]
  obtain ⟨h, x, eq, int, mbx, -⟩ := raising_updInt s (fun i => { i with
    badAccess := true, badOffset := if !s.host.int.badAccess then o else i.badOffset
    badBytes := if !s.host.int.badAccess then (if 16 ≤ n then 0 else BitVec.ofNat 4 n) else i.badBytes
    badWrite := if !s.host.int.badAccess then w else i.badWrite })
  refine ⟨h, if w then x else .barData (zeros n) :: x, ?_, by rw [int], mbx, fun fresh => ?_, fun old => ?_, fun read => ?_⟩
  · dsimp only
    rw [eq]
    cases w <;> rfl
  · rw [int]
    simp [fresh]
  · rw [int]
    simp [old]
  · simp [read]

/-- The first miss is captured (R116). -/
theorem missed_frame (s : State) (a : Nat) : ∃ h o, s.missed a = { s with host := h, out := o }
    ∧ h.int = { s.host.int with bar2Miss := true, missAddr := if s.host.int.bar2Miss then s.host.int.missAddr else BitVec.ofNat 48 a } := by
  obtain ⟨h, o, eq, int, -⟩ := raising_updInt s
    (fun i => { i with bar2Miss := true, missAddr := if !s.host.int.bar2Miss then BitVec.ofNat 48 a else i.missAddr })
  refine ⟨h, o, eq, ?_⟩
  rw [int]
  cases s.host.int.bar2Miss <;> rfl

theorem running_of_barUp {s : State} (up : s.barUp = true) : s.boot.stage = 0xF ∧ s.sup.power ≠ .off := by
  simp only [State.barUp, State.live, Bool.and_eq_true, beq_iff_eq, bne_iff_ne] at up
  exact ⟨up.1.1.1, up.1.2⟩

theorem ends_any (s : State) (a n : Nat) : (ends a n).any (fun x => s.bar2Miss x) = (s.bar2Miss a || s.bar2Miss (a + n - 1)) := by
  simp [ends]

/-- A read that is not empty and stays in the window. -/
theorem exec_bar2Read {o n : Nat} {s : State} (some : 0 < n) (inside : o + n ≤ 2 ^ 30) : exec (.bar2Read o n) s = .next (
    if s.barUp then
      let a := s.host.int.bar2Base.toNat + o
      if s.bar2Miss a || s.bar2Miss (a + n - 1) then (s.missed a).emit (.bar2Data (zeros n) false)
      else (((s.bar2Bytes a n).2.touchLines a n .none).readSense a n).emit (.bar2Data (s.bar2Bytes a n).1 (s.readUe a n))
    else if s.boot.hostWait && o + n ≤ 0x800000 then s.emit (.bar2Data (s.stagingRead o n) false)
    else if 3 ≤ s.boot.stage.toNat then s.emit (.bar2Data (zeros n) false)
    else s) := by
  change execBar2Read o n s = _
  rw [execBar2Read, if_neg (by simp only [Bool.or_eq_true, decide_eq_true_eq]; omega)]
  dsimp only
  rw [ends_any]

/-- A write that is not empty, not poisoned and stays in the window. -/
theorem exec_bar2Write {o : Nat} {bs : List Byte} {s : State} (some : bs ≠ []) (inside : o + bs.length ≤ 2 ^ 30) :
    exec (.bar2Write o bs false) s = .next (
      if s.barUp then
        let a := s.host.int.bar2Base.toNat + o
        if (s.bar2Miss a || s.bar2Miss (a + bs.length - 1)) || (List.range bs.length).any (fun i => s.packaged (a + i)) then s.missed a
        else ((s.touchLines a bs.length .none).memPut a bs).1
      else if s.boot.hostWait && o + bs.length ≤ 0x800000 then
        s.updBoot (fun b => { b with staging := cellsWrite b.staging o bs })
      else s) := by
  have long : bs.length ≠ 0 := by simpa using some
  change execBar2Write o bs false s = _
  rw [execBar2Write]
  simp only [Bool.false_eq_true, if_false, Bool.false_and, Bool.not_false, Bool.and_true]
  rw [if_neg (by simp only [Bool.or_eq_true, decide_eq_true_eq]; omega), ends_any]

/-! ### Power states and Bus Master Enable (R111, R147) -/

theorem exec_pmD0Return {s : State} (live : s.live = true) (d3 : s.host.pcie.dstate = .d3hot) : exec .pmD0Return s = .next (
    (let t := s.updPcie (fun p => { p with dstate := .d0, held := false })
     if s.host.pcie.held || s.sup.power == .active then t else t.startActive).resume) := by
  have still : (s.updPcie (fun p => { p with dstate := .d0, held := false })).live = true := live
  change execPmD0Return s = _
  rw [execPmD0Return, if_neg (by simp [d3])]
  dsimp only
  rw [if_neg (by simp [still])]
  rfl

/-- Settles O35: the accesses' frames, the rows of BAR2, and those of the power states. -/
theorem hostWindows : Obligations.HostWindows := by
  refine ⟨fun o n w s past on bad => ?access, fun o n a s up some inside eq => ?read, fun o n s down some inside => ?readEarly,
    fun o a bs s up some inside eq => ?write, fun o bs s down wait some inside => ?staged, fun s a => ?missed,
    fun s live d0 => ⟨fun work => ?hold, fun idle => ?standby⟩, fun s live d3 => ⟨fun stay => ?back, fun free low => ?wake⟩,
    fun s live => ⟨rfl, ?master⟩, fun k s => ?aer⟩
  case access =>
    obtain ⟨h, x, eq, set, mbx, first, later, zero⟩ := badAccess_frame (w := w) past on bad
    exact ⟨_, congrArg Host.Outcome.next eq, set, first, later, zero, mbx, rfl, rfl⟩
  case read =>
    subst eq
    rw [exec_bar2Read some inside, if_pos up]
    refine ⟨fun first last => ⟨?_, fun closed => ?_⟩, fun miss => ?_⟩
    · exact congrArg Host.Outcome.next (if_neg (by simp [first, last]))
    · exact if_neg (by simpa using closed)
    · exact congrArg Host.Outcome.next (if_pos (by simpa using miss))
  case readEarly =>
    rw [exec_bar2Read some inside, if_neg (by simp [down])]
    refine ⟨fun wait staged => ?_, fun noWait past => ?_⟩
    · rw [if_pos (by simp [wait, staged])]
    · rw [if_neg (by simp [noWait]), if_pos past]
  case write =>
    subst eq
    refine ⟨fun miss => ?_, fun ⟨i, lt, pack⟩ => ?_, fun first last free => ?_, ?_⟩
    · rw [exec_bar2Write some inside, if_pos up]
      exact congrArg Host.Outcome.next (if_pos (by rcases miss with h | h <;> simp [h]))
    · rw [exec_bar2Write some inside, if_pos up]
      refine congrArg Host.Outcome.next (if_pos ?_)
      rw [Bool.or_eq_true, List.any_eq_true]
      exact .inr ⟨i, List.mem_range.mpr lt, pack⟩
    · rw [exec_bar2Write some inside, if_pos up]
      refine congrArg Host.Outcome.next (if_neg ?_)
      simp only [first, last, Bool.or_self, Bool.false_or, List.any_eq_true, List.mem_range, not_exists, not_and]
      exact fun i lt => by simp [free i lt]
    · obtain ⟨stage, on⟩ := running_of_barUp up
      have long : bs.length ≠ 0 := by simpa using some
      change execBar2Write o bs true s = _
      rw [execBar2Write]
      dsimp only
      rw [if_pos rfl, if_neg (by simp only [Bool.or_eq_true, decide_eq_true_eq]; omega),
        if_pos (by simp [State.aerReport, State.updPcie, stage, on])]
      rfl
  case staged =>
    have long : o + bs.length ≤ 2 ^ 30 := by omega
    rw [exec_bar2Write some long, if_neg (by simp [down]), if_pos (by simp [wait, inside])]
    rfl
  case missed =>
    obtain ⟨h, o, eq, int⟩ := missed_frame s a
    rw [eq]
    dsimp only
    rw [int]
    exact ⟨fun first => by simp [first], fun later => by simp [later], rfl, rfl⟩
  case hold =>
    change execPmD3hotEntry s = _
    rw [execPmD3hotEntry, if_neg (by simp [d0])]
    refine congrArg Host.Outcome.next ((if_neg ?_).trans (if_pos work))
    simpa [State.live, State.updPcie] using live
  case standby =>
    change execPmD3hotEntry s = _
    rw [execPmD3hotEntry, if_neg (by simp [d0])]
    refine congrArg Host.Outcome.next ((if_neg ?_).trans (if_neg (Bool.eq_false_iff.mp idle)))
    simpa [State.live, State.updPcie] using live
  case back =>
    rw [exec_pmD0Return live d3]
    have keep : (s.host.pcie.held || s.sup.power == .active) = true := by rcases stay with h | h <;> simp [h]
    dsimp only
    rw [keep]
    rfl
  case wake =>
    rw [exec_pmD0Return live d3]
    have start : (s.host.pcie.held || s.sup.power == .active) = false := by simp [free, low]
    dsimp only
    rw [start]
    rfl
  case master => exact congrArg Host.Outcome.next (if_pos live)
  case aer =>
    have bits : (s.aerReport k).host.pcie.aer = if k ∈ s.host.pcie.aer then s.host.pcie.aer else s.host.pcie.aer ++ [k] := by
      simp [State.aerReport, State.updPcie]
    refine ⟨s.aerReport k, rfl, ?_, fun j mem => ?_, rfl⟩ <;> rw [bits] <;> split
    · assumption
    · exact List.mem_append_right _ (List.mem_singleton_self k)
    · exact mem
    · exact List.mem_append_left _ mem

end Sys2Proof.Machine

/-!
Proofs of `CommandTurnedAway` and `CommandConsumption` (04): the order of a command's checks, and how firmware takes commands.
-/
namespace Sys2Proof.Machine
open Sys2Proof
set_option Elab.async false

/-! ### What the checks answer (R124, R126, R131) -/

/-- A command that is read, has room for its responses, and waits for no other flash command. -/
structure Taken (k : Command) (c : HostCmd) (s : State) : Prop where
  served : s.served c.mbx = true
  room : s.hasRoom c.mbx c.async = true

theorem direct_of_taken {k : Command} {c : HostCmd} {s : State} (taken : Taken k c s) : direct k c s = .next ((s.command k c false).getD s) := by
  rw [direct, if_neg (by simp [taken.served]), if_neg (by simp [taken.room])]

theorem command_of_waits {k : Command} {c : HostCmd} {s : State} {b : Bool} (phase : s.fw.phase ≠ .handover) (waits : k.waits s = true) :
    s.command k c b = none := by
  have handover : (s.fw.phase == .handover) = false := by simpa using phase
  rw [State.command]
  dsimp only
  rw [if_neg (by simp [handover]), if_pos (by simpa [Command.waits] using waits)]

theorem command_of_handover {k : Command} {c : HostCmd} {s : State} (phase : s.fw.phase = .handover) (plain : k.spec.safe = false) :
    s.command k c false = some (s.answer c k.spec.op .updating []) := by
  rw [State.command]
  dsimp only
  rw [if_pos (by simp [phase, plain])]
  rfl

section
variable {k : Command} {c : HostCmd} {s : State} {b : Bool} (phase : s.fw.phase ≠ .handover) (free : k.waits s = false)
include phase free

/-- A header check that fails answers its status. -/
theorem command_of_headerError {st : Status} (error : k.spec.headerError s c = some st) :
    s.command k c b = some (s.answer c k.spec.op st []) := by
  have handover : (s.fw.phase == .handover) = false := by simpa using phase
  rw [State.command]
  dsimp only
  rw [if_neg (by simp [handover]), if_neg (by simpa [Command.waits] using free), error]

/-- With a good header and no descriptor: the ninth asynchronous command, then the ranges, then the command's own part. -/
theorem command_of_header (good : k.spec.headerError s c = none) (plain : c.desc = false) :
    s.command k c b = if c.async && 8 ≤ s.asyncOut c.mbx then some (s.answer c k.spec.op .busy [])
      else if !k.spec.rangesOk c then some (s.answer c k.spec.op .invalidField [])
      else c.conclude k.spec.op (k.own c s) := by
  have handover : (s.fw.phase == .handover) = false := by simpa using phase
  have desc : s.descriptor c = (s, none, c) := if_pos (by simp [plain])
  rw [State.command]
  dsimp only
  rw [if_neg (by simp [handover]), if_neg (by simpa [Command.waits] using free), good, desc]
  simp [plain]

end

/-! ### The header checks in their order (R126) -/

theorem headerError_of_flags {sp : CmdSpec} {s : State} {c : HostCmd} (flags : 8 ≤ c.flags.toNat) : sp.headerError s c = some .reservedNonzero := by
  rw [CmdSpec.headerError]
  rw [if_pos (by simp [flags])]

theorem headerError_of_past {sp : CmdSpec} {s : State} {c : HostCmd} (past : sp.pastList c = true) : sp.headerError s c = some .reservedNonzero := by
  rw [CmdSpec.headerError]
  rw [if_pos (by simp [past])]

theorem headerError_of_len {sp : CmdSpec} {s : State} {c : HostCmd} (clear : sp.headerError s c ≠ some .reservedNonzero)
    (len : 7 < c.len.toNat ∨ c.len.toNat < sp.lenLo ∨ sp.lenHi < c.len.toNat) : sp.headerError s c = some .invalidField := by
  rw [CmdSpec.headerError] at clear ⊢
  split at clear
  · exact absurd rfl clear
  next first =>
    rw [if_neg first, if_pos]
    rcases len with h | h | h <;> simp [h]

theorem headerError_of_m0 {sp : CmdSpec} {s : State} {c : HostCmd} (clear : sp.headerError s c ≠ some .reservedNonzero)
    (good : sp.headerError s c ≠ some .invalidField) (other : c.mbx ≠ 0) (m0 : sp.m0 = true) : sp.headerError s c = some .denied := by
  rw [CmdSpec.headerError] at clear good ⊢
  split at clear
  · exact absurd rfl clear
  next first =>
    rw [if_neg first] at good ⊢
    split at good
    · exact absurd rfl good
    next second => rw [if_neg second, if_pos (by simp [other, m0])]

/-- A byte of the payload that is not zero. -/
theorem getElem?_of_field {bs : List Byte} {off : Nat} (set : leAt bs off 1 ≠ 0) : ∃ b, bs[off]? = some b ∧ b ≠ 0 := by
  cases here : bs[off]? with
  | none =>
    have short : bs.length ≤ off := by simpa using here
    rw [leAt, List.drop_of_length_le short] at set
    exact absurd rfl set
  | some b =>
    refine ⟨b, rfl, fun zero => set ?_⟩
    obtain ⟨lt, eq⟩ := List.getElem?_eq_some_iff.mp here
    rw [leAt, List.drop_eq_getElem_cons lt, eq, zero]
    rfl

/-- A byte behind the listed ones that is not zero (R12). -/
theorem pastList_of_byte {sp : CmdSpec} {c : HostCmd} {first count i : Nat} (list : sp.listAt = some (first, count)) (room : 8 ≤ first)
    (past : c.f count 1 ≤ i) (set : c.f (first + i) 1 ≠ 0) : sp.pastList c = true := by
  obtain ⟨b, here, nonzero⟩ := getElem?_of_field set
  rw [CmdSpec.pastList, list, Option.any_some, List.any_eq_true]
  refine ⟨(b, first + i - 8), List.mem_zipIdx_iff_getElem?.mpr here, ?_⟩
  simp only [Bool.and_eq_true, bne_iff_ne, decide_eq_true_eq]
  exact ⟨nonzero, by omega⟩

/-- Settles O3: the checks in their order, each by the lemma about it. -/
theorem commandTurnedAway : Obligations.CommandTurnedAway := by
  refine ⟨fun k c s => ⟨fun off => ?unserved, fun served room phase waits => ?flash, fun served full => ?stall⟩,
    fun k c s served room phase plain => ?handover, fun k c s served room phase free => ?checks⟩
  case unserved => exact congrArg Host.Outcome.next (if_pos (by simp [off]))
  case flash => rw [direct_of_taken ⟨served, room⟩, command_of_waits phase waits, Option.getD_none]
  case stall => rw [direct, if_neg (by simp [served]), if_pos (by simp [full])]
  case handover => rw [direct_of_taken ⟨served, room⟩, command_of_handover phase plain, Option.getD_some]
  case checks =>
    have answered : ∀ st, k.spec.headerError s c = some st → direct k c s = .next (s.answer c k.spec.op st []) := fun st error => by
      rw [direct_of_taken ⟨served, room⟩, command_of_headerError phase free error, Option.getD_some]
    refine ⟨fun flags => answered _ (headerError_of_flags flags), answered _, fun i past lt set => ?_, fun clear len => answered _ (headerError_of_len clear len),
      fun clear good other m0 => answered _ (headerError_of_m0 clear good other m0), fun good plain async many => ?_, fun good plain few bad => ?_⟩
    · exact headerError_of_past (pastList_of_byte (first := 10) rfl (by decide) past set)
    · rw [direct_of_taken ⟨served, room⟩, command_of_header phase free good plain, if_pos (by simp [async, many]), Option.getD_some]
    · have notMany : ¬ (c.async && decide (8 ≤ s.asyncOut c.mbx)) = true := by
        rcases few with h | h
        · simp [h]
        · simp [Nat.not_le.mpr h]
      rw [direct_of_taken ⟨served, room⟩, command_of_header phase free good plain, if_neg notMany, if_pos (by simp [bad]), Option.getD_some]

/-! ### How firmware takes commands (R124, R132, R144) -/

/-- COMMAND_CONSUME serves the mailbox whose turn it is. -/
theorem exec_commandConsume {e : Option (List Byte)} {h : HostRead} {s : State} {m : Fin 16} (live : s.live = true) (turn : s.turn = some m) :
    exec (.commandConsume e h) s = .next (s.serve m e h) := by
  change execCommandConsume e h s = _
  rw [execCommandConsume, whenLive_of_live live, turn]

/-- An entry that finds room for its response is consumed. -/
theorem serve_of_room {s : State} {m : Fin 16} {bs : List Byte} {h : HostRead} (room : s.hasRoom m (bitOf (byteAt (padTo 64 bs) 4).toNat 0) = true) :
    s.serve m (some bs) h = ((s.consumeEntry m (padTo 64 bs) h).getD s).passTurn m := by
  rw [State.serve]
  rw [if_neg (by simp [room])]

/-- An asynchronous command's final response is due. -/
theorem exec_asyncFinal {m : Fin 16} {q : BitVec 16} {s : State} {r : Running} (live : s.live = true) (able : s.canRequest = true)
    (found : s.running.find? (fun r => r.mbx == m && r.seq == q && r.async && r.final) = some r) :
    exec (.asyncFinalResponse m q) s = .next (if r.done.isSome then s.postFinal r
      else match r.wait with
        | .unitFence u => s.unfenceEnd r u
        | _ => s.modelLoaded r) := by
  change execAsyncFinalResponse m q s = _
  rw [execAsyncFinalResponse, whenLive_of_live live, if_neg (by simp [able]), found] <;> rfl

/-- Settles O36: the turn, an entry's four fates, a final response, and each read that times out. -/
theorem commandConsumption : Obligations.CommandConsumption := by
  refine ⟨fun e h s live => ⟨fun none => ?idle, fun m turn none => ?fault, fun m bs turn eq full => ?stalls, fun m bs turn eq room bad phase => ?unknown,
      fun m bs k turn eq room known => ⟨fun t done => ?consumed, fun held => ?held⟩⟩,
    fun s m zero next => ⟨?whose, rfl⟩, fun m q s r live able found => ⟨fun done => ?final, fun u none wait => ?unfence, fun x va n none wait => ?loaded⟩,
    fun m s t live eq => ⟨fun ready => ⟨?lateEntry, fun e => ?lateDesc⟩, fun off => ⟨?noEntry, fun e => ?noDesc⟩⟩,
    fun n s t live eq => ⟨fun none => ?noRing, fun x ring => ?lateRing⟩, fun s t live eq => ⟨fun off => ?noRer, fun reads => ?lateRer⟩⟩
  case idle =>
    change execCommandConsume e h s = _
    rw [execCommandConsume, whenLive_of_live live, none]
  case fault =>
    rw [exec_commandConsume live turn, none]
    rfl
  case stalls =>
    rw [exec_commandConsume live turn, eq, State.serve]
    exact congrArg Host.Outcome.next (if_pos (by simp [full]))
  case unknown =>
    have handover : ((s.headNext m).fw.phase == .handover) = false := by simpa [State.headNext] using phase
    rw [exec_commandConsume live turn, eq, serve_of_room room, State.consumeEntry]
    rw [bad]
    dsimp only
    rw [if_neg (by simp [handover]), Option.getD_some]
  case consumed =>
    rw [exec_commandConsume live turn, eq, serve_of_room room, State.consumeEntry]
    rw [known]
    dsimp only
    rw [done, Option.getD_some]
  case held =>
    rw [exec_commandConsume live turn, eq, serve_of_room room, State.consumeEntry]
    rw [known]
    dsimp only
    rw [held, Option.getD_none]
  case whose =>
    rw [State.turn, next, if_pos zero]
    cases s.host.turnZero <;> rfl
  case final => rw [exec_asyncFinal live able found, if_pos done]
  case unfence => rw [exec_asyncFinal live able found, if_neg (by simp [none]), wait]
  case loaded => rw [exec_asyncFinal live able found, if_neg (by simp [none]), wait]
  case lateEntry =>
    subst eq
    change execPcieCompletionTimeout (.command m) s = _
    rw [execPcieCompletionTimeout, whenLive_of_live live]
    exact congrArg Host.Outcome.next (if_pos ready)
  case lateDesc =>
    subst eq
    change execPcieCompletionTimeout (.desc m e) s = _
    rw [execPcieCompletionTimeout, whenLive_of_live live]
    exact congrArg Host.Outcome.next (if_pos ready)
  case noEntry =>
    subst eq
    change execPcieCompletionTimeout (.command m) s = _
    rw [execPcieCompletionTimeout, whenLive_of_live live]
    exact congrArg Host.Outcome.next (if_neg (by simp [off]))
  case noDesc =>
    subst eq
    change execPcieCompletionTimeout (.desc m e) s = _
    rw [execPcieCompletionTimeout, whenLive_of_live live]
    exact congrArg Host.Outcome.next (if_neg (by simp [off]))
  case noRing =>
    subst eq
    change execPcieCompletionTimeout (.ring n) s = _
    rw [execPcieCompletionTimeout, whenLive_of_live live]
    dsimp only
    rw [none]
  case lateRing =>
    subst eq
    change execPcieCompletionTimeout (.ring n) s = _
    rw [execPcieCompletionTimeout, whenLive_of_live live]
    dsimp only
    rw [ring]
  case noRer =>
    subst eq
    change execPcieCompletionTimeout .rer s = _
    rw [execPcieCompletionTimeout, whenLive_of_live live]
    exact congrArg Host.Outcome.next (if_neg (by simp [off]))
  case lateRer =>
    subst eq
    change execPcieCompletionTimeout .rer s = _
    rw [execPcieCompletionTimeout, whenLive_of_live live]
    exact congrArg Host.Outcome.next (if_pos reads)

end Sys2Proof.Machine

/-!
Proofs of `DeviceCommands`, `ContextCommands` and `MemoryCommands` (05).
-/
namespace Sys2Proof.Machine
open Sys2Proof
set_option Elab.async false

/-! ### Commands that may be asynchronous -/

/-- A command whose own part answers a status other than OK, asynchronous or not. -/
theorem direct_takes_st {k : Command} {c : HostCmd} {s t : State} {st : Status} (h : k.takes c s = true) (ho : k.own c s = .st t st)
    (bad : st ≠ .ok) : direct k c s = .next (t.answer c k.spec.op st []) := by
  rw [direct_of_takes h, ho]
  simp [HostCmd.conclude, CmdRes.st, bad]

/-- A command that goes on, asynchronous or not. -/
theorem direct_takes_wait {k : Command} {c : HostCmd} {s t : State} {w : WaitFor} (h : k.takes c s = true) (ho : k.own c s = .wait t w) :
    direct k c s = .next (c.proceed k.spec.op t w []) := by
  rw [direct_of_takes h, ho]
  rfl

/-- A command that goes on with more to do, asynchronous or not. -/
theorem direct_takes_waitThen {k : Command} {c : HostCmd} {s t : State} {w : WaitFor} {data : List Byte} {after : State → State}
    (h : k.takes c s = true) (ho : k.own c s = .waitThen t w data after) :
    direct k c s = .next (after (c.proceed k.spec.op t w data)) := by
  rw [direct_of_takes h, ho]
  rfl

/-! ### Device and diagnostic commands (R153 to R155, R169, R170) -/

theorem powerMove_iff (p t : PowerState) : powerMove p t = true ↔ p ≠ .off ∧ ¬ (p = .standby ∧ t = .low) := by
  cases p <;> cases t <;> decide

/-- Settles O4: each command's own part by its conditions. -/
theorem deviceCommands : Obligations.DeviceCommands := by
  refine ⟨⟨fun c s acc => direct_ok acc rfl, fun c s acc => direct_ok acc rfl, fun c s t acc named => ⟨fun same => ?same, fun up low => ?noMove,
      fun new move on => ⟨fun leave work => ?working, fun idle low => ?low, fun idle off busy => ?erasing, fun idle off susp prog => ?off,
        fun act all => ?active, fun u act lt want off => ?turnOn⟩⟩⟩,
    fun c s acc => ⟨fun odd => ?oddBuffer, fun even failed => ?failedBuffer, fun even good => ⟨fun some => ?entries, fun none => ?noEntries⟩⟩,
    fun c s takes => ⟨fun act live => ?probe, fun off => ?noProbe⟩, fun c s acc => ⟨fun absent => ?noUnit, fun there => ?unit⟩⟩
  case same => exact direct_ok acc (by simp [cmdDevicePower, named, same])
  case noMove => exact direct_st acc (by simp [cmdDevicePower, named, up, low, powerMove])
  case working =>
    have allowed := (powerMove_iff s.sup.power t).mpr ⟨on, move⟩
    exact direct_st acc (by simp [cmdDevicePower, named, new, allowed, leave, work])
  case low =>
    have allowed := (powerMove_iff s.sup.power t).mpr ⟨on, move⟩
    rcases low with rfl | rfl
    · exact direct_ok acc (by simp [cmdDevicePower, named, new, allowed, idle])
    · exact direct_ok acc (by simp [cmdDevicePower, named, new, allowed, idle])
  case erasing =>
    have allowed := (powerMove_iff s.sup.power t).mpr ⟨on, move⟩
    subst off
    exact direct_st acc (by rcases busy with h | h <;> simp [cmdDevicePower, named, new, allowed, idle, h])
  case off =>
    have allowed := (powerMove_iff s.sup.power t).mpr ⟨on, move⟩
    subst off
    have own : cmdDevicePower.own c s = .done s .ok (leBytes 1 3) (fun s => s.updSup (fun p => { p with power := .off })) := by
      simp [cmdDevicePower, named, new, allowed, idle, susp, prog]
    exact direct_done acc own
  case active =>
    have allowed := (powerMove_iff s.sup.power t).mpr ⟨on, move⟩
    subst act
    have none : (List.range 56).any (fun u => s.wanted u && !(s.gateN u).powered) = false := by simpa using all
    exact direct_ok acc (by simp only [cmdDevicePower, named, new, allowed, none]; rfl)
  case turnOn =>
    have allowed := (powerMove_iff s.sup.power t).mpr ⟨on, move⟩
    subst act
    have some : (List.range 56).any (fun u => s.wanted u && !(s.gateN u).powered) = true :=
      List.any_eq_true.mpr ⟨u, List.mem_range.mpr lt, by simp [want, off]⟩
    exact direct_wait acc (by simp only [cmdDevicePower, named, new, allowed, some]; rfl)
  case oddBuffer => exact direct_st acc (if_pos odd)
  case failedBuffer => exact direct_st acc ((if_neg (by simp [even])).trans (if_pos failed))
  case entries =>
    exact direct_ok acc ((if_neg (by simp [even])).trans ((if_neg good).trans (if_neg (by simpa using some))))
  case noEntries =>
    exact ⟨_, direct_ok acc ((if_neg (by simp [even])).trans ((if_neg good).trans (if_pos (by simpa using none))))⟩
  case probe => exact direct_takes_wait takes (if_neg (by simp [act, live]))
  case noProbe => exact direct_takes_st takes (if_pos (by rcases off with h | h <;> simp [h])) (by decide)
  case noUnit => exact direct_st acc (if_pos absent)
  case unit => exact direct_ok acc (if_neg (by simp [there]))

/-! ### Cleared memory reads zero -/

theorem cellsRead_cellsClear (m : List Host.Cell) (a n : Nat) : cellsRead (cellsClear m a n) a n = zeros n := by
  have none : (cellsClear m a n).filter (fun c => a ≤ c.1 && c.1 < a + n) = [] := by
    rw [cellsClear, List.filter_filter, List.filter_eq_nil_iff]
    intro c _
    simp only [Bool.and_eq_true, Bool.or_eq_true, decide_eq_true_eq]
    omega
  rw [cellsRead]
  rw [none, zeros, List.eq_replicate_iff]
  refine ⟨by simp, fun b mem => ?_⟩
  obtain ⟨i, -, rfl⟩ := List.mem_map.mp mem
  rfl

theorem memRead_memClear (s : State) (a n : Nat) : (s.memClear a n).memRead a n = zeros n := cellsRead_cellsClear s.mem.cells a n

/-! ### Contexts (R156 to R158, R196, R241) -/

theorem ctxOf_val (x : Fin 64) : ctxOf x.val = x := Fin.ext (Nat.mod_eq_of_lt x.isLt)

/-- A page table lies on a page of firmware's region. -/
theorem takeTable_addr (s : State) (x : Nat) : ∃ k, k < 65536 ∧ (s.takeTable x).1 = k * 4096 := by
  unfold State.takeTable
  dsimp only
  split
  · refine ⟨_, ?_, rfl⟩
    cases found : List.find? (fun i => !(s.mem.tables.map Prod.snd).contains (4096 * i)) (List.range 65536) with
    | none => decide
    | some k => exact List.mem_range.mp (List.mem_of_find?_eq_some found)
  · exact ⟨_, Nat.mod_lt _ (by decide), rfl⟩

/-- A new context: its record, and a root table that reads zero (R156). -/
theorem ctxMake_spec (s : State) (n : Nat) (cls : Cls) (quota : Nat) : ∃ root : BitVec 36,
    (s.ctxMake n cls quota).mem.ctx = updAt s.mem.ctx (ctxOf n) (fun _ => { exists_ := true, maxClass := cls, quotaMib := quota })
    ∧ (s.ctxMake n cls quota).mem.root = updAt s.mem.root (ctxOf n) (fun _ => { en := true, root := root })
    ∧ (s.ctxMake n cls quota).memRead (root.toNat * 4096) 4096 = zeros 4096
    ∧ ({ s.ctxMake n cls quota with mem := s.mem, free := s.free, str := s.str } : State) = s := by
  obtain ⟨k, lt, addr⟩ := takeTable_addr (s.updCtx (ctxOf n) (fun _ => { exists_ := true, maxClass := cls, quotaMib := quota })) n
  refine ⟨BitVec.ofNat 36 k, rfl, ?_, ?_, rfl⟩
  · rw [State.ctxMake]
    dsimp only
    rw [addr, Nat.mul_div_cancel _ (by decide)]
    rfl
  · have small : (BitVec.ofNat 36 k).toNat = k := by
      rw [BitVec.toNat_ofNat]
      omega
    rw [small, ← addr]
    exact cellsRead_cellsClear _ _ _

/-- Settles O5: each command's checks in their order, `ctxMake_spec`, and the end of a teardown. -/
theorem contextCommands : Obligations.ContextCommands := by
  refine ⟨⟨fun c s acc => ⟨fun other dead => ?noCtx, fun known on => ?enabled, fun live other off => ?bind, fun none off => ?release⟩,
      fun c s acc => ⟨fun bad => ?badBase, fun even low => ?window⟩⟩,
    fun c s acc => ⟨fun asked there => ?there, fun n choice => ?make, fun any full => ?full⟩,
    fun c s takes => ⟨fun zero => ?zero, fun other dead => ?dead, fun other live lock sClass => ?locked, fun other live free => ?begin⟩,
    fun x s u live tear eq => ⟨fun busy => ?still, fun drain => ?done⟩⟩
  case noCtx => exact direct_st acc (if_pos (by simp [other, dead]))
  case enabled => exact direct_st acc ((if_neg (by rcases known with h | h <;> simp [h])).trans (if_pos on))
  case bind =>
    exact direct_ok acc (by simp [-Fin.getElem_fin, cmdMbxBind, live, other, off])
  case release => exact direct_ok acc (by simp [-Fin.getElem_fin, cmdMbxBind, none, off])
  case badBase => exact direct_st acc (if_pos (by simpa only [Bool.or_eq_true, decide_eq_true_eq] using bad))
  case window => exact direct_ok acc (if_neg (by simp only [Bool.or_eq_true, decide_eq_true_eq]; omega))
  case there => exact direct_st acc (by simp [cmdCtxCreate, asked, there])
  case make =>
    obtain ⟨root, ctx, roots, zero, rest⟩ := ctxMake_spec s n ((Cls.ofNat? (c.f 9 1)).getD .s) (c.f 12 4)
    refine ⟨_, root, direct_ok acc ?_, ctx, roots, zero, rest⟩
    rcases choice with ⟨rfl, asked, fresh⟩ | ⟨any, low, high, fresh, used⟩
    · simp [cmdCtxCreate, asked, fresh]
    · have found : (List.range 64).find? (fun i => 1 ≤ i && !(s.ctxN i).exists_) = some n := by
        rw [List.find?_range_eq_some]
        refine ⟨by simp [low, fresh], List.mem_range.mpr high, fun i lt => ?_⟩
        rcases Nat.eq_zero_or_pos i with rfl | pos
        · rfl
        · simp [used i pos lt]
      simp [cmdCtxCreate, any, found]
  case full =>
    have none : (List.range 64).find? (fun i => 1 ≤ i && !(s.ctxN i).exists_) = none := by
      rw [List.find?_range_eq_none]
      intro i lt
      rcases Nat.eq_zero_or_pos i with rfl | pos
      · rfl
      · simp [full i lt pos]
    exact direct_st acc (by simp [cmdCtxCreate, any, none])
  case zero => exact direct_takes_st takes (if_pos zero) (by decide)
  case dead => exact direct_takes_st takes ((if_neg other).trans (if_pos (by simp [dead]))) (by decide)
  case locked =>
    exact direct_takes_st takes ((if_neg other).trans ((if_neg (by simp [live])).trans (if_pos (by simp [lock, sClass])))) (by decide)
  case begin =>
    have open_ : (s.locked && s.ctxHasS (c.f 8 1)) = false := by rcases free with h | h <;> simp [h]
    have own : cmdCtxDestroy.own c s
        = .waitThen (s.teardownBegin (c.f 8 1)) (.ctxDestroy (c.f 8 1)) [] (fun t => t.teardownTry (c.f 8 1)) := by
      simp only [cmdCtxDestroy, other, live, open_, if_false, Bool.not_true, Bool.false_eq_true]
    exact (direct_takes_waitThen takes own :)
  case still =>
    subst eq
    change execTeardownDrainDone x s = _
    rw [execTeardownDrainDone, whenLive_of_live live, if_neg (by simpa using tear)]
    exact congrArg Host.Outcome.next (if_neg (by simpa using busy))
  case done =>
    subst eq
    have row : exec (.teardownDrainDone x) s = .next (((s.teardownJobs x.val).teardownTry x.val).teardownEnd x.val) := by
      change execTeardownDrainDone x s = _
      rw [execTeardownDrainDone, whenLive_of_live live, if_neg (by simpa using tear)]
      exact congrArg Host.Outcome.next (if_pos (by simpa using drain))
    refine ⟨_, _, row, ?_, ?_, rfl⟩
    · simp [State.updCtx, ctxOf_val]
    · rfl

/-! ### Memory (R159, R160) -/

/-- Settles O6: the checks in their order, what an allocation lists and maps, and `memRead_memClear`. -/
theorem memoryCommands : Obligations.MemoryCommands := by
  refine ⟨fun c s takes => ⟨fun bad => ?badLength, fun some even dead => ?noCtx, fun some even live quota => ?quota, fun u some even live quota none => ?noRoom,
      fun pa u some even live zero quota room => ?alloc0, fun pa va u some even live other quota room place => ?alloc⟩, memRead_memClear,
    fun c s acc => ⟨fun dead => ?freeNoCtx, fun live none => ?noRegion, fun r live found => ⟨fun busy => ?busy, fun idle => ?free⟩⟩⟩
  case badLength => exact direct_takes_st takes (if_pos (by rcases bad with h | h <;> simp [h])) (by decide)
  case noCtx => exact direct_takes_st takes (by simp [cmdMemAlloc, some, even, dead]) (by decide)
  case quota => exact direct_takes_st takes (by simp [cmdMemAlloc, some, even, live, quota]) (by decide)
  case noRoom => exact direct_takes_st takes (by simp [cmdMemAlloc, some, even, live, quota, none]) (by decide)
  case alloc0 => exact direct_reply takes (by simp [cmdMemAlloc, some, even, live, zero, quota, room, State.pickVa, CmdRes.ok])
  case alloc => exact direct_reply takes (by simp [cmdMemAlloc, some, even, live, other, quota, room, place, CmdRes.ok])
  case freeNoCtx => exact direct_st acc (if_pos (by simp [dead]))
  case noRegion => exact direct_st acc (by simp [cmdMemFree, live, none])
  case busy => exact direct_st acc (by simp [cmdMemFree, live, found, busy])
  case free => exact direct_ok acc (by simp [cmdMemFree, live, found, idle])

end Sys2Proof.Machine

/-!
Proofs of `ModelCommands` and `PipCommands` (05, 09).
-/
namespace Sys2Proof.Machine
open Sys2Proof
set_option Elab.async false

/-! ### Models and instances (R161 to R163, R218) -/

theorem reply_of_sync {c : HostCmd} (sync : c.async = false) (s : State) (op : Nat) (st : Status) (data : List Byte) :
    s.reply c op st data = s.answer c op st data := if_neg (by simp [sync])

theorem packageIn_notFound {s : State} {x va n : Nat} (none : s.ctxLive x = false ∨ s.regionOf x va (max n 1) = none) :
    s.packageIn x va n = .error .notFound := by
  rw [State.packageIn]
  rcases none with dead | out
  · rw [dead]
  · rw [out]
    cases s.ctxLive x <;> rfl

theorem packageIn_region {s : State} {x va n : Nat} {r : Region} (live : s.ctxLive x = true) (region : s.regionOf x va (max n 1) = some r) :
    s.packageIn x va n = if packageOk (s.memRead (r.pa + (va - r.va)) 128) n then .ok r else .error .invalidField := by
  rw [State.packageIn, live, region]

/-- MODEL_LOAD of a package whose header is good. -/
theorem modelLoad_own {c : HostCmd} {s : State} {r : Region} (good : s.packageIn c.ctxN (c.f 8 8) (c.f 16 8) = .ok r) : cmdModelLoad.own c s
    = (let v := s.protect c.ctxN r ((c.f 8 8, c.f 16 8) :: s.packages c.ctxN)
       if c.async then .wait v (.modelLoad c.ctxN (c.f 8 8) (c.f 16 8))
       else .done (v.packageLoad c.ctxN (c.f 8 8) (c.f 16 8) r).1 (v.packageLoad c.ctxN (c.f 8 8) (c.f 16 8) r).2.1
         (v.packageLoad c.ctxN (c.f 8 8) (c.f 16 8) r).2.2 id) := by
  simp only [cmdModelLoad, good]

/-- A package that reads and matches its digest, or not (R161). -/
theorem packageLoad_cases (v : State) (x va n : Nat) (r : Region) :
    let pa := r.pa + (va - r.va)
    let w := v.readSense pa n
    ((w.readUe pa n = true ∨ sha256 ((w.memRead pa n).drop 48) ≠ ((v.memRead pa 128).drop 16).take 32) →
      v.packageLoad x va n r = (w.protect x r (w.packages x), .digestMismatch, []))
    ∧ (w.readUe pa n = false → sha256 ((w.memRead pa n).drop 48) = ((v.memRead pa 128).drop 16).take 32 →
      v.packageLoad x va n r = (match w.pickKey w.mem.models 64 with
        | (none, u) => (u.protect x r (w.packages x), .noResource, [])
        | (some id, u) =>
          let t : State := { u with mem := { u.mem with models := insertN u.mem.models id (modelOf x va pa (v.memRead pa 128)) } }
          (t.protect x r (t.packages x), .ok, leBytes 2 id ++ ((v.memRead pa 128).drop 50).take 1 ++ zeros 1 ++ ((v.memRead pa 128).drop 52).take 4))) := by
  refine ⟨fun bad => ?_, fun reads matches_ => ?_⟩
  · rw [State.packageLoad]
    dsimp only
    rw [if_pos (by simpa using bad)]
  · rw [State.packageLoad]
    dsimp only
    rw [if_neg (by simp only [reads, matches_]; simp)]
    generalize v.readSense (r.pa + (va - r.va)) n = w
    rcases key : w.pickKey w.mem.models 64 with ⟨_ | id, u⟩
    · rfl
    · rfl

/-- The state without what a table write changes: free values, bytes of memory, marks, and the list of tables. -/
def State.offTables (s : State) : State := { s with
  free := 0, mem := { s.mem with cells := [], ecc := [], tables := [] }, str := { s.str with fs := { s.str.fs with poison := [] } } }

theorem memWrite_offTables (s : State) (a : Nat) (bs : List Byte) : (s.memWrite a bs).offTables = s.offTables := rfl

theorem tableAt_offTables (s : State) (ctx a : Nat) : (s.tableAt ctx a).2.offTables = s.offTables := by
  unfold State.tableAt
  dsimp only
  split
  · rfl
  · rfl

theorem leafPlace_offTables (s : State) (ctx va page : Nat) : (s.leafPlace ctx va page).2.offTables = s.offTables := by
  unfold State.leafPlace
  dsimp only
  split
  · exact tableAt_offTables _ _ _
  · exact (tableAt_offTables _ _ _).trans (tableAt_offTables _ _ _)

theorem setLeaf_offTables (s : State) (ctx va page : Nat) (e : Nat → Nat) : (s.setLeaf ctx va page e).offTables = s.offTables := by
  unfold State.setLeaf
  dsimp only
  split
  · rw [foldl_keeps State.offTables (fun s i => memWrite_offTables s _ _), leafPlace_offTables]
  · rw [memWrite_offTables, leafPlace_offTables]

theorem setPages_offTables (s : State) (ctx va bytes page : Nat) (e : Nat → Nat) :
    (s.setPages ctx va bytes page e).offTables = s.offTables :=
  foldl_keeps State.offTables (fun _ _ => setLeaf_offTables _ _ _ _ _) _ s

theorem protect_frame (s : State) (ctx : Nat) (r : Region) (ranges : List (Nat × Nat)) :
    (s.protect ctx r ranges).mem.models = s.mem.models ∧ (s.protect ctx r ranges).str.tower = s.str.tower
    ∧ (s.protect ctx r ranges).str.vpu = s.str.vpu := by
  unfold State.protect
  split
  · exact ⟨rfl, rfl, rfl⟩
  · generalize pages : s.setPages ctx r.va r.bytes r.page _ = t
    have same : t.offTables = s.offTables := by
      rw [← pages]
      exact setPages_offTables s ctx r.va r.bytes r.page _
    have mem := congrArg State.mem same
    have str := congrArg State.str same
    exact ⟨(congrArg MemSys.models mem : _), (congrArg Streams.tower str : _), (congrArg Streams.vpu str : _)⟩

theorem images_of_tower {n id : Nat} (v : Vector Tower n) (e : Fin n) :
    ∀ i ∈ (v.map (fun t : Tower => { t with images := t.images.filter (fun i => i.model != id) }))[e].images, i.model ≠ id := fun i mem => by
  rw [Fin.getElem_fin, Vector.getElem_map] at mem
  simpa using (List.mem_filter.mp mem).2

theorem images_of_vpu {n id : Nat} (v : Vector Vpu n) (e : Fin n) :
    ∀ i ∈ (v.map (fun t : Vpu => { t with images := t.images.filter (fun i => i.model != id) }))[e].images, i.model ≠ id := fun i mem => by
  rw [Fin.getElem_fin, Vector.getElem_map] at mem
  simpa using (List.mem_filter.mp mem).2

/-- Unloading a model: no model and no image has its ID any more (R163). -/
theorem modelDrop_spec (s : State) (id : Nat) (m : Model) : (s.modelDrop id m).mem.models = eraseN s.mem.models id
    ∧ (∀ e : Fin 8, ∀ i ∈ (s.modelDrop id m).str.tower[e].images, i.model ≠ id)
    ∧ (∀ e : Fin 16, ∀ i ∈ (s.modelDrop id m).str.vpu[e].images, i.model ≠ id) := by
  unfold State.modelDrop
  extract_lets mem s₁ str s₂
  split
  next r region =>
    obtain ⟨models, towers, vpus⟩ := protect_frame s₂ m.ctx r (s₂.packages m.ctx)
    rw [models, towers, vpus]
    exact ⟨rfl, images_of_tower _, images_of_vpu _⟩
  next => exact ⟨rfl, images_of_tower _, images_of_vpu _⟩

/-- Settles O7: the packages' checks, `packageLoad_cases`, `modelDrop_spec`, and the granules of INSTANCE_CREATE. -/
theorem modelCommands : Obligations.ModelCommands := by
  refine ⟨⟨fun c s takes => ⟨fun none => ?noPackage, fun r pa h v live region eqPa eqH eqV => ⟨fun bad => ?badHeader, fun good async => ?goesOn,
        fun w good sync eqW => ⟨fun bad => ?mismatch, fun reads digest => ⟨fun u full => ?noKey, fun id u t key eqT => ?loaded⟩⟩⟩⟩,
      fun c s acc => ⟨fun none => ?unloadNone, fun m here => ⟨fun used => ?unloadBusy, fun free => ?unloaded⟩⟩,
      fun c s acc => ⟨fun none => ?queryNone, fun m here => ?query⟩⟩,
    fun c s acc => ⟨fun none => ?createNone, fun m i g u here key fit => ?created, fun m here full => ?noGranules⟩,
    fun c s acc => ⟨fun none => ?destroyNone, fun i here => ⟨fun used => ?destroyBusy, fun u named jobs eq => ?destroyed⟩⟩⟩
  case noPackage => exact direct_takes_st takes (by simp only [cmdModelLoad, packageIn_notFound none]) (by decide)
  case badHeader =>
    subst eqPa eqH
    have found := packageIn_region live region
    rw [if_neg (by simp [bad])] at found
    exact direct_takes_st takes (by simp only [cmdModelLoad, found]) (by decide)
  case goesOn =>
    subst eqPa eqH eqV
    have found := packageIn_region live region
    rw [if_pos good] at found
    exact direct_takes_wait takes ((modelLoad_own found).trans (if_pos async))
  case mismatch =>
    subst eqPa eqH eqV eqW
    have found := packageIn_region live region
    rw [if_pos good] at found
    have own := (modelLoad_own found).trans (if_neg (by simp [sync]))
    rw [(packageLoad_cases _ _ _ _ _).1 bad] at own
    exact (direct_reply takes own).trans (congrArg Host.Outcome.next (reply_of_sync sync _ _ _ _))
  case noKey =>
    subst eqPa eqH eqV eqW
    have found := packageIn_region live region
    rw [if_pos good] at found
    have own := (modelLoad_own found).trans (if_neg (by simp [sync]))
    rw [(packageLoad_cases _ _ _ _ _).2 reads digest, full] at own
    exact (direct_reply takes own).trans (congrArg Host.Outcome.next (reply_of_sync sync _ _ _ _))
  case loaded =>
    subst eqPa eqH eqV eqW eqT
    have found := packageIn_region live region
    rw [if_pos good] at found
    have own := (modelLoad_own found).trans (if_neg (by simp [sync]))
    rw [(packageLoad_cases _ _ _ _ _).2 reads digest, key] at own
    exact (direct_reply takes own).trans (congrArg Host.Outcome.next (reply_of_sync sync _ _ _ _))
  case unloadNone => exact direct_st acc (by simp only [cmdModelUnload, none])
  case unloadBusy => exact direct_st acc (by simp only [cmdModelUnload, here, used, if_true])
  case unloaded =>
    obtain ⟨models, towers, vpus⟩ := modelDrop_spec s (c.f 8 2) m
    exact ⟨_, direct_ok acc (by simp only [cmdModelUnload, here, free, Bool.false_eq_true, if_false]), models, towers, vpus⟩
  case queryNone => exact direct_st acc (by simp only [cmdModelQuery, none])
  case query => exact direct_ok acc (by simp only [cmdModelQuery, here])
  case createNone => exact direct_st acc (by simp only [cmdInstanceCreate, none])
  case created => exact direct_ok acc (by simp only [cmdInstanceCreate, here, granule, key, fit, fsBase])
  case noGranules =>
    refine direct_st acc ?_
    rcases full with none | none
    · cases key : (s.pickKey s.mem.insts 256).1 <;> simp only [cmdInstanceCreate, here, granule, none, key]
    · simp only [cmdInstanceCreate, here, granule, none]
  case destroyNone => exact direct_st acc (by simp only [cmdInstanceDestroy, none])
  case destroyBusy =>
    have busy : (s.instNamed (c.f 8 2) || s.mem.jobs.any (fun j => j.inst == c.f 8 2)) = true := by
      rcases used with h | h <;> simp [h]
    exact direct_st acc (by simp only [cmdInstanceDestroy, here, busy, if_true])
  case destroyed =>
    subst eq
    exact direct_ok acc (by simp only [cmdInstanceDestroy, here, named, jobs, Bool.or_self, Bool.false_eq_true, if_false]; rfl)

/-! ### Pips (R164 to R166, R272) -/

theorem pipGet_pipsZero {s : State} {a n q : Nat} (low : a ≤ q) (high : q < a + n) : (s.pipsZero a n).pipGet q = { value := 0, err := 0 } := by
  have none : lookupN (s.pipsZero a n).pip.pips q = none := by
    unfold State.pipsZero
    dsimp only
    induction s.pip.pips with
    | nil => rfl
    | cons c cs ih =>
      rw [List.filter_cons]
      split
      next kept =>
        simp only [Bool.or_eq_true, decide_eq_true_eq] at kept
        rw [lookupN, if_neg (by omega)]
        exact ih
      next => exact ih
  rw [State.pipGet, none]
  rfl

theorem takes_of_acceptsAsync {k : Command} {c : HostCmd} {s : State} (h : k.acceptsAsync c s = true) : k.takes c s = true :=
  (Bool.and_eq_true _ _ ▸ h).1

/-- A pip that PIP_WAIT may not reach answers a failure. -/
theorem pipAccess_ne_ok {s : State} {c : HostCmd} {p : Nat} {st : Status} (no : s.pipAccess c p (some .denied) none = some st) : st ≠ .ok := by
  rintro rfl
  rw [State.pipAccess] at no
  cases kind : pipKind p <;> rw [kind] at no <;> dsimp only at no
  case outside => exact nomatch no
  all_goals split at no <;> exact nomatch no

/-- Settles O9: each command's own part, and who reaches a pip by its kind. -/
theorem pipCommands : Obligations.PipCommands := by
  refine ⟨fun c s acc => ⟨fun dead => ?noCtx, fun a live room => ⟨?alloc, fun q low high => pipGet_pipsZero low high⟩, fun live full => ?noRun⟩,
    fun c s acc => ⟨fun none => ?noBlock, fun b here => ⟨fun used => ?waited, fun free unnamed => ?freed⟩⟩,
    fun c s o acc op => ⟨fun bad => ?badOperand, fun u good eq able => ?signal, fun st good no => ?noSignal⟩,
    fun c s acc => ⟨fun st no => ?noRead, fun able => ?read⟩, fun c s acc => ⟨fun st no => ?noWait, fun able => ?wait⟩,
    fun c s p a b => ⟨fun kind => ?plan, fun kind => ?general, fun kind => ?stage⟩⟩
  case noCtx => exact direct_st acc (if_pos (by simp [dead]))
  case alloc => exact direct_ok acc (by simp only [cmdPipAlloc, live, room, Bool.not_true, Bool.false_eq_true, if_false]; rfl)
  case noRun => exact direct_st acc (by simp only [cmdPipAlloc, live, full, Bool.not_true, Bool.false_eq_true, if_false])
  case noBlock => exact direct_st acc (by simp only [cmdPipFree, none])
  case waited =>
    have busy : (s.pipWaited b.first b.count || s.pipNamed b.first b.count) = true := by rcases used with h | h <;> simp [h]
    exact direct_st acc (by simp only [cmdPipFree, here, busy, if_true])
  case freed => exact direct_ok acc (by simp only [cmdPipFree, here, free, unnamed, Bool.or_self, Bool.false_eq_true, if_false])
  case badOperand => exact direct_st acc (by simp only [cmdPipSignal, op, bad, Bool.not_false, if_true])
  case signal =>
    subst eq
    exact direct_ok acc (by simp only [cmdPipSignal, op, good, able, Bool.not_true, Bool.false_eq_true, if_false])
  case noSignal => exact direct_st acc (by simp only [cmdPipSignal, op, good, no, Bool.not_true, Bool.false_eq_true, if_false])
  case noRead => exact direct_st acc (by simp only [cmdPipRead, no])
  case read => exact direct_ok acc (by simp only [cmdPipRead, able])
  case noWait => exact direct_takes_st (takes_of_acceptsAsync acc) (by simp only [cmdPipWait, no]) (pipAccess_ne_ok no)
  case wait =>
    have own : cmdPipWait.own c s = .waitThen s (.pip (c.f 8 4)) [] (fun t => t.pipWait
        { pip := c.f 8 4, eq := c.f 12 1 == 4, x := BitVec.ofNat 32 (c.f 16 4), by_ := .command c.mbx c.seq (if c.f 20 4 = 0 then none else some (s.clock + c.f 20 4)) }) := by
      simp only [cmdPipWait, able]
    exact (direct_waitThen acc own :)
  case plan => simp [State.pipAccess, kind]
  case general =>
    rw [State.pipAccess, kind]
    exact if_congr (by simp [Option.any_eq_true]) rfl rfl
  case stage => simp [State.pipAccess, kind]

end Sys2Proof.Machine

/-!
Proof of `PipEvents` (09): releases, signals, waits and doorbells at the pip store.
-/
namespace Sys2Proof.Machine
open Sys2Proof
set_option Elab.async false

/-! ### When a waiter is released (R275) -/

theorem waitResult_of_error {w : Waiter} {x : Pip} (err : x.err ≠ 0) : waitResult w x = some x.err.toNat := if_pos err

theorem waitResult_of_eq {w : Waiter} {x : Pip} (good : x.err = 0) (eq : w.eq = true) :
    waitResult w x = if x.value = w.x then some 0 else none := by
  simp [waitResult, good, eq]

theorem waitResult_of_ge {w : Waiter} {x : Pip} (good : x.err = 0) (ge : w.eq = false) :
    waitResult w x = if (x.value.toNat + 2 ^ 32 - w.x.toNat) % 2 ^ 32 < 2 ^ 31 then some 0 else none := by
  have ahead : (x.value - w.x).toNat = (x.value.toNat + 2 ^ 32 - w.x.toNat) % 2 ^ 32 := by
    have := w.x.isLt
    rw [BitVec.toNat_sub]
    omega
  rw [waitResult, if_neg (by simp [good]), ge, ← ahead]
  simp

/-! ### Unfresh signals and waits, and items cut (R277, R291) -/

theorem settleCut_of_none {s : State} (none : s.sched.cut = []) : s.settleCut = s := by
  rw [State.settleCut]
  dsimp only
  rw [none, List.foldl_nil, ← none]

theorem pipFresh_unit {s : State} {u : Nat} {e : BitVec 8} : s.pipFresh (.unit u e) = true ↔ (s.gateN u).epoch = e := by
  simp [State.pipFresh]

/-- A signal under the unit's present epoch reaches the store. -/
theorem exec_pipSignal {b : PipBy} {p op : Nat} {o : PipOp} {v : U32} {err : Option EccErr} {s : State} (live : s.live = true)
    (named : pipOpOf op = some o) (fresh : s.pipFresh b = true) (signal : o.signal = true) (inside : p < 131072) :
    exec (.pipSignalApply b p op v err) s
      = .next (if (s.pipMeet p err).2 then (s.pipMeet p err).1.pipApply p o v else (s.pipMeet p err).1).settleCut := by
  change execPipSignalApply b p op v err s = _
  rw [execPipSignalApply, whenLive_of_live live, if_neg (by simp [fresh]), named]
  exact congrArg Host.Outcome.next (if_neg (by simp [signal, inside]))

/-- A wait under the unit's present epoch, of no plan step. -/
theorem exec_pipWait {w : WaitReq} {s : State} (live : s.live = true) (inside : w.waiter.pip < 131072) (fresh : s.pipFresh w.by_ = true)
    (item : w.item = none) (err : w.err = none) : exec (.pipWaitRegister w) s = .next (s.pipWait w.waiter).settleCut := by
  change execPipWaitRegister w s = _
  rw [execPipWaitRegister, whenLive_of_live live, if_neg (by simp [fresh]), if_neg (Nat.not_le.mpr inside), item, err]
  cases w.waiter.by_ <;> rfl

theorem pipWait_of_allocated {s : State} {w : Waiter} (there : s.pipAllocated w.pip = true) : s.pipWait w
    = match waitResult w (s.pipGet w.pip) with
      | some c => s.releaseNow w c (s.pipGet w.pip).value
      | none => s.watchEnter w := by
  rw [State.pipWait, if_neg (by simp [there])] <;> rfl

theorem watchEnter_of_room {s : State} {w : Waiter} (room : s.pip.watch.length < 16384) : ∃ x : PipStore, s.watchEnter w = { s with pip := x }
    ∧ x.watch = s.pip.watch ++ [w] ∧ x.overflow = s.pip.overflow ∧ x.pips = s.pip.pips := by
  rw [State.watchEnter, if_pos room]
  exact ⟨_, rfl, rfl, rfl, rfl⟩

theorem watchEnter_of_full {s : State} {w : Waiter} (full : 16384 ≤ s.pip.watch.length) :
    s.watchEnter w = { s with pip := { s.pip with overflow := s.pip.overflow ++ [w], watchFull := satInc s.pip.watchFull } } :=
  if_neg (Nat.not_lt.mpr full)

/-! ### An uncorrectable entry (R292) -/

theorem watchFill_eccUe (s : State) : s.watchFill.pip.eccUe = s.pip.eccUe := by
  unfold State.watchFill
  dsimp only
  split <;> rfl

/-- A pip that nobody waits on: nothing is released, and the store's table is filled up. -/
theorem releaseRange_of_quiet {s : State} {p : Nat} {st : Status} (quiet : ∀ w ∈ s.pip.watch ++ s.pip.overflow, w.pip ≠ p) :
    s.releaseRange p 1 st = s.watchFill := by
  have misses : ∀ w ∈ s.pip.watch ++ s.pip.overflow, (decide (p ≤ w.pip) && decide (w.pip < p + 1)) = false := fun w mem => by
    have := quiet w mem
    simp only [Bool.and_eq_false_iff, decide_eq_false_iff_not]
    omega
  have none : ∀ l : List Waiter, (∀ w ∈ l, w ∈ s.pip.watch ++ s.pip.overflow) →
      l.filter (fun w => decide (p ≤ w.pip) && decide (w.pip < p + 1)) = []
      ∧ l.filter (fun w => !(decide (p ≤ w.pip) && decide (w.pip < p + 1))) = l := fun l sub =>
    ⟨List.filter_eq_nil_iff.mpr fun w mem => by rw [misses w (sub w mem)]; decide,
      List.filter_eq_self.mpr fun w mem => by rw [misses w (sub w mem)]; rfl⟩
  obtain ⟨watch, stays⟩ := none s.pip.watch fun w mem => List.mem_append_left _ mem
  obtain ⟨held, remains⟩ := none s.pip.overflow fun w mem => List.mem_append_right _ mem
  rw [State.releaseRange]
  dsimp only
  rw [watch, stays, held, remains]
  rfl

theorem pipUncorrectable_spec {s : State} {p : Nat} (quiet : ∀ w ∈ s.pip.watch ++ s.pip.overflow, w.pip ≠ p) :
    (s.pipUncorrectable p).pipGet p = { value := 0, err := BitVec.ofNat 16 Status.internal.code }
    ∧ (s.pipUncorrectable p).pip.eccUe = satInc s.pip.eccUe := by
  let t : State := s.pipSet p { value := 0, err := BitVec.ofNat 16 Status.internal.code }
  let u : State := { t with pip := { t.pip with eccUe := satInc t.pip.eccUe } }
  have filled : u.releaseRange p 1 .internal = u.watchFill := releaseRange_of_quiet quiet
  have value : (s.pipUncorrectable p).pipGet p = (u.releaseRange p 1 .internal).pipGet p := rfl
  have count : (s.pipUncorrectable p).pip.eccUe = (u.releaseRange p 1 .internal).pip.eccUe := rfl
  rw [value, count, filled]
  exact ⟨(pipGet_watchFill u p).trans (pipGet_pipSet_same s p { value := 0, err := BitVec.ofNat 16 Status.internal.code }), watchFill_eccUe u⟩

/-! ### Held waiters (R288) -/

theorem pipPoll_of_one {s : State} {w : Waiter} (one : s.pip.overflow = [w]) : s.pipPoll = match waitResult w (s.pipGet w.pip) with
    | some c => ({ s with pip := { s.pip with overflow := [] } } : State).releaseNow w c (s.pipGet w.pip).value
    | none => if s.pip.watch.length < 16384 then ({ s with pip := { s.pip with overflow := [] } } : State).watchEnter w else s := by
  rw [State.pipPoll]
  dsimp only
  simp only [one, List.foldl_cons, List.foldl_nil, List.erase_cons_head] <;> rfl

/-! ### Doorbells (R118, R279) -/

theorem exec_doorbell {off : Nat} {bytes : List Byte} {s : State} (live : s.live = true) (d0 : s.host.pcie.dstate = .d0)
    (awake : s.sup.power ≠ .standby) (len : bytes.length = 8) (aligned : off % 8 = 0) :
    exec (.bar4DoorbellWrite off bytes false) s = .next (s.doorbell (off / 8) (leAt bytes 0 8)) := by
  have up : s.barUp = true := by simp [State.barUp, live, d0]
  change execBar4DoorbellWrite off bytes false s = _
  rw [execBar4DoorbellWrite, if_neg (by decide), if_neg (by simp [up, awake]), if_neg (by simp [len, aligned]), len]
  rfl

/-- Settles O10: the release rule, signals and waits by freshness, held waiters, timeouts and doorbells. -/
theorem pipEvents : Obligations.PipEvents := by
  refine ⟨fun w x => ⟨waitResult_of_error, fun good eq => ?equal, fun good ge => ?atLeast⟩,
    fun b p op o v s live named => ⟨fun fresh signal inside => ⟨?signal, ?corrected, ?lost⟩, fun u e err stale old => ?staleSignal,
      fun u e unit => unit ▸ pipFresh_unit, rfl⟩,
    fun p s quiet => pipUncorrectable_spec quiet,
    fun w s live inside => ⟨fun u e stale old => ?staleWait, fun fresh item err cut there => ⟨fun waits room => ?enters, fun waits full => ?held, fun code hit => ?released⟩,
      fun fresh item err gone => ?unallocated⟩,
    fun s none => settleCut_of_none none, fun s live => whenLive_of_live live _,
    fun s w one => ⟨fun code hit => ?pollHit, fun waits => ⟨fun room => ?pollEnters, fun full => ?pollStays⟩⟩,
    fun m q w s live found => ?timeout, fun off bytes s live d0 awake len aligned => ⟨fun o inside reserved named signal operand opened => ?rings,
      fun shut => ?closed, fun reserved => ?reserved, ?count, ?flag⟩⟩
  case equal =>
    rw [waitResult_of_eq good eq]
    simp
  case atLeast =>
    rw [waitResult_of_ge good ge]
    constructor
    · simp
    · simp
  case signal => rw [exec_pipSignal live named fresh signal inside]; rfl
  case corrected => rw [exec_pipSignal live named fresh signal inside]; rfl
  case lost => rw [exec_pipSignal live named fresh signal inside]; rfl
  case staleSignal =>
    subst stale
    have notFresh : s.pipFresh (.unit u e) = false := by simpa [State.pipFresh] using old
    change execPipSignalApply (.unit u e) p op v err s = _
    rw [execPipSignalApply, whenLive_of_live live, if_pos (by simp [notFresh])]
    rfl
  case staleWait =>
    have notFresh : s.pipFresh w.by_ = false := by simpa [stale, State.pipFresh] using old
    change execPipWaitRegister w s = _
    rw [execPipWaitRegister, whenLive_of_live live, if_pos (by simp [notFresh]), stale]
    rfl
  case enters =>
    obtain ⟨x, eq, watch, held, pips⟩ := watchEnter_of_room (w := w.waiter) room
    refine ⟨_, exec_pipWait live inside fresh item err, ?_⟩
    rw [pipWait_of_allocated there, waits]
    dsimp only
    rw [eq, settleCut_of_none (s := { s with pip := x }) cut]
    exact ⟨watch, held, pips, rfl⟩
  case held =>
    rw [exec_pipWait live inside fresh item err, pipWait_of_allocated there, waits]
    dsimp only
    rw [watchEnter_of_full full]
    exact congrArg Host.Outcome.next (settleCut_of_none cut)
  case released => rw [exec_pipWait live inside fresh item err, pipWait_of_allocated there, hit]
  case unallocated =>
    rw [exec_pipWait live inside fresh item err, State.pipWait, if_pos (by simp [gone])]
  case pollHit => rw [pipPoll_of_one one, hit]
  case pollEnters =>
    rw [pipPoll_of_one one, waits]
    exact if_pos room
  case pollStays =>
    rw [pipPoll_of_one one, waits]
    exact if_neg (Nat.not_lt.mpr full)
  case timeout =>
    have mem : s.pip.watch.contains w = true := List.contains_iff_mem.mpr (List.mem_of_find?_eq_some found)
    have first : (s.pip.watch ++ s.pip.overflow).find? (fun w => w.ofCommand m q && w.expired s.clock) = some w := by
      rw [List.find?_append, found]
      rfl
    change execPipWaitTimeout m q s = _
    rw [execPipWaitTimeout, whenLive_of_live live]
    dsimp only
    rw [first]
    dsimp only
    rw [if_pos mem]
  case rings =>
    rw [exec_doorbell live d0 awake len aligned, State.doorbell, if_neg (by simp [reserved, inside]), named]
    exact congrArg Host.Outcome.next (if_pos (by simp [signal, operand, opened]))
  case closed =>
    rw [exec_doorbell live d0 awake len aligned, State.doorbell]
    refine congrArg Host.Outcome.next ?_
    split
    · rfl
    · split
      · rfl
      · exact if_neg (by simp [shut])
  case reserved =>
    rw [exec_doorbell live d0 awake len aligned, State.doorbell, if_pos (by simp [reserved])]
  case count =>
    obtain ⟨h, o, eq, int, -⟩ := raising_updInt s (fun i => { i with dbDrop := true, dbDropCount := satInc i.dbDropCount })
    rw [State.doorbellDrop, eq]
    exact congrArg IntBlk.dbDropCount int
  case flag =>
    obtain ⟨h, o, eq, int, -⟩ := raising_updInt s (fun i => { i with dbDrop := true, dbDropCount := satInc i.dbDropCount })
    rw [State.doorbellDrop, eq]
    exact congrArg IntBlk.dbDrop int

end Sys2Proof.Machine

/-!
Proofs of `PoolCommands` and `PoolEvents` (05, 08).
-/
namespace Sys2Proof.Machine
open Sys2Proof
set_option Elab.async false

/-! ### A new pool (R167) -/

theorem poolN_foldl {α : Type} {f : State → α → State} (keeps : ∀ s a, (f s a).bpm = s.bpm) (l : List α) (s : State) (n : Nat) :
    (l.foldl f s).poolN n = s.poolN n :=
  poolN_congr (congrArg Bpm.pool (foldl_bpm keeps l s)) n

theorem poolN_pickTable (s : State) (n m : Nat) : (s.pickTable n).2.poolN m = s.poolN m := by
  rw [State.pickTable]
  split <;> rfl

/-- A pool whose buffers are all free, with its levels and statistics cleared. -/
def Pool.emptied (p : Pool) (now : Nat) : Pool :=
  { p with
    windowEnd := now + 1000, free := p.count, minFree := p.count, ringHead := 0, ringTail := 0, listHead := 0, listEmpty := !p.list
    cache := [], bufs := [], rate := 0, fails := 0, grants := 0, rebuild := false, atBuoy1 := false, pauseB := false, pauseQ := false
    atBuoy3 := false, waiting := [] }

theorem poolN_poolFill (s : State) {n : Nat} (h : n < 16) : (s.poolFill n).poolN n = (s.poolN n).emptied s.clock := by
  have emptied : ∀ t : State, t = s.updPoolN n (fun p => p.emptied s.clock) → t.poolN n = (s.poolN n).emptied s.clock := by
    rintro t rfl
    exact poolN_updPoolN_same s h _
  rw [State.poolFill]
  split
  · rw [poolN_foldl (fun s i => memPut_bpm s _ _)]
    exact emptied _ rfl
  · rw [poolN_memPut]
    exact emptied _ rfl

/-- The pool of POOL_CREATE's fields. -/
def Pool.ofCmd (p : Pool) (c : HostCmd) (base va ring table : Nat) : Pool :=
  { p with
    en := true, list := c.f 9 1 == 1, chain := c.f 10 1 == 1, fallback := bitOf (c.f 12 1) 0, adapt := bitOf (c.f 12 1) 1,
    next := if c.f 11 1 = 255 then none else some (BitVec.ofNat 4 (c.f 11 1)), ctx := BitVec.ofNat 6 c.ctxN
    bufBytes := BitVec.ofNat 25 (c.f 16 4), count := BitVec.ofNat 21 (c.f 20 4), base := BitVec.ofNat 48 base, va := va
    ring := BitVec.ofNat 48 ring, stateAddr := BitVec.ofNat 48 table
    buoy1 := BitVec.ofNat 21 (c.f 40 4), buoy2 := BitVec.ofNat 21 (c.f 44 4), buoy3 := BitVec.ofNat 21 (c.f 48 4)
    inFs := bitOf (c.f 12 1) 2 }

theorem poolN_poolMake (s : State) (c : HostCmd) (base va ring : Nat) (h : c.f 8 1 < 16) :
    ∃ now table, (s.poolMake c base va ring).poolN (c.f 8 1)
      = (let p := ((s.poolN (c.f 8 1)).ofCmd c base va ring table).emptied now
         { p with b2 := p.b2Of }) := by
  refine ⟨(s.pickTable (2 * c.f 20 4)).2.clock, (s.pickTable (2 * c.f 20 4)).1, ?_⟩
  have made : s.poolMake c base va ring = (((s.pickTable (2 * c.f 20 4)).2.updPoolN (c.f 8 1)
      (fun p => p.ofCmd c base va ring (s.pickTable (2 * c.f 20 4)).1)).poolFill (c.f 8 1)).updPoolN (c.f 8 1) (fun p => { p with b2 := p.b2Of }) := rfl
  have clock : ((s.pickTable (2 * c.f 20 4)).2.updPoolN (c.f 8 1) (fun p => p.ofCmd c base va ring (s.pickTable (2 * c.f 20 4)).1)).clock
      = (s.pickTable (2 * c.f 20 4)).2.clock := by
    rw [State.updPoolN, dif_pos h]
    rfl
  rw [made, poolN_updPoolN_same _ h, poolN_poolFill _ h, poolN_updPoolN_same _ h, poolN_pickTable, clock]

theorem poolIn_poolN {s : State} {x n : Nat} {p : Pool} (there : s.poolIn x n = some p) : n < 16 ∧ s.poolN n = p := by
  rw [State.poolIn] at there
  split at there
  next q at_ =>
    have lt : n < 16 := by
      have := (List.getElem?_eq_some_iff.mp at_).1
      simpa using this
    refine ⟨lt, ?_⟩
    rw [State.poolN, List.getD_eq_getElem?_getD, at_]
    split at there
    · exact Option.some.inj there
    · cases there
  next => cases there

/-! ### A pool given up (R168) -/

theorem poolDrop_of_quiet {s : State} {n : Nat} (quiet : (s.poolN n).waiting = []) : ∃ x : FeatStore,
    s.poolDrop n = ({ s with str := { s.str with fs := x } } : State).updPoolN n 
      (fun p => { p with en := false, waiting := [], cache := [], bufs := [], rebuild := false }) := by
  rw [State.poolDrop]
  dsimp only
  rw [quiet]
  cases (s.poolN n).inFs
  · exact ⟨_, rfl⟩
  · exact ⟨_, rfl⟩

/-- POOL_ALLOC of a request that passes its checks decides at once or waits (R168). -/
theorem poolAlloc_own {c : HostCmd} {s : State} {p : Pool} (there : s.poolIn c.ctxN (c.f 8 1) = some p) (ok : p.chain = true ∨ c.f 12 4 = 0)
    (class_ : (s.ctxN c.ctxN).maxClass.code ≤ ((Cls.ofNat? (c.f 9 1)).getD .b).code) :
    cmdPoolAlloc.own c s = match s.bufNow (c.f 8 1) (c.f 12 4) ((Cls.ofNat? (c.f 9 1)).getD .b) 16 (.command c.mbx c.seq) with
      | (t, some (.grant _ h)) => .ok t (leBytes 4 h.toNat ++ zeros 4 ++ leBytes 8 (t.bufVa h))
      | (t, some _) => .st t .poolEmpty
      | (t, none) => .wait t (.poolAlloc (c.f 8 1)) := by
  obtain ⟨lt, eq⟩ := poolIn_poolN there
  refine (if_neg (by simp [there])).trans ((if_neg ?_).trans ((if_neg (Nat.not_lt.mpr class_)).trans rfl))
  rcases ok with chain | zero
  · simp [eq, chain]
  · simp [zero]

/-- Settles O12: each command by its checks in order; a new pool by `poolN_poolMake`. -/
theorem poolCommands : Obligations.PoolCommands := by
  refine ⟨fun c s acc => ⟨fun bad => ?fields, fun ok dead => ?noCtx, fun ok live used => ?used, fun r q ok live free dram region ring => ?made,
      fun ok live free dram none => ?noRegion, fun g ok live free fs fit => ?inFs, fun ok live free fs full => ?fsFull⟩,
    fun c s base va ring lt => ?pool, fun c s none => ⟨fun acc => ?destroyNone, fun acc => ?allocNone, fun acc => ?queryNone, fun acc => ?buoysNone⟩,
    fun c s p acc there => ⟨fun busy => ?destroyBusy, fun free unnamed => ?destroyed⟩,
    fun c s p acc there => ⟨fun plain bytes => ?bytes, fun ok above => ?denied, fun t o ok class_ now => ⟨fun u h eq => ?granted, fun u eq => ?empty, fun eq => ?waits⟩⟩,
    fun c s acc => ⟨fun pass => ?freed, fun e fail => ?notFreed⟩, fun c s p acc there => ?query,
    fun c s p acc there => ⟨fun one two three => ?buoys, fun bad => ?badBuoys⟩⟩
  case fields => exact direct_st acc (if_pos (by simp [bad]))
  case noCtx => exact direct_st acc (by simp only [cmdPoolCreate, ok, dead, Bool.not_true, Bool.not_false, Bool.false_eq_true, if_true, if_false])
  case used => exact direct_st acc (by simp only [cmdPoolCreate, ok, live, used, Bool.not_true, Bool.false_eq_true, if_true, if_false])
  case made => exact direct_ok acc (by simp only [cmdPoolCreate, ok, live, free, dram, region, ring, Bool.not_true, Bool.false_eq_true, if_false])
  case noRegion =>
    refine direct_st acc ?_
    simp only [cmdPoolCreate, ok, live, free, dram, Bool.not_true, Bool.false_eq_true, if_false]
    split
    next r q region ring => simp [region, ring] at none
    next => rfl
  case inFs => exact direct_ok acc (by simp only [cmdPoolCreate, ok, live, free, fs, granule, fit, fsBase, Bool.not_true, Bool.false_eq_true, if_true, if_false])
  case fsFull => exact direct_st acc (by simp only [cmdPoolCreate, ok, live, free, fs, granule, full, Bool.not_true, Bool.false_eq_true, if_true, if_false])
  case pool =>
    obtain ⟨now, table, eq⟩ := poolN_poolMake s c base va ring lt
    intro p
    have eq' : p = _ := eq
    rw [eq']
    exact ⟨rfl, rfl, rfl, rfl, rfl, rfl, rfl, rfl, rfl, rfl, rfl, rfl, rfl, rfl, rfl, rfl, rfl, rfl, rfl, rfl, rfl, fun i => rfl⟩
  case destroyNone => exact direct_st acc (by simp only [cmdPoolDestroy, none])
  case allocNone => exact direct_st acc (by simp only [cmdPoolAlloc, none, Option.isNone_none, if_true])
  case queryNone => exact direct_st acc (by simp only [cmdPoolQuery, none])
  case buoysNone => exact direct_st acc (by simp only [cmdPoolBuoys, none])
  case destroyBusy =>
    refine direct_st acc ?_
    simp only [cmdPoolDestroy, there]
    exact if_pos (by simpa using busy)
  case destroyed =>
    have own : cmdPoolDestroy.own c s = .ok (s.poolDrop (c.f 8 1)) [] := by
      simp only [cmdPoolDestroy, there]
      exact if_neg (by simp [unnamed, Nat.not_lt.mpr free])
    obtain ⟨en, eq⟩ := poolIn_poolN there
    refine ⟨_, direct_ok acc own, rfl, fun quiet => ?_⟩
    obtain ⟨x, dropped⟩ := poolDrop_of_quiet (s := s) (n := c.f 8 1) (by rw [eq, quiet])
    rw [dropped]
    refine ⟨?_, fun n ne => ?_⟩
    · rw [poolN_updPoolN_same _ en]
    · exact poolN_updPoolN_other _ ne _
  case bytes => 
    obtain ⟨en, eq⟩ := poolIn_poolN there
    exact direct_st acc (by simp [cmdPoolAlloc, there, eq, plain, bytes])
  case denied =>
    obtain ⟨en, eq⟩ := poolIn_poolN there
    refine direct_st acc ?_
    simp only [cmdPoolAlloc, there, eq, Option.isNone_some, Bool.false_eq_true, if_false]
    rw [if_neg (by rcases ok with h | h <;> simp [h]), if_pos above]
  case granted =>
    refine direct_ok acc ?_
    rw [poolAlloc_own there ok class_, now, eq]
  case empty =>
    refine direct_st acc ?_
    rw [poolAlloc_own there ok class_, now, eq]
  case waits =>
    refine direct_wait acc ?_
    rw [poolAlloc_own there ok class_, now, eq]
  case freed => exact direct_ok acc (by simp only [cmdPoolFree, pass])
  case notFreed => exact direct_st acc (by simp only [cmdPoolFree, fail])
  case query => exact direct_ok acc (by simp only [cmdPoolQuery, there]; rfl)
  case buoys =>
    refine direct_ok acc ?_
    simp only [cmdPoolBuoys, there]
    exact if_neg (by simp [buoysOk, one, two, three])
  case badBuoys =>
    refine direct_st acc ?_
    simp only [cmdPoolBuoys, there]
    refine if_pos ?_
    simp only [buoysOk, Bool.not_eq_true', Bool.and_eq_false_iff, decide_eq_false_iff_not]
    omega

end Sys2Proof.Machine

/-!
Proof of `PoolEvents` (08).
-/
namespace Sys2Proof.Machine
open Sys2Proof
set_option Elab.async false

/-! ### The sequencer's operations (R249, R253, R267) -/

theorem updPool_congr {s : State} {p : Fin 16} {f g : Pool → Pool} (eq : f s.bpm.pool[p] = g s.bpm.pool[p]) :
    s.updPool p f = s.updPool p g := by
  rw [State.updPool, State.updPool, updAt_congr eq]

theorem updPoolN_congr {s : State} {n : Nat} {f g : Pool → Pool} (eq : f (s.poolN n) = g (s.poolN n)) :
    s.updPoolN n f = s.updPoolN n g := by
  unfold State.updPoolN
  split
  next h => exact updPool_congr (by simpa [poolN_val s ⟨n, h⟩] using eq)
  next => rfl

/-- A lone request above Buoy-3 of a pool with a buffer to take is granted it (R253). -/
theorem allocDecide_of_lone {s : State} {n : Nat} {r : BufReq} {h : U32} {t : State} (whole : (s.poolN n).rebuild = false)
    (lone : (s.poolN n).waiting = [r]) (open_ : r.reserve = none) (above : (s.poolN n).buoy3.toNat < (s.poolN n).free.toNat)
    (taken : (s.updPoolN n (fun x => { x with waiting := [], rr := BitVec.ofNat 5 ((r.port + 1) % 17) })).poolTake n
      (match r.use with | .command _ _ => true | _ => false) = (some h, t)) :
    s.allocDecide n = (t.poolLevels n, .grant r.use h) := by
  have wins : (s.poolN n).winner = some r := by
    rw [Pool.winner, lone]
    rfl
  have erased : s.updPoolN n (fun p => { p with waiting := p.waiting.erase r, rr := BitVec.ofNat 5 ((r.port + 1) % 17) })
      = s.updPoolN n (fun x => { x with waiting := [], rr := BitVec.ofNat 5 ((r.port + 1) % 17) }) :=
    updPoolN_congr (by rw [lone, List.erase_cons_head])
  rw [State.allocDecide]
  dsimp only
  rw [if_neg (by simp [whole]), wins]
  dsimp only
  rw [erased, open_]
  dsimp only
  rw [if_pos above]
  cases use : r.use <;>
    · rw [use] at taken
      dsimp only at taken ⊢
      rw [taken]

/-- A spill takes its handles from the front of the cache (R249). -/
theorem poolSpill_cache (s : State) {n : Nat} (h : n < 16) (k : Nat) : ((s.poolSpill n k).poolN n).cache = (s.poolN n).cache.drop k := by
  induction k generalizing s with
  | zero => rfl
  | succ k ih =>
    simp only [State.poolSpill]
    split
    next nil => rw [nil, List.drop_nil]
    next a hs eq => rw [ih, poolN_updPoolN_same _ h, eq, List.drop_succ_cons]

/-- A rebuild leaves as free what the state table says (R267). -/
theorem poolRebuild_spec (s : State) {n : Nat} (h : n < 16) :
    ((s.poolRebuild n).poolN n).rebuild = false ∧ ((s.poolRebuild n).poolN n).free
      = BitVec.ofNat 21 ((List.range (s.poolN n).count.toNat).filter (fun i => !((s.poolN n).buf i).alloc)).length := by
  rw [State.poolRebuild]
  dsimp only
  split
  · rw [poolN_updPoolN_same _ h, poolN_foldl (fun s _ => memPut_bpm s _ _), poolN_updPoolN_same _ h]
    exact ⟨rfl, rfl⟩
  · rw [poolN_updPoolN_same _ h, poolN_memPut, poolN_updPoolN_same _ h]
    exact ⟨rfl, rfl⟩

/-- An adaptive pool at the end of its window: RATE follows the grants, B2 follows RATE (R263). -/
def Pool.windowed (p : Pool) : Pool :=
  let q : Pool := { p with
    rate := BitVec.ofNat 20 (min 0xFFFFF (Int.toNat (p.rate.toNat + ((16 * p.grants : Int) - p.rate.toNat).fdiv 8)))
    grants := 0, windowEnd := p.windowEnd + 1000 }
  { q with b2 := q.b2Of }

/-- Settles O13: the decision by `allocDecide_of_lone`, the cache by `poolSpill_cache`, the rebuild by `poolRebuild_spec`. -/
theorem poolEvents : Obligations.PoolEvents := by
  refine ⟨fun p s live => ⟨?decides, fun rebuild => ?rebuilding, fun r h t whole lone open_ above taken => ?grants⟩,
    fun u e h ctx s live => ⟨fun old => ?stale, fun fresh => ?freed⟩,
    fun p s live en ring whole => ⟨fun few => ?refill, fun enough => ?full, fun many => ⟨?spill, ?spilled⟩, fun few => ?kept⟩,
    fun p s live rebuild => ⟨?rebuilt, ?whole⟩,
    fun p s live en due => ⟨fun adapt => ?adapts, fun fixed => ?counts⟩⟩
  case decides =>
    change execBpmAllocDecision p s = _
    exact whenLive_of_live live _
  case rebuilding => exact if_pos (by rw [poolN_val, rebuild])
  case grants =>
    rw [← poolN_val] at whole lone above
    exact allocDecide_of_lone whole lone open_ above taken
  case stale =>
    change execBpmFree u e { handle := h, ctx := ctx } s = _
    rw [execBpmFree, whenLive_of_live live]
    exact congrArg Host.Outcome.next (if_pos (by simp [old]))
  case freed =>
    change execBpmFree u e { handle := h, ctx := ctx } s = _
    rw [execBpmFree, whenLive_of_live live]
    exact congrArg Host.Outcome.next (if_neg (by simp [fresh]))
  case refill => exact (whenLive_of_live live _).trans (congrArg Host.Outcome.next (if_pos (by simp [-Fin.getElem_fin, en, ring, whole, few])))
  case full =>
    change execBpmCacheRefill p s = _
    rw [execBpmCacheRefill, whenLive_of_live live]
    exact congrArg Host.Outcome.next (if_neg (by simp [-Fin.getElem_fin, enough]))
  case spill => exact (whenLive_of_live live _).trans (congrArg Host.Outcome.next (if_pos (by simp [-Fin.getElem_fin, en, ring, whole, many])))
  case spilled => rw [poolSpill_cache s p.isLt, poolN_val]
  case kept =>
    change execBpmCacheSpill p s = _
    rw [execBpmCacheSpill, whenLive_of_live live]
    exact congrArg Host.Outcome.next (if_neg (by simp [-Fin.getElem_fin, few]))
  case rebuilt => exact (whenLive_of_live live _).trans (congrArg Host.Outcome.next (if_pos rebuild))
  case whole => simpa only [poolN_val] using poolRebuild_spec s p.isLt
  case adapts =>
    refine ⟨s.bpm.pool[p].windowed, ?_, rfl, rfl⟩
    change execAdaptiveWindowEnd p s = _
    rw [execAdaptiveWindowEnd, whenLive_of_live live]
    exact congrArg Host.Outcome.next ((if_pos (by simp [-Fin.getElem_fin, en, due])).trans ((if_neg (by simp [-Fin.getElem_fin, adapt])).trans
      (congrArg (fun t : State => t.poolLevels p.val) (updPool_congr rfl))))
  case counts =>
    exact (whenLive_of_live live _).trans (congrArg Host.Outcome.next ((if_pos (by simp [-Fin.getElem_fin, en, due])).trans
      (if_pos (by simp [-Fin.getElem_fin, fixed]))))

end Sys2Proof.Machine

/-!
Proof of `DramEvents` (07).
-/
namespace Sys2Proof.Machine
open Sys2Proof
set_option Elab.async false

/-! ### A controller's requests (R224 to R227) -/

theorem dmcOn_of_up {s : State} {n : Fin 4} (up : s.dmcUp n = true) : s.dmcOn n = true := by
  simp only [State.dmcUp, Bool.and_eq_true] at up
  exact up.1.1

/-- A read of an accepting controller under its requester's hint. -/
theorem exec_dmcRead {n : Fin 4} {line : Nat} {m : BitVec 64} {q : Requester} {h : Hint} {s u : State} (up : s.dmcUp n = true) (asked : m ≠ 0)
    (hint : s.hintOf q = (h, u)) : exec (.dmcReadRequest n line m q) s = .next (if u.mem.dmc[n].strict then
        (u.issueWrites n (fun e => u.bankRow (64 * e.line) == u.bankRow (64 * line))).dramRead n line m h
      else match u.mem.dmc[n].wq.find? (fun e => e.line == line) with
        | some e => if m &&& ~~~ e.mask = 0 then u.dmcAnswer n line m else (u.issueWrite n e).dramRead n line m h
        | none => u.dramRead n line m h) := by
  change execDmcReadRequest n line m q s = _
  rw [execDmcReadRequest]
  refine congrArg Host.Outcome.next ((if_neg (by simpa [up] using asked)).trans ?_)
  rw [hint] <;> rfl

/-- The state after a line of a write is stored and queued. -/
def State.stored (s : State) (n : Fin 4) (line a : Nat) (m : BitVec 64) (bs : List Byte) (h : Hint) : State :=
  let t := (s.eccTouch n line true).memWrite a (mergeLine ((s.eccTouch n line true).memRead a 64) bs m)
  (t.updDmc n (fun d => { d with wq := enqueueWrite d.wq line m h })).drain n

/-- A write of an accepting controller under its requester's hint. -/
theorem exec_dmcWrite {n : Fin 4} {line a : Nat} {m : BitVec 64} {bs : List Byte} {q : Requester} {h : Hint} {s u : State}
    (up : s.dmcUp n = true) (asked : m ≠ 0) (hint : s.hintOf q = (h, u)) (addr : s.deviceAddr n.val (64 * line) = some a) :
    exec (.dmcWriteRequest n line m bs q) s = .next
      (if (!(m == BitVec.allOnes 64) && (u.eccOf n line).any (fun e => e.2 == .uncorrectable)) = true then u.lineRead n line
       else (if m == BitVec.allOnes 64 then u else u.lineRead n line).stored n line a m bs h) := by
  change execDmcWriteRequest n line m bs q s = _
  rw [execDmcWriteRequest]
  refine congrArg Host.Outcome.next ((if_neg (by simpa [up] using asked)).trans ?_)
  rw [addr]
  dsimp only
  rw [hint] <;> rfl

theorem lineRead_of_clean {s : State} {n : Fin 4} {line : Nat} (clean : s.eccOf n line = none) : s.lineRead n line = s := by
  rw [State.lineRead, clean]

theorem lineRead_of_error {s : State} {n : Fin 4} {line k : Nat} {e : EccErr} (met : s.eccOf n line = some (k, e)) :
    s.lineRead n line = s.lineMet k e := by
  rw [State.lineRead, met]

/-! ### Controller fields -/

theorem updDmc_get (s : State) (n : Fin 4) (f : Dmc → Dmc) : (s.updDmc n f).mem.dmc[n] = f s.mem.dmc[n] := updAt_get_self _ _ _

theorem updDmc_updDmc (s : State) (n : Fin 4) (f g : Dmc → Dmc) : (s.updDmc n f).updDmc n g = s.updDmc n (fun d => g (f d)) := by
  have twice : updAt (updAt s.mem.dmc n f) n g = updAt s.mem.dmc n (fun d => g (f d)) := by
    simp [updAt]
  simp only [State.updDmc, twice]

/-- A refresh changes the open rows alone. -/
theorem refreshes_dmc (s : State) (n : Fin 4) (k : Nat) : ∃ r, (s.refreshes n k).mem.dmc[n] = { s.mem.dmc[n] with rows := r } := by
  induction k generalizing s with
  | zero => exact ⟨_, rfl⟩
  | succ k ih =>
    obtain ⟨r, eq⟩ := ih (s.refreshOne n)
    refine ⟨r, eq.trans ?_⟩
    rw [State.refreshOne]
    dsimp only
    rw [updDmc_get] <;> rfl

theorem fasterRefresh_mr4 (s : State) (n : Fin 4) :
    (s.fasterRefresh n).mem.dmc[n].mr4Code = s.mem.dmc[n].mr4Code ∧ (s.fasterRefresh n).mem.dmc[n].mr4Fails = s.mem.dmc[n].mr4Fails := by
  obtain ⟨r, eq⟩ := refreshes_dmc s n (s.mem.dmc[n].postponed - 2)
  rw [State.fasterRefresh]
  rw [updDmc_get, eq]
  exact ⟨rfl, rfl⟩

/-! ### MR4 (R230, R231) -/

/-- An MR4 read that gave a code, at its due time. -/
theorem exec_mr4_code {n : Fin 4} {s u : State} {code : BitVec 5} (on : s.dmcOn n = true) (due : s.mem.dmc[n].mr4Due ≤ s.clock)
    (eq : u = s.updDmc n (fun d => { d with mr4Due := d.mr4Due + 16000, wakeMr4 := false })) :
    exec (.mr4Poll n (some code) .x2) s = .next ((u.updDmc n (fun d => { d with mr4Code := code, mr4Fails := 0 })).fasterRefresh n)
    ∧ exec (.mr4Poll n (some code) .over) s = .next ((u.updDmc n (fun d => { d with mr4Code := code, mr4Fails := 0 })).dramHot n code.toNat) := by
  subst eq
  have open_ : ¬ (!s.dmcOn n || decide (s.clock < s.mem.dmc[n].mr4Due)) = true := by simp [-Fin.getElem_fin, on, due]
  have merged := fun u : State => updDmc_updDmc u n (fun d => { d with mr4Code := code }) (fun d => { d with mr4Fails := 0 })
  constructor
  · change execMr4Poll n (some code) .x2 s = _
    rw [execMr4Poll, if_neg open_]
    dsimp only
    rw [if_neg (show ¬((some code).isNone || Mr4Req.x2 == Mr4Req.undefined) = true from Bool.false_ne_true), merged]
  · change execMr4Poll n (some code) .over s = _
    rw [execMr4Poll, if_neg open_]
    dsimp only
    rw [if_neg (show ¬((some code).isNone || Mr4Req.over == Mr4Req.undefined) = true from Bool.false_ne_true), merged, updDmc_get]

/-- An MR4 read that failed, at its due time. -/
theorem exec_mr4_none {n : Fin 4} {s u v : State} {req : Mr4Req} (on : s.dmcOn n = true) (due : s.mem.dmc[n].mr4Due ≤ s.clock)
    (eqU : u = s.updDmc n (fun d => { d with mr4Due := d.mr4Due + 16000, wakeMr4 := false }))
    (eqV : v = (u.fasterRefresh n).updDmc n (fun d => { d with mr4Fail := true, mr4Fails := s.mem.dmc[n].mr4Fails + 1 })) :
    exec (.mr4Poll n none req) s = .next (if 2 ≤ s.mem.dmc[n].mr4Fails + 1
      then (v.faultLogOpen (0x22 + n.val)).dramHot n s.mem.dmc[n].mr4Code.toNat else v.faultLogOpen (0x22 + n.val)) := by
  have open_ : ¬ (!s.dmcOn n || decide (s.clock < s.mem.dmc[n].mr4Due)) = true := by simp [-Fin.getElem_fin, on, due]
  obtain ⟨code, -⟩ := fasterRefresh_mr4 u n
  have fails : u.mem.dmc[n].mr4Fails = s.mem.dmc[n].mr4Fails := by rw [eqU, updDmc_get]
  have kept : (v.faultLogOpen (0x22 + n.val)).mem.dmc[n].mr4Code = s.mem.dmc[n].mr4Code := by
    change v.mem.dmc[n].mr4Code = _
    rw [eqV, updDmc_get, code, eqU, updDmc_get]
  change execMr4Poll n none req s = _
  rw [execMr4Poll, if_neg open_]
  dsimp only
  rw [if_pos (by rfl), ← eqU, fails, ← eqV, kept]

/-! ### Drift (R233, R234) -/

theorem toTaps_mem (s : State) (c : Int) (p : Nat) : (s.toTaps c p).2.mem = s.mem := by
  rw [State.toTaps]
  dsimp only
  split <;> rfl

/-- The controller after a drift update of a lane. -/
theorem exec_drift {n l : Fin 4} {rd wr : Int} {s : State} (on : s.dmcOn n = true) (due : s.mem.dmc[n].driftDue[l] ≤ s.clock) :
    let eye := s.boot.eyes.toList.getD (4 * n.val + l.val) {}
    let a := s.toTaps (rd - s.mem.dmc[n].oscBase[l].1) s.mem.dmc[n].perTap[l]
    let b := a.2.toTaps (wr - s.mem.dmc[n].oscBase[l].2) s.mem.dmc[n].perTap[l]
    ∃ t : State, exec (.driftUpdate n l rd wr) s = .next t
      ∧ t.mem.dmc[n].driftRd = updAt s.mem.dmc[n].driftRd l (fun _ => clampInt (-(driftLimit eye.rdWidth)) (driftLimit eye.rdWidth) a.1)
      ∧ t.mem.dmc[n].driftWr = updAt s.mem.dmc[n].driftWr l (fun _ => clampInt (-(driftLimit eye.wrWidth)) (driftLimit eye.wrWidth) b.1)
      ∧ t.mem.cells = s.mem.cells := by
  intro eye a b
  have open_ : ¬ (!s.dmcOn n || decide (s.clock < s.mem.dmc[n].driftDue[l])) = true := by simp [-Fin.getElem_fin, on, due]
  have mem : b.2.mem = s.mem := (toTaps_mem _ _ _).trans (toTaps_mem _ _ _)
  refine ⟨_, congrArg Host.Outcome.next (if_neg open_), ?_⟩
  dsimp only
  split <;> split <;>
    · simp only [State.faultLogDetail, State.faultLog, State.takeFree, updDmc_get]
      rw [show b.2.mem.dmc = s.mem.dmc from congrArg _ mem]
      exact ⟨rfl, rfl, congrArg (fun m => m.cells) mem⟩

theorem checkedLine_of_data {s : State} {line : Nat} {e : Option EccErr} (data : line < eccAt s.chLog2 0 / 64) : s.checkedLine line e = (line, s) :=
  if_pos data

/-- A patrol step over a line of data. -/
theorem exec_patrol {n : Fin 4} {s : State} {e : Option EccErr} (up : s.dmcUp n = true) (data : s.mem.dmc[n].scrubPos < eccAt s.chLog2 0 / 64) :
    exec (.patrolScrubStep n e) s = .next ((((s.updDmc n (fun d => { d with
      scrubPos := (s.mem.dmc[n].scrubPos + 1) % s.chLines
      scrub := if (s.mem.dmc[n].scrubPos + 1) % s.chLines = 0 then d.scrub + 1 else d.scrub })).dramAccess n s.mem.dmc[n].scrubPos .close).lineFound
        n s.mem.dmc[n].scrubPos e).lineRead n s.mem.dmc[n].scrubPos) := by
  have line : ∀ w : State, w.boot = s.boot → w.checkedLine s.mem.dmc[n].scrubPos e = (s.mem.dmc[n].scrubPos, w) := fun w same =>
    checkedLine_of_data (by rwa [State.chLog2, same])
  change execPatrolScrubStep n e s = _
  rw [execPatrolScrubStep, if_neg (by simp [up])]
  dsimp only
  rw [line]
  rfl

/-- Settles O14: reads and writes by `exec_dmcRead` and `exec_dmcWrite`, MR4 by `exec_mr4_code` and `exec_mr4_none`. -/
theorem dramEvents : Obligations.DramEvents := by
  refine ⟨fun n line m q h s u up asked hint => ⟨fun strict => ?strict, fun forward => ⟨fun missed => ?missed,
      fun e found => ⟨fun covered => ?covered, fun part => ?part⟩⟩⟩,
    fun n line a m s addr => ?answer,
    fun n line a bs q h s u up hint addr => ⟨fun v eq => ?whole, fun m v asked part clean eq => ?partly, fun m k asked part bad => ?spoilt⟩,
    fun s => ⟨rfl, rfl, rfl, rfl, rfl, rfl, rfl, rfl, rfl, rfl, rfl, rfl, rfl, rfl, rfl, rfl⟩,
    fun n b s up => congrArg Host.Outcome.next (if_pos up), fun n s on => ⟨?issued, fun room => ?postponed, fun full => ?refreshed⟩,
    fun n s u on due eq => ⟨fun code => exec_mr4_code on due eq, fun req v eqV => ⟨fun first => ?failed, fun again => ?hot⟩⟩,
    fun n l rd wr s on due => ?drift, fun n s t up data eq => ⟨?patrol, fun e => ?patrolFound⟩, fun n s live => ?unanswered⟩
  case strict => rw [exec_dmcRead up asked hint, if_pos strict]
  case missed =>
    rw [exec_dmcRead up asked hint, if_neg (by simpa [-Fin.getElem_fin] using forward), missed]
  case covered =>
    rw [exec_dmcRead up asked hint, if_neg (by simpa [-Fin.getElem_fin] using forward), found]
    exact congrArg Host.Outcome.next (if_pos covered)
  case part =>
    rw [exec_dmcRead up asked hint, if_neg (by simpa [-Fin.getElem_fin] using forward), found]
    exact congrArg Host.Outcome.next (if_neg part)
  case answer => rw [State.dmcAnswer, addr]
  case whole =>
    subst eq
    rw [exec_dmcWrite up (by decide) hint addr, if_neg (by simp), if_pos (by simp)]
    rfl
  case partly =>
    subst eq
    rw [exec_dmcWrite up asked hint addr, if_neg (by simp [clean]), if_neg (by simpa using part), lineRead_of_clean clean]
    rfl
  case spoilt =>
    rw [exec_dmcWrite up asked hint addr, if_pos (by simpa [bad] using part), lineRead_of_error bad]
    rfl
  case issued => exact congrArg Host.Outcome.next ((if_neg (by simp [on])).trans (if_pos rfl))
  case postponed =>
    refine congrArg Host.Outcome.next ((if_neg (by simp [on])).trans ((if_neg (by decide)).trans (if_pos ?_)))
    rw [Dmc.postponeMax]
    exact room
  case refreshed =>
    refine congrArg Host.Outcome.next ((if_neg (by simp [on])).trans ((if_neg (by decide)).trans (if_neg ?_)))
    rw [Dmc.postponeMax]
    exact Nat.not_lt.mpr full
  case failed => rw [exec_mr4_none on due eq eqV, if_neg (by omega)]
  case hot => rw [exec_mr4_none on due eq eqV, if_pos (by omega)]
  case drift =>
    obtain ⟨t, row, rdEq, wrEq, cells⟩ := exec_drift (rd := rd) (wr := wr) on due
    refine ⟨t, _, _, _, _, row, rfl, rfl, ?_, ?_, cells⟩
    · rw [rdEq]
      exact updAt_get_self _ _ _
    · rw [wrEq]
      exact updAt_get_self _ _ _
  case patrol => rw [exec_patrol up data, eq] <;> rfl
  case patrolFound => rw [exec_patrol up data, eq]
  case unanswered =>
    change execDmcUnansweredTimeout n s = _
    rw [execDmcUnansweredTimeout, whenLive_of_live live]
    exact congrArg Host.Outcome.next (if_neg (by simp [stopped_of_live live]))

end Sys2Proof.Machine

/-!
Proof of `StreamConfiguration` (06).
-/
namespace Sys2Proof.Machine
open Sys2Proof
set_option Elab.async false

/-! ### Slots by number -/

theorem slotN_val (s : State) (n : Fin 64) : s.slotN n.val = s.str.slot[n] := by
  simp [State.slotN]

theorem slotN_updSlotN_same (s : State) {n : Nat} (h : n < 64) (f : Slot → Slot) : (s.updSlotN n f).slotN n = f (s.slotN n) := by
  rw [State.updSlotN, dif_pos h, slotN_val _ ⟨n, h⟩, slotN_val _ ⟨n, h⟩, State.updSlot]
  exact updAt_get_self _ _ _

theorem slotN_updSlotN_other (s : State) {n m : Nat} (h : m ≠ n) (f : Slot → Slot) : (s.updSlotN n f).slotN m = s.slotN m := by
  unfold State.updSlotN
  split
  · simp [State.slotN, State.updSlot, updAt, Vector.getElem?_set_ne, h.symm]
  · rfl

theorem slotN_updCk (s : State) (n m : Nat) (f : CkptSlot → CkptSlot) : (s.updCk n f).slotN m = s.slotN m := by
  unfold State.updCk
  split <;> rfl

theorem takes_of_accepts {k : Command} {c : HostCmd} {s : State} (h : k.accepts c s = true) : k.takes c s = true :=
  (Bool.and_eq_true_iff.mp h).1

/-- A field of a command that passes the common checks lies in its range (R15). -/
theorem range_of_takes {k : Command} {c : HostCmd} {s : State} {off size lo hi : Nat} (takes : k.takes c s = true)
    (listed : rangeField off size lo hi ∈ k.spec.fields) : lo ≤ c.f off size ∧ c.f off size ≤ hi := by
  simp only [Command.takes, Command.passes, Bool.and_eq_true, Bool.false_or] at takes
  obtain ⟨⟨-, ranges⟩, -⟩ := takes
  have inside := List.all_eq_true.mp ranges _ listed
  simp only [rangeField, List.isEmpty_cons, List.any_cons, List.any_nil, Bool.or_false, Bool.false_or, Bool.and_eq_true] at inside
  exact ⟨of_decide_eq_true inside.1, of_decide_eq_true inside.2⟩

/-! ### Slot checks (R181, R182, R196) -/

/-- What every command on a slot checks first, by its cases. -/
theorem slotCheck_cases (s : State) (c : HostCmd) (lockable : Bool) (table : SlotState → Option Status) :
    (s.ctxLive c.ctxN = false → s.slotCheck c lockable table = some .notFound)
    ∧ ((s.slotN (c.f 8 1)).state ≠ .free → (s.slotN (c.f 8 1)).ctx ≠ c.ctxN → s.slotCheck c lockable table = some .notFound)
    ∧ (s.ctxLive c.ctxN = true → (s.slotN (c.f 8 1)).ctx = c.ctxN → (s.slotN (c.f 8 1)).state ≠ .free → lockable = true → s.kpr.lock ≠ none →
        (s.slotN (c.f 8 1)).cls = .s → s.slotCheck c lockable table = some .safetyLocked)
    ∧ (s.ctxLive c.ctxN = true → ((s.slotN (c.f 8 1)).state = .free ∨ (s.slotN (c.f 8 1)).ctx = c.ctxN) →
        (lockable = false ∨ s.kpr.lock = none ∨ (s.slotN (c.f 8 1)).state = .free ∨ (s.slotN (c.f 8 1)).cls ≠ .s) →
        s.slotCheck c lockable table = table (s.slotN (c.f 8 1)).state) := by
  simp only [State.slotCheck]
  generalize s.slotN (c.f 8 1) = sl
  refine ⟨fun dead => if_pos (by simp [dead]), fun used other => if_pos (by simp [used, other]), fun live mine used lockable locked class_ => ?_,
    fun live mine open_ => ?_⟩
  · rw [if_neg (by simp [live, mine])]
    exact if_pos (by simp [lockable, State.locked, Option.isSome_iff_ne_none, locked, used, class_])
  · rw [if_neg (by rcases mine with free | own <;> simp [*])]
    refine if_neg ?_
    rcases open_ with h | h | h | h <;> simp [State.locked, h]

/-- STREAM_VIEW of the slot's own or a free view with sizes and rate in range (R188). -/
theorem view_own {c : HostCmd} {s : State} (passes : s.slotCheck c false (slotTable (some .notFound) none none (some .busy)) = none)
    (ok : c.viewOk = true) (mine : (s.viewN (c.f 9 1)).en = false ∨ (s.viewN (c.f 9 1)).slot = c.f 8 1) :
    cmdStreamView.own c s = if (lookupN s.io.flow (c.f 17 1)).isNone then .st s .notFound
      else if c.f 10 1 = 0 then .ok (s.viewOff (c.f 9 1)) []
      else if !s.veeThere || decide (1 < s.veeLoad (c.f 9 1) + viewLoad (c.f 12 2) (c.f 14 2) (s.slotN (c.f 8 1)).periodUs) then .st s .noResource
      else .ok (s.updView (c.f 9 1) (fun w => { w with
        rtpSeq := if w.en then w.rtpSeq else 0, en := true, slot := c.f 8 1, codec := if c.f 11 1 = 2 then .h265 else .h264
        width := c.f 12 2, height := c.f 14 2, rc := c.f 16 1, flow := c.f 17 1, kbps := c.f 20 4, idr := true, sweep := 0 })) [] := by
  simp only [cmdStreamView, passes, ok, Bool.not_true, Bool.false_eq_true, if_false]
  exact if_neg (by rcases mine with h | h <;> simp [h])

/-- Settles O16: the slot check by `slotCheck_cases`, then each command by its checks in order. -/
theorem streamConfiguration : Obligations.StreamConfiguration := by
  refine ⟨fun s c lockable table => slotCheck_cases s c lockable table,
    fun c s acc => ⟨fun st fails => ?sourceFails, fun passes => ⟨fun bad => ?sourceBad, fun ok taken => ?sourceTaken, fun ok free rtp none => ?noSession,
      fun ok free there => ?bound⟩, fun live unlocked mine runs => ?running⟩,
    fun c s acc => ⟨fun st fails => ?anaFails, fun passes => ⟨fun st bad => ?anaBad, fun ok => ?analysed⟩⟩,
    fun c s acc => ⟨fun st fails => ?resFails, fun passes => ⟨fun bad => ?resBad, fun ok ring => ?ring, fun ok flow none => ?noFlow, fun ok flow there => ?flow⟩⟩,
    fun c s acc => ⟨fun st fails => ?trackFails, fun passes => ?tracked⟩,
    fun c s acc => ⟨fun st fails => ?viewFails, fun passes => ⟨fun bad => ?viewBad, fun ok on other => ?viewTaken, fun ok mine =>
      ⟨fun none => ?viewNoFlow, fun there off => ?viewOff, fun there on => ⟨fun full => ?viewFull, fun there' room => ?viewOn⟩⟩⟩⟩⟩
  case sourceFails => exact direct_st acc (by simp only [cmdStreamSource, fails])
  case sourceBad => exact direct_st acc (by simp only [cmdStreamSource, passes, bad, Bool.not_false, if_true])
  case sourceTaken => exact direct_st acc (by simp only [cmdStreamSource, passes, ok, taken, Bool.not_true, Bool.false_eq_true, if_true, if_false])
  case noSession =>
    exact direct_st acc (by simp only [cmdStreamSource, passes, ok, free, rtp, none, Bool.not_true, Bool.false_eq_true, if_false]; rfl)
  case bound =>
    have n : c.f 8 1 < 64 := Nat.lt_succ_of_le (range_of_takes (lo := 0) (hi := 63) (takes_of_accepts acc) (by simp [cmdStreamSource, sourceFields, slotField])).2
    have own : cmdStreamSource.own c s = .ok (s.bindSource (c.f 8 1) c.ctxN c.source) c.slotEcho := by
      simp only [cmdStreamSource, passes, ok, free, Bool.not_true, Bool.false_eq_true, if_false]
      exact if_neg (by simpa [Option.isNone_iff_eq_none, imp_iff_not_or] using there)
    refine ⟨_, direct_ok acc own, rfl, ?_⟩
    rw [State.bindSource, slotN_updCk, slotN_updSlotN_same _ n]
    exact ⟨rfl, rfl, rfl, rfl, rfl, rfl⟩
  case running =>
    have passes : s.slotCheck c true (slotTable none none (some .busy) (some .busy)) = some .busy := by
      obtain ⟨-, -, -, table⟩ := slotCheck_cases s c true (slotTable none none (some .busy) (some .busy))
      rw [table live (.inr mine) (.inr (.inl unlocked)), runs] <;> rfl
    exact direct_st acc (by simp only [cmdStreamSource, passes])
  case anaFails => exact direct_st acc (by simp only [cmdStreamAnalytics, fails])
  case anaBad => exact direct_st acc (by simp only [cmdStreamAnalytics, passes, bad])
  case analysed => exact direct_ok acc (by simp only [cmdStreamAnalytics, passes, ok]; rfl)
  case resFails => exact direct_st acc (by simp only [cmdStreamResult, fails])
  case resBad => exact direct_st acc (by simp only [cmdStreamResult, passes, bad, Bool.not_false, if_true])
  case ring => exact direct_ok acc (by simp [cmdStreamResult, passes, ok, ring]; rfl)
  case noFlow => exact direct_st acc (by simp [cmdStreamResult, passes, ok, flow, none])
  case flow => exact direct_ok acc (by simp [cmdStreamResult, passes, ok, flow, there]; rfl)
  case trackFails => exact direct_st acc (by simp only [cmdStreamTrack, fails])
  case tracked => exact direct_ok acc (by simp only [cmdStreamTrack, passes])
  case viewFails => exact direct_st acc (by simp only [cmdStreamView, fails])
  case viewBad => exact direct_st acc (by simp only [cmdStreamView, passes, bad, Bool.not_false, if_true])
  case viewTaken => exact direct_st acc (by simp [cmdStreamView, passes, ok, on, other])
  case viewNoFlow =>
    refine direct_st acc ?_
    rw [view_own passes ok mine]
    exact if_pos (by simp [none])
  case viewOff =>
    refine direct_ok acc ?_
    rw [view_own passes ok mine, if_neg (by simpa [Option.isNone_iff_eq_none] using there)]
    exact if_pos off
  case viewFull =>
    refine direct_st acc ?_
    rw [view_own passes ok mine, if_neg (by simpa [Option.isNone_iff_eq_none] using there), if_neg (by simp [on])]
    exact if_pos (by simpa using full)
  case viewOn =>
    refine direct_ok acc ?_
    rw [view_own passes ok mine, if_neg (by simpa [Option.isNone_iff_eq_none] using there), if_neg (by simp [on])]
    exact if_neg (by simpa [there'] using room)

end Sys2Proof.Machine

/-!
Proof of `StreamOperation` (06).
-/
namespace Sys2Proof.Machine
open Sys2Proof
set_option Elab.async false

/-! ### What memory accesses and pool operations leave alone -/

/-- The state beyond what a memory access, a pool operation or a fault can change: memory, pools, the Feature Store, the Keeper,
the host interface, what was sent, gates, supplies, and the counter of free values. -/
def State.beyond (s : State) : State :=
  { s with free := 0, out := [], host := {}, sup := {}, mem := {}, bpm := {}, gate := Vector.replicate 56 {}, kpr := {}, str := { s.str with fs := {} } }

theorem slotN_of_beyond {s t : State} (eq : s.beyond = t.beyond) (n : Nat) : s.slotN n = t.slotN n := by
  have slots : s.str.slot = t.str.slot := (congrArg (fun u : State => u.str.slot) eq : s.beyond.str.slot = t.beyond.str.slot)
  rw [State.slotN, State.slotN, slots]

theorem latch_beyond (s : State) (b : KprBit) (cause who : Nat) (value : U32) : (s.latch b cause who value).beyond = s.beyond := by
  obtain ⟨h, o, g, k, eq, -⟩ := latch_frame s b cause who value
  rw [eq] <;> rfl

theorem deviceFault_beyond (s : State) (unit cause : Nat) (value : U32) : (s.deviceFault unit cause value).beyond = s.beyond := by
  unfold State.deviceFault
  split
  · rfl
  · exact latch_beyond _ _ _ _ _

theorem ueLine_beyond (s : State) (line : Nat) : (s.ueLine line).beyond = s.beyond := by
  unfold State.ueLine
  split
  · rfl
  · dsimp only
    split
    · exact deviceFault_beyond _ _ _ _
    · rfl

theorem lineMet_beyond (s : State) (line : Nat) (e : EccErr) : (s.lineMet line e).beyond = s.beyond := by
  cases e with
  | correctable =>
    simp only [State.lineMet]
    split <;> rfl
  | uncorrectable => exact ueLine_beyond s line

theorem memPut_beyond (s : State) (a : Nat) (bs : List Byte) : (s.memPut a bs).1.beyond = s.beyond :=
  foldl_keeps (f := fun (s : State) (e : Nat × EccErr) => s.lineMet e.1 e.2) State.beyond (fun s e => lineMet_beyond s e.1 e.2) _ s

theorem readSense_beyond (s : State) (a n : Nat) : (s.readSense a n).beyond = s.beyond := by
  unfold State.readSense
  split
  · rfl
  · exact foldl_keeps (f := fun (s : State) (e : Nat × EccErr) => s.lineMet e.1 e.2) State.beyond (fun s e => lineMet_beyond s e.1 e.2) _ s

theorem updPoolN_beyond (s : State) (n : Nat) (f : Pool → Pool) : (s.updPoolN n f).beyond = s.beyond := by
  unfold State.updPoolN
  split <;> rfl

theorem poolSpill_beyond (n k : Nat) : ∀ s : State, (s.poolSpill n k).beyond = s.beyond := by
  induction k with
  | zero => exact fun _ => rfl
  | succ k ih =>
    intro s
    simp only [State.poolSpill]
    split
    · rfl
    · rw [ih, updPoolN_beyond, memPut_beyond]

theorem poolGive_beyond (s : State) (n i : Nat) : (s.poolGive n i).beyond = s.beyond := by
  unfold State.poolGive
  dsimp only
  split
  · exact updPoolN_beyond _ _ _
  · split
    · rw [updPoolN_beyond, memPut_beyond, updPoolN_beyond]
    · split
      · rw [poolSpill_beyond, updPoolN_beyond, updPoolN_beyond]
      · rw [updPoolN_beyond, updPoolN_beyond]

theorem poolLevels_beyond (s : State) (n : Nat) : (s.poolLevels n).beyond = s.beyond := by
  unfold State.poolLevels
  dsimp only
  split
  · rfl
  · split <;> split <;> exact updPoolN_beyond s n _

theorem bufFree_beyond (s : State) (h : U32) (ctx port unit : Nat) : (s.bufFree h ctx port unit).1.beyond = s.beyond := by
  unfold State.bufFree
  split
  · rfl
  · exact (poolLevels_beyond _ _).trans (poolGive_beyond _ _ _)

/-! ### Starting, halting and freeing a slot (R185, R186, R189) -/

/-- A slot but for its shedding, which the scheduler decides (R318). -/
def Slot.unshed (sl : Slot) : Slot := { sl with ing := { sl.ing with shed := false } }

theorem updShed_unshed (s : State) (k n : Nat) (b : Bool) :
    ((s.updSlotN k (fun sl => { sl with ing := { sl.ing with shed := b } })).slotN n).unshed = (s.slotN n).unshed := by
  by_cases same : n = k
  · subst same
    by_cases lt : n < 64
    · rw [slotN_updSlotN_same s lt] <;> rfl
    · rw [State.updSlotN, dif_neg lt]
  · rw [slotN_updSlotN_other s same]

theorem shedSome_unshed (n k : Nat) : ∀ s : State, ((s.shedSome k).slotN n).unshed = (s.slotN n).unshed := by
  induction k with
  | zero => exact fun _ => rfl
  | succ k ih =>
    intro s
    unfold State.shedSome
    dsimp only
    split
    · rfl
    · split
      · rfl
      · exact (ih _).trans (updShed_unshed s _ n true)

theorem restoreSome_unshed (s : State) (n : Nat) : (s.restoreSome.slotN n).unshed = (s.slotN n).unshed := by
  unfold State.restoreSome
  refine foldl_keeps (fun s : State => (s.slotN n).unshed) (fun s x => ?_) _ s
  dsimp only
  split
  · exact updShed_unshed s _ n false
  · rfl

theorem degradedLog_unshed (s : State) (n : Nat) : (s.degradedLog.slotN n).unshed = (s.slotN n).unshed := by
  unfold State.degradedLog
  refine (foldl_keeps (fun s : State => (s.slotN n).unshed) (fun s g => ?_) _ _).trans rfl
  split
  · rfl
  · split <;> rfl

theorem reevaluate_unshed (s : State) (n : Nat) : (s.reevaluate.slotN n).unshed = (s.slotN n).unshed := by
  rw [State.reevaluate, degradedLog_unshed, restoreSome_unshed, shedSome_unshed]

theorem updKslot_slotN (s : State) (k : Fin 64) (f : KprSlot → KprSlot) (n : Nat) : (s.updKslot k f).slotN n = s.slotN n := rfl

theorem sessFresh_slotN (s : State) (k n : Nat) : (s.sessFresh k).slotN n = s.slotN n := by
  unfold State.sessFresh
  split <;> rfl

theorem setRrg_slotN (s : State) (k : Nat) (r : Rrg) (n : Nat) : (s.setRrg k r).slotN n = s.slotN n := by
  unfold State.setRrg
  split <;> rfl

/-- A stream that opens is RUNNING from NEXT_SEQ 0 without a gap (R185). -/
theorem streamOpen_spec (s : State) {n : Nat} (lt : n < 64) (x : SrcCfg) (a : AnaCfg) (d : Demand) :
    ((s.streamOpen n x a d).slotN n).state = .running ∧ ((s.streamOpen n x a d).slotN n).nextSeq = 0 ∧ ((s.streamOpen n x a d).slotN n).gaps = 0 := by
  have opened : ∃ sl : Slot, ((s.streamOpen n x a d).slotN n).unshed = sl.unshed ∧ sl.state = .running ∧ sl.nextSeq = 0 ∧ sl.gaps = 0 := by
    have emitted : ∀ (b : Bool) (w : State) (o : Out), (if b then w.emit o else w).slotN n = w.slotN n := fun b w o => by cases b <;> rfl
    have fresh : ∀ (b : Bool) (w : State) (k : Nat), (if b then w.sessFresh k else w).slotN n = w.slotN n := fun b w k => by
      cases b
      · rfl
      · exact sessFresh_slotN w k n
    refine ⟨_, reevaluate_unshed _ n, ?_⟩
    change (State.slotN (State.updCk _ n _) n).state = .running ∧ (State.slotN (State.updCk _ n _) n).nextSeq = 0
      ∧ (State.slotN (State.updCk _ n _) n).gaps = 0
    rw [slotN_updCk, emitted, fresh, slotN_updSlotN_same _ lt]
    exact ⟨rfl, rfl, rfl⟩
  obtain ⟨sl, eq, state, next, gaps⟩ := opened
  exact ⟨(congrArg Slot.state eq : _).trans state, (congrArg Slot.nextSeq eq : _).trans next, (congrArg Slot.gaps eq : _).trans gaps⟩

/-- A halted stream is STOPPING and has no open frame (R186). -/
theorem streamHalt_spec (s : State) {n : Nat} (lt : n < 64) :
    ((s.streamHalt n).slotN n).state = .stopping ∧ ((s.streamHalt n).slotN n).ing.open_ = none := by
  have dropped : ((s.dropOpen n).slotN n).ing.open_ = none := by
    unfold State.dropOpen
    split
    next none => exact none
    next o some =>
      have closed : ((((s.withdraw n).updSlotN n (fun sl => { sl with ing := { sl.ing with open_ := none } })).slotN n).ing.open_) = none := by
        rw [slotN_updSlotN_same _ lt]
      dsimp only
      split
      · rw [slotN_of_beyond (bufFree_beyond _ _ _ _ _) n, closed]
      · exact closed
  rw [State.streamHalt, slotN_updSlotN_same _ lt]
  exact ⟨rfl, dropped⟩

theorem slotFree_state (s : State) {n : Nat} (lt : n < 64) : ((s.slotFree n).slotN n).state = .free := by
  rw [State.slotFree]
  rw [dif_pos lt, setRrg_slotN, State.kprEnd, updKslot_slotN, slotN_updCk, slotN_updSlotN_same _ lt]

theorem slotCheck_ne_ok {s : State} {c : HostCmd} {lockable : Bool} {table : SlotState → Option Status} (never : ∀ x, table x ≠ some .ok) :
    s.slotCheck c lockable table ≠ some .ok := by
  unfold State.slotCheck
  dsimp only
  split
  · decide
  · split
    · decide
    · exact never _

/-- Settles O17: the checks in order; a stream opened, halted and freed by `streamOpen_spec`, `streamHalt_spec`, `slotFree_state`. -/
theorem streamOperation : Obligations.StreamOperation := by
  have slot : ∀ {k : Command} {c : HostCmd} {s : State}, k.takes c s = true → rangeField 8 1 0 63 ∈ k.spec.fields → c.f 8 1 < 64 :=
    fun takes listed => Nat.lt_succ_of_le (range_of_takes takes listed).2
  refine ⟨fun c s acc => ⟨fun st fails => ?startFails, fun passes => ⟨fun low => ?startLow, fun up missing => ?startMissing, fun x a r up src ana res =>
      ⟨fun small => ?small, fun fits none => ?noRoom, fun d fits admitted => ?opened⟩⟩⟩,
    fun c s takes => ⟨fun st fails => ?stopFails, fun passes => ⟨fun conf => ?stopConfigured, fun runs => ⟨?stops, streamHalt_spec s (slot takes (by simp [cmdStreamStop, slotField]))⟩⟩⟩,
    fun c s acc => ⟨fun used other => ?statusOther, fun mine => ?status⟩,
    fun c s acc => ⟨fun st fails => ?againFails, fun passes => ⟨fun low => ?againLow, fun got up eq => ⟨fun lost => ?lost, fun all full => ?queueFull,
      fun all room => ?reissued⟩⟩⟩,
    fun c s acc => ⟨fun st fails => ?clearFails, fun passes => ⟨fun busy => ?clearBusy, fun idle free => ?clearFree, fun idle used => ?cleared⟩⟩⟩
  case startFails => exact direct_st acc (by simp only [cmdStreamStart, fails])
  case startLow => exact direct_st acc (by simp only [cmdStreamStart, passes, low, if_true])
  case startMissing =>
    refine direct_st acc ?_
    simp only [cmdStreamStart, passes, up, Bool.false_eq_true, if_false]
    split
    next src ana res => simp [src, ana, res] at missing
    next => rfl
  case small => exact direct_st acc (by simp only [cmdStreamStart, passes, up, src, ana, res, small, Bool.not_false, Bool.false_eq_true, if_true, if_false])
  case noRoom =>
    exact direct_st acc (by simp only [cmdStreamStart, passes, up, src, ana, res, fits, none, Bool.not_true, Bool.false_eq_true, if_false])
  case opened =>
    refine ⟨_, direct_ok acc ?_, rfl, streamOpen_spec s (slot (takes_of_accepts acc) ?_) x a d⟩
    · simp only [cmdStreamStart, passes, up, src, ana, res, fits, admitted, Bool.not_true, Bool.false_eq_true, if_false]
      rfl
    · simp [cmdStreamStart, slotField]
  case stopFails =>
    have bad : st ≠ .ok := by
      rintro rfl
      exact slotCheck_ne_ok (fun x => by cases x <;> decide) fails
    exact direct_takes_st takes (by simp only [cmdStreamStop, fails]) bad
  case stopConfigured => exact direct_takes_waitThen takes (by simp only [cmdStreamStop, passes, conf]; rfl)
  case stops => exact direct_takes_waitThen takes (by simp only [cmdStreamStop, passes]; exact if_neg (by simpa using runs))
  case statusOther => exact direct_st acc (if_pos (by simp [used, other]))
  case status => exact direct_ok acc (if_neg (by rcases mine with h | h <;> simp [h]))
  case againFails => exact direct_st acc (by simp only [cmdStreamReprocess, fails])
  case againLow => exact direct_st acc (by simp only [cmdStreamReprocess, passes, low, if_true])
  case lost =>
    refine direct_st acc ?_
    simp only [cmdStreamReprocess, passes, up, Bool.false_eq_true, if_false, ← eq]
    exact if_pos lost
  case queueFull =>
    refine direct_st acc ?_
    simp only [cmdStreamReprocess, passes, up, Bool.false_eq_true, if_false, ← eq]
    rw [if_neg (by simp [all]), if_pos full]
  case reissued =>
    refine direct_ok acc ?_
    simp only [cmdStreamReprocess, passes, up, Bool.false_eq_true, if_false, ← eq]
    rw [if_neg (by simp [all]), if_neg (Nat.not_lt.mpr room)]
  case clearFails => exact direct_st acc (by simp only [cmdStreamClear, fails])
  case clearBusy => exact direct_st acc (by simp only [cmdStreamClear, passes, busy, if_true])
  case clearFree => exact direct_ok acc (by simp only [cmdStreamClear, passes, idle, free, Bool.false_eq_true, if_false]; rfl)
  case cleared =>
    refine ⟨_, direct_ok acc ?_, rfl, slotFree_state s (slot (takes_of_accepts acc) ?_)⟩
    · simp [cmdStreamClear, passes, idle, used, HostCmd.slotEcho]
    · simp [cmdStreamClear, slotField]

end Sys2Proof.Machine

/-!
Proofs of `JobCommands` and `FlashAndFuseCommands` (05, 06).
-/
namespace Sys2Proof.Machine
open Sys2Proof
set_option Elab.async false

/-! ### Jobs (R190 to R192) -/

theorem accepts_of_takes {k : Command} {c : HostCmd} {s : State} (takes : k.takes c s = true) (sync : c.async = false) : k.accepts c s = true := by
  rw [Command.accepts, sync]
  exact Bool.and_eq_true_iff.mpr ⟨takes, rfl⟩

theorem jobError_ne_ok (s : State) (c : HostCmd) : s.jobError c ≠ some .ok := by
  simp only [State.jobError]
  repeat' split
  all_goals decide

theorem dropQueued_of_none {s : State} {p : Item → Bool} {st : Status} (guarded : s.sched.guarded.filter p = []) (waiting : s.sched.waiting.filter p = [])
    (engines : ∀ e, e < 32 → ((s.engN e).queue.toList.flatten ++ (s.engN e).saved.toList ++ (s.engN e).incoming.toList).filter p = []) :
    s.dropQueued p st = s := by
  refine if_pos ?_
  rw [guarded, waiting]
  exact List.flatMap_eq_nil_iff.mpr fun e mem => engines e (List.mem_range.mp mem)

/-- A job that nothing holds and no waiter serves is closed with ABORTED_RESET (R192). -/
theorem jobRemove_of_free {s : State} {j : Job} (held : s.pip.overflow = []) (watch : ∀ w ∈ s.pip.watch, w.by_ ≠ .job j.id)
    (items : ∀ i ∈ s.sched.guarded ++ s.sched.waiting, i.origin ≠ .job j.id)
    (engines : ∀ e, e < 32 → ∀ i ∈ (s.engN e).queue.toList.flatten ++ (s.engN e).saved.toList ++ (s.engN e).incoming.toList, i.origin ≠ .job j.id) :
    s.jobRemove j = (s.jobDone j .abortedReset).instCut (64, j.id) := by
  have other : ∀ l : List Item, (∀ i ∈ l, i.origin ≠ .job j.id) → l.filter (fun i => i.origin == Origin.job j.id) = [] := fun l no =>
    List.filter_eq_nil_iff.mpr fun i mem => by simpa using no i mem
  have kept : s.pip.watch.filter (fun w => !(match w.by_ with | .job id => id == j.id | _ => false)) = s.pip.watch :=
    List.filter_eq_self.mpr fun w mem => by
      have := watch w mem
      cases by_ : w.by_ <;> simp_all
  have same : ({ s with pip := { s.pip with
      watch := s.pip.watch.filter (fun w => !(match w.by_ with | .job id => id == j.id | _ => false))
      overflow := s.pip.overflow.filter (fun w => !(match w.by_ with | .job id => id == j.id | _ => false)) } } : State) = s := by
    rw [kept, held, List.filter_nil, ← held]
  have dropped : s.dropQueued (fun i => i.origin == Origin.job j.id) .abortedReset = s :=
    dropQueued_of_none (other _ fun i mem => items i (List.mem_append_left _ mem)) (other _ fun i mem => items i (List.mem_append_right _ mem))
      fun e lt => other _ (engines e lt)
  have removed : s.jobRemove j = (((({ s with pip := { s.pip with
      watch := s.pip.watch.filter (fun w => !(match w.by_ with | .job id => id == j.id | _ => false))
      overflow := s.pip.overflow.filter (fun w => !(match w.by_ with | .job id => id == j.id | _ => false)) } } : State).watchFill.dropQueued
        (fun i => i.origin == Origin.job j.id) .abortedReset).jobDone j .abortedReset).instCut (64, j.id)) := rfl
  rw [removed, same, watchFill_of_none_held held, dropped]

theorem jobDone_aborted (s : State) (j : Job) : s.jobDone j .abortedReset = match j.donePip with
    | none => s.jobClose j .abortedReset
    | some p => (s.jobClose j .abortedReset).pipApply p .poison (BitVec.ofNat 32 Status.abortedReset.code) := by
  rw [State.jobDone, ite_self] <;> rfl

/-- Settles O18: the checks in order, and a removed job by `jobRemove_of_free`. -/
theorem jobCommands : Obligations.JobCommands := by
  refine ⟨fun c s takes => ⟨fun low => ?low, fun st up bad => ?bad, fun t up good eq => ⟨fun sync => ?queued, fun async => ?asyncQueued⟩⟩,
    fun c s acc => ⟨fun none => ?noJob, fun j there runs => ?runs, fun j there idle => ?cancelled⟩,
    fun s j held watch items engines => ⟨fun none => ?noPip, fun p some => ?poisons⟩,
    fun c s acc => ⟨fun j there notDone => ?state, fun j gone kept done => ?result, fun gone lost => ?unknown⟩⟩
  case low => exact direct_takes_st takes (if_pos low) (by decide)
  case bad =>
    exact direct_takes_st takes (by simp only [cmdJobSubmit, up, bad, Bool.false_eq_true, if_false]) fun ok => jobError_ne_ok s c (ok ▸ bad)
  case queued =>
    subst eq
    exact direct_done (accepts_of_takes takes sync) (after := fun s' => s'.jobWait c s.mem.nextJob)
      (by simp only [cmdJobSubmit, up, good, sync, Bool.false_eq_true, if_false]; rfl)
  case asyncQueued =>
    subst eq
    exact direct_takes_waitThen takes (after := fun s' => s'.jobWait c s.mem.nextJob)
      (by simp only [cmdJobSubmit, up, good, async, Bool.false_eq_true, if_false, if_true]; rfl)
  case noJob => exact direct_st acc (by simp only [cmdJobCancel, none])
  case runs => exact direct_st acc (by simp only [cmdJobCancel, there, runs]; rfl)
  case cancelled => exact direct_ok acc (by simp only [cmdJobCancel, there]; exact if_neg (by simpa using idle))
  case noPip => rw [jobRemove_of_free held watch items engines, jobDone_aborted, none]
  case poisons => rw [jobRemove_of_free held watch items engines, jobDone_aborted, some]
  case state => exact direct_ok acc (by simp [cmdJobQuery, there, notDone, zeros, leBytes])
  case result => exact direct_ok acc (by simp [cmdJobQuery, gone, kept, done]; rfl)
  case unknown => exact direct_st acc (by simp only [cmdJobQuery, gone, lost])

/-! ### Flash and fuses (R70, R91, R171 to R175) -/

theorem direct_hold {k : Command} {c : HostCmd} {s : State} (acc : k.accepts c s = true) (own : k.own c s = .hold) : direct k c s = .next s := by
  rw [direct_of_accepts acc, own]
  rfl

/-- A fuse operation waits behind another, is inhibited by the guard, or begins (R70, R175). -/
theorem fuse_answers {k : Command} {c : HostCmd} {s : State} {o : OtpOp} (acc : k.accepts c s = true)
    (own : k.own c s = if s.fusing then .hold else s.fuseStart o) :
    (s.fusing = true → direct k c s = .next s)
    ∧ (s.fusing = false → s.sup.guard = true → direct k c s = .next (s.answer c k.spec.op .supplyInhibit []))
    ∧ (s.fusing = false → s.sup.guard = false → direct k c s = .next (c.proceed k.spec.op
        (({ s with fw := { s.fw with fuseTodo := some o } } : State).flashKick) (.fuse o) [])) := by
  refine ⟨fun busy => direct_hold acc (by rw [own, if_pos busy]), fun free guard => direct_st acc ?_, fun free open_ => direct_wait acc ?_⟩
  · rw [own, if_neg (by simp [free]), State.fuseStart, if_pos guard]
  · rw [own, if_neg (by simp [free]), State.fuseStart, if_neg (by simp [open_])]

/-- FLASH_WRITE of blocks and pages in a region that it may write (R172). -/
theorem flashWrite_own {c : HostCmd} {s : State} (off : c.f 8 4 % 65536 = 0) (pages : c.f 12 4 % 256 = 0) (buffer : c.f 16 8 % 64 = 0)
    (board : ¬ (c.f 8 4 < 0x100000 ∧ 0x20000 < c.f 8 4 + c.f 12 4)) (log : ¬ (c.f 8 4 < 0x1200000 ∧ 0x1100000 < c.f 8 4 + c.f 12 4)) :
    cmdFlashWrite.own c s = if !(flashRegions s.sup.flashSize).any (fun r => r.1 ≤ c.f 8 4 && c.f 8 4 + c.f 12 4 ≤ r.2) then .st s .invalidField
      else if s.switching then .st s .busy
      else if s.sup.guard then .st s .supplyInhibit
      else match c.host with
        | .data bs => .wait (({ s with fw := { s.fw with
            flashTodo := flashOps (c.f 12 4 / 256) (c.f 8 4) (padTo (c.f 12 4) bs), flashAt := 0 } } : State).flashKick) .flashWrite
        | _ => .st (s.mbxError c.mbx .descFault) .invalidField := by
  refine (if_neg (by simp [off, pages, buffer])).trans ((if_neg ?_).trans rfl)
  simp only [Bool.or_eq_true, Bool.and_eq_true, decide_eq_true_eq]
  exact not_or.mpr ⟨board, log⟩

/-- A fuse key slot is the last usable one when every other is empty or revoked (R91). -/
theorem lastKey_iff (f : Fuses) (i : Fin 4) : f.lastKey i = true ↔ ∀ j : Fin 4, j ≠ i → f.keyHash[j] = 0 ∨ f.revoke.getLsbD j.val = true := by
  simp only [Fuses.lastKey, List.all_eq_true, List.mem_finRange, true_implies, Bool.or_eq_true, beq_iff_eq, or_assoc, ne_eq, ← or_iff_not_imp_left]

/-- Settles O19: each flash command by its checks in order, the fuse commands by `fuse_answers`. -/
theorem flashAndFuseCommands : Obligations.FlashAndFuseCommands := by
  refine ⟨⟨fun c s takes => ⟨fun bad => ?readBad, fun aligned inside => ⟨fun sw => ?readSwitch, fun stays failed => ?readFault, fun stays reads => ?read⟩⟩,
      fun c s takes => ⟨fun bad => ?writeBad, fun off pages buffer => ⟨fun denied => ?writeDenied, fun board log => ⟨fun out => ?writeOut, fun inside =>
        ⟨fun sw => ?writeSwitch, fun stays guard => ?writeGuard, fun stays open_ none => ?writeFault, fun bs stays open_ data => ?write⟩⟩⟩⟩⟩,
    fun c s acc => ⟨fun same => ?secverSame, fun bad => ?secverDenied, fun above below => fuse_answers acc ?_⟩,
    fun c s acc => ⟨fun zero => ?keyZero, fun some used => ?keyUsed, fun some free => fuse_answers acc ?_⟩,
    fun c s acc => ⟨fun last => ?revokeLast, fun more => fuse_answers acc ?_⟩, lastKey_iff⟩
  case readBad => exact direct_takes_st takes (if_pos (by simpa using bad)) (by decide)
  case readSwitch => exact direct_takes_st takes ((if_neg (by simp [aligned, inside])).trans (if_pos sw)) (by decide)
  case readFault =>
    exact direct_takes_st takes ((if_neg (by simp [aligned, inside])).trans ((if_neg (by simp [stays])).trans (if_pos failed))) (by decide)
  case read =>
    exact direct_reply takes ((if_neg (by simp [aligned, inside])).trans ((if_neg (by simp [stays])).trans (if_neg reads)))
  case writeBad => exact direct_takes_st takes (if_pos (by simpa [or_assoc] using bad)) (by decide)
  case writeDenied =>
    exact direct_takes_st takes ((if_neg (by simp [off, pages, buffer])).trans (if_pos (by simpa using denied))) (by decide)
  case writeOut => exact direct_takes_st takes (by rw [flashWrite_own off pages buffer board log, if_pos (by rw [out]; rfl)]) (by decide)
  case writeSwitch =>
    exact direct_takes_st takes (by rw [flashWrite_own off pages buffer board log, if_neg (by rw [inside]; decide), if_pos sw]) (by decide)
  case writeGuard =>
    exact direct_takes_st takes (by rw [flashWrite_own off pages buffer board log, if_neg (by rw [inside]; decide), if_neg (by simp [stays]), if_pos guard]) (by decide)
  case writeFault =>
    refine direct_takes_st takes ?_ (by decide)
    rw [flashWrite_own off pages buffer board log, if_neg (by rw [inside]; decide), if_neg (by simp [stays]), if_neg (by simp [open_])]
    cases host : c.host with
    | data bs => exact absurd host (none bs)
    | _ => rfl
  case write =>
    refine direct_takes_wait takes ?_
    rw [flashWrite_own off pages buffer board log, if_neg (by rw [inside]; decide), if_neg (by simp [stays]), if_neg (by simp [open_]), data]
  case secverSame => exact direct_ok acc (if_pos same)
  case secverDenied =>
    refine direct_st acc ((if_neg ?_).trans (if_pos ?_))
    · omega
    · simp only [Bool.or_eq_true, decide_eq_true_eq]
      omega
  case keyZero => exact direct_st acc (if_pos zero)
  case keyUsed => exact direct_st acc ((if_neg some).trans (if_pos used))
  case revokeLast => exact direct_st acc (if_pos last)
  · refine (if_neg (by omega)).trans (if_neg ?_)
    simp only [Bool.or_eq_true, decide_eq_true_eq]
    omega
  · exact (if_neg some).trans (if_neg (not_not.mpr free))
  · exact if_neg (by simp [more])

end Sys2Proof.Machine

/-!
Proofs of `SafetyCommands` and `UnitCommands` (06, 19, 20).
-/
namespace Sys2Proof.Machine
open Sys2Proof
set_option Elab.async false

/-! ### Safety commands (R196, R197, R585) -/

theorem locked_iff (s : State) : s.locked = true ↔ s.kpr.lock ≠ none := Option.isSome_iff_ne_none

theorem unlocked_of_none {s : State} (none : s.kpr.lock = none) : s.locked = false := by
  rw [State.locked, none]
  rfl

theorem clear_fault (k : Keeper) : (k.fault &&& k.causes = 0 → k.clear.fault = 0)
    ∧ (k.fault &&& k.causes ≠ 0 → k.clear.fault = (k.fault &&& k.causes) ||| (k.fault &&& 0x400#11)) :=
  ⟨fun gone => if_pos (beq_iff_eq.mpr gone), fun stays => if_neg fun eq => stays (beq_iff_eq.mp eq)⟩

theorem clear_slot (k : Keeper) (n : Fin 64) : k.clear.slot[n] = k.slot[n].cleared := by
  simp [Keeper.clear]

theorem injectIgnore_of_other {s : State} {mech target : Nat} (other : mech ≠ 1) : s.injectIgnore mech target = s := dif_neg fun h => other h.1

/-- SAFETY_INJECT of a mechanism on a target that exists, with none outstanding (R585). -/
theorem inject_own {c : HostCmd} {s : State} (unlocked : s.kpr.lock = none) (target : s.injectTarget (c.f 8 1) (c.f 9 1) = true)
    (free : s.kpr.inject = none) : cmdSafetyInject.own c s
      = .ok ((s.updKpr (fun k => { k with inject := some (c.f 8 1, c.f 9 1) })).injectIgnore (c.f 8 1) (c.f 9 1)) [] :=
  (if_neg (by simp [unlocked_of_none unlocked])).trans ((if_neg (by simp [target])).trans (if_neg (by simp [free])))

/-- Settles O21: each command by its checks; what stays latched by `clear_fault` and `clear_slot`. -/
theorem safetyCommands : Obligations.SafetyCommands := by
  refine ⟨⟨fun c s acc => ⟨fun on => ?arm, fun off => ?disarm⟩, fun c s acc => ⟨fun open_ => ?lock, fun locked => ?lockAgain⟩,
      fun c s acc => ⟨fun open_ => ?unlockOpen, fun x locked => ⟨fun same => ?unlock, fun other => ?wrongCode⟩⟩,
      fun c s acc => ⟨fun clean => ?clear, fun left => ?clearLeft⟩,
      fun c s acc => ⟨fun locked => ?injectLocked, fun open_ bad => ?injectBad, fun open_ target busy => ?injectBusy,
        fun open_ target free other => ?inject, fun n open_ target free one slot => ?injectOne⟩⟩,
    fun k => ⟨(clear_fault k).1, (clear_fault k).2, fun n fine => ?slotKept, fun n cause since => ?slotCleared⟩⟩
  case arm => exact direct_ok acc (by simp [cmdSafetyArm, on])
  case disarm => exact direct_ok acc (by simp [cmdSafetyArm, off])
  case lock => exact direct_ok acc (if_neg (by simp [unlocked_of_none open_]))
  case lockAgain => exact direct_st acc (if_pos ((locked_iff s).mpr locked))
  case unlockOpen => exact direct_ok acc (by simp only [cmdSafetyUnlock, open_])
  case unlock => exact direct_ok acc (by simp only [cmdSafetyUnlock, locked]; exact if_pos same)
  case wrongCode => exact direct_st acc (by simp only [cmdSafetyUnlock, locked]; exact if_neg other)
  case clear =>
    exact direct_ok acc (if_pos (by change (s.kpr.clear.fault &&& 0x3FF#11).toNat = 0; rw [clean]; rfl))
  case clearLeft =>
    refine direct_done (after := id) acc (if_neg fun zero => left ?_)
    exact BitVec.eq_of_toNat_eq zero
  case injectLocked => exact direct_st acc (if_pos ((locked_iff s).mpr locked))
  case injectBad => exact direct_st acc ((if_neg (by simp [unlocked_of_none open_])).trans (if_pos (by simp [bad])))
  case injectBusy =>
    exact direct_st acc ((if_neg (by simp [unlocked_of_none open_])).trans ((if_neg (by simp [target])).trans
      (if_pos (Option.isSome_iff_ne_none.mpr busy))))
  case inject => exact direct_ok acc (by rw [inject_own open_ target free, injectIgnore_of_other other])
  case injectOne =>
    refine direct_ok acc ?_
    rw [inject_own open_ (by rw [one, slot]; exact target) free, one, slot, State.injectIgnore]
    exact congrArg (CmdRes.ok · []) (dif_pos ⟨rfl, n.isLt⟩)
  case slotKept =>
    rw [clear_slot, KprSlot.cleared]
    exact if_neg (by rcases fine with h | h <;> simp [-Fin.getElem_fin, h])
  case slotCleared =>
    rw [clear_slot, KprSlot.cleared, if_pos (by simpa [-Fin.getElem_fin, since] using cause)]
    refine ⟨rfl, ?_⟩
    dsimp only
    split
    next other => exact bne_iff_ne.mp other
    next => split <;> decide

/-! ### Unit commands (R198, R199, R549, R550, R552) -/

theorem unitRefused_cases (s : State) (u : Nat) : (s.kpr.lock ≠ none → s.unitRefused u = some .safetyLocked)
    ∧ (s.kpr.lock = none → unitGateable u = false → s.unitRefused u = some .denied)
    ∧ (s.kpr.lock = none → unitGateable u = true → s.unitAbsent u = true → s.unitRefused u = some .notFound)
    ∧ (s.kpr.lock = none → unitGateable u = true → s.unitAbsent u = false → s.unitRefused u = none) := by
  refine ⟨fun locked => if_pos ((locked_iff s).mpr locked), fun open_ fixed => ?_, fun open_ gateable absent => ?_, fun open_ gateable there => ?_⟩
  all_goals rw [State.unitRefused, if_neg (by simp [unlocked_of_none open_])]
  · exact if_pos (by simp [fixed])
  · exact (if_neg (by simp [gateable])).trans (if_pos absent)
  · exact (if_neg (by simp [gateable])).trans (if_neg (by simp [there]))

theorem unitRefused_ne_ok (s : State) (u : Nat) : s.unitRefused u ≠ some .ok := by
  unfold State.unitRefused
  repeat' split
  all_goals decide

/-- Settles O22: the shared checks by `unitRefused_cases`, then each command by its own. -/
theorem unitCommands : Obligations.UnitCommands := by
  refine ⟨unitRefused_cases,
    fun c s takes => ⟨fun st bad => ?resetBad, fun good => ⟨fun busy => ?resetBusy, fun on idle => ?reset⟩⟩,
    fun c s takes => ⟨fun st bad => ?powerBad, fun good busy => ?powerBusy, fun good idle => ⟨fun on is => ?isOn, fun on off low => ?wished,
      fun on off up => ?turnsOn, fun off was => ?isOff, fun off was => ⟨fun use => ?inUse, fun free no => ?needed, fun free ok => ?turnsOff⟩⟩⟩,
    fun c s takes => ⟨fun st bad => ?fenceBad, fun good fence => ⟨fun no => ?fenceNo, fun ok => ?fenced⟩,
      fun good unfence => ⟨fun busy => ?fenceBusy, fun idle async => ?goesOn, fun t pass idle sync test => ⟨fun failed => ?failed, fun passed open_ => ?wasOpen,
        fun passed fenced => ?unfenced⟩⟩⟩⟩
  case resetBad => exact direct_takes_st takes (by simp only [cmdResetUnit, bad]) fun ok => unitRefused_ne_ok s _ (ok ▸ bad)
  case resetBusy =>
    refine direct_takes_st takes ?_ (by decide)
    simp only [cmdResetUnit, good]
    exact if_pos (by simpa [Option.isSome_iff_ne_none] using busy)
  case reset =>
    refine direct_takes_wait takes ?_
    simp only [cmdResetUnit, good]
    exact if_neg (by simp [on, idle])
  case powerBad => exact direct_takes_st takes (by simp only [cmdPowerUnit, bad]) fun ok => unitRefused_ne_ok s _ (ok ▸ bad)
  case powerBusy =>
    refine direct_takes_st takes ?_ (by decide)
    simp only [cmdPowerUnit, good]
    exact if_pos (by simpa [Option.isSome_iff_ne_none] using busy)
  case isOn => exact direct_reply takes (by simp [cmdPowerUnit, good, idle, on, is]; rfl)
  case wished => exact direct_reply takes (by simp [cmdPowerUnit, good, idle, on, off, low]; rfl)
  case turnsOn => exact direct_takes_wait takes (by simp [cmdPowerUnit, good, idle, on, off, up])
  case isOff => exact direct_reply takes (by simp [cmdPowerUnit, good, idle, off, was]; rfl)
  case inUse => exact direct_takes_st takes (by simp [cmdPowerUnit, good, idle, off, was, use]) (by decide)
  case needed => exact direct_takes_st takes (by simp [cmdPowerUnit, good, idle, off, was, free, no]) (by decide)
  case turnsOff => exact direct_reply takes (by simp [cmdPowerUnit, good, idle, off, was, free, ok]; rfl)
  case fenceBad => exact direct_takes_st takes (by simp only [cmdUnitFence, bad]) fun ok => unitRefused_ne_ok s _ (ok ▸ bad)
  case fenceNo => exact direct_takes_st takes (by simp [cmdUnitFence, good, fence, no]) (by decide)
  case fenced => exact direct_reply takes (by simp [cmdUnitFence, good, fence, ok]; rfl)
  case fenceBusy =>
    exact direct_takes_st takes (by simp [cmdUnitFence, good, unfence, Option.isSome_iff_ne_none, busy]) (by decide)
  case goesOn => exact direct_takes_wait takes (by simp [cmdUnitFence, good, unfence, idle, async])
  case failed =>
    exact direct_ok (accepts_of_takes takes sync) (by simp [cmdUnitFence, good, unfence, idle, sync, State.unfenceTry, test, failed])
  case wasOpen =>
    exact direct_ok (accepts_of_takes takes sync) (by simp [cmdUnitFence, good, unfence, idle, sync, State.unfenceTry, test, passed, open_])
  case unfenced =>
    exact direct_ok (accepts_of_takes takes sync) (by simp [cmdUnitFence, good, unfence, idle, sync, State.unfenceTry, test, passed, fenced, State.unfence])

end Sys2Proof.Machine

/-!
Proof of `LinkPorts` (06, 16).
-/
namespace Sys2Proof.Machine
open Sys2Proof
set_option Elab.async false

/-! ### Ports -/

theorem updLfn_get (s : State) (p : Fin 4) (f : LfnPort → LfnPort) : (s.updLfn p f).lfn.port[p] = f s.lfn.port[p] := updAt_get_self _ _ _

theorem updLfn_congr {s : State} {p : Fin 4} {f g : LfnPort → LfnPort} (eq : f s.lfn.port[p] = g s.lfn.port[p]) : s.updLfn p f = s.updLfn p g := by
  rw [State.updLfn, State.updLfn, updAt_congr eq]

theorem updLfn_same {s : State} {p : Fin 4} {f : LfnPort → LfnPort} (eq : f s.lfn.port[p] = s.lfn.port[p]) : s.updLfn p f = s := by
  rw [State.updLfn, updAt_same eq]

theorem lfnUp_val (s : State) (p : Fin 4) : s.lfnUp p.val = (s.lfn.port[p].state == .up) := by
  simp [State.lfnUp]

theorem ltnLocked_val (s : State) (t : Fin 2) : s.ltnLocked t.val = (s.ltn[t].state == .locked) := by
  rw [State.ltnLocked, Vector.getElem?_toList, Vector.getElem?_eq_getElem t.isLt] <;> rfl

theorem satAdd_zero {n : Nat} (x : BitVec n) : satAdd x 0 = x := by
  have lt := x.isLt
  rw [satAdd, Nat.add_zero, Nat.min_eq_left (by omega)]
  simp

/-- A port that is brought up and not up yet starts training, once its Lantern port, if it has one, is on its way (R477, R519). -/
theorem portUp_trains {s : State} {p : Fin 4} (down : s.lfnUp p.val = false) (on : s.unitLive (0x2E + p.val) = true) :
    ∃ t : State, s.portUp p = t.trainStart p ∧ t.lfn = (s.updLfn p (fun x => { x with wantUp := true })).lfn ∧ t.clock = s.clock ∧ t.sup = s.sup
      ∧ (s.ltnLocked p.val = false → t.ltnLocked p.val = false) := by
  have still : (s.updLfn p (fun x => { x with wantUp := true })).lfnUp p.val = false := by
    rw [lfnUp_val] at down ⊢
    rw [updLfn_get, ← down]
  have live : (s.updLfn p (fun x => { x with wantUp := true })).unitLive (0x2E + p.val) = true := on
  rw [State.portUp]
  dsimp only
  rw [if_neg (by simp [still, live])]
  refine ⟨_, rfl, ?_⟩
  split
  next lt =>
    split
    · exact ⟨rfl, rfl, rfl, id⟩
    · refine ⟨rfl, rfl, rfl, fun open_ => ?_⟩
      rw [ltnLocked_val s ⟨p.val, lt⟩] at open_
      rw [ltnLocked_val _ ⟨p.val, lt⟩, State.updLtn]
      rw [show (updAt _ _ _)[(⟨p.val, lt⟩ : Fin 2)] = _ from updAt_get_self _ _ _]
      split
      · rfl
      · exact open_
  next => exact ⟨rfl, rfl, rfl, id⟩

theorem portUp_spec {s : State} {p : Fin 4} (down : s.lfnUp p.val = false) (on : s.unitLive (0x2E + p.val) = true) :
    (s.portUp p).lfn.port[p].wantUp = true ∧ (s.portUp p).lfn.port[p].state = .training
    ∧ (s.optical p.val = false → (s.portUp p).lfn.port[p].trainDue = some (s.clock + 200))
    ∧ (s.optical p.val = true → s.ltnLocked p.val = false → (s.portUp p).lfn.port[p].trainDue = none) := by
  obtain ⟨t, eq, lfn, clock, sup, locked⟩ := portUp_trains down on
  have optical : t.optical p.val = s.optical p.val := by rw [State.optical, State.optical, sup]
  rw [eq, State.trainStart]
  rw [updLfn_get, lfn, updLfn_get, optical, clock]
  refine ⟨rfl, rfl, fun wire => ?_, fun glass open_ => ?_⟩
  · rw [wire] <;> rfl
  · rw [glass, locked open_] <;> rfl

/-- A port that is taken down with nothing queued or unacknowledged (R499). -/
theorem linkDown_of_empty {s : State} {p : Fin 4} {st : LinkState} (replay : s.lfn.port[p].replay = []) (q0 : s.lfn.port[p].q0 = [])
    (q1 : s.lfn.port[p].q1 = []) (q2 : s.lfn.port[p].q2 = []) :
    s.linkDown p st = (s.updLfn p (fun x => { x with
      state := st, lanes := 0, retraining := false, trainDue := none, nextSeq := 0, replay := [], stuck := 0
      credits := [128, 128, 16], owed := [0, 0, 0], lastGood := 0xFFF, waitReplay := false, ackDue := false, nakDue := false
      partial_ := none, q0 := [], q1 := [], q2 := []
      linkDowns := if x.state == .up then satInc x.linkDowns else x.linkDowns })).routesChanged s.routesUp := by
  rw [State.linkDown, replay, q0, q1, q2]
  change State.routesChanged (State.discards _ p 0) _ = _
  rw [State.discards, updLfn_same]
  rw [satAdd_zero]

theorem trainedWidth_spec (bad : BitVec 8) (lanes : List Nat) :
    let n := ((List.range 4).filter (fun l => lanes.contains l && !bad.getLsbD (2 * l) && !bad.getLsbD (2 * l + 1))).length
    trainedWidth bad lanes ∈ [0, 1, 2, 4] ∧ trainedWidth bad lanes ≤ n ∧ ∀ w, w ∈ [0, 1, 2, 4] → w ≤ n → w ≤ trainedWidth bad lanes := by
  intro n
  have width : trainedWidth bad lanes = if 4 ≤ n then 4 else if 2 ≤ n then 2 else n := rfl
  rw [width]
  simp only [List.mem_cons, List.not_mem_nil, or_false]
  have cases_ : (4 ≤ n ∧ (if 4 ≤ n then 4 else if 2 ≤ n then 2 else n) = 4) ∨ (n < 4 ∧ 2 ≤ n ∧ (if 4 ≤ n then 4 else if 2 ≤ n then 2 else n) = 2)
      ∨ (n < 2 ∧ (if 4 ≤ n then 4 else if 2 ≤ n then 2 else n) = n) := by
    by_cases four : 4 ≤ n
    · exact .inl ⟨four, if_pos four⟩
    · by_cases two : 2 ≤ n
      · exact .inr (.inl ⟨Nat.lt_of_not_le four, two, (if_neg four).trans (if_pos two)⟩)
      · exact .inr (.inr ⟨Nat.lt_of_not_le two, (if_neg four).trans (if_neg two)⟩)
  generalize (if 4 ≤ n then 4 else if 2 ≤ n then 2 else n) = w at cases_
  refine ⟨?_, ?_, fun v listed le => ?_⟩ <;> omega

/-! ### Link commands (R200 to R202) -/

theorem nextEpoch_eq (e : BitVec 8) : nextEpoch e = if e = 255 then 1 else e + 1 := rfl

/-- Settles O23: ports by `portUp_spec` and `linkDown_of_empty`, widths by `trainedWidth_spec`, each command by its checks in order. -/
theorem linkPorts : Obligations.LinkPorts := by
  refine ⟨⟨fun c s acc => ⟨fun busy => ?idBusy, fun u closed flushes waiting held eq => ?id⟩, fun c s u p acc port eq => ?port,
      fun s p down on => portUp_spec down on, fun s p high => dif_neg (by omega), fun s p st replay q0 q1 q2 => ⟨_, linkDown_of_empty replay q0 q1 q2, rfl⟩,
      fun c s u acc => ⟨fun past => ?routePast, fun inside eq => ?route⟩,
      fun c s u w v acc old => ⟨fun close shut => ?closeShut, fun close opened eqV eqU => ?close, fun opens missing => ?openMissing,
        fun opens live mapped pips eqV eqU => ?open_⟩, nextEpoch_eq,
      fun c s t tag acc => ⟨fun no => ?flushNone, fun id up busy => ?flushBusy, fun id up idle tagged => ?flush⟩,
      fun c s acc => ⟨fun off => ?ringOff, fun on ring holds => ?ringBusy, fun on free => ?ring⟩⟩,
    ⟨fun p lanes s u w live due width wide => ⟨fun first training eq => ?trained, fun again eq => ?retrained⟩, trainedWidth_spec,
      fun p s d live due past => ⟨fun training few => ?again, fun training many => ?failed, fun retrain => ?retrainLate⟩, fun p s live up => ?lost⟩⟩
  case idBusy =>
    refine direct_st acc (if_pos ?_)
    simp only [Bool.or_eq_true, List.any_eq_true, Bool.not_eq_true', List.isEmpty_eq_false_iff, beq_iff_eq, or_assoc]
    exact busy
  case id =>
    subst eq
    refine direct_ok acc (if_neg ?_)
    simp [flushes, waiting]
    exact ⟨fun a b mem => closed (a, b) mem, held⟩
  case port =>
    have same : (⟨c.f 8 1 % 4, Nat.mod_lt _ (by decide)⟩ : Fin 4) = p := Fin.ext (by simp only [port]; omega)
    subst eq
    refine direct_ok acc ?_
    obtain ⟨-, le⟩ := range_of_takes (off := 9) (size := 1) (lo := 0) (hi := 2) (takes_of_accepts acc) (by simp [cmdLinkPort])
    have op : c.f 9 1 = 0 ∨ c.f 9 1 = 1 ∨ c.f 9 1 = 2 := by omega
    have moved : (if c.f 9 1 = 1 then s.portUp p else if c.f 9 1 = 2 then s.portDown p else s)
        = if c.f 9 1 = 0 then s else if c.f 9 1 = 1 then s.portUp p else s.portDown p := by
      rcases op with h | h | h <;> simp [h]
    simp only [cmdLinkPort, same, moved]
  case routePast => exact direct_st acc (if_pos past)
  case route => subst eq; exact direct_ok acc (if_neg (Nat.not_lt.mpr inside))
  case closeShut =>
    refine direct_ok acc ((if_pos close).trans (if_neg ?_))
    rw [old]
    simp [shut]
  case close =>
    subst eqU eqV
    refine direct_ok acc ((if_pos close).trans ?_)
    rw [old]
    exact if_pos opened
  case openMissing =>
    refine direct_st acc ((if_neg opens).trans (if_pos ?_))
    simpa [or_assoc] using missing
  case open_ =>
    subst eqU eqV
    refine direct_ok acc ((if_neg opens).trans ?_)
    rw [old]
    refine if_neg ?_
    simpa [live, mapped] using pips
  case flushNone => exact direct_takes_st (takes_of_acceptsAsync acc) (if_pos (by simpa using no)) (by decide)
  case flushBusy =>
    exact direct_takes_st (takes_of_acceptsAsync acc) ((if_neg (by simpa [up] using id)).trans (if_pos (by simpa using busy))) (by decide)
  case flush =>
    have own : cmdLinkFlush.own c s = .waitThen s (.linkFlush (c.f 8 1)) [] (fun s => s.takeTag.2.remoteFlush (.flushCmd c.mbx c.seq) (c.f 8 1) 0 s.takeTag.1.toNat) :=
      (if_neg (by simpa [up] using id)).trans (if_neg (by simp [idle]))
    refine (direct_waitThen acc own).trans ?_
    rw [show (c.proceed cmdLinkFlush.spec.op s (.linkFlush (c.f 8 1)) []).takeTag = (tag, t) from tagged]
  case ringOff => exact direct_st acc (if_pos off)
  case ringBusy => exact direct_st acc ((if_neg (by simp [on])).trans (if_pos (by simp [ring, holds])))
  case ring => exact direct_ok acc ((if_neg (by simp [on])).trans (if_neg (by rcases free with h | h <;> simp [h])))
  case trained =>
    subst eq
    change execLinkTrainingDone p lanes s = _
    rw [execLinkTrainingDone, whenLive_of_live live]
    dsimp only
    rw [width]
    exact congrArg Host.Outcome.next ((if_neg (by simp [-Fin.getElem_fin, wide, Option.isSome_iff_ne_none.mp due])).trans ((if_neg (by simp [-Fin.getElem_fin, first])).trans
      (if_pos (by simp [-Fin.getElem_fin, training]))))
  case retrained =>
    subst eq
    change execLinkTrainingDone p lanes s = _
    rw [execLinkTrainingDone, whenLive_of_live live]
    dsimp only
    rw [width]
    exact congrArg Host.Outcome.next ((if_neg (by simp [-Fin.getElem_fin, wide, Option.isSome_iff_ne_none.mp due])).trans (if_pos again))
  case again =>
    change execLinkTrainingTimeout p s = _
    rw [execLinkTrainingTimeout, whenLive_of_live live]
    exact congrArg Host.Outcome.next ((if_pos (by simp [-Fin.getElem_fin, training, due, past])).trans (if_pos (by omega)))
  case failed =>
    change execLinkTrainingTimeout p s = _
    rw [execLinkTrainingTimeout, whenLive_of_live live]
    exact congrArg Host.Outcome.next ((if_pos (by simp [-Fin.getElem_fin, training, due, past])).trans (if_neg (by omega)))
  case retrainLate =>
    change execRetrainTimeout p s = _
    rw [execRetrainTimeout, whenLive_of_live live]
    exact congrArg Host.Outcome.next (if_pos (by simp [-Fin.getElem_fin, retrain, due, past]))
  case lost =>
    change execLfnLossOfLock p s = _
    rw [execLfnLossOfLock, whenLive_of_live live]
    exact congrArg Host.Outcome.next (if_pos (by simp [-Fin.getElem_fin, up]))

end Sys2Proof.Machine

/-!
Proof of `LinkTraffic` (16).
-/
namespace Sys2Proof.Machine
open Sys2Proof
set_option Elab.async false

/-! ### Flits (R479, R498) -/

/-- A flit on a port that is up, with what its buffer met. -/
theorem exec_flit {p : Fin 4} {flit : List Byte} {ue : Option LinkBuf} {s : State} (live : s.live = true) (up : s.lfn.port[p].state = .up)
    (len : flit.length = 36) :
    exec (.flitReceive p flit ue) s = .next (match ue with | some b => (s.flitFrom p flit).linkBufUe p b | none => s.flitFrom p flit) := by
  change execFlitReceive p flit ue s = _
  rw [execFlitReceive, whenLive_of_live live]
  refine congrArg Host.Outcome.next ((if_neg (by simp [-Fin.getElem_fin, up, len])).trans ?_)
  cases ue <;> rfl

theorem flitFrom_of_bad {s : State} {p : Fin 4} {flit : List Byte} (bad : crc16 (flit.take 34) ≠ BitVec.ofNat 16 (leAt flit 34 2)) :
    s.flitFrom p flit = s.updLfn p (fun x => { x with crcErr := satInc x.crcErr, waitReplay := true, nakDue := x.nakDue || !x.waitReplay }) :=
  if_pos bad

/-- A data flit with a good CRC is taken by its sequence number. -/
theorem flitFrom_of_data {s : State} {p : Fin 4} {flit : List Byte} {h : Bool} (good : crc16 (flit.take 34) = BitVec.ofNat 16 (leAt flit 34 2))
    (kind : bitsOf (leAt flit 32 2) 14 2 = (if h then 0 else 1)) :
    s.flitFrom p flit = s.flitIn p h (BitVec.ofNat 12 (leAt flit 32 2)) (flit.take 32) := by
  rw [State.flitFrom, if_neg (not_not.mpr good)]
  cases h <;> (dsimp only; rw [kind] <;> rfl)

theorem flitFrom_of_control {s : State} {p : Fin 4} {flit : List Byte} (good : crc16 (flit.take 34) = BitVec.ofNat 16 (leAt flit 34 2))
    (kind : bitsOf (leAt flit 32 2) 14 2 = 2) : s.flitFrom p flit = s.linkControl p (flit.take 32) := by
  rw [State.flitFrom, if_neg (not_not.mpr good)]
  dsimp only
  rw [kind] <;> rfl

theorem flitIn_cases (s : State) (p : Fin 4) (h : Bool) (q : BitVec 12) (c : List Byte) :
    (q = s.lfn.port[p].lastGood + 1 → s.flitIn p h q c = s.updLfn p (fun x =>
      ({ x with lastGood := x.lastGood + 1, waitReplay := false, nakDue := false, ackDue := true, rx := x.rx + 1 } : LfnPort).assemble h c))
    ∧ (q ≠ s.lfn.port[p].lastGood + 1 → s.lfn.port[p].waitReplay = false →
      s.flitIn p h q c = s.updLfn p (fun x => { x with waitReplay := true, nakDue := true }))
    ∧ (q ≠ s.lfn.port[p].lastGood + 1 → s.lfn.port[p].waitReplay = true → s.flitIn p h q c = s) := by
  refine ⟨fun next => updLfn_congr ?_, fun gap first => updLfn_congr ?_, fun gap waits => updLfn_same ?_⟩
  · rw [if_pos next, next]
  · rw [if_neg gap, if_neg (by simp [-Fin.getElem_fin, first])]
  · rw [if_neg gap, if_pos waits]

/-! ### Forwarding (R484, R485) -/

/-- The route's lowest-numbered port that is up and not the one excluded. -/
theorem routePort_eq_some {s : State} {d : Nat} {ex : Option Nat} {q : Fin 4} : s.routePort d ex = some q ↔
    ((s.lfn.route.toList.getD d 0).getLsbD q.val && s.lfnUp q.val && ex != some q.val) = true
    ∧ ∀ r < q, ((s.lfn.route.toList.getD d 0).getLsbD r.val && s.lfnUp r.val && ex != some r.val) = false := by
  rw [State.routePort]
  rw [← Fin.find?_eq_find?_finRange, Fin.find?_eq_some_iff]

/-- A packet taken out of its port's buffer leaves routes and link states. -/
theorem takeIn_links (s : State) (p : Fin 4) (k : Packet) : (s.takeIn p k).lfn.route = s.lfn.route ∧ ∀ r : Fin 4, (s.takeIn p k).lfnUp r.val = s.lfnUp r.val := by
  refine ⟨rfl, fun r => ?_⟩
  rw [lfnUp_val, lfnUp_val, State.takeIn]
  by_cases same : r = p
  · subst same
    rw [updLfn_get]
    split <;> rfl
  · rw [State.updLfn, updAt_get_other _ p r _ (Ne.symm same)]

/-- Where a packet for another device leaves (R484). -/
theorem routePort_taken {s : State} {p q : Fin 4} {k : Packet} (found : (s.takeIn p k).routePort k.dst (some p.val) = some q) :
    p ≠ q ∧ (s.lfn.route.toList.getD k.dst 0).getLsbD q.val = true ∧ s.lfn.port[q].state = .up
    ∧ ∀ r : Fin 4, r < q → r = p ∨ (s.lfn.route.toList.getD k.dst 0).getLsbD r.val = false ∨ s.lfn.port[r].state ≠ .up := by
  obtain ⟨route, up⟩ := takeIn_links s p k
  obtain ⟨here, lower⟩ := routePort_eq_some.mp found
  rw [route] at here lower
  simp only [up, lfnUp_val, Bool.and_eq_true, beq_iff_eq, bne_iff_ne] at here
  obtain ⟨⟨member, state⟩, other⟩ := here
  refine ⟨fun eq => other (by rw [eq]), member, state, fun r lt => ?_⟩
  have no := lower r lt
  rw [up, lfnUp_val] at no
  simp only [Bool.and_eq_false_iff, beq_eq_false_iff_ne, bne_eq_false_iff_eq, Option.some.injEq] at no
  rcases no with (clear | down) | same
  · exact .inr (.inl clear)
  · exact .inr (.inr down)
  · exact .inl (Fin.ext same.symm)

/-- A packet for another device at a port that is up. -/
theorem exec_forward {p : Fin 4} {k : Packet} {s : State} (live : s.live = true) (up : s.lfnUp p.val = true) (id : s.lfn.devId ≠ 0x7F)
    (good : k.bad = false) (dst : k.dst ≠ s.lfn.devId.toNat) (notWindow : k.type ≠ 8 ∨ k.f 12 1 ≠ 1) :
    exec (.lfnPacketForward p k) s = .next (if k.hops = 0 then (s.takeIn p k).discardPkt p k 10
      else match (s.takeIn p k).routePort k.dst (some p.val) with
        | none => (s.takeIn p k).discardPkt p k 9
        | some q => (s.takeIn p k).queueOut q { k with hdr := hdrPut k.hdr 4 (leBytes 1 (k.hops - 1)) } (some p.val)) := by
  change execLfnPacketForward p k s = _
  rw [execLfnPacketForward, whenLive_of_live live]
  refine congrArg Host.Outcome.next ((if_neg (by simp [up])).trans ((if_neg ?_).trans ((if_neg (by simp [good])).trans ((if_neg ?_).trans ?_))))
  · simp only [Bool.and_eq_true, decide_eq_true_eq]
    exact fun h => id h.1
  · simp only [Bool.or_eq_true, Bool.and_eq_true, decide_eq_true_eq]
    omega
  · rfl

/-- Settles O24: flits by `flitFrom_of_bad`, `flitFrom_of_data` and `flitFrom_of_control`, forwarding by `exec_forward`. -/
theorem linkTraffic : Obligations.LinkTraffic := by
  refine ⟨⟨fun p flit s live up len => ⟨fun bad => ?bad, fun h good kind => ⟨fun next => ?next, fun gap first => ?gap, fun gap waits => ?waits⟩,
        fun good kind => ?control, exec_flit live up len, fun k last => ?vc⟩,
      fun p s live up runs due => ?send⟩,
    fun p k s u live up id good dst notWindow eq => ⟨fun none => ?hops, fun some gone => ?noRoute, fun q some found => ⟨?leaves, routePort_taken (eq ▸ found)⟩⟩,
    fun p k s live up => ⟨fun noId other => ?noId, fun id bad => ?badPacket⟩,
    fun p s u late live up runs when eq => ?late⟩
  case bad => exact (exec_flit live up len).trans (congrArg Host.Outcome.next (flitFrom_of_bad bad))
  case next =>
    obtain ⟨take, -, -⟩ := flitIn_cases s p h (BitVec.ofNat 12 (leAt flit 32 2)) (flit.take 32)
    exact (exec_flit live up len).trans (congrArg Host.Outcome.next ((flitFrom_of_data good kind).trans (take next)))
  case gap =>
    obtain ⟨-, nak, -⟩ := flitIn_cases s p h (BitVec.ofNat 12 (leAt flit 32 2)) (flit.take 32)
    exact (exec_flit live up len).trans (congrArg Host.Outcome.next ((flitFrom_of_data good kind).trans (nak gap first)))
  case waits =>
    obtain ⟨-, -, drop⟩ := flitIn_cases s p h (BitVec.ofNat 12 (leAt flit 32 2)) (flit.take 32)
    exact (exec_flit live up len).trans (congrArg Host.Outcome.next ((flitFrom_of_data good kind).trans (drop gap waits)))
  case control => exact (exec_flit live up len).trans (congrArg Host.Outcome.next (flitFrom_of_control good kind))
  case vc =>
    refine (exec_flit live up len).trans (congrArg Host.Outcome.next ?_)
    dsimp only
    rw [State.linkBufUe]
    rw [last]
  case send =>
    change execLinkControlFlitSend p s = _
    rw [execLinkControlFlitSend, whenLive_of_live live]
    refine congrArg Host.Outcome.next (if_neg ?_)
    have some : (s.lfn.port[p].ackDue || s.lfn.port[p].nakDue || s.lfn.port[p].owed.any (· != 0)) = true := by
      simpa [-Fin.getElem_fin, or_assoc] using due
    simp [-Fin.getElem_fin, up, runs, some]
  case hops => rw [exec_forward live up id good dst notWindow, if_pos none, eq]
  case noRoute =>
    subst eq
    rw [exec_forward live up id good dst notWindow, if_neg some, gone]
  case leaves =>
    subst eq
    rw [exec_forward live up id good dst notWindow, if_neg some, found]
  case noId =>
    change execLfnPacketForward p k s = _
    rw [execLfnPacketForward, whenLive_of_live live]
    exact congrArg Host.Outcome.next ((if_neg (by simp [up])).trans (if_pos (by simp [noId, other])))
  case badPacket =>
    change execLfnPacketForward p k s = _
    rw [execLfnPacketForward, whenLive_of_live live]
    refine congrArg Host.Outcome.next ((if_neg (by simp [up])).trans ((if_neg ?_).trans (if_pos bad)))
    simp only [Bool.and_eq_true, decide_eq_true_eq]
    exact fun h => id h.1
  case late =>
    subst eq
    have same : late = fun o => decide (o.at_ + 25 ≤ s.clock) := funext fun o => by
      rw [Bool.eq_iff_iff, when o, decide_eq_true_eq]
    subst same
    change execCreditWaitTimeout p s = _
    rw [execCreditWaitTimeout, whenLive_of_live live]
    exact congrArg Host.Outcome.next (if_neg (by simp [-Fin.getElem_fin, up, runs]))

end Sys2Proof.Machine

/-!
Proof of `PeerRequests` (16).
-/
namespace Sys2Proof.Machine
open Sys2Proof
set_option Elab.async false

/-! ### Requests of a peer (R490 to R495) -/

/-- The checks of R490 of a window that is listed, in their order. -/
theorem winCheck_cases {s : State} {src wepoch bit off len : Nat} {ok : Window → Bool} {w : Window} (listed : lookupN s.lfn.win src = some w) :
    (w.open_ = false → s.winCheck src wepoch bit off len ok = (1, w))
    ∧ (w.open_ = true → wepoch ≠ w.epoch.toNat → s.winCheck src wepoch bit off len ok = (2, w))
    ∧ (w.open_ = true → wepoch = w.epoch.toNat → (bitOf w.perm.toNat bit = false ∨ ok w = false) → s.winCheck src wepoch bit off len ok = (3, w))
    ∧ (w.open_ = true → wepoch = w.epoch.toNat → bitOf w.perm.toNat bit = true → ok w = true →
      (w.pages * 4096 < off + len → s.winCheck src wepoch bit off len ok = (4, w))
      ∧ (off + len ≤ w.pages * 4096 → s.ctxServes w.ctx = false → s.winCheck src wepoch bit off len ok = (5, w))
      ∧ (off + len ≤ w.pages * 4096 → s.ctxServes w.ctx = true → s.winCheck src wepoch bit off len ok = (0, w))) := by
  simp only [State.winCheck, listed, Option.getD_some]
  refine ⟨fun shut => by simp [shut], fun open_ old => by simp [open_, old], fun open_ epoch no => ?_, fun open_ epoch may fine =>
    ⟨fun long => ?_, fun short dead => ?_, fun short lives => ?_⟩⟩
  · rcases no with h | h <;> simp [open_, epoch, h]
  · simp [open_, epoch, may, fine, long]
  · simp [open_, epoch, may, fine, Nat.not_lt.mpr short, dead]
  · simp [open_, epoch, may, fine, Nat.not_lt.mpr short, lives]

/-- A good packet of the right type for this device at a port that is up is taken. -/
theorem arrives_of_mine {s : State} {p : Fin 4} {k : Packet} {type : Nat} {f : State → State} (up : s.lfnUp p.val = true) (id : s.lfn.devId ≠ 0x7F)
    (good : k.bad = false) (kind : k.type = type) (dst : k.dst = s.lfn.devId.toNat) : s.arrives p k type f = f (s.takeIn p k) := by
  refine (if_neg (by simp [up])).trans ((if_neg ?_).trans ((if_neg (by simp [good])).trans ((if_neg (not_not.mpr kind)).trans (if_neg (by simp [dst])))))
  simp only [Bool.and_eq_true, decide_eq_true_eq]
  exact fun h => id h.1

theorem countOf_countWrite (s : State) (src : Nat) (g : BitVec 8) (ok : Bool) : (s.countWrite src g ok).countOf src g
    = (if ok then { s.countOf src g with p := (s.countOf src g).p + 1 } else { s.countOf src g with j := (s.countOf src g).j + 1 }) := by
  have named : (s.countOf src g).src = src ∧ (s.countOf src g).gen = g := by
    rw [State.countOf]
    cases found : s.lfn.counts.find? (fun c => c.src == src && c.gen == g) with
    | none => exact ⟨rfl, rfl⟩
    | some c => simpa using List.find?_some found
  rw [State.countWrite]
  generalize s.countOf src g = c at named
  obtain ⟨src', gen'⟩ := named
  have gone : (s.lfn.counts.filter (fun x => !(x.src == src && x.gen == g))).find? (fun c => c.src == src && c.gen == g) = none := by
    rw [List.find?_eq_none]
    intro x mem
    simpa [imp_iff_not_or] using (List.mem_filter.mp mem).2
  have last : ∀ d : GenCount, d.src = src → d.gen = g →
      ((s.updLofin (fun l => { l with counts := l.counts.filter (fun x => !(x.src == src && x.gen == g)) ++ [d] })).countOf src g) = d := fun d a b => by
    rw [State.countOf]
    change Option.getD (List.find? _ (_ ++ [d])) _ = d
    rw [List.find?_append, gone]
    simp [a, b]
  refine last _ ?_ ?_ <;> cases ok <;> assumption

/-- A write that is not late is checked and performed, or counted as failed (R493, R495). -/
theorem exec_writePosted {p : Fin 4} {k : Packet} {s : State} (live : s.live = true) (up : s.lfnUp p.val = true) (id : s.lfn.devId ≠ 0x7F)
    (good : k.bad = false) (kind : k.type = 1) (dst : k.dst = s.lfn.devId.toNat) :
    exec (.writePostedArrive p k) s = .next (let u := s.takeIn p k
      if (lookupN s.lfn.closed k.src).any (fun g => (g - k.fgen).toNat < 128) then { u with lfn := { u.lfn with lateDrop := satInc u.lfn.lateDrop } }
      else
        let c := u.winCheck k.src k.wepoch 0 k.offset k.len (fun _ => true)
        let r := if c.1 ≠ 0 then (u, c.1) else u.peerWrite p c.2.ctx (c.2.va + k.offset) (k.payload k.offset)
        if r.2 = 0 then r.1.countWrite k.src k.fgen true
        else ((r.1.countWrite k.src k.fgen false).discards p 1).failVc0 k r.2) := by
  change execWritePostedArrive p k s = _
  rw [execWritePostedArrive, whenLive_of_live live, arrives_of_mine up id good kind dst] <;> rfl

theorem leNat_lt (bs : List Byte) : leNat bs < 256 ^ bs.length := by
  induction bs with
  | nil => decide
  | cons b bs ih =>
    have lt := b.isLt
    rw [leNat, List.length_cons, Nat.pow_succ]
    omega

theorem leAt_lt (bs : List Byte) (off n : Nat) : leAt bs off n < 256 ^ n :=
  Nat.lt_of_lt_of_le (leNat_lt _) (Nat.pow_le_pow_right (by decide) (by rw [List.length_take]; exact Nat.min_le_left _ _))

/-- A signal of a peer that names an operation of R281 on a general pip. -/
theorem serveSignal_of_general {k : Packet} {s : State} {o : PipOp} (op : pipOpOf (k.f 27 1) = some o) (kind : o = .add ∨ o = .set ∨ o = .poison)
    (operand : pipOperandOk o (k.f 12 4) = true) (general : k.f 24 3 < 130496) {n : Nat}
    (check : (s.winCheck k.src k.wepoch 2 0 0 (fun w => w.pipFirst ≤ k.f 24 3 && k.f 24 3 < w.pipFirst + w.pipCount)).1 = n) :
    s.serveSignal k = if n ≠ 0 then ({ s with pip := { s.pip with remoteRefused := satInc s.pip.remoteRefused } } : State).failVc0 k n
      else if (s.countOf k.src k.fgen).p < k.wcount then s.pipApply (k.f 24 3) .poison (BitVec.ofNat 32 Status.remoteError.code)
      else s.pipApply (k.f 24 3) o (BitVec.ofNat 32 (k.f 12 4)) := by
  have value : (BitVec.ofNat 32 (k.f 12 4)).toNat = k.f 12 4 := Nat.mod_eq_of_lt (leAt_lt _ _ 4)
  have okOp : ((o == .add || o == .set || o == .poison) && pipOperandOk o (BitVec.ofNat 32 (k.f 12 4)).toNat) = true := by
    rw [value, operand]
    rcases kind with h | h | h <;> simp [h]
  have stage : decide (130496 ≤ k.f 24 3) = false := decide_eq_false (Nat.not_le.mpr general)
  simp only [State.serveSignal, op, okOp, stage, Bool.true_and, Bool.false_and, Bool.and_false, Bool.false_eq_true, if_false, check, decide_eq_true_eq]

theorem readUe_of_clean {s : State} {a n : Nat} (ecc : s.mem.ecc = []) (poison : s.str.fs.poison = []) : s.readUe a n = false := by
  rw [State.readUe, ecc, poison]
  rfl

theorem readSense_of_clean {s : State} {a n : Nat} (ecc : s.mem.ecc = []) : s.readSense a n = s := by
  rw [State.readSense, ecc]
  exact ite_self s

theorem not_late {o : Option (BitVec 8)} {g : BitVec 8} (fresh : ∀ x, o = some x → 128 ≤ (x - g).toNat) :
    ¬ o.any (fun x => decide ((x - g).toNat < 128)) = true := by
  cases o with
  | none => exact Bool.false_ne_true
  | some x =>
    rw [Option.any_some, decide_eq_true_eq]
    exact Nat.not_lt.mpr (fresh x rfl)

/-- Settles O25: the window by `winCheck_cases`, a write by `exec_writePosted`, a signal by `serveSignal_of_general`. -/
theorem peerRequests : Obligations.PeerRequests := by
  refine ⟨fun s src wepoch bit off len ok w listed => winCheck_cases listed,
    ⟨fun p k s u w n live up id good kind dst eq => ⟨fun g closed late => ?late, fun fresh check => ⟨fun fails => ⟨?failed, ?memory⟩, fun v c passes write =>
        ⟨fun done => ?written, fun bad => ?notWritten⟩⟩⟩,
      countOf_countWrite,
      fun p k s u live up id good dst eq => ⟨fun kind => ?read, fun kind => ?signal, fun kind => ?flush, ?waits⟩,
      fun k s u w live found eq => ⟨fun ready => ?served, fun few soon => ?notYet⟩⟩,
    fun p k s n w check => ⟨fun fails => ?readFails, fun t st passes bad => ?unreached, fun t passes good ecc poison => ?answered⟩,
    fun k s o op kind operand general => ⟨fun fails => ?refused, fun passes => ⟨fun all => ?applied, fun missing => ?poisons⟩⟩,
    fun k s => rfl⟩
  case late =>
    subst eq
    rw [exec_writePosted live up id good kind dst, closed]
    exact congrArg Host.Outcome.next (if_pos (by rw [Option.any_some]; exact decide_eq_true late))
  case failed =>
    subst eq
    rw [exec_writePosted live up id good kind dst]
    refine congrArg Host.Outcome.next ((if_neg (not_late fresh)).trans ?_)
    dsimp only
    rw [check, if_pos fails]
    exact if_neg fails
  case memory =>
    subst eq
    rfl
  case written =>
    subst eq
    rw [exec_writePosted live up id good kind dst]
    refine congrArg Host.Outcome.next ((if_neg (not_late fresh)).trans ?_)
    dsimp only
    rw [check, if_neg (not_not.mpr passes), write]
    exact if_pos done
  case notWritten =>
    subst eq
    rw [exec_writePosted live up id good kind dst]
    refine congrArg Host.Outcome.next ((if_neg (not_late fresh)).trans ?_)
    dsimp only
    rw [check, if_neg (not_not.mpr passes), write]
    exact if_neg bad
  case read =>
    change execReadReqArrive p k s = _
    rw [execReadReqArrive, whenLive_of_live live, arrives_of_mine up id good kind dst, eq]
  case signal =>
    change execPipSignalPacketArrive p k s = _
    rw [execPipSignalPacketArrive, whenLive_of_live live, arrives_of_mine up id good kind dst, eq]
  case flush =>
    change execFlushArrive p k s = _
    rw [execFlushArrive, whenLive_of_live live, arrives_of_mine up id good kind dst, eq]
  case waits =>
    subst eq
    rfl
  case served =>
    subst eq
    change execWcountServe k s = _
    rw [execWcountServe, whenLive_of_live live, found]
    exact congrArg Host.Outcome.next (if_pos (by simpa using ready))
  case notYet =>
    change execWcountServe k s = _
    rw [execWcountServe, whenLive_of_live live, found]
    exact congrArg Host.Outcome.next (if_neg (by simp [few, soon]))
  case readFails =>
    rw [State.serveRead, check]
    exact if_pos fails
  case unreached =>
    rw [State.serveRead, check]
    dsimp only
    rw [if_neg (by simp [passes]), bad]
    rfl
  case answered =>
    rw [State.serveRead, check]
    dsimp only
    rw [if_neg (by simp [passes]), good]
    have clean : ∀ l : List (Nat × Nat × Nat), l.any (fun y => t.readUe y.1 y.2.2) = false := fun l =>
      List.any_eq_false.mpr fun y _ => by simp [readUe_of_clean ecc poison]
    have same : ∀ l : List (Nat × Nat × Nat), l.foldl (fun s y => s.readSense y.1 y.2.2) t = t := fun l =>
      foldl_same fun y _ => readSense_of_clean ecc
    dsimp only
    rw [clean, same]
    rfl
  case refused => rw [serveSignal_of_general op kind operand general rfl, if_pos fails]
  case applied => rw [serveSignal_of_general op kind operand general passes, if_neg (by decide), if_neg (Nat.not_lt.mpr all)]
  case poisons => rw [serveSignal_of_general op kind operand general passes, if_neg (by decide), if_pos missing]

end Sys2Proof.Machine

/-!
Proof of `RemoteRequests` (16).
-/
namespace Sys2Proof.Machine
open Sys2Proof
set_option Elab.async false

/-! ### Pieces of a request (R483) -/

theorem pieces_inside (k : Nat) : ∀ o n x, x ∈ pieces k o n → o ≤ x.1 ∧ x.1 + x.2 ≤ o + n ∧ x.1 / 256 = (x.1 + x.2 - 1) / 256 ∧ 0 < x.2 := by
  induction k with
  | zero => exact fun o n x mem => absurd mem List.not_mem_nil
  | succ k ih =>
    intro o n x mem
    cases n with
    | zero => exact absurd mem List.not_mem_nil
    | succ n =>
      rw [pieces] at mem
      rcases List.mem_cons.mp mem with first | later
      · subst first
        dsimp only
        omega
      · obtain ⟨low, high, block, some⟩ := ih _ _ _ later
        exact ⟨by omega, by omega, block, some⟩

theorem pieces_sum (k : Nat) : ∀ o n, n + o % 256 ≤ 256 * k → ((pieces k o n).map Prod.snd).sum = n := by
  induction k with
  | zero => intro o n le; rw [show n = 0 by omega]; rfl
  | succ k ih =>
    intro o n le
    cases n with
    | zero => rfl
    | succ n =>
      rw [pieces, List.map_cons, List.sum_cons]
      have rest := ih (o + min (n + 1) (256 - o % 256)) (n + 1 - min (n + 1) (256 - o % 256))
      by_cases whole : n + 1 ≤ 256 - o % 256
      · rw [Nat.min_eq_left whole, Nat.sub_self]
        cases k <;> simp [pieces]
      · rw [rest (by omega)]
        omega

theorem piecesOf_sum (o n : Nat) : ((piecesOf o n).map Prod.snd).sum = n := pieces_sum _ o n (by omega)

/-! ### Requests of this device (R487, R488, R491, R494, R500) -/

/-- A request of this device, whom it names and whether a route is there. -/
theorem exec_remoteIssue {by_ : RemoteBy} {req : RemoteReq} {s : State} (live : s.live = true) (dst : req.dst < 128) :
    (((s.lfn.devId ≠ 0x7F ∧ req.dst = s.lfn.devId.toNat) ∨ (req.isAccess = true ∧ s.remoteCtx by_ ≠ 0)) →
      exec (.remoteRequestIssue by_ req) s = .next ((s.faultLog (s.remoteUnit by_) Status.notFound.code
        (BitVec.ofNat 32 (bitsOf (0x040000000000 + req.dst * 2 ^ 32 + req.offset) 12 27))).workFail by_ .notFound))
    ∧ (¬ (s.lfn.devId ≠ 0x7F ∧ req.dst = s.lfn.devId.toNat) → ¬ (req.isAccess = true ∧ s.remoteCtx by_ ≠ 0) →
      exec (.remoteRequestIssue by_ req) s = .next (if s.lfn.devId = 0x7F || !s.routeUp req.dst then
          let t := match req.fence with
            | some p => s.pipApply p .poison (BitVec.ofNat 32 Status.unreachable.code)
            | none => s
          if req.isRead then t.workFail by_ .unreachable else t
        else match req with
          | .write _ off bs fence ctx => s.takeTag.2.remoteWrite by_ req.dst off bs fence ctx s.takeTag.1.toNat
          | .read _ off len ctx => (piecesOf off len).foldl (fun s x => s.readSend by_ req.dst ctx x.1 x.2) s
          | .signal _ pip op v fence ctx => s.takeTag.2.remoteSend req.dst
            { hdr := mkHdr 4 (b2n fence.isSome) req.dst s.lfn.devId.toNat 0 0 ctx s.takeTag.1.toNat 0
                (leBytes 4 v.toNat ++ zeros 4 ++ leBytes 4 (fence.getD 0) ++ leBytes 3 pip ++ leBytes 1 op) } by_)) := by
  have named : ((s.lfn.devId != 0x7F && req.dst = s.lfn.devId.toNat) || (req.isAccess && s.remoteCtx by_ != 0)) = true
      ↔ (s.lfn.devId ≠ 0x7F ∧ req.dst = s.lfn.devId.toNat) ∨ (req.isAccess = true ∧ s.remoteCtx by_ ≠ 0) := by
    simp only [Bool.or_eq_true, Bool.and_eq_true, bne_iff_ne, decide_eq_true_eq]
  change (_ → execRemoteRequestIssue by_ req s = _) ∧ (_ → _ → execRemoteRequestIssue by_ req s = _)
  rw [execRemoteRequestIssue, whenLive_of_live live]
  constructor
  · exact fun own => congrArg Host.Outcome.next ((if_neg (Nat.not_le.mpr dst)).trans (if_pos (named.mpr own)))
  · intro other plain
    refine congrArg Host.Outcome.next ((if_neg (Nat.not_le.mpr dst)).trans ((if_neg fun own => ?_).trans ?_))
    · exact (named.mp own).elim other plain
    · cases req <;> rfl

/-- Settles O26: who is reached by `exec_remoteIssue`, the pieces by `pieces_inside` and `piecesOf_sum`. -/
theorem remoteRequests : Obligations.RemoteRequests := by
  refine ⟨fun by_ req s live dst => ⟨(exec_remoteIssue live dst).1, fun other plain => ⟨fun unreached => ⟨fun write none => ?lost, fun f fence => ?fenced, fun read => ?readLost⟩,
      fun id up => ⟨fun d off bs f ctx tag t eq tagged => ?write, fun d off len ctx eq => ?read, fun d pip op v f ctx tag t eq tagged => ?signal⟩⟩⟩,
    fun o n x mem => pieces_inside _ o n x mem, piecesOf_sum,
    fun s d k by_ => ⟨fun w known kind => ?known, fun new asked => ?held, fun new free => ?asks⟩,
    fun p k s u live up id good kind dst eq => ⟨fun none => ?stale, fun r v found eqV => ?answered⟩,
    fun tag s r live found => ?timeout, fun p k s u v f live up id good kind dst eqU found eqV => ?acked, fun dst s f live found => ?ackLate,
    fun s d n m q st => ⟨rfl, rfl⟩,
    fun dst d s u live spacing due eq => ⟨fun none => ?quiet, fun w v tag t found eqV => ⟨fun up tagged => ?flushes, fun down => ?flushLost⟩⟩⟩
  case lost =>
    obtain ⟨-, row⟩ := exec_remoteIssue (by_ := by_) live dst
    rw [row other plain, if_pos (by simpa using unreached), none, write] <;> rfl
  case fenced =>
    obtain ⟨-, row⟩ := exec_remoteIssue (by_ := by_) live dst
    have write : req.isRead = false := by
      cases req with
      | read => cases fence
      | write => rfl
      | signal => rfl
    rw [row other plain, if_pos (by simpa using unreached), fence, write] <;> rfl
  case readLost =>
    obtain ⟨-, row⟩ := exec_remoteIssue (by_ := by_) live dst
    have none : req.fence = none := by
      cases req with
      | read => rfl
      | write => cases read
      | signal => cases read
    rw [row other plain, if_pos (by simpa using unreached), none, read] <;> rfl
  case write =>
    subst eq
    obtain ⟨-, row⟩ := exec_remoteIssue (by_ := by_) live dst
    rw [row other plain, if_neg (by simpa [up] using id), tagged] <;> rfl
  case read =>
    subst eq
    obtain ⟨-, row⟩ := exec_remoteIssue (by_ := by_) live dst
    rw [row other plain, if_neg (by simpa [up] using id)] <;> rfl
  case signal =>
    subst eq
    obtain ⟨-, row⟩ := exec_remoteIssue (by_ := by_) live dst
    rw [row other plain, if_neg (by simpa [up] using id), tagged] <;> rfl
  case known =>
    rw [State.remoteSend, known]
    exact if_neg kind
  case held =>
    rw [State.remoteSend, new]
    exact if_pos (Option.isSome_iff_ne_none.mpr asked)
  case asks =>
    refine ⟨_, ?_, rfl⟩
    rw [State.remoteSend, new]
    exact if_neg (by simp [free])
  case stale =>
    subst eq
    change execReadRspArrive p k s = _
    rw [execReadRspArrive, whenLive_of_live live, arrives_of_mine up id good kind dst, none] <;> rfl
  case answered =>
    subst eq eqV
    change execReadRspArrive p k s = _
    rw [execReadRspArrive, whenLive_of_live live, arrives_of_mine up id good kind dst, found]
    simp only [Bool.or_eq_true, decide_eq_true_eq]
    rfl
  case timeout =>
    change execReadTimeout tag s = _
    rw [execReadTimeout, whenLive_of_live live, found] <;> rfl
  case acked =>
    subst eqU eqV
    change execFlushAckArrive p k s = _
    rw [execFlushAckArrive, whenLive_of_live live, arrives_of_mine up id good kind dst, found] <;> rfl
  case ackLate =>
    change execFlushAckTimeout dst s = _
    rw [execFlushAckTimeout, whenLive_of_live live, found] <;> rfl
  case quiet =>
    subst eq
    change execFlushSpacingEnd dst s = _
    rw [execFlushSpacingEnd, whenLive_of_live live]
    refine congrArg Host.Outcome.next ((if_pos (by simp [spacing, due])).trans ?_)
    simp only [State.updLofin, none]
  case flushes =>
    subst eq eqV
    change execFlushSpacingEnd dst s = _
    rw [execFlushSpacingEnd, whenLive_of_live live]
    refine congrArg Host.Outcome.next ((if_pos (by simp [spacing, due])).trans ?_)
    simp only [State.updLofin, found]
    refine (if_pos up).trans ?_
    rw [show State.takeTag _ = (tag, t) from tagged]
  case flushLost =>
    subst eq eqV
    change execFlushSpacingEnd dst s = _
    rw [execFlushSpacingEnd, whenLive_of_live live]
    refine congrArg Host.Outcome.next ((if_pos (by simp [spacing, due])).trans ?_)
    simp only [State.updLofin, found]
    exact if_neg (by simp [down])

end Sys2Proof.Machine

/-!
Proof of `LinkNotices` (16).
-/
namespace Sys2Proof.Machine
open Sys2Proof
set_option Elab.async false

/-! ### The Remote Error Ring (R496, R497) -/

theorem raising_out (s : State) (f : State → State) : (s.raising f).lfn = (f s).lfn ∧ ∀ x ∈ (f s).out, x ∈ (s.raising f).out := by
  unfold State.raising
  dsimp only
  split
  · obtain ⟨h, o, eq, -, keeps⟩ := sendMsix_frame (f s) 0
    rw [eq]
    exact ⟨rfl, keeps⟩
  · exact ⟨rfl, fun x mem => mem⟩

theorem rerWrite_of_room {s : State} {e : RerEntry} {base : U64} {n : Nat} (ring : s.lfn.rer = some (base, n)) (can : s.canRequest = true)
    (none : s.lfn.rerHeld = []) (room : (s.lfn.producer.toNat + 1) % 2 ^ n ≠ s.lfn.consumer.toNat) : s.rerWrite e = s.rerPut (e.bytes s.devTime) := by
  refine (if_neg (by simp [ring])).trans (if_neg ?_)
  simp [none, can, Lofin.rerFull, ring, room]

theorem rerWrite_of_waits {s : State} {e : RerEntry} {base : U64} {n : Nat} (ring : s.lfn.rer = some (base, n))
    (waits : s.canRequest = false ∨ s.lfn.rerHeld ≠ [] ∨ (s.lfn.producer.toNat + 1) % 2 ^ n = s.lfn.consumer.toNat) :
    s.rerWrite e = s.updLofin (fun l => { l with rerHeld := l.rerHeld ++ [e.bytes s.devTime] }) := by
  refine (if_neg (by simp [ring])).trans (if_pos ?_)
  rcases waits with h | h | h
  · simp [h]
  · simp [h]
  · simp [Lofin.rerFull, ring, h]

theorem rerPut_of_ring {s : State} {bs : List Byte} {base : U64} {n : Nat} (ring : s.lfn.rer = some (base, n)) :
    s.rerPut bs = ({ s.emit (.hostWrite (base.toNat + 64 + 32 * s.lfn.producer.toNat) bs) with
      lfn := { s.lfn with producer := BitVec.ofNat 32 ((s.lfn.producer.toNat + 1) % 2 ^ n) } } : State).emit
        (.hostWrite base.toNat (leBytes 4 ((s.lfn.producer.toNat + 1) % 2 ^ n))) := by
  rw [State.rerPut, ring] <;> rfl

/-- One entry that waited, after CONSUMER was read: written, or dropped and counted if the ring is full still. -/
theorem rerDrain_one {s : State} {b : List Byte} {base : U64} {n : Nat} (ring : s.lfn.rer = some (base, n)) :
    (s.rerDrain [b] true).lfn.rerHeld = [] ∧ (s.rerDrain [b] true).lfn.consumer = s.lfn.consumer
    ∧ ((s.lfn.producer.toNat + 1) % 2 ^ n = s.lfn.consumer.toNat →
      (s.rerDrain [b] true).lfn.dropped = satInc s.lfn.dropped ∧ (s.rerDrain [b] true).lfn.producer = s.lfn.producer)
    ∧ ((s.lfn.producer.toNat + 1) % 2 ^ n ≠ s.lfn.consumer.toNat →
      .hostWrite (base.toNat + 64 + 32 * s.lfn.producer.toNat) b ∈ (s.rerDrain [b] true).out
      ∧ (s.rerDrain [b] true).lfn.producer = BitVec.ofNat 32 ((s.lfn.producer.toNat + 1) % 2 ^ n)) := by
  by_cases full : (s.lfn.producer.toNat + 1) % 2 ^ n = s.lfn.consumer.toNat
  · have dropped : s.rerDrain [b] true = s.rerDrop.rerDrain [] false := (if_neg (by simp [Lofin.rerFull, ring, full])).trans (if_pos rfl)
    rw [dropped, State.rerDrop, ring]
    exact ⟨rfl, rfl, fun _ => ⟨rfl, rfl⟩, fun room => absurd full room⟩
  · have put : s.rerDrain [b] true = (s.rerPut b).rerDrain [] false := if_pos (by simp [Lofin.rerFull, ring, full])
    rw [put, rerPut_of_ring ring]
    exact ⟨rfl, rfl, fun h => absurd h full, fun _ => ⟨List.mem_cons_of_mem _ (List.mem_cons_self ..), rfl⟩⟩

/-- CONSUMER is read while one entry waits (R497). -/
theorem rerRead_one {s : State} {c : U32} {b : List Byte} {base : U64} {n : Nat} (ring : s.lfn.rer = some (base, n)) (held : s.lfn.rerHeld = [b]) :
    (s.rerRead c).lfn.rerHeld = [] ∧ (s.rerRead c).lfn.consumer = c
    ∧ ((s.lfn.producer.toNat + 1) % 2 ^ n = c.toNat → (s.rerRead c).lfn.dropped = satInc s.lfn.dropped ∧ (s.rerRead c).lfn.producer = s.lfn.producer)
    ∧ ((s.lfn.producer.toNat + 1) % 2 ^ n ≠ c.toNat → .hostWrite (base.toNat + 64 + 32 * s.lfn.producer.toNat) b ∈ (s.rerRead c).out
      ∧ (s.rerRead c).lfn.producer = BitVec.ofNat 32 ((s.lfn.producer.toNat + 1) % 2 ^ n)) := by
  obtain ⟨none, read, full, room⟩ := rerDrain_one (b := b)
    (s := s.updLofin (fun l => { l with consumer := c, remoteErr := l.remoteErr && c != l.producer })) ring
  have raised : ∀ (v : State) (d : Bool), ∃ w : State, (if d then v.raising (·.updLofin (fun l => { l with remoteErr := true })) else v) = w
      ∧ w.lfn.rerHeld = v.lfn.rerHeld ∧ w.lfn.consumer = v.lfn.consumer ∧ w.lfn.dropped = v.lfn.dropped ∧ w.lfn.producer = v.lfn.producer
      ∧ ∀ x ∈ v.out, x ∈ w.out := fun v d => by
    obtain ⟨lfn, out⟩ := raising_out v (·.updLofin (fun l => { l with remoteErr := true }))
    cases d
    · exact ⟨_, rfl, rfl, rfl, rfl, rfl, fun x mem => mem⟩
    · exact ⟨_, rfl, (congrArg Lofin.rerHeld lfn : _), (congrArg Lofin.consumer lfn : _), (congrArg Lofin.dropped lfn : _), (congrArg Lofin.producer lfn : _), out⟩
  rw [State.rerRead]
  rw [show (s.updLofin (fun l => { l with consumer := c, remoteErr := l.remoteErr && c != l.producer })).lfn.rerHeld = [b] from held]
  obtain ⟨w, eq, heldW, consumerW, droppedW, producerW, outW⟩ := raised
    ((s.updLofin (fun l => { l with consumer := c, remoteErr := l.remoteErr && c != l.producer })).rerDrain [b] true) _
  rw [eq]
  refine ⟨heldW.trans none, consumerW.trans read, fun h => ?_, fun h => ?_⟩
  · exact ⟨droppedW.trans (full h).1, producerW.trans (full h).2⟩
  · exact ⟨outW _ (room h).1, producerW.trans (room h).2⟩

theorem rerReads_of_due {s : State} (ring : s.lfn.rer.isSome = true) (can : s.canRequest = true)
    (due : s.lfn.rerHeld ≠ [] ∨ (s.lfn.remoteErr = true ∧ ∀ d, s.lfn.rerDue = some d → d ≤ s.clock)) : s.rerReads = true := by
  rw [State.rerReads, ring, can]
  rcases due with h | ⟨h, d⟩
  · simp [h]
  · simp only [h, Bool.true_and, Bool.or_eq_true, Option.all_eq_true, decide_eq_true_eq]
    exact .inr d

/-- CONSUMER is read while nothing waits (R497). -/
theorem rerRead_quiet {s : State} {c : U32} (none : s.lfn.rerHeld = []) : s.rerRead c = { s with lfn := { s.lfn with
    consumer := c, remoteErr := s.lfn.remoteErr && c != s.lfn.producer
    rerDue := if s.lfn.remoteErr && c != s.lfn.producer then some (s.clock + 100) else Option.none } } := by
  rw [State.rerRead]
  dsimp only
  rw [show (s.updLofin (fun l => { l with consumer := c, remoteErr := l.remoteErr && c != l.producer })).lfn.rerHeld = [] from none]
  refine (congrArg (fun t : State => t.updLofin (fun l => { l with rerDue := if l.remoteErr then some (t.clock + 100) else Option.none }))
    (if_neg (by simp [State.rerDrain, State.updLofin]))).trans ?_
  simp only [State.rerDrain, State.updLofin, ← none]

/-- A notice that arrives from a neighbour for this device (R490, R494, R496). -/
theorem exec_notice {p : Fin 4} {k : Packet} {s v w : State} (live : s.live = true) (up : s.lfnUp p.val = true) (id : s.lfn.devId ≠ 0x7F)
    (good : k.bad = false) (kind : k.type = 7) (dst : k.dst = s.lfn.devId.toNat)
    (noted : v = (s.takeIn p k).noticed
      { reporter := k.src, target := k.f 26 1, cause := k.f 24 1, type := k.f 25 1, tag := k.tag.toNat, ctx := k.ctx, local_ := false,
        fence := if k.fenceValid then some (k.f 20 4) else none, count := k.f 16 4, offset := k.f 12 4 })
    (queried : (if k.f 24 1 = 2 then
      (v.updLofin (fun l => { l with query := insertN l.query (k.f 26 1) (v.clock + 100) })).sendOwn (v.mgmt (k.f 26 1) 0 3 []) else v) = w) :
    exec (.errNoticeArrive p k) s = .next (if k.f 25 1 = 5 && k.f 24 1 = 8 then
        match w.lfn.flushes.find? (fun f => f.dst == k.f 26 1) with
        | some f => (w.updLofin (fun l => { l with flushes := l.flushes.erase f })).flushDone (k.f 26 1) f.by_ (.error .remoteError)
        | none => w
      else w) := by
  subst queried noted
  change execErrNoticeArrive p k s = _
  rw [execErrNoticeArrive, whenLive_of_live live, arrives_of_mine up id good kind dst] <;> rfl

/-! ### Notices and announcements (R484, R488 to R490, R495, R496) -/

/-- `raising` uses its change at one state only. -/
theorem raising_congr {s : State} {f g : State → State} (same : f s = g s) : s.raising f = s.raising g := by
  rw [State.raising, State.raising, same]

theorem rerWrite_clock (e : RerEntry) (s : State) : (s.rerWrite e).clock = s.clock := by
  rw [State.rerWrite]
  split
  · rfl
  split
  · rfl
  · rw [State.rerPut]
    split <;> rfl

theorem noticed_remoteErr (e : RerEntry) (s : State) : (s.noticed { e with fence := none }).lfn.remoteErr = true := by
  obtain ⟨lfn, -⟩ := raising_out (s.rerWrite { e with fence := none })
    (·.updLofin (fun l => { l with remoteErr := true, rerDue := some (l.rerDue.getD (s.clock + 100)) }))
  exact (congrArg Lofin.remoteErr lfn : _)

/-- Settles O27: the ring by `rerWrite_of_room`, `rerWrite_of_waits` and `rerRead_one`, each packet by `arrives_of_mine`. -/
theorem linkNotices : Obligations.LinkNotices := by
  refine ⟨fun p k s u live up id good dst eq => ⟨fun v kind eqV => ⟨fun noEpoch noFlush => ?notice, fun x epoch eqX => ?epoch, fun f flush bad found => ?badFlush⟩,
      fun kind query => ?query, fun w kind window eqW => ⟨fun routed => ?window, fun unrouted => ?windowLost⟩⟩,
    fun e s => ⟨noticed_remoteErr e s, fun f => ?fence⟩,
    fun e s => ⟨fun none => ?noRing, fun base n ring => ⟨fun can none room => ?written, fun waits => ?waits⟩⟩,
    fun p k s u live up good kind hello eq => ?hello, fun s n rest k live queue eq => ?send, fun d due s live asked late => ?queryLate,
    fun d e h s u held dst kind routed eqE eqU => ?released,
    fun s live ring can due => ⟨?pollFails, fun c none => ?pollQuiet, fun c b base n held ring => ⟨_, ?poll, rerRead_one ring held⟩⟩⟩
  case notice =>
    rw [eq] at eqV
    rw [exec_notice live up id good kind dst eqV (if_neg noEpoch)]
    refine congrArg Host.Outcome.next (if_neg ?_)
    simp only [Bool.and_eq_true, decide_eq_true_eq]
    omega
  case epoch =>
    rw [eq] at eqV
    rw [exec_notice live up id good kind dst eqV (if_pos epoch), eqX]
    exact congrArg Host.Outcome.next (if_neg (by simp [epoch]))
  case badFlush =>
    rw [eq] at eqV
    rw [exec_notice live up id good kind dst eqV (if_neg (by omega)), if_pos (by simp [flush, bad]), found] <;> rfl
  case query =>
    subst eq
    change execWindowQueryArrive p k s = _
    rw [execWindowQueryArrive, whenLive_of_live live, arrives_of_mine up id good kind dst]
    exact congrArg Host.Outcome.next (if_pos (by simp [query, dst, State.takeIn, State.updLfn]))
  case window =>
    subst eq eqW
    change execWindowArrive p k s = _
    rw [execWindowArrive, whenLive_of_live live, arrives_of_mine up id good kind dst]
    refine congrArg Host.Outcome.next ((if_pos (by simp [window, dst, State.takeIn, State.updLfn])).trans ?_)
    dsimp only
    rw [if_pos routed] <;> rfl
  case windowLost =>
    subst eq
    change execWindowArrive p k s = _
    rw [execWindowArrive, whenLive_of_live live, arrives_of_mine up id good kind dst]
    refine congrArg Host.Outcome.next ((if_pos (by simp [window, dst, State.takeIn, State.updLfn])).trans ?_)
    dsimp only
    rw [if_neg (by simp [unrouted])]
  case fence =>
    exact congrArg (fun t : State => t.pipApply f .poison (BitVec.ofNat 32 Status.remoteError.code)) (raising_congr
      (congrArg (fun c => (s.rerWrite { e with fence := some f }).updLofin
        (fun l => { l with remoteErr := true, rerDue := some (l.rerDue.getD (c + 100)) })) (rerWrite_clock _ s).symm))
  case noRing => exact if_pos (by simp [none])
  case written => rw [rerWrite_of_room ring can none room, rerPut_of_ring ring]
  case waits => exact rerWrite_of_waits ring waits
  case hello =>
    subst eq
    change execHelloArrive p k s = _
    rw [execHelloArrive, whenLive_of_live live]
    refine congrArg Host.Outcome.next ((if_neg (by simp [up])).trans ((if_neg ?_).trans ((if_neg (by simp [good])).trans
      ((if_neg (not_not.mpr kind)).trans ((if_neg (by simp)).trans (if_pos hello))))))
    rw [kind]
    simp [bitsOf]
  case send =>
    subst eq
    change execErrNoticeSend s = _
    rw [execErrNoticeSend, whenLive_of_live live, queue] <;> rfl
  case queryLate =>
    change execWindowQueryTimeout d s = _
    rw [execWindowQueryTimeout, whenLive_of_live live]
    exact congrArg Host.Outcome.next (if_pos (by simp [asked, late]))
  case released =>
    have mine : s.lfn.held.filter (fun x => x.dst == d) = [h] := by simp [held, dst]
    have others : s.lfn.held.filter (fun x => x.dst != d) = [] := by simp [held, dst]
    have same : s.updLofin (fun l => { l with held := l.held.filter (fun x => x.dst != d), query := eraseN l.query d }) = u := by
      rw [eqU, State.updLofin, others]
    have there : u.routeUp d = true := by rw [eqU]; exact routed
    rw [State.releaseHeld]
    dsimp only
    rw [mine, same, eqE, List.foldl_cons, List.foldl_nil]
    rw [if_pos (dst ▸ there), if_neg kind, eqU] <;> rfl
  case pollFails =>
    change execRerConsumerPoll none s = _
    rw [execRerConsumerPoll, whenLive_of_live live]
    exact congrArg Host.Outcome.next (if_pos (rerReads_of_due ring can due))
  case pollQuiet =>
    change execRerConsumerPoll (some c) s = _
    rw [execRerConsumerPoll, whenLive_of_live live]
    exact congrArg Host.Outcome.next ((if_pos (rerReads_of_due ring can due)).trans (rerRead_quiet none))
  case poll =>
    change execRerConsumerPoll (some c) s = _
    rw [execRerConsumerPoll, whenLive_of_live live]
    exact congrArg Host.Outcome.next (if_pos (rerReads_of_due (Option.isSome_of_eq_some ring) can due))

end Sys2Proof.Machine

/-!
Proof of `ResultRings` (15, R466, R467; 04, R137).
-/
namespace Sys2Proof.Machine
open Sys2Proof
set_option Elab.async false

/-! ### The conditions of a ring (R137) -/

theorem sendMsix_rrg (s : State) (v : Fin 64) : (s.sendMsix v).host.rrg = s.host.rrg := by
  rw [State.sendMsix]
  dsimp only
  split
  · rfl
  split <;> rfl

theorem requests_of_due {r : Rrg} {now : Nat} (en : r.en = true) (armed : r.armed = true)
    (due : max 1 r.count.toNat ≤ r.sinceMsg ∨ ∃ t, r.oldestAt = some t ∧ r.timeoutUs ≠ 0 ∧ t + r.timeoutUs.toNat ≤ now) :
    r.requests now = true := by
  rw [Rrg.requests, en, armed, Bool.true_and, Bool.true_and, Bool.or_eq_true]
  rcases due with count | ⟨t, oldest, on, past⟩
  · exact .inl (decide_eq_true count)
  · exact .inr (by simpa [oldest, past] using on)

/-- A ring without a request, or whose vector takes none, keeps its state. -/
theorem ringEval_idle {s : State} {n : Fin 64}
    (idle : (s.host.rrg[n].requests s.clock && s.msixTakes s.host.rrg[n].vector.toFin) = false) : s.ringEval n = s :=
  if_neg (by rw [idle]; simp)

/-- A message that the vector takes disarms the rings that requested it. -/
theorem ringEval_takes {s : State} {n : Fin 64} (asks : s.host.rrg[n].requests s.clock = true)
    (takes : s.msixTakes s.host.rrg[n].vector.toFin = true) :
    (s.ringEval n).host.rrg[n] = s.host.rrg[n].announced ∧ (s.ringEval n).host.msix = (s.sendMsix s.host.rrg[n].vector.toFin).host.msix
      ∧ (s.ringEval n).out = (s.sendMsix s.host.rrg[n].vector.toFin).out := by
  rw [State.ringEval]
  dsimp only
  rw [asks, takes, Bool.and_true, if_pos rfl]
  refine ⟨?_, rfl, rfl⟩
  simp only [sendMsix_rrg, Fin.getElem_fin, Vector.getElem_map]
  exact if_pos (by simpa using asks)

/-! ### Posting (R466) -/

theorem exec_resultPost {n : Fin 64} {s : State} (live : s.live = true) : exec (.resultPost n) s = .next (s.postTry n) :=
  whenLive_of_live live (·.postTry n)

/-- RESULT_RING_FULL_TIMEOUT for the record whose turn it is and a ring. -/
theorem exec_resultRingFull {n : Fin 64} {f : Frame} {s : State} (live : s.live = true) (turn : s.frameTurn n.val 8 = some f)
    (ring : (s.slotN n.val).res = some .ring) :
    exec (.resultRingFullTimeout n) s = .next (if (s.slotN n.val).roomDue.any (· ≤ s.clock) then
        if s.ringFits n (occupied (s.recordRead f).length) then s.postRecord n f none false
        else (s.updRrg n (fun r => { r with fullCount := satInc r.fullCount })).postRecord n f none true
      else s) := by
  change execResultRingFullTimeout n s = _
  rw [execResultRingFullTimeout, whenLive_of_live live, turn]
  dsimp only
  rw [ring]

/-- Settles O55: posting by `postTry`, the rings by `ringEval_idle` and `ringEval_takes`. -/
theorem resultRings : Obligations.ResultRings := by
  refine ⟨fun n f s live turn => ⟨fun k flow => ?flow, fun ring fits => ?fits, fun ring full => ?full, fun ring off => ?notWaiting,
      fun d ring due => ⟨fun soon => ?soon, fun past fits => ?room, fun past full => ?dropped⟩⟩,
    fun n s live none => ⟨?noTurn, ?noTurnFull⟩,
    fun n v s u up => ⟨fun bad => ?readBad, fun en ok eq => ⟨fun none => ?read, fun d some => ?readPosts⟩⟩,
    fun n v s up => ⟨fun host => ?irq, fun own => ?irqKept⟩, fun n v s down => ⟨?readDown, ?irqDown⟩,
    fun n s live => whenLive_of_live live (·.ringEval n),
    fun n s r eq => ⟨fun off => ?off, fun no => ?untaken, fun en armed takes due => ?message⟩⟩
  case flow =>
    rw [exec_resultPost live, State.postTry]
    dsimp only
    rw [turn, flow]
  case fits =>
    rw [exec_resultPost live, State.postTry]
    dsimp only
    rw [turn, ring]
    exact congrArg Host.Outcome.next (if_pos fits)
  case full =>
    rw [exec_resultPost live, State.postTry]
    dsimp only
    rw [turn, ring]
    exact congrArg Host.Outcome.next (if_neg (by rw [full]; simp))
  case notWaiting => rw [exec_resultRingFull live turn ring, off] <;> rfl
  case soon =>
    rw [exec_resultRingFull live turn ring, due]
    exact congrArg Host.Outcome.next (if_neg (by simp [soon]))
  case room =>
    rw [exec_resultRingFull live turn ring, due]
    exact congrArg Host.Outcome.next ((if_pos (by simp [past])).trans (if_pos fits))
  case dropped =>
    rw [exec_resultRingFull live turn ring, due]
    exact congrArg Host.Outcome.next ((if_pos (by simp [past])).trans (if_neg (by rw [full]; simp)))
  case noTurn => rw [exec_resultPost live, State.postTry, none] <;> rfl
  case noTurnFull =>
    change execResultRingFullTimeout n s = _
    rw [execResultRingFullTimeout, whenLive_of_live live, none] <;> rfl
  case readBad =>
    exact (whenBar_of_up up).trans (congrArg Host.Outcome.next (if_neg (by rcases bad with h | h <;> simp [-Fin.getElem_fin, h])))
  case read =>
    rw [eq] at none ⊢
    exact (whenBar_of_up up).trans (congrArg Host.Outcome.next ((if_pos (by simp [-Fin.getElem_fin, en, ok])).trans (if_neg (by rw [none]; simp))))
  case readPosts =>
    rw [eq] at some ⊢
    exact (whenBar_of_up up).trans (congrArg Host.Outcome.next ((if_pos (by simp [-Fin.getElem_fin, en, ok])).trans (if_pos (by rw [some]; rfl))))
  case irq =>
    change execRrgIrqWrite n v s = _
    rw [execRrgIrqWrite, whenBar_of_up up]
    simp only [if_pos host]
  case irqKept =>
    change execRrgIrqWrite n v s = _
    rw [execRrgIrqWrite, whenBar_of_up up]
    simp only [if_neg (Nat.not_le.mpr own)]
  case readDown => exact congrArg Host.Outcome.next (if_neg (by simp [down]))
  case irqDown => exact congrArg Host.Outcome.next (if_neg (by simp [down]))
  case off =>
    subst eq
    exact ringEval_idle (by rcases off with h | h <;> simp [-Fin.getElem_fin, Rrg.requests, h])
  case untaken =>
    subst eq
    exact ringEval_idle (by rw [no, Bool.and_false])
  case message =>
    subst eq
    exact ringEval_takes (requests_of_due en armed due) takes

end Sys2Proof.Machine

/-!
Proofs of `SourcesAndRings` (11, R343 to R354) and `CsiReceivers` (11, R332 to R336, R348).
-/
namespace Sys2Proof.Machine
open Sys2Proof
set_option Elab.async false

theorem whenLive_of_id {s : State} {f : State → State} (id : f s = s) : whenLive s f = .next s := by
  rw [whenLive, id, ite_self]

/-! ### Source timers and stale records (R346, R348, R350) -/

theorem exec_hostRingPoll {n : Fin 64} {s : State} {x : SrcCfg} {h : HostRead} (live : s.live = true) (reads : s.ringReads n = some x) :
    exec (.hostRingPoll n h) s = .next (if s.clock < (s.slotN n).ing.pollDue then s else match h with
      | .none => s
      | .failed | .ue => s.ringStop n x
      | .data bs => s.updIng n (fun i => { i with producer := leAt bs 0 4 % max 1 x.ringArea, pollDue := s.clock + 100 })) := by
  change execHostRingPoll n h s = _
  rw [execHostRingPoll, whenLive_of_live live, reads] <;> rfl

theorem exec_hostRingEntryCopy {n : Fin 64} {s : State} {x : SrcCfg} {h : HostRead} (live : s.live = true) (reads : s.ringReads n = some x) :
    exec (.hostRingEntryCopy n h) s = .next (if (s.slotN n).ing.consumer = (s.slotN n).ing.producer then s else match h with
      | .none => s
      | .failed | .ue => s.ringStop n x
      | .data bs => s.ringEntry n x bs) := by
  change execHostRingEntryCopy n h s = _
  rw [execHostRingEntryCopy, whenLive_of_live live, reads] <;> rfl

/-- A ring that may not be read now is not read. -/
theorem ringReads_of_not {s : State} {n : Nat}
    (no : ((s.slotN n).accepts && !(s.slotN n).ing.ringHalt && !s.paused n && !(s.slotN n).ing.shed && s.canRequest) = false) : s.ringReads n = none := by
  rw [State.ringReads]
  split
  · next x _ => exact if_neg (by simp only [Bool.and_assoc] at no ⊢; simp only [no, Bool.and_false, Bool.false_eq_true, not_false_iff])
  · rfl

/-- Settles O47: each row by its guard; a ring that is not read by `ringReads`. -/
theorem sourcesAndRings : Obligations.SourcesAndRings := by
  refine ⟨fun n s d live => ⟨fun frame due => ?line, fun idle => ?lineIdle, fun run due => ⟨fun soon => ?frameSoon, fun past reads => ?frameLost,
        fun x past idle src => ?frameIdle⟩, fun idle => ?frameOff⟩,
    fun n s u m k due live stale eqM eqK => ⟨fun none => ?noStale, fun more eqU => ⟨fun frame => ?staleOpen, fun none eqDue => ?stale⟩⟩,
    fun n s other => ?notStale, fun n c s run stale => ?lost,
    fun n s x live reads => ⟨fun soon h => ?pollSoon, fun past => ⟨fun bs => ?poll, ?pollFailed, ?pollUe⟩, ?halt,
      fun more => ⟨fun bs => ?entry, ?entryFailed, ?entryUe⟩, fun h none => ?noEntry⟩,
    fun n s h none => ⟨?unread, ?unreadEntry, ?unreadHalt⟩,
    fun n s => ⟨fun cannot => ?cannot, fun halted => ?halted, fun shed => ?shed, fun paused => ?paused⟩⟩
  case line =>
    change execLineTimerExpiry n s = _
    refine (whenLive_of_live live _).trans (congrArg Host.Outcome.next ?_)
    simp only [frame, due, Option.any_some, Bool.true_and, decide_eq_true_eq]
  case lineIdle =>
    change execLineTimerExpiry n s = _
    exact whenLive_of_id (if_neg (by rcases idle with h | h <;> simp [h]))
  case frameSoon =>
    change execFrameTimerExpiry n s = _
    exact whenLive_of_id (if_pos (by simp [due, soon]))
  case frameLost =>
    change execFrameTimerExpiry n s = _
    exact (whenLive_of_live live _).trans (congrArg Host.Outcome.next ((if_neg (by simp [run, due, past])).trans (if_neg (by simp [reads]))))
  case frameIdle =>
    change execFrameTimerExpiry n s = _
    rw [execFrameTimerExpiry, whenLive_of_live live]
    refine congrArg Host.Outcome.next ((if_neg (by simp [run, due, past])).trans ((if_pos idle).trans ?_))
    rw [src]
  case frameOff =>
    change execFrameTimerExpiry n s = _
    exact whenLive_of_id (if_pos (by rcases idle with h | h <;> simp [h]))
  case noStale =>
    change execStaleRecordDue n s = _
    exact whenLive_of_id (if_pos (by simp [← eqM, ← eqK, none]))
  case staleOpen =>
    subst eqU eqM eqK
    change execStaleRecordDue n s = _
    exact (whenLive_of_live live _).trans (congrArg Host.Outcome.next ((if_neg (by simp [stale, more])).trans (if_pos frame)))
  case stale =>
    subst eqU eqM eqK eqDue
    change execStaleRecordDue n s = _
    exact (whenLive_of_live live _).trans (congrArg Host.Outcome.next ((if_neg (by simp [stale, more])).trans (if_neg (by simp [none]))))
  case notStale =>
    change execStaleRecordDue n s = _
    exact whenLive_of_id (if_pos (by simp [other]))
  case unread =>
    change execHostRingPoll n h s = _
    exact whenLive_of_id (by rw [none])
  case unreadEntry =>
    change execHostRingEntryCopy n h s = _
    exact whenLive_of_id (by rw [none])
  case unreadHalt =>
    change execHostRingHalt n s = _
    exact whenLive_of_id (by rw [none])
  case lost => exact if_neg (by simp [Slot.accepts, run, stale])
  case pollSoon => rw [exec_hostRingPoll live reads, if_pos soon]
  case poll => rw [exec_hostRingPoll live reads, if_neg (Nat.not_lt.mpr past)]
  case pollFailed => rw [exec_hostRingPoll live reads, if_neg (Nat.not_lt.mpr past)]
  case pollUe => rw [exec_hostRingPoll live reads, if_neg (Nat.not_lt.mpr past)]
  case halt =>
    change execHostRingHalt n s = _
    rw [execHostRingHalt, whenLive_of_live live, reads]
  case entry => rw [exec_hostRingEntryCopy live reads, if_neg more]
  case entryFailed => rw [exec_hostRingEntryCopy live reads, if_neg more]
  case entryUe => rw [exec_hostRingEntryCopy live reads, if_neg more]
  case noEntry => rw [exec_hostRingEntryCopy live reads, if_pos none]
  case cannot => exact ringReads_of_not (by simp [cannot])
  case halted => exact ringReads_of_not (by simp [halted])
  case shed => exact ringReads_of_not (by simp [shed])
  case paused => exact ringReads_of_not (by simp [paused])

/-! ### CSI-2 receivers (R332 to R336) -/

theorem whenCsi_of_live {n : Fin 6} {s : State} {f : State → State} (live : s.live = true) (unit : s.unitLive (0x28 + n.val) = true) :
    whenCsi n s f = .next (f s) :=
  (whenLive_of_live live _).trans (congrArg Host.Outcome.next (if_pos unit))

theorem whenCsi_of_off {n : Fin 6} {s : State} {f : State → State} (off : s.unitLive (0x28 + n.val) = false) : whenCsi n s f = .next s :=
  whenLive_of_id (if_neg (by simp [off]))

/-- Settles O46: each event by its guard in a receiver that is in service. -/
theorem csiReceivers : Obligations.CsiReceivers := by
  refine ⟨fun n l s live unit => ⟨fun none => ?badLanes, fun w lanes fits => ?learned, fun w lanes known other => ?mismatch, ?fault⟩,
    fun n vc dt hdr data crcOk s u v live unit eqU eqV => ⟨fun none => ⟨?startFree, ?longFree, ?endFree⟩, fun k x slot bad => ⟨?startBad, ?longBad, ?endBad⟩,
      fun k x w slot good eqW => ⟨?start, ?end_, fun image same => ?line, fun image other => ?otherType, fun noImage => ?ignored⟩⟩,
    fun n vc dt l hdr data crcOk s off =>
      ⟨?offBurst, ?offFault, ?offStart, ?offLong, ?offEnd⟩,
    fun n s => ⟨congrArg Csi.unbound (updAt_get_self _ _ _), congrArg Csi.eccCe (updAt_get_self _ _ _), congrArg Csi.eccUe (updAt_get_self _ _ _), rfl⟩⟩
  case badLanes =>
    change execCsiHsBurstStart n l s = _
    rw [execCsiHsBurstStart, whenCsi_of_live live unit, none]
  case learned =>
    change execCsiHsBurstStart n l s = _
    rw [execCsiHsBurstStart, whenCsi_of_live live unit, lanes]
    exact congrArg Host.Outcome.next (if_pos (by simpa [-Fin.getElem_fin] using fits))
  case mismatch =>
    change execCsiHsBurstStart n l s = _
    rw [execCsiHsBurstStart, whenCsi_of_live live unit, lanes]
    exact congrArg Host.Outcome.next (if_neg (by simpa [-Fin.getElem_fin] using ⟨known, other⟩))
  case fault =>
    change execCsiLaneFault n s = _
    exact whenCsi_of_live live unit
  case offBurst =>
    change execCsiHsBurstStart n l s = _
    exact whenCsi_of_off off
  case offFault =>
    change execCsiLaneFault n s = _
    exact whenCsi_of_off off
  case offStart =>
    change execCsiFrameStart n vc hdr s = _
    exact whenCsi_of_off off
  case offLong =>
    change execCsiLongPacket n vc dt hdr data crcOk s = _
    exact whenCsi_of_off off
  case offEnd =>
    change execCsiFrameEnd n vc hdr s = _
    exact whenCsi_of_off off
  case startFree =>
    change execCsiFrameStart n vc hdr s = _
    rw [execCsiFrameStart, whenCsi_of_live live unit, ← eqU]
    dsimp only
    rw [none]
  case longFree =>
    change execCsiLongPacket n vc dt hdr data crcOk s = _
    rw [execCsiLongPacket, whenCsi_of_live live unit, ← eqU]
    dsimp only
    rw [none]
  case endFree =>
    change execCsiFrameEnd n vc hdr s = _
    rw [execCsiFrameEnd, whenCsi_of_live live unit, ← eqU]
    dsimp only
    rw [none]
  case startBad =>
    change execCsiFrameStart n vc hdr s = _
    rw [execCsiFrameStart, whenCsi_of_live live unit, ← eqU]
    dsimp only
    rw [slot]
    exact congrArg Host.Outcome.next (if_pos (by simp [bad]))
  case longBad =>
    change execCsiLongPacket n vc dt hdr data crcOk s = _
    rw [execCsiLongPacket, whenCsi_of_live live unit, ← eqU]
    dsimp only
    rw [slot]
    exact congrArg Host.Outcome.next (if_pos (by simp [bad]))
  case endBad =>
    change execCsiFrameEnd n vc hdr s = _
    rw [execCsiFrameEnd, whenCsi_of_live live unit, ← eqU]
    dsimp only
    rw [slot]
    exact congrArg Host.Outcome.next (if_pos (by simp [bad]))
  case start =>
    subst eqW
    change execCsiFrameStart n vc hdr s = _
    rw [execCsiFrameStart, whenCsi_of_live live unit, ← eqU]
    dsimp only
    rw [slot]
    exact congrArg Host.Outcome.next (if_neg (by simp [good]))
  case end_ =>
    change execCsiFrameEnd n vc hdr s = _
    rw [execCsiFrameEnd, whenCsi_of_live live unit, ← eqU]
    dsimp only
    rw [slot]
    exact congrArg Host.Outcome.next (if_neg (by simp [good]))
  all_goals
    change execCsiLongPacket n vc dt hdr data crcOk s = _
    rw [execCsiLongPacket, whenCsi_of_live live unit, ← eqU]
    dsimp only
    rw [slot]
    refine congrArg Host.Outcome.next ((if_neg (by simp [good])).trans ?_)
    rw [← eqV]
  case line => exact (if_neg (by simp [image])).trans (if_neg (by simp [same]))
  case otherType => exact (if_neg (by simp [image])).trans (if_pos (by simp [other]))
  case ignored => exact if_pos (by simp [noImage])

end Sys2Proof.Machine

/-!
Proof of `EthernetPorts` (06, R204; 11, R337 to R341; 15, R469, R471).
-/
namespace Sys2Proof.Machine
open Sys2Proof
set_option Elab.async false

/-! ### The next datagram by priority (R471) -/

theorem argMin_mem {α : Type} {key : α → List Int} {l : List α} {y : α} (found : argMin key l = some y) : y ∈ l := by
  induction l generalizing y with
  | nil => cases found
  | cons x xs ih =>
    rw [argMin] at found
    split at found
    · cases found
      exact List.mem_cons_self
    · next z rest =>
      split at found <;> cases found
      · exact List.mem_cons_of_mem _ (ih rest)
      · exact List.mem_cons_self

theorem lexLt_one (x y : Int) : lexLt [x] [y] = decide (x < y) := by
  by_cases less : x < y <;> simp [lexLt, less]

/-- The first of the smallest is the least of the list. -/
theorem argMin_first {α : Type} {f : α → Int} {a b : List α} {d : α} (before : ∀ x ∈ a, f d < f x) (after : ∀ x ∈ b, f d ≤ f x) :
    argMin (fun x => [f x]) (a ++ d :: b) = some d := by
  induction a with
  | nil =>
    rw [List.nil_append, argMin]
    split
    · rfl
    · next y rest => exact if_neg (by simp [lexLt_one, after y (argMin_mem rest)])
  | cons x xs ih =>
    rw [List.cons_append, argMin, ih fun y mem => before y (List.mem_cons_of_mem _ mem)]
    exact if_pos (by simp [lexLt_one, before x List.mem_cons_self])

theorem sendNext_first {s : State} {e : Fin 2} {a b : List Datagram} {d : Datagram} (queue : s.io.eth[e].queue = a ++ d :: b)
    (before : ∀ x ∈ a, d.prio < x.prio) (after : ∀ x ∈ b, d.prio ≤ x.prio) :
    s.sendNext e = (s.updEth e (fun x => ({ x with queue := a ++ b } : Eth).count 4 1)).emit (.ethSend e.val d.prio d.bytes) := by
  have first : argMin (fun (x : Datagram) => ([(x.prio : Int)] : List Int)) (a ++ d :: b) = some d :=
    argMin_first (f := fun x => (x.prio : Int)) (fun x mem => Int.ofNat_lt.mpr (before x mem)) (fun x mem => Int.ofNat_le.mpr (after x mem))
  have rest : (a ++ d :: b).erase d = a ++ b := by
    rw [List.erase_append_right _ (fun mem => absurd (before d mem) (Nat.lt_irrefl _)), List.erase_cons_head]
  rw [State.sendNext]
  dsimp only
  rw [queue, first]
  refine congrArg (fun t : State => t.emit (.ethSend e.val d.prio d.bytes)) ?_
  exact congrArg (fun v => ({ s with io := { s.io with eth := v } } : State)) (updAt_congr (by rw [queue, rest]))

/-! ### Frames that arrive (R337 to R341) -/

/-- A frame with a good check sequence at a port that is up. -/
theorem exec_ethFrame {e : Fin 2} {bs : List Byte} {s v : State} (live : s.live = true) (up : s.ethUp e = true) (long : 18 ≤ bs.length)
    (good : leAt bs (bs.length - 4) 4 = (crc32 (bs.take (bs.length - 4))).toNat) (eq : v = s.updEth e (·.count 0 1)) :
    exec (.ethFrameReceive e bs) s = .next (if 9216 < bs.length then v.updEth e (·.drop .ip)
      else match etherParse (bs.take (bs.length - 4)) with
        | .error d => v.updEth e (·.drop d)
        | .ok u => match v.sessionFor e u with
          | none => v.updEth e (·.drop .filter)
          | some k => v.rtpTake e k u.data) := by
  subst eq
  change execEthFrameReceive e bs s = _
  rw [execEthFrameReceive, whenLive_of_live live]
  exact congrArg Host.Outcome.next ((if_neg (by simp [up])).trans (if_neg (by simp [good, Nat.not_lt.mpr long])))

/-- A frame of no more than 9,216 bytes whose layers are whole. -/
theorem exec_ethFrame_ok {e : Fin 2} {bs : List Byte} {s v : State} {u : UdpIn} (live : s.live = true) (up : s.ethUp e = true)
    (long : 18 ≤ bs.length) (good : leAt bs (bs.length - 4) 4 = (crc32 (bs.take (bs.length - 4))).toNat)
    (eq : v = s.updEth e (·.count 0 1)) (short : bs.length ≤ 9216) (parsed : etherParse (bs.take (bs.length - 4)) = .ok u) :
    exec (.ethFrameReceive e bs) s = .next (match v.sessionFor e u with
          | none => v.updEth e (·.drop .filter)
          | some k => v.rtpTake e k u.data) := by
  rw [exec_ethFrame live up long good eq, if_neg (Nat.not_lt.mpr short), parsed]

/-- A packet that is late or held already is dropped (R340). -/
theorem reorder_late {s : State} {e : Fin 2} {k : Fin 64} {n : Nat} {x : SrcCfg} {c : SessCfg} {ssrc : U32} {p : RtpPkt}
    (late : (∃ q ∈ s.io.sess[k].held, q.seq = p.seq) ∨ ∃ m, s.io.sess[k].next = some m ∧ 2 ^ 15 ≤ (p.seq - m).toNat) :
    s.reorder e k n x c ssrc p = s.updEth e (·.drop .late) := by
  refine if_pos ?_
  rw [Bool.or_eq_true]
  rcases late with ⟨q, held, same⟩ | ⟨m, next, far⟩
  · exact .inr (List.any_eq_true.mpr ⟨q, held, beq_iff_eq.mpr same⟩)
  · rw [next]
    exact .inl (decide_eq_true far)

theorem ethSet_other {x : Eth} {sp : BitVec 2} {n : Nat} {mac : BitVec 48} (other : x.speed ≠ sp) :
    x.set sp n mac = { x.count 5 x.queue.length with speed := sp, maxFrame := n, mac := mac, up := false, queue := [] } := if_neg other

theorem sess_getD (s : State) (k : Fin 64) : s.io.sess.toList.getD k.val {} = s.io.sess[k] := by
  simp

/-- Settles O48: the commands by their own parts, a frame by `exec_ethFrame`, the datagram by `sendNext_first`. -/
theorem ethernetPorts : Obligations.EthernetPorts := by
  refine ⟨fun c s e sp mac acc eqE eqS eqM => ⟨fun used new => ?portBusy, fun free => ?port, fun x => ⟨fun same => ?setSame, fun other => ?setOther⟩⟩,
    fun c s acc => ⟨fun n set eq => ?neighSet, fun clear => ?neighClear⟩,
    fun c s k new acc eqK eqN => ⟨fun same => ?sessSame, fun other used => ?sessBusy, fun other free => ?sess⟩,
    fun c s same acc eqS => ⟨fun other used => ?flowBusy, fun may => ⟨fun none => ?flowNone, fun some used => ?flowKept, fun some free => ?flow⟩⟩,
    fun c s e o new acc eqE eqO eqN => ⟨fun taken => ?ptpBusy, fun free => ⟨fun same => ?ptpSame, fun other => ?ptp⟩⟩,
    fun c s acc => ?stats,
    fun e bs s v live eqV => ⟨fun down => ?down, fun up bad => ?badCrc, fun up long good => ⟨fun huge => ?tooLong, fun short =>
      ⟨fun d parsed => ?parse, fun u parsed => ⟨fun none => ?noSession, fun k c found cfg => ⟨fun none => ?noSlot,
        fun n x slot => ⟨fun none => ?badRtp, fun ssrc p ok => ?rtp⟩⟩⟩⟩⟩⟩,
    fun e k n x c ssrc p s late => reorder_late late,
    fun e s live => ⟨fun unit speed => ⟨?lockUp, ?lockDown⟩, fun up off => ?lockOff⟩,
    fun k s live => ⟨fun none => ?gapNone, fun c n x cfg slot => ?gap⟩,
    fun n s x p h d live src rtp frame due eth => ⟨fun past => ?assembly, fun soon => ?assemblySoon⟩,
    fun e s live => ⟨fun off => ?sendOff, fun up unit => ⟨fun none => ?sendNone, fun a d b queue before after => ?send⟩⟩⟩
  case portBusy =>
    subst eqE eqS eqM
    exact direct_st acc (if_pos (by rcases new with h | h <;> simp [-Fin.getElem_fin, used, h]))
  case port =>
    subst eqE eqS eqM
    exact direct_ok acc (if_neg (by rcases free with h | ⟨h, h'⟩ <;> simp [-Fin.getElem_fin, *]))
  case setSame => exact if_pos same
  case setOther =>
    rw [ethSet_other other]
    exact ⟨rfl, rfl, rfl, rfl, rfl⟩
  case neighSet =>
    subst eq
    exact direct_ok acc (by simp only [cmdEthNeighbour, set, if_true])
  case neighClear => exact direct_ok acc (by simp only [cmdEthNeighbour, clear, Nat.zero_ne_one, if_false])
  case sessSame =>
    have own : cmdEthSession.own c s = .ok s [] := by
      simp only [cmdEthSession, eqK, sess_getD, ← eqN, same, bne_self_eq_false, Bool.false_and, Bool.false_eq_true, if_false, beq_self_eq_true,
        if_true, k.isLt, dite_true]
    exact direct_ok acc own
  case sessBusy =>
    have own : cmdEthSession.own c s = .st s .busy := by
      simp only [cmdEthSession, eqK, sess_getD, ← eqN]
      exact if_pos (by simp [-Fin.getElem_fin, other, used])
    exact direct_st acc own
  case sess =>
    have own : cmdEthSession.own c s = .ok (s.updSess k (fun _ => { cfg := new })) [] := by
      simp only [cmdEthSession, eqK, sess_getD, ← eqN, free, Bool.and_false, Bool.false_eq_true, if_false, k.isLt, dite_true]
      rw [if_neg (by simpa [-Fin.getElem_fin] using other)]
    exact direct_ok acc own
  case flowBusy =>
    have own : cmdEthFlow.own c s = .st s .busy := by
      simp only [cmdEthFlow, ← eqS]
      exact if_pos (by simp [other, used])
    exact direct_st acc own
  case flowNone =>
    have own : cmdEthFlow.own c s = .st s .notFound := by
      simp only [cmdEthFlow, ← eqS]
      exact (if_neg (by rcases may with h | h <;> simp [h])).trans (if_pos (by rw [show c.flow.neigh = c.f 10 1 from rfl, none]; rfl))
    exact direct_st acc own
  case flowKept =>
    have unchanged : same = true := by simpa [used] using may
    have own : cmdEthFlow.own c s = .ok s [] := by
      simp only [cmdEthFlow, ← eqS]
      exact (if_neg (by simp [unchanged])).trans ((if_neg (by simpa [HostCmd.flow] using some)).trans
        (congrArg (CmdRes.ok · []) (if_pos (by simp [unchanged, used]))))
    exact direct_ok acc own
  case flow =>
    have own : cmdEthFlow.own c s = .ok { s with io := { s.io with flow := insertN s.io.flow (c.f 8 1) c.flow } } [] := by
      simp only [cmdEthFlow, ← eqS]
      exact (if_neg (by simp [free])).trans ((if_neg (by simpa [HostCmd.flow] using some)).trans
        (congrArg (CmdRes.ok · []) (if_neg (by simp [free]))))
    exact direct_ok acc own
  case ptpBusy =>
    subst eqE eqO
    exact direct_st acc (if_pos taken)
  case ptpSame =>
    subst eqE eqO eqN
    exact direct_ok acc ((if_neg (by simp [-Fin.getElem_fin, free])).trans (if_pos same))
  case ptp =>
    subst eqE eqO eqN
    exact direct_ok acc ((if_neg (by simp [-Fin.getElem_fin, free])).trans (if_neg other))
  case stats => exact direct_ok acc rfl
  case down =>
    change execEthFrameReceive e bs s = _
    exact whenLive_of_id (if_pos (by simp [down]))
  case badCrc =>
    change execEthFrameReceive e bs s = _
    rw [execEthFrameReceive, whenLive_of_live live]
    exact congrArg Host.Outcome.next ((if_neg (by simp [up])).trans (if_pos (by simpa using bad)))
  case tooLong => rw [exec_ethFrame live up long good eqV, if_pos huge]
  case parse => rw [exec_ethFrame live up long good eqV, if_neg (Nat.not_lt.mpr short), parsed]
  case noSession => rw [exec_ethFrame_ok live up long good eqV short parsed, none]
  case noSlot =>
    rw [exec_ethFrame_ok live up long good eqV short parsed, found]
    dsimp only
    rw [State.rtpTake, cfg, none]
  case badRtp =>
    rw [exec_ethFrame_ok live up long good eqV short parsed, found]
    dsimp only
    rw [State.rtpTake, cfg, slot]
    dsimp only
    rw [show v.devTime = s.devTime by rw [eqV]; rfl, show v.clock = s.clock by rw [eqV]; rfl, none]
  case rtp =>
    rw [exec_ethFrame_ok live up long good eqV short parsed, found]
    dsimp only
    rw [State.rtpTake, cfg, slot]
    dsimp only
    rw [show v.devTime = s.devTime by rw [eqV]; rfl, show v.clock = s.clock by rw [eqV]; rfl, ok]
  case lockUp =>
    change execEthPcsLockChange e true s = _
    rw [execEthPcsLockChange, whenLive_of_live live]
    exact congrArg Host.Outcome.next ((if_neg (by simpa [-Fin.getElem_fin, unit] using speed)).trans (if_pos rfl))
  case lockDown =>
    change execEthPcsLockChange e false s = _
    rw [execEthPcsLockChange, whenLive_of_live live]
    exact congrArg Host.Outcome.next ((if_neg (by simpa [-Fin.getElem_fin, unit] using speed)).trans (if_neg (by simp)))
  case lockOff =>
    change execEthPcsLockChange e up s = _
    exact whenLive_of_id (if_pos (by rcases off with h | h <;> simp [-Fin.getElem_fin, h]))
  case gapNone =>
    change execRtpGapTimer k s = _
    refine whenLive_of_id ?_
    rw [none]
    cases s.io.sess[k].cfg <;> rfl
  case gap =>
    change execRtpGapTimer k s = _
    rw [execRtpGapTimer, whenLive_of_live live, cfg, slot]
  case assembly =>
    change execAssemblyTimerExpiry n s = _
    rw [execAssemblyTimerExpiry, whenLive_of_live live]
    dsimp only
    rw [src]
    refine congrArg Host.Outcome.next ((dif_pos h).trans ((if_pos (by simp [rtp, frame, due, past])).trans ?_))
    rw [eth]
    simp only [p.isLt, dite_true]
  case assemblySoon =>
    change execAssemblyTimerExpiry n s = _
    rw [execAssemblyTimerExpiry, whenLive_of_live live]
    dsimp only
    rw [src]
    exact congrArg Host.Outcome.next ((dif_pos h).trans (if_neg (by simp [due, soon])))
  case sendOff =>
    change execUdpDatagramSend e s = _
    exact whenLive_of_id (if_neg (by rcases off with h | h <;> simp [-Fin.getElem_fin, h]))
  case sendNone =>
    change execUdpDatagramSend e s = _
    rw [execUdpDatagramSend, whenLive_of_live live]
    refine congrArg Host.Outcome.next ((if_pos (by simp [-Fin.getElem_fin, up, unit])).trans ?_)
    rw [State.sendNext, none] <;> rfl
  case send =>
    change execUdpDatagramSend e s = _
    rw [execUdpDatagramSend, whenLive_of_live live]
    exact congrArg Host.Outcome.next ((if_pos (by simp [-Fin.getElem_fin, up, unit])).trans (sendNext_first queue before after))

end Sys2Proof.Machine

/-!
What a link that goes down, a response, a signal or a notice of the Remote Error Ring cannot change.
-/
namespace Sys2Proof.Machine
open Sys2Proof
set_option Elab.async false

/-- The state beyond what a response, a signal, a notice or a packet of the link can change: the host interface, what was sent, the
commands in progress, jobs, pips, the scheduler and the link itself. -/
def State.unlinked (s : State) : State :=
  { s with out := [], host := {}, running := [], mem := {}, pip := {}, sched := {}, lfn := {} }

theorem sendMsix_unlinked (s : State) (v : Fin 64) : (s.sendMsix v).unlinked = s.unlinked := by
  obtain ⟨h, o, eq, -⟩ := sendMsix_frame s v
  rw [eq] <;> rfl

theorem raising_unlinked (s : State) (f : State → State) : (s.raising f).unlinked = (f s).unlinked := by
  obtain ⟨h, o, eq⟩ := raising_frame s f
  rw [eq] <;> rfl

/-! ### Responses and signals (R123, R275) -/

theorem respond_unlinked (s : State) (m : Fin 16) (op : Nat) (q : BitVec 16) (ni : Bool) (st : Status) (d : List Byte) :
    (s.respond m op q ni st d).unlinked = s.unlinked := by
  rw [State.respond]
  split
  · exact sendMsix_unlinked _ _
  · rfl

theorem settleMbx_unlinked (s : State) (m : Fin 16) : (s.settleMbx m).unlinked = s.unlinked := by
  rw [State.settleMbx]
  split <;> rfl

theorem postFinal_unlinked (s : State) (r : Running) : (s.postFinal r).unlinked = s.unlinked := by
  rw [State.postFinal]
  split
  · rfl
  · exact (settleMbx_unlinked _ _).trans (respond_unlinked _ _ _ _ _ _ _)

theorem postReady_unlinked (s : State) : s.postReady.unlinked = s.unlinked := by
  rw [State.postReady]
  split
  · exact foldl_keeps State.unlinked postFinal_unlinked _ s
  · rfl

theorem finish_unlinked (s : State) (w : WaitFor) (st : Status) (data : List Byte) : (s.finish w st data).unlinked = s.unlinked :=
  postReady_unlinked _

theorem finishOne_unlinked (s : State) (m : Fin 16) (q : BitVec 16) (w : WaitFor) (st : Status) (data : List Byte) :
    (s.finishOne m q w st data).unlinked = s.unlinked :=
  postReady_unlinked _

theorem jobClose_unlinked (s : State) (j : Job) (r : Status) : (s.jobClose j r).unlinked = s.unlinked :=
  finish_unlinked _ _ _ _

theorem releaseOne_unlinked (s : State) (w : Waiter) (code : Nat) (value : U32) : (s.releaseOne w code value).1.unlinked = s.unlinked := by
  rw [State.releaseOne]
  split
  · exact finishOne_unlinked _ _ _ _ _ _
  · split
    · rfl
    split
    · rfl
    · exact jobClose_unlinked _ _ _
  · split
    · rfl
    split <;> rfl

theorem pipApplyN_unlinked (n : Nat) : ∀ (s : State) (p : Nat) (op : PipOp) (v : U32), (s.pipApplyN n p op v).unlinked = s.unlinked := by
  induction n with
  | zero =>
    intro s p op v
    rw [State.pipApplyN]
    split <;> rfl
  | succ n ih =>
    intro s p op v
    rw [State.pipApplyN]
    dsimp only
    split
    · rfl
    split
    · split <;> rfl
    · refine (foldl_keeps State.unlinked (fun t w => ?_) _ _).trans ?_
      · split
        · exact releaseOne_unlinked _ _ _ _
        · exact (ih _ _ _ _).trans (releaseOne_unlinked _ _ _ _)
      · split <;> rfl

theorem pipApply_unlinked (s : State) (p : Nat) (op : PipOp) (v : U32) : (s.pipApply p op v).unlinked = s.unlinked := by
  rw [State.pipApply, State.watchFill]
  dsimp only
  split
  · exact pipApplyN_unlinked _ _ _ _ _
  · exact pipApplyN_unlinked _ s p op v

/-! ### Packets and notices (R478, R495, R496) -/

theorem sendHead_unlinked (s : State) (p : Fin 4) (vc : Nat) : (s.sendHead p vc).unlinked = s.unlinked := by
  rw [State.sendHead]
  dsimp only
  split <;> rfl

theorem pumpN_unlinked (k : Nat) (p : Fin 4) : ∀ s : State, (s.pumpN k p).unlinked = s.unlinked := by
  induction k with
  | zero => exact fun s => rfl
  | succ k ih =>
    intro s
    rw [State.pumpN]
    split
    · rfl
    split
    · rfl
    · exact (ih _).trans (sendHead_unlinked _ _ _)

theorem queueOut_unlinked (s : State) (p : Fin 4) (k : Packet) (from_ : Option Nat) : (s.queueOut p k from_).unlinked = s.unlinked :=
  pumpN_unlinked _ _ _

theorem rerWrite_unlinked (s : State) (e : RerEntry) : (s.rerWrite e).unlinked = s.unlinked := by
  rw [State.rerWrite]
  split
  · rfl
  split
  · rfl
  · rw [State.rerPut]
    split <;> rfl

theorem noticed_unlinked (s : State) (e : RerEntry) : (s.noticed e).unlinked = s.unlinked := by
  rw [State.noticed]
  split
  · exact (pipApply_unlinked _ _ _ _).trans ((raising_unlinked _ _).trans (rerWrite_unlinked s e))
  · exact (raising_unlinked _ _).trans (rerWrite_unlinked s e)

theorem failVc0_unlinked (s : State) (k : Packet) (cause : Nat) : (s.failVc0 k cause).unlinked = s.unlinked := by
  rw [State.failVc0]
  split
  · exact noticed_unlinked _ _
  · rfl

theorem sendOwn_unlinked (s : State) (k : Packet) : (s.sendOwn k).unlinked = s.unlinked := by
  rw [State.sendOwn]
  split
  · exact queueOut_unlinked _ _ _ _
  split
  · exact failVc0_unlinked _ _ _
  · rfl

theorem sendWindow_unlinked (s : State) (d : Nat) : (s.sendWindow d).unlinked = s.unlinked := by
  rw [State.sendWindow]
  split
  · exact sendOwn_unlinked _ _
  split
  · exact sendOwn_unlinked _ _
  · exact sendOwn_unlinked _ _

theorem routesChanged_unlinked (s : State) (before : List Bool) : (s.routesChanged before).unlinked = s.unlinked := by
  refine foldl_keeps State.unlinked (fun t d => ?_) _ _
  split
  · exact sendWindow_unlinked _ _
  · rfl

theorem noticeGroups_unlinked (cause n : Nat) : ∀ (ks : List Packet) (s : State), (s.noticeGroups cause n ks).unlinked = s.unlinked := by
  induction n with
  | zero => exact fun ks s => rfl
  | succ n ih =>
    intro ks s
    cases ks with
    | nil => rfl
    | cons k ks => exact (ih _ _).trans (noticed_unlinked _ _)

theorem linkDown_unlinked (s : State) (p : Fin 4) (st : LinkState) : (s.linkDown p st).unlinked = s.unlinked := by
  rw [State.linkDown]
  rw [routesChanged_unlinked]
  refine (foldl_keeps (f := fun (t : State) (k : Packet) => t.failVc0 k 12) State.unlinked (fun t k => failVc0_unlinked t k 12) _ _).trans ?_
  rw [noticeGroups_unlinked] <;> rfl

theorem ltn_of_unlinked {s t : State} (eq : s.unlinked = t.unlinked) : s.ltn = t.ltn :=
  (congrArg State.ltn eq : s.unlinked.ltn = t.unlinked.ltn)

/-- A link that goes down leaves the Lantern ports as they are. -/
theorem linkDown_ltn (s : State) (p : Fin 4) (st : LinkState) : (s.linkDown p st).ltn = s.ltn := ltn_of_unlinked (linkDown_unlinked s p st)

end Sys2Proof.Machine

/-!
Proof of `LanternAcquisition` (17, R507 to R525).
-/
namespace Sys2Proof.Machine
open Sys2Proof
set_option Elab.async false

/-! ### A port's state after a change -/

theorem updLtn_get (s : State) (t : Fin 2) (f : Ltn → Ltn) : (s.updLtn t f).ltn[t] = f s.ltn[t] := updAt_get_self _ _ _

theorem ltnFault_get (s : State) (t : Fin 2) (c : LtnCause) : (s.ltnFault t c).ltn[t] = { s.ltn[t] with state := .fault, cause := c, warm := none } := by
  have kept : (s.ltnFault t c).ltn = (s.updLtn t (fun x => { x with state := .fault, cause := c, warm := none })).ltn := by
    rw [State.ltnFault]
    split
    · exact linkDown_ltn _ _ _
    · rfl
  rw [kept, updLtn_get]

/-! ### Calibration (R507, R515) -/

/-- What CAL checks of the six ratios (R515). -/
def calOk (ratios : Vector U32 6) : Bool :=
  (ratios.toList.zip ([64, 16, 4, 64, 16, 4].map (· * 65536))).all (fun x => 9 * x.2 ≤ 10 * x.1.toNat && 10 * x.1.toNat ≤ 11 * x.2)

theorem calOk_iff (ratios : Vector U32 6) : calOk ratios = true ↔
    ∀ i : Fin 6, 9 * (([64, 16, 4, 64, 16, 4] : List Nat).getD i.val 0 * 65536) ≤ 10 * ratios[i].toNat
      ∧ 10 * ratios[i].toNat ≤ 11 * (([64, 16, 4, 64, 16, 4] : List Nat).getD i.val 0 * 65536) := by
  rw [calOk, List.all_eq_true, List.forall_mem_iff_getElem]
  have each : ∀ i (h : i < 6), (([64, 16, 4, 64, 16, 4] : List Nat).map (· * 65536))[i] = ([64, 16, 4, 64, 16, 4] : List Nat).getD i 0 * 65536 := by
    intro i h
    rw [List.getElem_map, List.getD_eq_getElem]
  constructor
  · intro all i
    have one := all i.val (by simp)
    rw [List.getElem_zip, each i.val i.isLt, Vector.getElem_toList] at one
    simpa using one
  · intro all i h
    have lt : i < 6 := by simpa using h
    rw [List.getElem_zip, each i lt, Vector.getElem_toList]
    simpa using all ⟨i, lt⟩

/-- The port with its chains' ratios stored. -/
def Ltn.calibrated (x : Ltn) (ratios : Vector U32 6) : Ltn :=
  (x.updChain false (fun c => { c with ratio := Vector.ofFn (fun j : Fin 3 => ratios.toList.getD j.val 0) })).updChain true
    (fun c => { c with ratio := Vector.ofFn (fun j : Fin 3 => ratios.toList.getD (3 + j.val) 0) })

theorem calibrated_ratio (x : Ltn) (ratios : Vector U32 6) (i : Fin 3) :
    (x.calibrated ratios).chain[0].ratio[i] = ratios.toList.getD i.val 0 ∧ (x.calibrated ratios).chain[1].ratio[i] = ratios.toList.getD (3 + i.val) 0 := by
  simp [Ltn.calibrated, Ltn.updChain, chainIx, updAt]

/-- CAL after 4 ms. -/
theorem exec_ltnCal {t : Fin 2} {ratios : Vector U32 6} {s v : State} (live : s.live = true) (cal : s.ltn[t].state = .cal)
    (past : s.ltn[t].calAt + 4000 ≤ s.clock) (stored : v = s.updLtn t (·.calibrated ratios)) :
    exec (.ltnCalDone t ratios) s = .next (if calOk ratios then v.updLtn t (fun x => { x with state := .acquire, acquireAt := s.clock })
      else (v.takeFree.2.ltnFault t .monitor).faultLog (0x32 + t.val) (Config.freeNat v.takeFree.1 % 65536)
        (BitVec.ofNat 32 LtnCause.monitor.code)) := by
  subst stored
  change execLtnCalDone t ratios s = _
  rw [execLtnCalDone, whenLive_of_live live]
  exact congrArg Host.Outcome.next (if_neg (by simp [-Fin.getElem_fin, cal, past]))

/-! ### The dwells of a sweep (R512, R516 to R518) -/

/-- A dwell that ends 10 µs after the last, by the state of the port and of the chain. -/
theorem exec_ltnDwell {t : Fin 2} {rx : Bool} {raw : Nat} {f : Option SweepFound} {s : State} (live : s.live = true)
    (past : s.ltn[t].chain[chainIx rx].dwellAt + 10 ≤ s.clock) :
    exec (.ltnSweepDwellEnd t rx raw f) s = .next (match s.ltn[t].state, s.ltn[t].chain[chainIx rx].phase with
    | .acquire, .sweep i k =>
      if h : i < 8 then
        let v := s.updLtn t (fun x => (x.updChain rx (fun c => { c with again := false, dwellAt := s.clock })).dwellRange rx raw)
        if s.ltn[t].chain[chainIx rx].again then v else v.acquireDwell t rx ⟨i, h⟩ k f
      else s
    | .locked, _ =>
      (match (ringsOf rx).find? (fun r => s.ltn[t].ring[r].sweepStep.isSome) with
       | none => s
       | some r => (s.updLtn t (fun x => x.updChain rx (fun c => { c with dwellAt := s.clock }))).relockDwell t rx r
          (s.ltn[t].ring[r].sweepStep.getD 0) f)
    | _, _ => s) := by
  change execLtnSweepDwellEnd t rx raw f s = _
  rw [execLtnSweepDwellEnd, whenLive_of_live live]
  exact congrArg Host.Outcome.next (if_neg (Nat.not_lt.mpr past))

/-- A dwell of the ring of a locked port that sweeps (R518). -/
theorem exec_ltnRelockDwell {t : Fin 2} {rx : Bool} {raw k : Nat} {r : Fin 16} {f : Option SweepFound} {s v : State} (live : s.live = true)
    (locked : s.ltn[t].state = .locked) (past : s.ltn[t].chain[chainIx rx].dwellAt + 10 ≤ s.clock)
    (first : (ringsOf rx).find? (fun r => s.ltn[t].ring[r].sweepStep.isSome) = some r) (sweep : s.ltn[t].ring[r].relock = .sweep k)
    (eq : v = s.updLtn t (fun x => x.updChain rx (fun c => { c with dwellAt := s.clock }))) :
    exec (.ltnSweepDwellEnd t rx raw f) s = .next (v.relockDwell t rx r k f) := by
  have step : s.ltn[t].ring[r].sweepStep = some k := by rw [Ring.sweepStep, sweep]
  rw [exec_ltnDwell live past, locked]
  dsimp only
  rw [first]
  dsimp only
  rw [step, ← eq] <;> rfl

theorem dwellRange_quiet {x : Ltn} {rx : Bool} {raw : Nat} (low : raw ≤ 58982) (none : x.chain[chainIx rx].request = none) :
    x.dwellRange rx raw = x := by
  have off : (decide (58982 < raw)) = false := decide_eq_false (Nat.not_lt.mpr low)
  simp only [Ltn.dwellRange, none, off, Bool.false_and, Bool.false_eq_true, if_false]

theorem dwellRange_over {x : Ltn} {rx : Bool} {raw : Nat} (high : 58982 < raw) (range : x.chain[chainIx rx].range ≠ 0) (auto : x.autoRange = true) :
    x.dwellRange rx raw = { x.updChain rx (fun c => { c with
      range := x.chain[chainIx rx].range - 1, request := none, again := true }) with switches := x.switches + 1 } := by
  have on : (decide (58982 < raw)) = true := decide_eq_true high
  have zero : (x.chain[chainIx rx].range == 0) = false := by simpa [-Fin.getElem_fin] using range
  have lower : x.chain[chainIx rx].range - 1 ≠ x.chain[chainIx rx].range := by
    generalize x.chain[chainIx rx].range = r at range
    revert r
    decide
  rw [Ltn.dwellRange]
  simp only [on, zero, bne, auto, Bool.and_false, Bool.false_eq_true, if_false, Bool.not_false, Bool.and_true, if_true]
  exact if_neg lower

/-! ### The deadlines (R517, R519) -/

/-- A chain whose ring has not locked 75 ms after its light was qualified. -/
def Ltn.late (x : Ltn) (now : Nat) : Bool :=
  x.chain.toList.any (fun c => c.phase != .locked && c.qualifiedAt.any (fun q => decide (max q x.acquireAt + 75000 ≤ now)))

theorem late_iff (x : Ltn) (now : Nat) : x.late now = true ↔
    ∃ c : Fin 2, x.chain[c].phase ≠ .locked ∧ ∃ q, x.chain[c].qualifiedAt = some q ∧ max q x.acquireAt + 75000 ≤ now := by
  rw [Ltn.late, List.any_eq_true]
  constructor
  · rintro ⟨c, mem, late⟩
    obtain ⟨i, h, rfl⟩ := List.mem_iff_getElem.mp mem
    have lt : i < 2 := by simpa using h
    rw [Vector.getElem_toList] at late
    refine ⟨⟨i, lt⟩, ?_⟩
    simpa [Option.any_eq_true] using late
  · rintro ⟨c, phase, q, qual, past⟩
    refine ⟨x.chain[c], by simp, ?_⟩
    rw [qual, Option.any_some, Bool.and_eq_true, decide_eq_true_iff]
    exact ⟨by simpa [-Fin.getElem_fin] using phase, past⟩

/-- Settles O49: CAL by `exec_ltnCal` and `calOk_iff`, the dwells by `exec_ltnDwell`, the deadlines by `late_iff`. -/
theorem lanternAcquisition : Obligations.LanternAcquisition := by
  refine ⟨fun t ratios s live cal => ⟨fun soon => ?calSoon, fun past ok => ?calGood, fun i past bad => ?calBad⟩,
    fun t ratios s other => ?notCal, fun t rx s live => ⟨fun acq idle => ?light, fun other => ?lightOther⟩,
    fun t rx raw f s live => ⟨fun soon => ?dwellSoon, fun acq locked => ?dwellOther⟩,
    fun t rx raw i k h f s v live acq phase past eqV => ⟨fun again => ?again, fun once => ⟨fun more => ?step, fun d last found => ?found, fun last none => ?nothing⟩⟩,
    fun x rx raw c eqC => ⟨fun low none => ?quiet, fun high range auto => ?rangeDown⟩,
    fun t rx raw k r f s v live locked past first sweep eqV => ⟨fun more => ?ringStep, fun d last found => ?ringFound, fun last none => ?ringNothing⟩,
    fun t s live => ⟨fun c q acq phase qual past => ?timeout, fun fine => ?inTime⟩,
    fun t s live => ⟨fun u other up past => ?deadline, fun fine => ?noDeadline⟩, fun t c s u eq => ?fault⟩
  case calSoon =>
    change execLtnCalDone t ratios s = _
    exact whenLive_of_id (if_pos (by simp [-Fin.getElem_fin, soon]))
  case calGood =>
    refine ⟨_, (exec_ltnCal live cal past rfl).trans (congrArg Host.Outcome.next (if_pos ((calOk_iff ratios).mpr ok))), ?_, ?_, fun i => ?_⟩
    · rw [updLtn_get]
    · rw [updLtn_get]
    · rw [updLtn_get, updLtn_get]
      exact calibrated_ratio _ _ i
  case calBad =>
    have fails : calOk ratios ≠ true := fun ok => by
      obtain ⟨low, high⟩ := (calOk_iff ratios).mp ok i
      omega
    refine ⟨_, (exec_ltnCal live cal past rfl).trans (congrArg Host.Outcome.next (if_neg fails)), ?_, ?_⟩
    · exact congrArg Ltn.state (ltnFault_get _ t .monitor)
    · exact congrArg Ltn.cause (ltnFault_get _ t .monitor)
  case notCal =>
    change execLtnCalDone t ratios s = _
    exact whenLive_of_id (if_pos (by simp [-Fin.getElem_fin, other]))
  case light =>
    change execLtnLightQualified t rx s = _
    rw [execLtnLightQualified, whenLive_of_live live]
    exact congrArg Host.Outcome.next (if_pos (by simp [-Fin.getElem_fin, acq, idle]))
  case lightOther =>
    change execLtnLightQualified t rx s = _
    exact whenLive_of_id (if_neg (by rcases other with h | h <;> simp [-Fin.getElem_fin, h]))
  case dwellSoon =>
    change execLtnSweepDwellEnd t rx raw f s = _
    exact whenLive_of_id (if_pos soon)
  case dwellOther =>
    by_cases past : s.ltn[t].chain[chainIx rx].dwellAt + 10 ≤ s.clock
    · rw [exec_ltnDwell live past]
      split
      · next h _ => exact absurd h acq
      · next h => exact absurd h locked
      · rfl
    · change execLtnSweepDwellEnd t rx raw f s = _
      exact whenLive_of_id (if_pos (Nat.not_le.mp past))
  case again =>
    rw [exec_ltnDwell live past, acq, phase]
    exact congrArg Host.Outcome.next ((dif_pos h).trans ((if_pos again).trans eqV.symm))
  case step =>
    rw [exec_ltnDwell live past, acq, phase]
    refine congrArg Host.Outcome.next ((dif_pos h).trans ((if_neg (by simp [-Fin.getElem_fin, once])).trans ?_))
    rw [← eqV]
    exact if_pos more
  case found =>
    rw [exec_ltnDwell live past, acq, phase]
    refine congrArg Host.Outcome.next ((dif_pos h).trans ((if_neg (by simp [-Fin.getElem_fin, once])).trans ?_))
    refine (if_neg (Nat.not_lt.mpr last)).trans ?_
    rw [found, ← eqV, eqV] <;> rfl
  case nothing =>
    rw [exec_ltnDwell live past, acq, phase]
    refine congrArg Host.Outcome.next ((dif_pos h).trans ((if_neg (by simp [-Fin.getElem_fin, once])).trans ?_))
    refine (if_neg (Nat.not_lt.mpr last)).trans ?_
    rw [none, ← eqV]
  case quiet => exact dwellRange_quiet low (eqC ▸ none)
  case rangeDown =>
    subst eqC
    rw [dwellRange_over high range auto]
    rfl
  case ringStep =>
    rw [exec_ltnRelockDwell live locked past first sweep eqV]
    exact congrArg Host.Outcome.next (if_pos more)
  case ringFound =>
    rw [exec_ltnRelockDwell live locked past first sweep eqV, found]
    exact congrArg Host.Outcome.next (if_neg (Nat.not_lt.mpr last))
  case ringNothing =>
    rw [exec_ltnRelockDwell live locked past first sweep eqV, none]
    exact congrArg Host.Outcome.next (if_neg (Nat.not_lt.mpr last))
  case timeout =>
    change execLtnAcquireTimeout t s = _
    rw [execLtnAcquireTimeout, whenLive_of_live live]
    exact congrArg Host.Outcome.next (if_pos (by
      rw [Bool.and_eq_true]
      exact ⟨by simp [-Fin.getElem_fin, acq], (late_iff _ _).mpr ⟨c, phase, q, qual, past⟩⟩))
  case inTime =>
    change execLtnAcquireTimeout t s = _
    refine whenLive_of_id (if_neg ?_)
    rw [Bool.and_eq_true]
    rintro ⟨acq, late⟩
    obtain ⟨c, phase, q, qual, past⟩ := (late_iff _ _).mp late
    rcases fine with other | each
    · exact other (by simpa [-Fin.getElem_fin] using acq)
    · rcases each c with locked | soon
      · exact phase locked
      · exact absurd (soon q qual) (Nat.not_lt.mpr past)
  case deadline =>
    have elapsed : s.ltn[t].upAt.any (fun u => decide (u + 1000000 ≤ s.clock)) = true := by
      rw [up, Option.any_some, decide_eq_true_iff]
      exact past
    change execLtnLockDeadline t s = _
    rw [execLtnLockDeadline, whenLive_of_live live]
    exact congrArg Host.Outcome.next (if_pos (by rw [Bool.and_eq_true]; exact ⟨by simpa [-Fin.getElem_fin] using other, elapsed⟩))
  case noDeadline =>
    change execLtnLockDeadline t s = _
    refine whenLive_of_id (if_neg ?_)
    rw [Bool.and_eq_true, Option.any_eq_true]
    rintro ⟨other, u, up, past⟩
    rcases fine with locked | each
    · simp [-Fin.getElem_fin, locked] at other
    · exact absurd (each u up) (Nat.not_lt.mpr (of_decide_eq_true past))
  case fault => rw [eq] <;> rfl

end Sys2Proof.Machine

/-!
Proof of `LanternOperation` (17, R506 to R523).
-/
namespace Sys2Proof.Machine
open Sys2Proof
set_option Elab.async false

/-! ### Two changes of one port are one -/

theorem updAt_updAt {α : Type} {n : Nat} (v : Vector α n) (i : Fin n) (f g : α → α) : updAt (updAt v i f) i g = updAt v i (fun x => g (f x)) := by
  simp [updAt]

theorem updLtn_updLtn (s : State) (t : Fin 2) (f g : Ltn → Ltn) : (s.updLtn t f).updLtn t g = s.updLtn t (fun x => g (f x)) := by
  simp only [State.updLtn, updAt_updAt]

theorem updLtn_congr {s : State} {t : Fin 2} {f g : Ltn → Ltn} (same : f s.ltn[t] = g s.ltn[t]) : s.updLtn t f = s.updLtn t g :=
  congrArg (fun l => ({ s with ltn := l } : State)) (updAt_congr same)

theorem updLtn_id (s : State) (t : Fin 2) : s.updLtn t (fun x => x) = s :=
  congrArg (fun l => ({ s with ltn := l } : State)) (updAt_same rfl)

/-- A flag that is set only when it is asked for. -/
theorem updLtn_overload (s : State) (t : Fin 2) (b : Bool) :
    (if b then s.updLtn t (fun x => { x with overload := true }) else s) = s.updLtn t (fun x => { x with overload := x.overload || b }) := by
  cases b
  · exact (updLtn_id s t).symm.trans (updLtn_congr (by simp))
  · exact updLtn_congr (by simp)

/-! ### The lock loop's arithmetic (R508) -/

theorem roundHalfUp_nonneg {n : Int} {d : Nat} (h : 0 ≤ n) : 0 ≤ roundHalfUp n d := by
  rw [roundHalfUp, Int.fdiv_eq_ediv_of_nonneg _ (by omega)]
  exact Int.ediv_nonneg (by omega) (by omega)

theorem roundHalfUp_nonpos {n : Int} {d : Nat} (pos : 0 < d) (h : n ≤ 0) : roundHalfUp n d ≤ 0 := by
  rw [roundHalfUp, Int.fdiv_eq_ediv_of_nonneg _ (by omega)]
  have : (2 * n + (d : Int)) / (2 * (d : Int)) < 1 := Int.ediv_lt_of_lt_mul (by omega) (by omega)
  omega

theorem roundHalfUp_zero {d : Nat} (pos : 0 < d) : roundHalfUp 0 d = 0 :=
  Int.le_antisymm (roundHalfUp_nonpos pos (le_refl 0)) (roundHalfUp_nonneg (le_refl 0))

theorem ofInt_clamp_toNat (x : Int) : ((BitVec.ofInt 14 (clampInt 0 16383 x)).toNat : Int) = clampInt 0 16383 x := by
  rw [BitVec.toNat_ofInt, clampInt]
  omega

theorem heaterNext_toNat (gain : Nat) (x : Ring) (y : Int) : ((heaterNext gain x y).toNat : Int) =
    clampInt 0 16383 ((x.heater.toNat : Int) - roundHalfUp
      ((if signed 32 x.slope.toNat < 0 then -(y - x.target) else y - x.target) * gain) (16 * max 1 (signed 32 x.slope.toNat).natAbs)) :=
  ofInt_clamp_toNat _

theorem heaterNext_lowers {gain : Nat} {x : Ring} {y : Int} (slope : 0 < signed 32 x.slope.toNat) (above : x.target ≤ y) :
    (heaterNext gain x y).toNat ≤ x.heater.toNat := by
  have step := roundHalfUp_nonneg (d := 16 * max 1 (signed 32 x.slope.toNat).natAbs)
    (Int.mul_nonneg (show 0 ≤ y - x.target by omega) (Int.natCast_nonneg gain))
  have eq := heaterNext_toNat gain x y
  rw [if_neg (by omega), clampInt] at eq
  omega

theorem heaterNext_raises {gain : Nat} {x : Ring} {y : Int} (slope : 0 < signed 32 x.slope.toNat) (below : y ≤ x.target) :
    x.heater.toNat ≤ (heaterNext gain x y).toNat := by
  have step := roundHalfUp_nonpos (d := 16 * max 1 (signed 32 x.slope.toNat).natAbs) (by omega)
    (Int.mul_nonpos_of_nonpos_of_nonneg (show y - x.target ≤ 0 by omega) (Int.natCast_nonneg gain))
  have eq := heaterNext_toNat gain x y
  rw [if_neg (by omega), clampInt] at eq
  have := x.heater.isLt
  omega

theorem heaterNext_rests {gain : Nat} {x : Ring} {y : Int} (there : y = x.target) : heaterNext gain x y = BitVec.ofNat 14 x.heater.toNat := by
  have eq := heaterNext_toNat gain x y
  rw [there, Int.sub_self, Int.neg_zero, ite_self, Int.zero_mul, roundHalfUp_zero (by omega), clampInt] at eq
  have := x.heater.isLt
  apply BitVec.eq_of_toNat_eq
  rw [BitVec.toNat_ofNat, there]
  omega

theorem detuneReg_toInt (d : Int × Nat) : -32767 ≤ (detuneReg d).toInt ∧ (detuneReg d).toInt ≤ 32767 := by
  rw [detuneReg, BitVec.toInt_ofInt, clampInt]
  have low := Int.le_max_left (-32767) (min 32767 (roundHalfUp d.1 (max 1 d.2)))
  have high : max (-32767) (min 32767 (roundHalfUp d.1 (max 1 d.2))) ≤ 32767 := by omega
  rw [Int.bmod_eq_of_le (by omega) (by omega)]
  exact ⟨low, high⟩

/-! ### Dither boundaries and intervals (R506, R512 to R514) -/

/-- A boundary of a chain that runs: the period begins, an earlier freeze ends, an overload is noted. -/
def State.boundary (s : State) (t : Fin 2) (rx : Bool) (p : Nat) (c : Chain) : State :=
  s.updLtn t (fun x => { x.updChain rx (fun c => if c.frozen then { c with
    period := s.ditherMs, frozen := false, blank := false, since := s.ditherMs, sinceChange := if x.tint10 then none else some 1 }
    else { c with period := s.ditherMs }) with overload := x.overload || (decide (58982 < p) && c.range == 0) })

theorem updChain_congr {x : Ltn} {rx : Bool} {f g : Chain → Chain} (same : f x.chain[chainIx rx] = g x.chain[chainIx rx]) :
    x.updChain rx f = x.updChain rx g :=
  congrArg (fun l => ({ x with chain := l } : Ltn)) (updAt_congr same)

/-- The model's steps of a boundary, one after another, are one change. -/
theorem boundary_steps (s : State) (t : Fin 2) (rx : Bool) (p : Nat) (c : Chain) (eq : c = s.ltn[t].chain[chainIx rx]) :
    (let u := s.updLtn t (fun x => x.updChain rx (fun c => { c with period := s.ditherMs }))
      let v := if 58982 < p && c.range == 0 then u.updLtn t (fun x => { x with overload := true }) else u
      if c.frozen then v.updLtn t (fun x => x.updChain rx (fun c => { c with
        frozen := false, blank := false, since := s.ditherMs, sinceChange := if x.tint10 then none else some 1 })) else v)
    = s.boundary t rx p c := by
  dsimp only
  rw [updLtn_overload, updLtn_updLtn, State.boundary]
  have chains : ∀ (l l' : Vector Chain 2), l = l' → ({ s.ltn[t] with chain := l, overload := s.ltn[t].overload || (decide (58982 < p) && c.range == 0) } : Ltn)
      = { s.ltn[t] with chain := l', overload := s.ltn[t].overload || (decide (58982 < p) && c.range == 0) } := fun l l' same => same ▸ rfl
  cases frozen : c.frozen
  · rw [if_neg Bool.false_ne_true, updLtn_updLtn]
    refine updLtn_congr ?_
    simp only [Ltn.updChain]
    refine chains _ _ (updAt_congr ?_)
    rw [← eq, frozen] <;> rfl
  · rw [if_pos rfl, updLtn_updLtn]
    refine updLtn_congr ?_
    simp only [Ltn.updChain, updAt_updAt]
    refine chains _ _ (updAt_congr ?_)
    rw [← eq, frozen] <;> rfl

theorem exec_ltnDither {t : Fin 2} {rx : Bool} {p : Nat} {s : State} (live : s.live = true)
    (new : s.ltn[t].chain[chainIx rx].period ≠ s.ditherMs) (sweeps : s.ltn[t].sweeps rx = false) (runs : s.ltn[t].runs rx = true) :
    exec (.ltnDitherBoundary t rx p) s = .next (match s.ltn[t].wanted rx p with
      | none => s.boundary t rx p s.ltn[t].chain[chainIx rx]
      | some r =>
        if r = s.ltn[t].chain[chainIx rx].range then
          (s.boundary t rx p s.ltn[t].chain[chainIx rx]).updLtn t (fun x => x.updChain rx (fun c => { c with request := none }))
        else (s.boundary t rx p s.ltn[t].chain[chainIx rx]).updLtn t (fun x => { x.updChain rx (fun c => { c with
          range := r, request := none, frozen := true, blank := true, blankAt := s.clock, sinceChange := some 0 }) with
          switches := x.switches + 1 })) := by
  change execLtnDitherBoundary t rx p s = _
  rw [execLtnDitherBoundary, whenLive_of_live live]
  refine congrArg Host.Outcome.next ((if_neg new).trans ((if_neg (by simp [-Fin.getElem_fin, sweeps])).trans ((if_neg (by simp [-Fin.getElem_fin, runs])).trans ?_)))
  rw [← boundary_steps s t rx p _ rfl] <;> rfl

theorem exec_ltnInterval {t : Fin 2} {rx : Bool} {y : Vector Int 8} {p : Nat} {ov : Bool} {s v : State} (live : s.live = true)
    (ends : s.intervalOver t rx = true)
    (eq : v = s.updLtn t (fun x => { x.updChain rx (fun c => { c with since := s.ditherMs }) with
      overload := x.overload || ov || (decide (58982 < p) && s.ltn[t].chain[chainIx rx].range == 0) })) :
    exec (.ltnIntegrationEnd t rx y p ov) s = .next (if s.ltn[t].chain[chainIx rx].frozen then v
      else match s.ltn[t].state, s.ltn[t].chain[chainIx rx].phase with
      | .acquire, .fine =>
        let f := ((v.fineInterval t rx y).slopeless t rx).updLtn t Ltn.limits
        if f.ltn[t].chainGood rx then
          let g := f.updLtn t (fun x => x.updChain rx (fun c => { c with phase := .locked }))
          if g.ltn[t].chain.toList.all (fun c => c.phase == .locked) then g.ltnLock t else g
        else f
      | .acquire, .locked => ((v.fineInterval t rx y).slopeless t rx).updLtn t Ltn.limits
      | .locked, _ =>
        ((((List.finRange 8).foldl (fun u i => u.ringInterval t (ringIx rx i) y[i] (s.ltn[t].chain[chainIx rx].sinceChange != some 1)) v).slopeless t
          rx).updLtn t Ltn.limits).updLtn t (fun x => x.updChain rx (fun d => { d with
            sinceChange := if d.sinceChange == some 1 then some 2 else none }))
      | .dark, _ =>
        if s.ltn[t].warm.isNone then v
        else
          let f := ((v.fineInterval t rx y).slopeless t rx).updLtn t Ltn.limits
          if f.ltn[t].chainGood false && f.ltn[t].chainGood true then (f.updLtn t (fun x => { x with relocks := x.relocks + 1 })).ltnLock t
          else f
      | _, _ => v) := by
  have noted : v = if ov || (58982 < p && s.ltn[t].chain[chainIx rx].range == 0) then
      (s.updLtn t (fun x => x.updChain rx (fun c => { c with since := s.ditherMs }))).updLtn t (fun x => { x with overload := true })
      else s.updLtn t (fun x => x.updChain rx (fun c => { c with since := s.ditherMs })) := by
    rw [updLtn_overload, updLtn_updLtn, eq]
    exact updLtn_congr (by simp only [Ltn.updChain, Bool.or_assoc])
  change execLtnIntegrationEnd t rx y p ov s = _
  rw [execLtnIntegrationEnd, whenLive_of_live live]
  dsimp only
  rw [if_neg (by simp [ends]), ← noted] <;> rfl

/-! ### An interval of a locked port leaves the time since its chains' last change of range (R513) -/

/-- The changes of range that the chains of a port count their intervals from. -/
def State.changes (t : Fin 2) (s : State) : Vector (Option Nat) 2 := s.ltn[t].chain.map Chain.sinceChange

theorem updLtn_changes {s : State} {t : Fin 2} {f : Ltn → Ltn} (keeps : ∀ x, (f x).chain.map Chain.sinceChange = x.chain.map Chain.sinceChange) :
    (s.updLtn t f).changes t = s.changes t := by
  rw [State.changes, updLtn_get]
  exact keeps _

theorem retrain_ltn (s : State) (p : Fin 4) : (s.retrain p).ltn = s.ltn := by
  rw [State.retrain]
  split <;> rfl

theorem retrain_changes (s : State) (p : Fin 4) (t : Fin 2) : (s.retrain p).changes t = s.changes t := by
  rw [State.changes, retrain_ltn, State.changes]

theorem lineBad_changes (s : State) (t : Fin 2) (r : Fin 16) : (s.lineBad t r).changes t = s.changes t := retrain_changes _ _ t

theorem ringUnlock_changes (s : State) (t : Fin 2) (r : Fin 16) : (s.ringUnlock t r).changes t = s.changes t :=
  (lineBad_changes _ t r).trans (updLtn_changes fun _ => rfl)

theorem ringRelocked_changes (s : State) (t : Fin 2) (r : Fin 16) : (s.ringRelocked t r).changes t = s.changes t := by
  rw [State.ringRelocked]
  dsimp only
  split
  · exact (retrain_changes _ _ t).trans (updLtn_changes fun _ => rfl)
  · exact updLtn_changes fun _ => rfl

theorem updChain_sinceChange {x : Ltn} {rx : Bool} {f : Chain → Chain} (keeps : ∀ c, (f c).sinceChange = c.sinceChange) :
    (x.updChain rx f).chain.map Chain.sinceChange = x.chain.map Chain.sinceChange := by
  apply Vector.ext
  intro i h
  by_cases same : (chainIx rx).val = i
  · subst same
    simp [Ltn.updChain, updAt, keeps]
  · simp [Ltn.updChain, updAt, Vector.getElem_set_ne _ _ same]

theorem ringInterval_changes (s : State) (t : Fin 2) (r : Fin 16) (y : Int) (judged : Bool) :
    (s.ringInterval t r y judged).changes t = s.changes t := by
  rw [State.ringInterval]
  dsimp only
  split
  · rfl
  split
  · rfl
  · split
    · exact (ringUnlock_changes _ t r).trans (updLtn_changes fun _ => rfl)
    · exact updLtn_changes fun _ => rfl
  · split
    · exact updLtn_changes fun _ => rfl
    split
    · exact (ringRelocked_changes _ t r).trans (updLtn_changes fun _ => rfl)
    · rw [updLtn_changes fun x => ?_]
      · exact updLtn_changes fun _ => rfl
      · exact updChain_sinceChange fun _ => rfl
  · split
    · exact (ringRelocked_changes _ t r).trans (updLtn_changes fun _ => rfl)
    · exact updLtn_changes fun _ => rfl

theorem slopeless_changes (s : State) (t : Fin 2) (rx : Bool) : (s.slopeless t rx).changes t = s.changes t := by
  refine foldl_keeps (State.changes t) (fun u r => ?_) _ s
  have free : ∀ f : Ltn → Ltn, (∀ x, (f x).chain.map Chain.sinceChange = x.chain.map Chain.sinceChange) →
      (u.takeFree.2.updLtn t f).changes t = u.changes t := fun f keeps => updLtn_changes keeps
  dsimp only
  rw [apply_ite (State.changes t)]
  refine (ite_congr (v := u.changes t) rfl (fun _ => rfl) (fun _ => ?_)).trans (ite_self _)
  exact free _ fun _ => rfl

/-- The interval's rings, one by one, and what follows keep the time since the last change. -/
theorem judged_changes (v : State) (t : Fin 2) (rx : Bool) (y : Vector Int 8) (judged : Bool) :
    ((((List.finRange 8).foldl (fun u i => u.ringInterval t (ringIx rx i) y[i] judged) v).slopeless t rx).updLtn t Ltn.limits).changes t
      = v.changes t := by
  rw [updLtn_changes (f := Ltn.limits) fun _ => rfl, slopeless_changes]
  exact foldl_keeps (State.changes t) (fun u i => ringInterval_changes u t (ringIx rx i) y[i] judged) _ v

theorem sinceChange_of_changes {s u : State} {t : Fin 2} (eq : u.changes t = s.changes t) (rx : Bool) :
    u.ltn[t].chain[chainIx rx].sinceChange = s.ltn[t].chain[chainIx rx].sinceChange := by
  have one := congrArg (fun v : Vector (Option Nat) 2 => v[chainIx rx]) eq
  simpa [State.changes] using one

/-! ### Light (R520, R522) -/

/-- A port in DARK (R520). -/
def Ltn.darkened (x : Ltn) (rx : Bool) (resume : Bool) : Ltn :=
  ({ x with
      darkCount := if x.state == LtnState.dark then x.darkCount else satInc x.darkCount
      state := .dark, warm := none, resumeCal := x.resumeCal || resume
      chain := x.chain.map (fun c => { c with frozen := true, blank := false, request := none, sinceChange := none }) } : Ltn).updChain rx
    (fun c => { c with dark := true })

theorem goDark_eq (s : State) (t : Fin 2) (rx resume : Bool) : s.goDark t rx resume =
    if s.lfnUp t.val then (s.updLtn t (·.darkened rx resume)).linkDown (lfnOf t) .down else s.updLtn t (·.darkened rx resume) := rfl

theorem goDark_other {s : State} {t u : Fin 2} {rx resume : Bool} (other : t ≠ u) : (s.goDark t rx resume).ltn[u] = s.ltn[u] := by
  have kept : (s.goDark t rx resume).ltn = (s.updLtn t (·.darkened rx resume)).ltn := by
    rw [goDark_eq]
    split
    · exact linkDown_ltn _ _ _
    · rfl
  rw [kept]
  exact updAt_get_other _ _ _ _ other

theorem rangeWrite_auto {s : State} {t : Fin 2} {rx : Bool} {v : BitVec 2} (auto : s.ltn[t].autoRange = true) : s.rangeWrite t rx v = s := by
  refine Eq.trans (b := s.updLtn t (fun x => x)) ?_ (updLtn_id s t)
  exact updLtn_congr (if_pos auto)

theorem rangeWrite_manual {s : State} {t : Fin 2} {rx : Bool} {v : BitVec 2} (manual : s.ltn[t].autoRange = false) :
    s.rangeWrite t rx v = s.updLtn t (fun x => x.updChain rx (fun c => { c with request := some v })) :=
  updLtn_congr (if_neg (by simp [-Fin.getElem_fin, manual]))

theorem lineBad_ltn (s : State) (t : Fin 2) (r : Fin 16) : (s.lineBad t r).ltn = s.ltn := retrain_ltn _ _

/-- Settles O50: boundaries by `exec_ltnDither`, intervals by `exec_ltnInterval`, light by `goDark_eq`, the loop's arithmetic above. -/
theorem lanternOperation : Obligations.LanternOperation := by
  refine ⟨fun t a b s live => ⟨fun auto => ?autoRange, fun manual => ?range⟩,
    fun t rx s c live eqC => ⟨fun blank past => ?blank, fun other => ?notBlank⟩,
    fun t rx p s v c live eqC => ⟨fun same => ?samePeriod, fun new sweeps => ?sweepBoundary, fun sweeps runs => ?idleBoundary,
      fun new sweeps runs eqV => ⟨fun none => ?noRange, fun r want other => ?change, fun r want same => ?sameRange⟩⟩,
    fun t rx y p ov s v f c live eqC eqV eqF => ⟨fun going => ?going, fun ends => ⟨fun frozen => ?frozen, fun thawed =>
      ⟨fun acq fine bad => ?bad, fun g acq fine good eqG => ?good, fun acq locked => ?waits, fun locked => ?judged, fun dark none => ?dark,
        fun dark warm => ?warm⟩⟩⟩,
    fun t r s live => ⟨fun locked un good relock => ⟨fun past => ?late, fun soon => ?soon⟩, fun locked => ?relocked, fun on good => ?heater, fun off => ?heaterOff⟩,
    fun t s live => ⟨fun locked => ?lost, fun acq phase => ?lostAcquire, fun both => ?lostTx, fun off rx => ?lostOff⟩,
    fun t s live => ⟨fun dark none cold => ?back, fun dark none resume => ?backCal, fun other => ?notBack, fun w dark warm => ⟨fun past => ?warmLate, fun soon => ?warmSoon⟩⟩,
    fun t rx s live => ⟨fun on light => ?monitor, fun off => ?monitorOff⟩,
    fun gain x y => ⟨?code, heaterNext_rests, heaterNext_lowers, heaterNext_raises, rfl⟩, detuneReg_toInt⟩
  case autoRange =>
    change execLtnRangeWrite t a b s = _
    rw [execLtnRangeWrite, whenLive_of_live live, rangeWrite_auto auto, rangeWrite_auto auto]
  case range =>
    change ∃ u, execLtnRangeWrite t a b s = .next u ∧ _
    rw [execLtnRangeWrite, whenLive_of_live live, rangeWrite_manual manual, rangeWrite_manual (by rw [updLtn_get]; exact manual)]
    refine ⟨_, rfl, ?_, ?_⟩
    · rw [updLtn_get, updLtn_get]
      simp [Ltn.updChain, chainIx, updAt]
    · rw [updLtn_get]
      simp [Ltn.updChain, chainIx, updAt]
  case blank =>
    subst eqC
    change execLtnBlankingEnd t rx s = _
    rw [execLtnBlankingEnd, whenLive_of_live live]
    exact congrArg Host.Outcome.next (if_pos (by simp [-Fin.getElem_fin, blank, past]))
  case notBlank =>
    subst eqC
    change execLtnBlankingEnd t rx s = _
    exact whenLive_of_id (if_neg (by rcases other with h | h <;> simp [-Fin.getElem_fin, h]))
  case samePeriod =>
    subst eqC
    change execLtnDitherBoundary t rx p s = _
    exact whenLive_of_id (if_pos same)
  case sweepBoundary =>
    subst eqC
    change execLtnDitherBoundary t rx p s = _
    rw [execLtnDitherBoundary, whenLive_of_live live]
    exact congrArg Host.Outcome.next ((if_neg new).trans (if_pos sweeps))
  case idleBoundary =>
    change execLtnDitherBoundary t rx p s = _
    refine whenLive_of_id ?_
    dsimp only
    rw [sweeps, runs, if_neg Bool.false_ne_true, Bool.not_false, if_pos rfl, ite_self]
  case noRange =>
    subst eqC eqV
    rw [exec_ltnDither live new sweeps runs, none] <;> rfl
  case change =>
    subst eqC eqV
    rw [exec_ltnDither live new sweeps runs, want]
    exact congrArg Host.Outcome.next (if_neg other)
  case sameRange =>
    subst eqC eqV
    rw [exec_ltnDither live new sweeps runs, want]
    exact congrArg Host.Outcome.next (if_pos same)
  case going =>
    change execLtnIntegrationEnd t rx y p ov s = _
    exact whenLive_of_id (if_pos (by simp [going]))
  case frozen =>
    subst eqC
    rw [exec_ltnInterval live ends eqV, if_pos frozen]
  case bad =>
    subst eqC
    rw [exec_ltnInterval live ends eqV, if_neg (by simp [-Fin.getElem_fin, thawed]), acq, fine]
    dsimp only
    rw [← eqF]
    exact congrArg Host.Outcome.next (if_neg (by simp [-Fin.getElem_fin, bad]))
  case good =>
    subst eqC
    rw [exec_ltnInterval live ends eqV, if_neg (by simp [-Fin.getElem_fin, thawed]), acq, fine]
    dsimp only
    rw [← eqF, ← eqG]
    exact congrArg Host.Outcome.next (if_pos good)
  case waits =>
    subst eqC
    rw [exec_ltnInterval live ends eqV, if_neg (by simp [-Fin.getElem_fin, thawed]), acq, locked, eqF]
  case judged =>
    subst eqC
    rw [exec_ltnInterval live ends eqV, if_neg (by simp [-Fin.getElem_fin, thawed]), locked]
    refine congrArg Host.Outcome.next (updLtn_congr (updChain_congr ?_))
    have kept : v.ltn[t].chain[chainIx rx].sinceChange = s.ltn[t].chain[chainIx rx].sinceChange := by
      rw [eqV, updLtn_get]
      simp only [Ltn.updChain, updAt_get_self]
    rw [sinceChange_of_changes (judged_changes v t rx y _) rx, kept]
  case dark =>
    subst eqC
    rw [exec_ltnInterval live ends eqV, if_neg (by simp [-Fin.getElem_fin, thawed]), dark]
    exact congrArg Host.Outcome.next (if_pos (by rw [none]; rfl))
  case warm =>
    subst eqC
    rw [exec_ltnInterval live ends eqV, if_neg (by simp [-Fin.getElem_fin, thawed]), dark]
    dsimp only
    rw [← eqF]
    exact congrArg Host.Outcome.next (if_neg (by simpa [-Fin.getElem_fin] using warm))
  case late =>
    change execLtnRelockTimeout t r s = _
    rw [execLtnRelockTimeout, whenLive_of_live live]
    refine congrArg Host.Outcome.next (if_pos ?_)
    simp only [locked, un, good, Bool.and_eq_true, decide_eq_true_eq]
    exact ⟨⟨⟨⟨by decide, by decide⟩, by decide⟩, by simpa [-Fin.getElem_fin] using relock⟩, past⟩
  case soon =>
    change execLtnRelockTimeout t r s = _
    refine whenLive_of_id (if_neg ?_)
    simp only [Bool.and_eq_true, decide_eq_true_eq]
    exact fun h => absurd soon (Nat.not_lt.mpr h.2)
  case relocked =>
    change execLtnRelockTimeout t r s = _
    exact whenLive_of_id (if_neg (by simp [-Fin.getElem_fin, locked]))
  case heater =>
    have row : exec (.ltnHeaterFault t r) s = .next ((s.updLtn t (fun x => ({ x.updRing r (fun g => { g with
        faulty := true, locked := false, heater := 0, relock := .none, good := 0 }) with
          unlocks := satInc x.unlocks, cause := .heater }).limits)).lineBad t r) := by
      change execLtnHeaterFault t r s = _
      rw [execLtnHeaterFault, whenLive_of_live live]
      exact congrArg Host.Outcome.next (if_neg (by simpa [-Fin.getElem_fin, good] using on))
    refine ⟨_, row, ?_⟩
    rw [lineBad_ltn, updLtn_get]
    simp [-Fin.getElem_fin, Ltn.limits, Ltn.updRing]
  case heaterOff =>
    change execLtnHeaterFault t r s = _
    exact whenLive_of_id (if_pos (by rcases off with h | h <;> simp [-Fin.getElem_fin, h]))
  case lost =>
    refine ⟨s.updLtn t (·.darkened true false), ?_, ?_, ?_, ?_, ?_, rfl⟩
    · change execLtnLightLoss t true s = _
      rw [execLtnLightLoss, whenLive_of_live live, ← goDark_eq, locked] <;> rfl
    all_goals rw [updLtn_get]
    · rfl
    · simp [Ltn.darkened, Ltn.updChain, chainIx, updAt]
    · simp [Ltn.darkened, Ltn.updChain, chainIx, updAt]
    · exact if_neg (by simp [-Fin.getElem_fin, locked])
  case lostAcquire =>
    have rings : (s.ltn[t].chain[chainIx true].phase == .locked) = true := beq_iff_eq.mpr phase
    change execLtnLightLoss t true s = _
    rw [execLtnLightLoss, whenLive_of_live live]
    dsimp only
    rw [acq, rings] <;> rfl
  case lostTx =>
    change execLtnLightLoss t false s = _
    rw [execLtnLightLoss, whenLive_of_live live]
    dsimp only
    rw [both t, if_neg Bool.false_ne_true, if_pos (by decide), show List.finRange 2 = [0, 1] from rfl, List.foldl_cons, List.foldl_cons,
      List.foldl_nil, both 0]
    have second : (s.goDark 0 false false).ltn[(1 : Fin 2)].state = .locked := by
      rw [goDark_other (by decide)]
      exact both 1
    change Host.Outcome.next (if ((s.goDark 0 false false).ltn[(1 : Fin 2)].state == .locked || (s.goDark 0 false false).ltn[(1 : Fin 2)].state == .dark
      || (s.goDark 0 false false).ltn[(1 : Fin 2)].state == .acquire) = true then
      (s.goDark 0 false false).goDark 1 false ((s.goDark 0 false false).ltn[(1 : Fin 2)].state == .acquire) else s.goDark 0 false false) = _
    rw [second] <;> rfl
  case lostOff =>
    change execLtnLightLoss t rx s = _
    refine whenLive_of_id ?_
    rcases off with h | h | h <;> cases rx <;> simp [-Fin.getElem_fin, h]
  case back =>
    change execLtnWarmRelockStart t s = _
    rw [execLtnWarmRelockStart, whenLive_of_live live]
    exact congrArg Host.Outcome.next ((if_neg (by simp [-Fin.getElem_fin, dark, none])).trans (if_neg (by simp [-Fin.getElem_fin, cold])))
  case backCal =>
    change execLtnWarmRelockStart t s = _
    rw [execLtnWarmRelockStart, whenLive_of_live live]
    exact congrArg Host.Outcome.next ((if_neg (by simp [-Fin.getElem_fin, dark, none])).trans (if_pos resume))
  case notBack =>
    change execLtnWarmRelockStart t s = _
    exact whenLive_of_id (if_pos (by rcases other with h | h <;> simp [-Fin.getElem_fin, h, Option.isSome_iff_ne_none]))
  case warmLate =>
    have late : s.ltn[t].warm.any (fun w => decide (w + 20000 ≤ s.clock)) = true := by
      rw [warm, Option.any_some, decide_eq_true_iff]
      exact past
    change execLtnWarmRelockTimeout t s = _
    rw [execLtnWarmRelockTimeout, whenLive_of_live live]
    exact congrArg Host.Outcome.next (if_pos (by rw [Bool.and_eq_true]; exact ⟨by simp [-Fin.getElem_fin, dark], late⟩))
  case warmSoon =>
    have early : s.ltn[t].warm.any (fun w => decide (w + 20000 ≤ s.clock)) = false := by
      rw [warm, Option.any_some, decide_eq_false_iff_not]
      exact Nat.not_le.mpr soon
    change execLtnWarmRelockTimeout t s = _
    exact whenLive_of_id (if_neg (by rw [early, Bool.and_false]; exact Bool.false_ne_true))
  case monitor =>
    change ∃ st, st < 65536 ∧ execLtnMonitorFault t rx s = _
    rw [execLtnMonitorFault, whenLive_of_live live]
    refine ⟨_, Nat.mod_lt _ (by decide), congrArg Host.Outcome.next (if_neg ?_)⟩
    simpa [-Fin.getElem_fin, light] using on
  case monitorOff =>
    change execLtnMonitorFault t rx s = _
    exact whenLive_of_id (if_pos (by rcases off with h | h <;> simp [-Fin.getElem_fin, h]))
  case code => exact Nat.le_of_lt_succ (heaterNext gain x y).isLt

end Sys2Proof.Machine

/-!
Proof of `WorkPlacement` (10, R296 to R321).
-/
namespace Sys2Proof.Machine
open Sys2Proof
set_option Elab.async false

/-! ### Where an item is placed (R303, R304) -/

theorem argMin_ne_none {α : Type} {key : α → List Int} {l : List α} {x : α} (mem : x ∈ l) : argMin key l ≠ none := by
  cases l with
  | nil => cases mem
  | cons z zs =>
    rw [argMin]
    split
    · exact Option.some_ne_none z
    · split <;> exact Option.some_ne_none _

/-- What a placement says of its engine: the engine serves the item's group, and is idle to start at, runs a lower level to be
pre-empted, and has room to be queued at. -/
def State.Places (s : State) (i : Item) : Place → Prop
  | .start e => e ∈ i.group.engines ∧ s.unitLive (unitOfEng e) = true ∧ (s.engN e).idle = true
  | .preempt e => i.level = 0 ∧ 1 ≤ (s.engN e).level ∧ (s.engN e).level ≤ 3
  | .yieldAt e => i.level = 0 ∧ 1 ≤ (s.engN e).level ∧ (s.engN e).level ≤ 3
  | .queue e => e ∈ i.group.engines ∧ s.unitLive (unitOfEng e) = true ∧ ((s.engN e).at i.level).length < 32
  | .wait => True

theorem placeCore_places (s : State) (i : Item) : s.Places i (s.placeCore i) := by
  rw [State.placeCore]
  dsimp only
  split
  · next e found =>
    have mem := argMin_mem found
    simp only [List.mem_filter] at mem
    obtain ⟨⟨⟨⟨group, live⟩, -⟩, idle⟩, -⟩ := mem
    exact ⟨group, live, idle⟩
  split
  · next e found =>
    have mem := argMin_mem found
    simp only [List.mem_filter] at mem
    obtain ⟨⟨⟨group, live⟩, -⟩, idle⟩ := mem
    exact ⟨group, live, idle⟩
  split
  · next e found =>
    have mem := argMin_mem found
    by_cases top : i.level = 0
    · simp only [top, if_true, List.mem_filter, Bool.and_eq_true, decide_eq_true_eq] at mem
      obtain ⟨-, ⟨⟨low, high⟩, -⟩, -⟩ := mem
      exact ⟨top, low, high⟩
    · simp only [top, if_false, List.not_mem_nil] at mem
  split
  · next e found =>
    have mem := argMin_mem found
    simp only [List.mem_filter, decide_eq_true_eq] at mem
    obtain ⟨⟨⟨group, live⟩, -⟩, room⟩ := mem
    exact ⟨group, live, room⟩
  · trivial

theorem placePipe_places (s : State) (i : Item) : s.Places i (s.placePipe i) := by
  rw [State.placePipe]
  dsimp only
  split
  · next e found =>
    have mem := List.mem_of_find?_eq_some found
    simp only [List.mem_filter] at mem
    obtain ⟨⟨group, live⟩, -⟩ := mem
    exact ⟨group, live, List.find?_some (p := fun e => (s.engN e).idle) found⟩
  split
  · next e found =>
    have mem := argMin_mem found
    by_cases top : i.level = 0
    · simp only [top, if_true, List.mem_filter, Bool.and_eq_true, decide_eq_true_eq] at mem
      obtain ⟨-, ⟨⟨low, high⟩, -⟩, -⟩ := mem
      exact ⟨top, low, high⟩
    · simp only [top, if_false, List.not_mem_nil] at mem
  split
  · next e found =>
    have mem := argMin_mem found
    simp only [List.mem_filter, decide_eq_true_eq] at mem
    obtain ⟨⟨⟨group, live⟩, -⟩, room⟩ := mem
    exact ⟨group, live, room⟩
  · trivial

theorem place_places (s : State) (i : Item) : s.Places i (s.place i) := by
  rw [State.place]
  split
  · exact placeCore_places s i
  · exact placeCore_places s i
  · exact placePipe_places s i

/-- A placement is a start wherever one of the item's engines is idle. -/
theorem place_starts {s : State} {i : Item} {e : Nat} (group : e ∈ i.group.engines) (live : s.unitLive (unitOfEng e) = true)
    (idle : (s.engN e).idle = true) (only : i.only = none ∨ i.only = some e) : ∃ f, s.place i = .start f := by
  have mine : (match i.only with | some o => o == e | none => true) = true := by
    rcases only with h | h <;> simp [h]
  have core : ∃ f, s.placeCore i = .start f := by
    rw [State.placeCore]
    dsimp only
    split
    · next f _ => exact ⟨f, rfl⟩
    split
    · next f _ => exact ⟨f, rfl⟩
    · next nothing =>
      exact absurd nothing (argMin_ne_none (List.mem_filter.mpr ⟨List.mem_filter.mpr ⟨List.mem_filter.mpr ⟨group, live⟩, mine⟩, idle⟩))
  have pipe : ∃ f, s.placePipe i = .start f := by
    rw [State.placePipe]
    dsimp only
    split
    · next f _ => exact ⟨f, rfl⟩
    · next nothing =>
      exact absurd idle (List.find?_eq_none.mp nothing e (List.mem_filter.mpr ⟨List.mem_filter.mpr ⟨group, live⟩, mine⟩))
  rw [State.place]
  split
  · exact core
  · exact core
  · exact pipe

/-! ### Sharing (R302) -/

theorem updEngN_clock (s : State) (e : Nat) (f : Engine → Engine) : (s.updEngN e f).clock = s.clock := by
  rw [State.updEngN]
  split <;> rfl

theorem shareOf_setShare (s : State) (vpu : Bool) (x : Share) : (s.setShare vpu x).shareOf vpu = x := by
  cases vpu <;> rfl

theorem engN_val (s : State) (e : Fin 32) : s.engN e.val = s.sched.eng[e] := by
  simp [State.engN]

/-- The next owner of a group and its quantum. -/
theorem passOwner_next {s : State} {vpu : Bool} {c : Nat} (next : nextOwner (s.l2ctx (shareGroup vpu)) (s.shareOf vpu).lastOwner = some c) :
    (s.passOwner vpu).shareOf vpu = { s.shareOf vpu with
      owner := some c, lastOwner := c
      quantumEnd := s.clock + (quantumUs (s.l2ctx (shareGroup vpu)).length - (lookupN (s.shareOf vpu).deduct c).getD 0)
      deduct := eraseN (s.shareOf vpu).deduct c } := by
  have clock : ∀ (f : State → Nat → Engine → Engine) (l : List Nat) (u : State), (l.foldl (fun t e => t.updEngN e (f t e)) u).clock = u.clock :=
    fun f l u => foldl_keeps State.clock (fun t e => updEngN_clock t e _) l u
  rw [State.passOwner]
  dsimp only
  rw [next]
  dsimp only
  rw [shareOf_setShare]
  split
  · rw [clock]
  · rfl

/-! ### Items that a dispatcher, a save or a restore lets on (R296, R306) -/

theorem exec_workItem {i j : Item} {serve : Option (Nat × (Nat × U32))} {s : State} (live : s.live = true)
    {k : Item} {u : State} {r : State × Option Status} (eqK : k = { j with id := s.sched.nextId, ran := 0, acc := [], prev := none, retry := none })
    (eqU : u = { s with sched := { s.sched with nextId := s.sched.nextId + 1, guarded := s.sched.guarded.filter (fun g => g.id != i.id) } })
    (eqR : r = (match serve with
      | some (inst, who) => ((u.jobInput k inst).1.instServe inst who, (u.jobInput k inst).2)
      | none => (u, none)))
    (found : (s.released i).bind s.admitItem = some (j, serve)) :
    exec (.workItemEligible i) s = .next (match r.2 with
      | some st => r.1.itemDiscard k st
      | none =>
        let v := match k.origin with
          | .frame n seq => if k.kind == ItemKind.step then r.1 else r.1.updFrame n seq (fun f => { f with busy := true })
          | _ => r.1
        v.carry k (v.place k)) := by
  subst eqK eqU eqR
  change execWorkItemEligible i s = _
  rw [execWorkItemEligible, whenLive_of_live live]
  dsimp only
  rw [found] <;> rcases serve with _ | ⟨inst, who⟩ <;> rfl

theorem exec_saveRestore {e : Fin 32} {err : Bool} {s : State} {i : Item} (live : s.live = true) (incoming : s.sched.eng[e].incoming = some i) :
    exec (.saveRestoreDone e err) s = .next (if err then
        let s := s.faultLog 0x37 Status.discardedFault.code (BitVec.ofNat 32 e.val)
        if i.saved then ((s.updEng e (fun x => { x with incoming := none })).itemDiscard i .discardedFault).engineDone e.val
        else match s.sched.eng[e].saved with
          | some j => ((s.updEng e (fun x => { x with saved := none })).itemDiscard j .discardedFault).restoreDone e.val
          | none => s.restoreDone e.val
      else s.restoreDone e.val) := by
  change execSaveRestoreDone e err s = _
  rw [execSaveRestoreDone, whenLive_of_live live]
  dsimp only
  rw [incoming] <;> rfl

/-- Settles O51: the dispatcher by `exec_workItem`, the places by `place_places`, sharing by `passOwner_next`. -/
theorem workPlacement : Obligations.WorkPlacement := by
  refine ⟨fun i s live none => ?notNext, fun i g s guard => ⟨fun waits => ?guarded, fun free => ?released⟩,
    fun i j k serve s u r live found eqK eqU eqR => ⟨fun st failed => ?inputFails, fun ok => ⟨fun n seq v origin kind eqV => ?frame, fun other => ?other⟩⟩,
    fun i e s => ⟨fun start => ?start, fun pre => ?preempts, fun queue => ?queued, fun group live idle only => place_starts group live idle only⟩,
    fun e err s v live eqV => ⟨fun none => ?noIncoming, fun i incoming => ⟨?saved, fun own => ?ownFails, fun j own other => ?otherFails, fun own none => ?noneFails⟩⟩,
    fun e id s up live eq => ?promotes,
    fun vpu s live => ⟨fun soon => ?quantumOn, fun idle => ?quantumIdle, fun sliced owner past => ?quantum⟩,
    fun vpu s c next => ?owner, fun s live => ?admission,
    fun e s live => ⟨fun unit yields free => ?yields, fun other => ?noYield⟩, fun e s running => if_pos (by simp [running])⟩
  case notNext =>
    change execWorkItemEligible i s = _
    refine whenLive_of_id ?_
    dsimp only
    rw [none]
  case guarded =>
    rw [State.released, guard]
    exact if_pos waits
  case released =>
    rw [State.released, guard]
    exact if_neg (by rw [free]; exact Bool.false_ne_true)
  case inputFails => rw [exec_workItem live eqK eqU eqR found, failed]
  case frame =>
    rw [exec_workItem live eqK eqU eqR found, ok]
    dsimp only
    rw [origin, eqV]
    dsimp only
    rw [if_neg (by simpa using kind)]
  case other =>
    rw [exec_workItem live eqK eqU eqR found, ok]
    dsimp only
    split
    · next n seq origin =>
      rcases other with step | no
      · rw [if_pos (beq_iff_eq.mpr step)]
      · exact absurd origin (no n seq)
    · rfl
  case start =>
    have places := place_places s i
    rw [start] at places
    exact places
  case preempts =>
    have places := place_places s i
    rcases pre with h | h <;> rw [h] at places <;> exact places
  case queued =>
    have places := place_places s i
    rw [queue] at places
    exact places
  case noIncoming =>
    change execSaveRestoreDone e err s = _
    refine whenLive_of_id ?_
    dsimp only
    rw [none]
  case saved =>
    rw [exec_saveRestore live incoming, State.restoreDone, engN_val, incoming] <;> rfl
  case ownFails =>
    subst eqV
    rw [exec_saveRestore live incoming]
    exact congrArg Host.Outcome.next ((if_pos rfl).trans (if_pos own))
  case otherFails =>
    subst eqV
    rw [exec_saveRestore live incoming]
    refine congrArg Host.Outcome.next ((if_pos rfl).trans ((if_neg (by simp [own])).trans ?_))
    rw [show (s.faultLog 0x37 Status.discardedFault.code (BitVec.ofNat 32 e.val)).sched = s.sched from rfl, other]
  case noneFails =>
    subst eqV
    rw [exec_saveRestore live incoming]
    refine congrArg Host.Outcome.next ((if_pos rfl).trans ((if_neg (by simp [own])).trans ?_))
    rw [show (s.faultLog 0x37 Status.discardedFault.code (BitVec.ofNat 32 e.val)).sched = s.sched from rfl, none]
  case promotes =>
    subst eq
    change execLevel3Promotion e id s = _
    rw [execLevel3Promotion, whenLive_of_live live]
  case quantumOn =>
    change execQuantumEnd vpu s = _
    exact whenLive_of_id (if_neg (by simp [Nat.not_le.mpr soon]))
  case quantumIdle =>
    change execQuantumEnd vpu s = _
    exact whenLive_of_id (if_neg (by rcases idle with h | h <;> simp [h]))
  case quantum =>
    change execQuantumEnd vpu s = _
    rw [execQuantumEnd, whenLive_of_live live]
    exact congrArg Host.Outcome.next (if_pos (by simp [sliced, owner, past]))
  case owner =>
    rw [passOwner_next next]
    exact ⟨rfl, rfl, rfl⟩
  case admission =>
    change execAdmissionReevaluate s = _
    exact whenLive_of_live live _
  case yields =>
    change execUnitYield e s = _
    rw [execUnitYield, whenLive_of_live live]
    exact congrArg Host.Outcome.next (if_pos (by simp [-Fin.getElem_fin, unit, yields, free]))
  case noYield =>
    change execUnitYield e s = _
    refine whenLive_of_id (if_neg ?_)
    rcases other with h | h | h
    · simp [Nat.not_le.mpr h]
    · simp [-Fin.getElem_fin, h]
    · simp [-Fin.getElem_fin, h]

end Sys2Proof.Machine

/-!
Proof of `TowerItems` (10, R311; 14, R411 to R438; 20, R578).
-/
namespace Sys2Proof.Machine
open Sys2Proof
set_option Elab.async false

/-! ### Ends of an item (R299, R407, R434, R438) -/

theorem exec_itemComplete {e : Fin 32} {i : Item} {s : State} {q : ItemEnd} (live : s.live = true) (core : e.val < 24)
    (runs : s.engRuns e.val = some i) (probe : i.kind ≠ .probe) (vector : i.kind ≠ .vector) (free : s.itemHeld i = false) :
    exec (.engineItemComplete e q) s = .next (match q with
        | .ok writes candAt emb => s.itemEnds e.val i writes candAt emb
        | .bound off => s.boundRefused e.val i off
        | .poisoned => ((s.strike (s.itemRange i).1 (s.itemRange i).2).engineDone e.val).itemDiscard i .discardedFault
        | .plan => s.planError e.val i
        | .wbUe model => if h8 : e.val < 8 then s.wbInvalidate ⟨e.val, h8⟩ model else s
        | .vpuUe =>
          if h8 : 8 ≤ e.val then
            let v : Fin 16 := ⟨e.val - 8, by omega⟩
            let t := ((s.updVpu v (fun x => { x with lastUe := some s.clock })).engineDone e.val).itemDiscard i .discardedFault
            if s.str.vpu[v].lastUe.any (fun t => s.clock ≤ t + 1000000) then t.fence (unitOfEng e.val) 0 else t
          else s) := by
  change execEngineItemComplete e q s = _
  rw [execEngineItemComplete, whenLive_of_live live, dif_neg (by omega), runs]
  exact congrArg Host.Outcome.next (if_neg (by simp [probe, vector, free]))

theorem itemEnds_of_ok {s : State} {e c : Nat} {i : Item} {ws : List (Nat × List Byte)} {es : List (Nat × List U32)}
    (ok : s.outputOk i (ws.filter (fun w => !inStore w)) = true) :
    s.itemEnds e i ws c es = match s.outside i ((ws.filter inStore).map (fun w => (w.1, w.2.length))) with
    | some a => s.boundRefused e i (a - fsBase)
    | none =>
      let r := ((ws.filter inStore).foldl (fun s w => s.memWrite w.1 w.2) s).outputPut (unitOfEng e) i (ws.filter (fun w => !inStore w))
      match r.2 with
      | some st => (r.1.engineDone e).itemDiscard i st
      | none => (r.1.engineDone e).itemOk i c es :=
  if_neg (by simp [ok])

/-! ### Images (R413, R434) -/

theorem foldl_keeping_head {α : Type} {p : List α → α → Bool} {new : α} (l : List α) :
    ∀ acc, acc.head? = some new → (l.foldl (fun acc m => if p acc m then acc ++ [m] else acc) acc).head? = some new := by
  induction l with
  | nil => exact fun acc head => head
  | cons m l ih =>
    intro acc head
    refine ih _ ?_
    dsimp only
    split
    · rw [List.head?_append, head] <;> rfl
    · exact head

theorem foldl_keeping_mem {α : Type} {p : List α → α → Bool} {x : α} (l : List α) :
    ∀ acc, x ∈ l.foldl (fun acc m => if p acc m then acc ++ [m] else acc) acc → x ∈ acc ∨ x ∈ l := by
  induction l with
  | nil => exact fun acc mem => .inl mem
  | cons m l ih =>
    intro acc mem
    rcases ih _ mem with before | after
    · dsimp only at before
      split at before
      · rcases List.mem_append.mp before with old | one
        · exact .inl old
        · exact .inr (List.mem_singleton.mp one ▸ List.mem_cons_self)
      · exact .inl before
    · exact .inr (List.mem_cons_of_mem m after)

theorem imagesWith_spec (new : Image) (held : List Image) (b n : Nat) : (imagesWith held new b n).head? = some new
    ∧ ∀ m ∈ imagesWith held new b n, m = new ∨ (m ∈ held ∧ m.model ≠ new.model ∧ ∀ x ∈ m.slots, x ∉ new.slots) := by
  have shape : imagesWith held new b n = (held.filter (fun m => m.model != new.model && !(m.slots.any (new.slots.contains ·)))).foldl
      (fun acc m => if (decide (acc.length ≤ 64) && decide (((acc ++ [m]).map Image.bytes).sum ≤ b)
        && decide (((acc ++ [m]).map (fun x => x.slots.length)).sum ≤ n)) then acc ++ [m] else acc) [new] := rfl
  rw [shape]
  refine ⟨foldl_keeping_head (p := fun acc m => decide (acc.length ≤ 64) && decide (((acc ++ [m]).map Image.bytes).sum ≤ b)
    && decide (((acc ++ [m]).map (fun x => x.slots.length)).sum ≤ n)) _ _ rfl, fun m mem => ?_⟩
  rcases foldl_keeping_mem (p := fun acc m => decide (acc.length ≤ 64) && decide (((acc ++ [m]).map Image.bytes).sum ≤ b)
    && decide (((acc ++ [m]).map (fun x => x.slots.length)).sum ≤ n)) _ _ mem with old | kept
  · exact .inl (List.mem_singleton.mp old)
  · obtain ⟨there, apart⟩ := List.mem_filter.mp kept
    right
    refine ⟨there, ?_⟩
    simpa using apart

theorem exec_weightImage {t : Fin 8} {ok : Bool} {books : List (List Byte)} {i : Item} {s : State} (live : s.live = true)
    (runs : (s.engN t.val).running = some i) (loading : s.str.tower[t].loading = true) (unit : s.unitLive t.val = true) :
    exec (.weightImageLoadDone t ok books) s = .next (
      if !ok then
        (((s.packageStruck i.model).updTower t (fun x => { x with loading := false })).engineDone t.val).itemDiscard i .discardedFault
      else if !books.all bookOk then
        (((s.faultLog t.val Status.invalidField.code 0).updTower t (fun x => { x with loading := false })).engineDone t.val).itemDiscard i
          .invalidField
      else match i.model with
        | none => s.updTower t (fun x => { x with loading := false })
        | some m => s.updTower t (fun x => { x with
            loading := false, imageLoads := x.imageLoads + 1
            images := imagesWith x.images { model := m, bytes := (match lookupN s.mem.models m with | some x => x.wbBytes | none => 0)
                                            slots := books.map (fun b => (byteAt b 2).toNat) } 2097152 64
            cb := books.foldl (fun c b => insertN c (byteAt b 2).toNat (b.drop 16)) x.cb })) := by
  change execWeightImageLoadDone t ok books s = _
  rw [execWeightImageLoadDone, whenLive_of_live live, runs]
  exact congrArg Host.Outcome.next (if_neg (by simp [-Fin.getElem_fin, loading, unit]))

theorem exec_vpuLocal {v : Fin 16} {ok : Bool} {i : Item} {s : State} (live : s.live = true)
    (runs : (s.engN (8 + v.val)).running = some i) (loading : s.str.vpu[v].loading = true) (unit : s.unitLive (8 + v.val) = true) :
    exec (.vpuLocalLoadDone v ok) s = .next (
      if !ok then
        (((s.packageStruck i.model).updVpu v (fun x => { x with loading := false })).engineDone (8 + v.val)).itemDiscard i .discardedFault
      else s.updVpu v (fun x => { x with
        loading := false
        images := imagesWith x.images { model := i.model.getD 0, bytes := (match lookupN s.mem.models (i.model.getD 0) with
          | some x => x.vpuLocal | none => 0), slots := [] } 262144 64 })) := by
  change execVpuLocalLoadDone v ok s = _
  rw [execVpuLocalLoadDone, whenLive_of_live live, runs]
  exact congrArg Host.Outcome.next (if_neg (by simp [-Fin.getElem_fin, loading, unit]))

/-! ### Tile-runs (R430, R431, R437) -/

theorem exec_tileRun {t : Fin 8} {r : TileRun} {faults : List (TileSite × U32)} {i : Item} {s : State} (live : s.live = true)
    (runs : s.engRuns t.val = some i) (probe : i.kind ≠ .probe) (first : i.retry = none) :
    exec (.tileRunComplete t r faults) s = .next (
      if !r.ok then s.planError t.val i
      else if !r.follows i.prev then s
      else match if i.kind == ItemKind.cost then none else s.outside i (r.reads.map (fun a => (a, actBytes r.conv.fmt))) with
        | some a => s.boundRefused t.val i (a - fsBase)
        | none =>
          if r.reads.any (fun a => s.readUe a (actBytes r.conv.fmt)) then (s.engineDone t.val).itemDiscard i .discardedFault
          else
            let u := if s.kpr.inject == some (4, t.val) then s.updKpr (fun k => { k with inject := none }) else s
            if (u.tileOut t r faults).2 && !(s.kpr.inject == some (4, t.val)) then u.tileAccept t i r (u.tileOut t r faults).1
            else u.updRunning t.val (fun i => { i with retry := some r })) := by
  change execTileRunComplete t r faults s = _
  rw [execTileRunComplete, whenLive_of_live live, runs]
  exact congrArg Host.Outcome.next (if_neg (by simp [probe, first]))

/-- A tile-run that follows, inside its partition, over words that read right. -/
theorem exec_tileRun_reads {t : Fin 8} {r : TileRun} {faults : List (TileSite × U32)} {i : Item} {s : State} (live : s.live = true)
    (runs : s.engRuns t.val = some i) (probe : i.kind ≠ .probe) (first : i.retry = none) (ok : r.ok = true) (next : r.follows i.prev = true)
    (inside : i.kind = .cost ∨ s.outside i (r.reads.map (fun a => (a, actBytes r.conv.fmt))) = none) :
    exec (.tileRunComplete t r faults) s = .next (
      if r.reads.any (fun a => s.readUe a (actBytes r.conv.fmt)) then (s.engineDone t.val).itemDiscard i .discardedFault
      else
        let u := if s.kpr.inject == some (4, t.val) then s.updKpr (fun k => { k with inject := none }) else s
        if (u.tileOut t r faults).2 && !(s.kpr.inject == some (4, t.val)) then u.tileAccept t i r (u.tileOut t r faults).1
        else u.updRunning t.val (fun i => { i with retry := some r })) := by
  have none : (if i.kind == ItemKind.cost then Option.none else s.outside i (r.reads.map (fun a => (a, actBytes r.conv.fmt)))) = .none := by
    rcases inside with h | h
    · exact if_pos (beq_iff_eq.mpr h)
    · rw [h, ite_self]
  rw [exec_tileRun live runs probe first, none]
  exact congrArg Host.Outcome.next ((if_neg (by simp [ok])).trans (if_neg (by simp [next])))

theorem exec_tileRetry {t : Fin 8} {faults : List (TileSite × U32)} {i : Item} {r : TileRun} {s : State} (live : s.live = true)
    (runs : s.engRuns t.val = some i) (retry : i.retry = some r) :
    exec (.tileRunRetryDone t faults) s = .next (
      if (s.tileOut t r faults).2 then (s.updTower t (fun x => { x with abftRetry := satInc x.abftRetry })).tileAccept t i r (s.tileOut t r faults).1
      else
        let recent := s.clock :: s.str.tower[t].fails.filter (fun c => s.clock ≤ c + 1000000)
        let u := ((((s.updTower t (fun x => { x with abftFail := satInc x.abftFail, fails := recent })).faultLog t.val
          Status.discardedFault.code 0).engineDone t.val).itemDiscard i .discardedFault)
        if 3 ≤ recent.length then u.fence t.val 0 else u.wantProbe t.val .check .due) := by
  change execTileRunRetryDone t faults s = _
  rw [execTileRunRetryDone, whenLive_of_live live, runs]
  dsimp only
  rw [retry] <;> rfl

/-! ### Probes, reference vectors and the scrubber (R311, R427, R432, R578) -/

theorem exec_probeDue {t : Fin 8} {d : Nat} {s : State} (live : s.live = true) (due : (s.engN t.val).nextDue = some d) :
    exec (.probeDue t) s = .next (if s.clock < d || !s.unitLive t.val then s
      else (s.updEngN t.val (fun x => { x with nextDue := some (d + 10000) })).wantProbe t.val .due .check) := by
  change execProbeDue t s = _
  rw [execProbeDue, whenLive_of_live live, due]

/-- A probe's end: its result, and the injection that spoils it is spent. -/
theorem exec_probeComplete {t : Fin 8} {p : Vector Bool 4} {i : Item} {ok : Bool} {s u v : State} (live : s.live = true)
    (runs : s.engRuns t.val = some i) (probe : i.kind = .probe) (eqOk : ok = (p.toList.all id && s.kpr.inject != some (5, t.val)))
    (eqU : u = (({ s with kpr := { s.kpr with inject := if s.kpr.inject = some (5, t.val) then none else s.kpr.inject } } : State).updTower t
      (fun x => { x with probeRuns := x.probeRuns + 1, lastProbe := s.devTime, probeFail := if ok then x.probeFail else satInc x.probeFail })))
    (eqV : v = (if i.origin = .probe .diag then u.finish (.probe t.val) .ok (leBytes 1 (if ok then 0 else 1)) else u)) :
    exec (.probeComplete t p) s = .next (if ok then v.engineDone t.val else (v.engineDone t.val).fence t.val 0) := by
  change execProbeComplete t p s = _
  rw [execProbeComplete, whenLive_of_live live, runs]
  refine congrArg Host.Outcome.next ((if_neg (by simp [probe])).trans ?_)
  subst eqV eqU eqOk
  by_cases inj : s.kpr.inject = some (5, t.val)
  · simp only [inj, beq_self_eq_true, bne_self_eq_false, Bool.not_true, Bool.and_false, if_true, beq_iff_eq] <;> rfl
  · have off : (s.kpr.inject == some (5, t.val)) = false := beq_eq_false_iff_ne.mpr inj
    simp only [bne, off, inj, Bool.not_false, Bool.and_true, Bool.false_eq_true, if_false, beq_iff_eq] <;> rfl

theorem exec_vectorDue {e : Fin 34} {d : Nat} {s : State} (live : s.live = true) (low : 8 ≤ e.val) (high : e.val < 32)
    (due : (s.engN e.val).nextDue = some d) :
    exec (.referenceVectorDue e) s = .next (if s.clock < d || !s.unitLive (unitOfEng e.val) then s
      else
        let u := ({ s with sched := { s.sched with nextId := s.sched.nextId + 1 } } : State).updEngN e.val (fun x => { x with nextDue := some (d + 20000) })
        u.carry (vectorItem e.val s.sched.nextId) (u.place (vectorItem e.val s.sched.nextId))) := by
  change execReferenceVectorDue e s = _
  rw [execReferenceVectorDue, whenLive_of_live live]
  refine congrArg Host.Outcome.next ((if_neg (by omega)).trans ((if_neg (by omega)).trans ((if_neg (by omega)).trans ?_)))
  rw [due]

theorem exec_runLimit {e : Fin 32} {i : Item} {s : State} (live : s.live = true) (core : e.val < 24)
    (runs : (s.engN e.val).running = some i) (probe : i.kind ≠ .probe) (long : 400000 * 15 ≤ i.ran) :
    exec (.runLimitExceeded e) s = .next (
      let s := s.faultLog (unitOfEng e.val) Status.discardedFault.code 0
      let s := if h : e.val < 8 then s.updTower ⟨e.val, h⟩ (fun x => { x with loading := false }) else s
      let s := if h : 8 ≤ e.val ∧ e.val < 24 then s.updVpu ⟨e.val - 8, by omega⟩ (fun x => { x with loading := false }) else s
      (s.engineDone e.val).itemDiscard i .discardedFault) := by
  change execRunLimitExceeded e s = _
  rw [execRunLimitExceeded, whenLive_of_live live, runs]
  refine congrArg Host.Outcome.next (if_neg ?_)
  simp only [Bool.or_eq_true, decide_eq_true_eq, beq_iff_eq, not_or]
  exact ⟨⟨Nat.not_le.mpr core, probe⟩, Nat.not_lt.mpr long⟩

/-- Settles O52: ends by `exec_itemComplete`, images by `imagesWith_spec`, tile-runs by `exec_tileRun` and `exec_tileRetry`. -/
theorem towerItems : Obligations.TowerItems := by
  refine ⟨fun e i s q live core runs => ⟨fun other => ?spared, fun probe vector free => ⟨fun ws c es eq => ?ok, fun eq => ?poisoned, fun eq => ?plan,
      fun off eq => ?bound, fun t m same eq => ?wbUe, fun v u same eq eqU => ?vpuUe⟩⟩,
    fun e q s other => ?noItem,
    fun s e c i ws es => ⟨fun bad => if_pos (by simp [bad]), fun a ok out => ?outside, fun r ok inside eqR => ⟨fun none => ?ends, fun st failed => ?fails⟩⟩,
    fun s e off i => rfl,
    fun t books i s live runs loading unit => ⟨fun m x good model found => ?image, fun bad => ?badBook, ?imageUe⟩,
    fun new held b n => imagesWith_spec new held b n,
    fun v i s live runs loading unit => ⟨fun m x model found => ?localImage, ?localUe⟩,
    fun t r faults i s live runs => ⟨fun other => ?noRun, fun probe first => ⟨fun bad => ?runPlan, fun ok apart => ?runOff, fun ok next =>
      ⟨fun a kind out => ?runBound, fun inside => ⟨fun ue => ?runUe, fun clean => ⟨fun o quiet agree => ?accepted, fun o quiet differ => ?retried, fun inj => ?injected⟩⟩⟩⟩⟩,
    fun t faults i r o s u recent live runs retry => ⟨fun agree => ?retryOk, fun differ eqR eqU => ⟨fun third => ?third, fun fewer => ?fewer⟩⟩,
    fun e i s live core runs => ⟨fun spared => ?inLimit, fun v same probe over_ => ?vpuLimit, fun t same probe over_ => ?towerLimit⟩,
    fun t d s u live due => ⟨fun not => ?notDue, fun past unit eqU => ?probeDue⟩, fun t a b s => rfl,
    fun t p i ok s u v live runs probe eqOk eqU eqV => exec_probeComplete live runs probe eqOk eqU eqV,
    fun s d live => ⟨fun due unit => ?ssuDue, fun due unit => ?trkDue⟩,
    fun e d s u live low high due => ⟨fun not => ?vectorNot, fun past unit eqU => ?vectorDue⟩,
    fun s pass live => ⟨fun u vec eqU => ?ssuVec, fun u vec eqU => ?trkVec, fun none => ?ssuNone, fun none => ?trkNone⟩,
    fun e i pass s live high runs => ⟨fun vector => ?vector, fun other => ?notVector⟩,
    fun s u live quiet eqU => ⟨?scrub, ?scrubCe, ?scrubUe⟩⟩
  case spared =>
    change execEngineItemComplete e q s = _
    rw [execEngineItemComplete, whenLive_of_live live, dif_neg (by omega), runs]
    exact congrArg Host.Outcome.next (if_pos (by rcases other with h | h | h <;> simp [h]))
  case ok => rw [exec_itemComplete live core runs probe vector free, eq]
  case poisoned => rw [exec_itemComplete live core runs probe vector free, eq]
  case plan => rw [exec_itemComplete live core runs probe vector free, eq]
  case bound => rw [exec_itemComplete live core runs probe vector free, eq]
  case wbUe =>
    have low : e.val < 8 := same ▸ t.isLt
    rw [exec_itemComplete live core runs probe vector free, eq]
    refine congrArg Host.Outcome.next ((dif_pos low).trans ?_)
    rw [show (⟨e.val, low⟩ : Fin 8) = t from Fin.ext same.symm]
  case vpuUe =>
    rw [exec_itemComplete live core runs probe vector free, eq, eqU]
    refine congrArg Host.Outcome.next ((dif_pos (by omega)).trans ?_)
    dsimp only
    have this : (⟨e.val - 8, by omega⟩ : Fin 16) = v := Fin.ext (by simp [same])
    simp only [this]
  case noItem =>
    change execEngineItemComplete e q s = _
    refine whenLive_of_id ?_
    rcases other with h | h
    · exact dif_pos h
    · rw [h, dite_eq_ite, ite_self]
  case outside => rw [itemEnds_of_ok ok, out]
  case ends =>
    rw [itemEnds_of_ok ok, inside]
    dsimp only
    rw [← eqR, none]
  case fails =>
    rw [itemEnds_of_ok ok, inside]
    dsimp only
    rw [← eqR, failed]
  case image =>
    rw [exec_weightImage live runs loading unit, model]
    refine congrArg Host.Outcome.next ((if_neg (by simp)).trans ((if_neg (by rw [good]; simp)).trans ?_))
    dsimp only
    rw [found]
  case badBook =>
    rw [exec_weightImage live runs loading unit]
    exact congrArg Host.Outcome.next ((if_neg (by simp)).trans (if_pos (by rw [bad]; rfl)))
  case imageUe => rw [exec_weightImage live runs loading unit] <;> rfl
  case localImage =>
    rw [exec_vpuLocal live runs loading unit, model]
    refine congrArg Host.Outcome.next ((if_neg (by simp)).trans ?_)
    rw [Option.getD_some, found]
  case localUe => rw [exec_vpuLocal live runs loading unit] <;> rfl
  case noRun =>
    change execTileRunComplete t r faults s = _
    rw [execTileRunComplete, whenLive_of_live live, runs]
    exact congrArg Host.Outcome.next (if_pos (by rcases other with h | h <;> simp [h, Option.isSome_iff_ne_none]))
  case runPlan =>
    rw [exec_tileRun live runs probe first]
    exact congrArg Host.Outcome.next (if_pos (by simp [bad]))
  case runOff =>
    rw [exec_tileRun live runs probe first]
    exact congrArg Host.Outcome.next ((if_neg (by simp [ok])).trans (if_pos (by simp [apart])))
  case runBound =>
    rw [exec_tileRun live runs probe first, if_neg (show ¬ (i.kind == ItemKind.cost) = true by simp [kind]), out]
    exact congrArg Host.Outcome.next ((if_neg (by simp [ok])).trans (if_neg (by simp [next])))
  case runUe =>
    rw [exec_tileRun_reads live runs probe first ok next inside]
    exact congrArg Host.Outcome.next (if_pos (List.any_eq_true.mpr ue))
  case accepted =>
    rw [exec_tileRun_reads live runs probe first ok next inside]
    have off : (s.kpr.inject == some (4, t.val)) = false := beq_eq_false_iff_ne.mpr quiet
    refine congrArg Host.Outcome.next ((if_neg (by simpa using clean)).trans ?_)
    dsimp only
    rw [off, if_neg Bool.false_ne_true, agree] <;> rfl
  case retried =>
    rw [exec_tileRun_reads live runs probe first ok next inside]
    have off : (s.kpr.inject == some (4, t.val)) = false := beq_eq_false_iff_ne.mpr quiet
    refine congrArg Host.Outcome.next ((if_neg (by simpa using clean)).trans ?_)
    dsimp only
    rw [off, if_neg Bool.false_ne_true, differ] <;> rfl
  case injected =>
    rw [exec_tileRun_reads live runs probe first ok next inside]
    have on : (s.kpr.inject == some (4, t.val)) = true := beq_iff_eq.mpr inj
    refine congrArg Host.Outcome.next ((if_neg (by simpa using clean)).trans ?_)
    dsimp only
    rw [on, if_pos rfl, if_neg (by simp)] <;> rfl
  case retryOk => rw [exec_tileRetry live runs retry, agree] <;> rfl
  case third =>
    subst eqR eqU
    rw [exec_tileRetry live runs retry, differ]
    exact congrArg Host.Outcome.next ((if_neg Bool.false_ne_true).trans (if_pos third))
  case fewer =>
    subst eqR eqU
    rw [exec_tileRetry live runs retry, differ]
    exact congrArg Host.Outcome.next ((if_neg Bool.false_ne_true).trans (if_neg (Nat.not_le.mpr fewer)))
  case inLimit =>
    change execRunLimitExceeded e s = _
    rw [execRunLimitExceeded, whenLive_of_live live, runs]
    refine congrArg Host.Outcome.next (if_pos ?_)
    rcases spared with probe | short
    · simp [probe]
    · rw [Bool.or_eq_true]
      exact .inr (decide_eq_true short)
  case vpuLimit =>
    rw [exec_runLimit live core runs probe over_]
    refine congrArg Host.Outcome.next ?_
    dsimp only
    rw [dif_neg (show ¬ e.val < 8 by omega), dif_pos (show 8 ≤ e.val ∧ e.val < 24 by omega), show (⟨e.val - 8, by omega⟩ : Fin 16) = v from Fin.ext (by simp [← same])]
  case towerLimit =>
    rw [exec_runLimit live core runs probe over_]
    refine congrArg Host.Outcome.next ?_
    dsimp only
    rw [dif_neg (show ¬ (8 ≤ e.val ∧ e.val < 24) by omega), dif_pos (show e.val < 8 by omega), show (⟨e.val, by omega⟩ : Fin 8) = t from Fin.ext same.symm]
  case notDue =>
    rw [exec_probeDue live due]
    exact congrArg Host.Outcome.next (if_pos (by rcases not with h | h <;> simp [h]))
  case probeDue =>
    rw [exec_probeDue live due, eqU]
    exact congrArg Host.Outcome.next (if_neg (by simp [past, unit]))
  case ssuDue =>
    change execReferenceVectorDue 32 s = _
    rw [execReferenceVectorDue, whenLive_of_live live]
    refine congrArg Host.Outcome.next ((if_pos rfl).trans ?_)
    simp only [due, unit, Bool.not_true, Bool.or_false, decide_eq_true_eq]
  case trkDue =>
    change execReferenceVectorDue 33 s = _
    rw [execReferenceVectorDue, whenLive_of_live live]
    refine congrArg Host.Outcome.next ((if_neg (by decide)).trans ((if_pos rfl).trans ?_))
    simp only [due, unit, Bool.not_true, Bool.or_false, decide_eq_true_eq]
  case vectorNot =>
    rw [exec_vectorDue live low high due]
    exact congrArg Host.Outcome.next (if_pos (by rcases not with h | h <;> simp [h]))
  case vectorDue =>
    rw [exec_vectorDue live low high due, eqU]
    exact congrArg Host.Outcome.next (if_neg (by simp [past, unit]))
  case ssuVec =>
    subst eqU
    change execReferenceVectorComplete 32 pass s = _
    rw [execReferenceVectorComplete, whenLive_of_live live]
    exact congrArg Host.Outcome.next ((if_pos rfl).trans (if_neg (by simp [vec])))
  case trkVec =>
    subst eqU
    change execReferenceVectorComplete 33 pass s = _
    rw [execReferenceVectorComplete, whenLive_of_live live]
    exact congrArg Host.Outcome.next ((if_neg (by decide)).trans ((if_pos rfl).trans (if_neg (by simp [vec]))))
  case ssuNone =>
    change execReferenceVectorComplete 32 pass s = _
    exact whenLive_of_id ((if_pos rfl).trans (if_pos (by simp [none])))
  case trkNone =>
    change execReferenceVectorComplete 33 pass s = _
    exact whenLive_of_id ((if_neg (by decide)).trans ((if_pos rfl).trans (if_pos (by simp [none]))))
  case vector =>
    change execReferenceVectorComplete e pass s = _
    rw [execReferenceVectorComplete, whenLive_of_live live]
    refine congrArg Host.Outcome.next ((if_neg (by omega)).trans ((if_neg (by omega)).trans ?_))
    rw [runs]
    exact if_neg (by simp [vector])
  case notVector =>
    change execReferenceVectorComplete e pass s = _
    rw [execReferenceVectorComplete, whenLive_of_live live]
    refine congrArg Host.Outcome.next ((if_neg (by omega)).trans ((if_neg (by omega)).trans ?_))
    rw [runs]
    exact if_pos (by simp [other])
  case scrub =>
    subst eqU
    change execFsScrubAccess none s = _
    rw [execFsScrubAccess, whenLive_of_live live, quiet] <;> rfl
  case scrubCe =>
    subst eqU
    change execFsScrubAccess (some .correctable) s = _
    rw [execFsScrubAccess, whenLive_of_live live, quiet] <;> rfl
  case scrubUe =>
    subst eqU
    change execFsScrubAccess (some .uncorrectable) s = _
    rw [execFsScrubAccess, whenLive_of_live live, quiet] <;> rfl

end Sys2Proof.Machine

/-!
Proof of `VideoAndPreprocessing` (12; 13, R403 to R408).
-/
namespace Sys2Proof.Machine
open Sys2Proof
set_option Elab.async false

/-! ### Decoding (R360 to R383) -/

/-- A picture's decode ends on a VDE that runs its frame's item. -/
theorem exec_decode {v : Fin 4} {pic : Picture} {i : Item} {n : Nat} {q : U32} {s : State} (live : s.live = true)
    (runs : s.engRuns (28 + v.val) = some i) (kind : i.kind = .decode) (origin : i.origin = .frame n q) :
    exec (.decodeComplete v pic) s = .next (match (s.slotN n).frame? q with
        | some f =>
          if f.busy && f.stage = 1 then
            match (s.slotN n).ana.bind AnaCfg.framePool with
            | some p => match f.waitPic with
              | some w => s.deliver v n q p w.1 w.2
              | none => s.decodeUnit v n f p pic
            | none => s
          else s.engineDone (28 + v.val)
        | none => s.engineDone (28 + v.val)) := by
  change execDecodeComplete v pic s = _
  rw [execDecodeComplete, whenLive_of_live live]
  dsimp only
  rw [runs]
  dsimp only
  rw [kind, origin] <;> rfl

theorem decodeUnit_damaged {s : State} {v : Fin 4} {n p : Nat} {f : Frame} {pic : Picture} (damaged : f.damaged = true) :
    s.decodeUnit v n f p pic = (if pic.firstSlice && !pic.ref then s else s.enterResync n).decodeOut v.val n f.seq :=
  if_pos damaged

/-- A whole access unit of a synchronised stream. -/
theorem decodeUnit_whole {s : State} {v : Fin 4} {n p : Nat} {f : Frame} {pic : Picture} (whole : f.damaged = false) (fresh : f.reissued = false)
    (cont : f.discont = false) (sync : (s.slotN n).dec.sync = true) :
    s.decodeUnit v n f p pic = if !decSupports (s.slotN n).codec pic.decl pic.fmt then
        ((((s.updVde v (fun x => { x with unsupp := satInc x.unsupp })).enterResync n).updDec n (fun d => { d with unsupp := true })).decodeGap
          v.val n f.seq)
      else if pic.refUe then ((s.enterResync n).discard n f.seq .fault).decodeOut v.val n f.seq
      else if picError (s.slotN n).dec pic then s.bitError v n f.seq
      else s.decodeGood v n f.seq p pic := by
  rw [State.decodeUnit]
  dsimp only
  rw [if_neg (by simp [whole]), if_neg (by simp [fresh])]
  simp only [cont, Bool.false_eq_true, if_false, sync, Bool.true_or, Bool.not_true]

/-! ### Encoding (R374 to R384) -/

theorem sendFlow_str (s : State) (flow prio : Nat) (payload : List Byte) : (s.sendFlow flow prio payload).str = s.str := by
  rw [State.sendFlow]
  split
  · rfl
  split
  · dsimp only
    split
    · rfl
    split <;> rfl
  · rfl

theorem rtpPayloads_one {c : Codec} {lim : Nat} {nal : List Byte} (plain : isParam c nal = false) (fits : nal.length ≤ lim) :
    rtpPayloads c lim [nal] = [nal] := by
  have whole : fragment c lim nal = [nal] := if_pos fits
  simp [rtpPayloads, plain, whole]

theorem exec_veeSlice {v : Fin 4} {nals : List (List Byte)} {cap : U64} {cfg : ViewCfg} {rest : List (U64 × ViewCfg)} {last : Bool} {s : State}
    (live : s.live = true) (caps : s.str.view[v].caps = (cap, cfg) :: rest) {ps : List (List Byte)}
    (eq : ps = rtpPayloads cfg.codec ((s.flowFrame cfg.flow).1 - (if (s.flowFrame cfg.flow).2 then 62 else 82)) nals) :
    exec (.veeSliceSend v nals last) s = .next (
      let u := ps.zipIdx.foldl (fun t x =>
        t.sendFlow cfg.flow 3 ([0x80, BitVec.ofNat 8 ((match cfg.codec with | .h264 => 96 | .h265 => 97)
            + (if last && x.2 + 1 == ps.length then 128 else 0))]
          ++ beBytes 2 ((s.str.view[v].rtpSeq.toNat + x.2) % 65536) ++ beBytes 4 (cap.toNat * 9 / 100000)
          ++ beBytes 4 (s.sup.fuses.serial.toNat / 256 * 256 % 2 ^ 32 + v.val) ++ x.1)) s
      { u with str := { u.str with view := updAt u.str.view v (fun w => { w with
        rtpSeq := w.rtpSeq + BitVec.ofNat 16 ps.length, bytes := w.bytes + BitVec.ofNat 32 (ps.map List.length).sum
        caps := if last then rest else w.caps }) } }) := by
  subst eq
  change execVeeSliceSend v nals last s = _
  rw [execVeeSliceSend, whenLive_of_live live]
  dsimp only
  rw [caps] <;> rfl

theorem exec_veeEncode {v : Fin 4} {q : U32} {err : Option VeeErr} {s : State} (live : s.live = true) (enc : s.str.encoding = some (v.val, q)) :
    exec (.veeEncodeComplete err) s = .next (({ s with str := { s.str with encoding := none, view := updAt s.str.view v (fun w =>
      if err = some .frame then { w with skip := satInc w.skip, caps := w.caps.dropLast }
      else if s.frameView v.val s.str.view[v].slot q != s.str.view[v].cfg then { w with pics := w.pics + 1 }
      else { w with pics := w.pics + 1, idr := err = some .reference
                    sweep := if w.idr then 0 else (w.sweep + 1) % max 1 (sweepLen w) }) } } : State).viewDone v.val q).veeNext := by
  have view : s.viewN v.val = s.str.view[v] := by simp [State.viewN]
  change execVeeEncodeComplete err s = _
  rw [execVeeEncodeComplete, whenLive_of_live live, enc]
  dsimp only
  rw [dif_pos v.isLt, ← view] <;> rfl

/-! ### Pre-processing (R403 to R408) -/

theorem prepFrame_eq {s u r : State} {st : Option Status} {p : Fin 2} {i : Item} {n : Nat} {f : Frame} {ue : Bool} {a : AnaCfg} {fm : Fmt} {h : U32}
    {x : Inst} {m : Model} {g : Nat × Nat × Nat × Nat} (ana : (s.slotN n).ana = some a) (fmt : f.fmt = some fm)
    (image : f.image (s.slotN n).decoded = some h) (inst : lookupN s.mem.insts a.det = some x) (model : s.instModel a.det = some m)
    (eqG : g = prepGeom fm m.inW m.inH) (eqU : u = (if ue then s.strike (s.bufAddr h) f.imageBytes else s))
    (read : u.bufGet (0x1D + p.val) h f.imageBytes = (r, st)) :
    s.prepFrame p i n f ue = if st.isSome then (r.engineDone (24 + p.val)).itemDiscard i (st.getD .discardedFault)
      else if !scanRatioOk fm.w g.2.2.1 || !scanRatioOk fm.h g.2.2.2 then r.ratioReject p (24 + p.val) i
      else
        ((((((r.memWrite x.base (prepTensor m (r.reader (s.bufAddr h) f.imageBytes) fm f.pitch g)).updFrame n f.seq
          (fun f => { f with geom := some g })).updPpe p (fun x => { x with prep := x.prep + 1 })).itemPip i).passStage n f.seq).advance
          n).engineDone (24 + p.val) := by
  subst eqG
  rw [State.prepFrame]
  dsimp only
  rw [ana, fmt, image]
  dsimp only
  rw [inst, model]
  dsimp only
  rw [← eqU, read]

theorem cropFrame_eq {s u r : State} {st : Option Status} {p : Fin 2} {i : Item} {n k pool : Nat} {f : Frame} {ue : Bool} {a : AnaCfg} {fm : Fmt}
    {h : U32} {m : Model} {boxes : List Surv} (ana : (s.slotN n).ana = some a) (fmt : f.fmt = some fm)
    (image : f.image (s.slotN n).decoded = some h) (emb : a.emb = some k) (model : s.instModel k = some m) (crops : a.cropPool = some pool)
    (eqB : boxes = (f.crops.filterMap (fun k => f.surv[k]?)).drop f.crop.length)
    (eqU : u = (if ue then s.strike (s.bufAddr h) f.imageBytes else s)) (read : u.bufGet (0x1D + p.val) h f.imageBytes = (r, st)) :
    s.cropFrame p i n f ue = if st.isSome then (r.engineDone (26 + p.val)).itemDiscard i (st.getD .discardedFault)
      else match r.cropSome p n f fm m pool (r.reader (s.bufAddr h) f.imageBytes) boxes with
        | (s, .rebuild) => s
        | (s, .ratio) => s.ratioReject p (26 + p.val) i
        | (s, .refused st) => (s.engineDone (26 + p.val)).itemDiscard i st
        | (s, .empty) => (((s.discard n f.seq .noBuffer).advance n).engineDone (26 + p.val))
        | (s, .done) => ((((s.itemPip i).passStage n f.seq).picBack n f.seq).advance n).engineDone (26 + p.val) := by
  subst eqB
  rw [State.cropFrame]
  dsimp only
  rw [ana, fmt, image]
  dsimp only
  rw [emb, Option.bind_some, model, crops]
  dsimp only
  rw [← eqU, read] <;> rfl

/-- Settles O53: decoding by `exec_decode` and `decodeUnit_whole`, encoding by `exec_veeSlice` and `exec_veeEncode`, pre-processing by
`prepFrame_eq` and `cropFrame_eq`. -/
theorem videoAndPreprocessing : Obligations.VideoAndPreprocessing := by
  refine ⟨⟨fun v pic i n q s live runs kind origin => ⟨fun gone => ?frameGone, fun f found passed => ?framePassed, fun f p found busy stage pool =>
      ⟨fun w waits => ?delivers, fun none => ?decodes⟩⟩,
    fun s v n p f pic => ⟨fun damaged first ref => ?damaged, fun damaged other => ?resync, fun whole fresh cont sync =>
      ⟨fun unsupp => ?unsupported, fun supp => ⟨fun ue => ?refUe, fun clean bad => ?bitError, fun clean good => ?good⟩⟩⟩,
    fun s u w v n p q pic ref eqU eqW sync => ?unreferenced, fun s u v n p q h g f bytes grant put => ?granted, fun s u v n p q g f bytes empty => ?noBuffer,
    fun v i s live runs => ⟨fun long => ?decodeStop, fun short => ?decodeOn⟩,
    fun v nals cap cfg rest last w s live eqW caps => ?slice, fun v cap cfg rest nal last w u s live eqW caps plain fits eqU => ?oneSlice,
    fun v nals last s live none => ?noCaps, fun v q err s u g live enc eqU => ⟨fun frame eqG => ?encSkip, fun other same eqG => ?encoded, fun other old eqG => ?encodedOld⟩,
    fun err s live none => ?notEncoding⟩,
    ⟨fun p ue i n f s live => ⟨fun runs kind frame => ⟨fun stage => ?prep, fun stage => ?prepLate⟩, fun runs kind none => ?prepNone,
      fun runs kind frame => ⟨fun stage => ?crop, fun stage => ?cropLate⟩, fun runs kind none => ?cropNone,
      fun region runs => ⟨fun long => ?ppeStop, fun short => ?ppeOn⟩⟩,
    fun s u r st p i n f ue a fm h x m g ana fmt image inst model eqG eqU read => ⟨fun why failed => ?prepFails, fun ok ratio => ?prepRatio,
      fun w ok wOk hOk eqW => ?prepDone⟩,
    fun s u r st p i n k pool f ue a fm h m boxes ana fmt image emb model crops eqB eqU read => ⟨fun why failed => ?cropFails,
      fun w ok done => ?cropDone, fun w ok empty => ?cropEmpty, fun w ok ratio => ?cropRatio⟩⟩⟩
  case frameGone => rw [exec_decode live runs kind origin, gone]
  case framePassed =>
    rw [exec_decode live runs kind origin, found]
    exact congrArg Host.Outcome.next (if_neg (by rcases passed with h | h <;> simp [h]))
  case delivers =>
    rw [exec_decode live runs kind origin, found]
    refine congrArg Host.Outcome.next ((if_pos (by simp [busy, stage])).trans ?_)
    rw [pool]
    dsimp only
    rw [waits]
  case decodes =>
    rw [exec_decode live runs kind origin, found]
    refine congrArg Host.Outcome.next ((if_pos (by simp [busy, stage])).trans ?_)
    rw [pool]
    dsimp only
    rw [none]
  case damaged => rw [decodeUnit_damaged damaged, first, ref] <;> rfl
  case resync =>
    rw [decodeUnit_damaged damaged, if_neg (by rcases other with h | h <;> simp [h])]
  case unsupported => rw [decodeUnit_whole whole fresh cont sync, if_pos (by simp [unsupp])]
  case refUe => rw [decodeUnit_whole whole fresh cont sync, if_neg (by simp [supp]), if_pos ue]
  case bitError => rw [decodeUnit_whole whole fresh cont sync, if_neg (by simp [supp]), if_neg (by simp [clean]), if_pos bad]
  case good => rw [decodeUnit_whole whole fresh cont sync, if_neg (by simp [supp]), if_neg (by simp [clean]), if_neg (by simp [good])]
  case unreferenced =>
    subst eqU
    rw [State.decodeGood, ref]
    simp only [Bool.not_false, if_true]
    rw [← eqW]
    exact if_pos (by rw [sync]; rfl)
  case granted =>
    rw [State.deliver, grant]
    dsimp only
    rw [put] <;> rfl
  case noBuffer => rw [State.deliver, empty]
  case decodeStop =>
    change execDecodeStopTimeout v s = _
    rw [execDecodeStopTimeout, whenLive_of_live live, runs]
    exact congrArg Host.Outcome.next (if_neg (by simp [long]))
  case decodeOn =>
    change execDecodeStopTimeout v s = _
    rw [execDecodeStopTimeout, whenLive_of_live live, runs]
    exact congrArg Host.Outcome.next (if_pos (by simp [short]))
  case slice =>
    subst eqW
    refine ⟨_, exec_veeSlice live caps rfl, fun ps eq => ?_⟩
    subst eq
    dsimp only
    rw [updAt_get_self, foldl_keeps State.str (fun t x => sendFlow_str t _ _ _)]
  case oneSlice =>
    subst eqW eqU
    rw [exec_veeSlice live caps (rtpPayloads_one plain fits).symm]
    have seq : (s.str.view[v].rtpSeq.toNat + 0) % 65536 = s.str.view[v].rtpSeq.toNat := Nat.mod_eq_of_lt (BitVec.isLt _)
    have mark : (last && 0 + 1 == [nal].length) = last := Bool.and_true _
    dsimp only [List.zipIdx_cons, List.zipIdx_nil, List.foldl_cons, List.foldl_nil]
    rw [mark, seq] <;> rfl
  case noCaps =>
    change execVeeSliceSend v nals last s = _
    refine whenLive_of_id ?_
    dsimp only
    rw [none]
  case encSkip =>
    subst eqU eqG frame
    exact exec_veeEncode live enc
  case encoded =>
    subst eqU eqG
    rw [exec_veeEncode live enc]
    simp only [other, if_false, same, bne_self_eq_false, Bool.false_eq_true]
  case encodedOld =>
    subst eqU eqG
    rw [exec_veeEncode live enc]
    simp only [other, if_false, bne_iff_ne.mpr old, if_true]
  case notEncoding =>
    change execVeeEncodeComplete err s = _
    refine whenLive_of_id ?_
    rw [none]
  case prep =>
    change execPrepComplete p ue s = _
    rw [execPrepComplete, whenLive_of_live live, runs]
    refine congrArg Host.Outcome.next ((if_neg (by simp [kind])).trans ?_)
    rw [frame]
    exact if_pos stage
  case prepLate =>
    change execPrepComplete p ue s = _
    rw [execPrepComplete, whenLive_of_live live, runs]
    refine congrArg Host.Outcome.next ((if_neg (by simp [kind])).trans ?_)
    rw [frame]
    exact if_neg stage
  case prepNone =>
    change execPrepComplete p ue s = _
    rw [execPrepComplete, whenLive_of_live live, runs]
    refine congrArg Host.Outcome.next ((if_neg (by simp [kind])).trans ?_)
    rw [none]
  case crop =>
    change execCropComplete p ue s = _
    rw [execCropComplete, whenLive_of_live live, runs]
    refine congrArg Host.Outcome.next ((if_neg (by simp [kind])).trans ?_)
    rw [frame]
    exact if_pos stage
  case cropLate =>
    change execCropComplete p ue s = _
    rw [execCropComplete, whenLive_of_live live, runs]
    refine congrArg Host.Outcome.next ((if_neg (by simp [kind])).trans ?_)
    rw [frame]
    exact if_neg stage
  case cropNone =>
    change execCropComplete p ue s = _
    rw [execCropComplete, whenLive_of_live live, runs]
    refine congrArg Host.Outcome.next ((if_neg (by simp [kind])).trans ?_)
    rw [none]
  case ppeStop =>
    change execPpeStopTimeout p region s = _
    rw [execPpeStopTimeout, whenLive_of_live live, runs]
    exact congrArg Host.Outcome.next (if_neg (by simp [long]))
  case ppeOn =>
    change execPpeStopTimeout p region s = _
    rw [execPpeStopTimeout, whenLive_of_live live, runs]
    exact congrArg Host.Outcome.next (if_pos (by simp [short]))
  case prepFails => rw [prepFrame_eq ana fmt image inst model eqG eqU read, failed] <;> rfl
  case prepRatio =>
    rw [prepFrame_eq ana fmt image inst model eqG eqU read, ok]
    exact (if_neg (by simp)).trans (if_pos (by rcases ratio with h | h <;> simp [h]))
  case prepDone =>
    subst eqW
    rw [prepFrame_eq ana fmt image inst model eqG eqU read, ok]
    exact (if_neg (by simp)).trans (if_neg (by simp [wOk, hOk]))
  case cropFails => rw [cropFrame_eq ana fmt image emb model crops eqB eqU read, failed] <;> rfl
  case cropDone => rw [cropFrame_eq ana fmt image emb model crops eqB eqU read, ok, done] <;> rfl
  case cropEmpty => rw [cropFrame_eq ana fmt image emb model crops eqB eqU read, ok, empty] <;> rfl
  case cropRatio => rw [cropFrame_eq ana fmt image emb model crops eqB eqU read, ok, ratio] <;> rfl

end Sys2Proof.Machine

/-!
Proof of `Checkpoints` (06, R193 to R195; 18, R528 to R540).
-/
namespace Sys2Proof.Machine
open Sys2Proof
set_option Elab.async false

/-! ### Reserved bits inside a field (R126 step 2) -/

/-- Of a command that passes the common checks no payload byte has a reserved bit set. -/
theorem reserved_of_takes {k : Command} {c : HostCmd} {s : State} {b : Byte} {i : Nat} (takes : k.takes c s = true) (inline : k.spec.desc = false)
    (byte : c.payload[i]? = some b) : b.toNat &&& (255 - k.spec.byteMask false c.len.toNat (i + 8)) = 0 := by
  simp only [Command.takes, Command.passes, Bool.and_eq_true, beq_iff_eq] at takes
  obtain ⟨⟨⟨⟨-, clear⟩, noDesc⟩, -⟩, -⟩ := takes
  by_contra set_
  have dirty : c.payload.zipIdx.any (fun b => b.1.toNat &&& (255 - k.spec.byteMask false c.len.toNat (b.2 + 8)) != 0) = true :=
    List.any_eq_true.mpr ⟨(b, i), List.mk_mem_zipIdx_iff_getElem?.mpr byte, bne_iff_ne.mpr set_⟩
  rw [CmdSpec.headerError] at clear
  simp [noDesc, inline, dirty] at clear

theorem leAt_one (bs : List Byte) (i : Nat) : leAt bs i 1 = (bs[i]?.map BitVec.toNat).getD 0 := by
  rw [leAt]
  cases byte : bs[i]? with
  | none => simp [List.drop_eq_nil_of_le (List.getElem?_eq_none_iff.mp byte), leNat]
  | some b => simp [List.take_one, byte, leNat]

/-- SHARDS of CKPT_CONFIG has its two lowest bits only. -/
theorem shards_lt_of_takes {c : HostCmd} {s : State} (takes : cmdCkptConfig.takes c s = true) : c.f 11 1 < 4 := by
  rw [HostCmd.f, leAt_one]
  cases byte : c.payload[3]? with
  | none => exact Nat.zero_lt_succ 3
  | some b =>
    have clear := reserved_of_takes takes rfl byte
    have low : ∀ b : Byte, (b.toNat &&& 255 = 0 → b.toNat < 4) ∧ (b.toNat &&& 252 = 0 → b.toNat < 4) := by decide
    have mask : cmdCkptConfig.spec.byteMask false c.len.toNat 11 = 0 ∨ cmdCkptConfig.spec.byteMask false c.len.toNat 11 = 3 := by
      rw [CmdSpec.byteMask]
      split
      · exact .inl rfl
      · exact .inr rfl
    rcases mask with m | m <;> rw [m] at clear
    · exact (low b).1 clear
    · exact (low b).2 clear

/-- Of the four values of SHARDS only 2 asks for GALLERY without TRACK. -/
theorem shards_alone_iff {m : Nat} (small : m < 4) : (bitOf m 1 && !bitOf m 0) = true ↔ m = 2 := by
  interval_cases m <;> decide

/-! ### Checkpoints (R193 to R195, R528 to R540) -/

/-- What CKPT_WINDOW makes of its descriptor. -/
theorem ckptWindow_own (c : HostCmd) (bs : List Byte) (s : State) {b : List Byte} {key : Nat} (eqB : b = padTo (c.f 16 4) bs)
    (eqK : key = 16 * c.ctxN + leAt b 0 1) : cmdCkptWindow.own (c.withDesc bs) s =
      if windowReserved b then .st s .reservedNonzero
      else if !s.ctxLive c.ctxN then .st s .notFound
      else match windowOf b (c.f 16 4) with
        | none => .st s .invalidField
        | some w =>
          if s.ckpt.run.any (fun r => 16 * r.ctx + r.win == key) || s.restores key then .st s .busy
          else match w with
            | some w => .ok { s with ckpt := { s.ckpt with win := insertN s.ckpt.win key w } } []
            | none =>
              if (lookupN s.ckpt.win key).isNone then .st s .notFound
              else .ok { s with ckpt := { s.ckpt with win := eraseN s.ckpt.win key } } [] := by
  subst eqB eqK
  rfl

/-- A CKPT_RESTORE that goes on ends with its final response. -/
theorem ckptRestore_ends {c : HostCmd} {s t : State} {w : WaitFor} {st : Status} {data : List Byte} (acc : cmdCkptRestore.acceptsAsync c s = true)
    (own : cmdCkptRestore.own c s = .waitThen t w [] (fun s => s.finishOne c.mbx c.seq w st data)) :
    exec (.ckptRestore c) s = .next ((c.proceed 0x0804 t w []).finishOne c.mbx c.seq w st data) :=
  direct_takes_waitThen (takes_of_acceptsAsync acc) own

theorem config_inside {c : HostCmd} {s : State} (takes : cmdCkptConfig.takes c s = true) (shards : c.f 11 1 ≠ 2)
    (timer : c.f 10 1 = 1 → 100 ≤ c.f 12 4 ∧ c.f 12 4 ≤ 60000) (frames : c.f 10 1 = 2 → 1 ≤ c.f 12 4 ∧ c.f 12 4 ≤ 65535) :
    ¬ ((bitOf (c.f 11 1) 1 && !bitOf (c.f 11 1) 0) || (c.f 10 1 = 1 && (c.f 12 4 < 100 || 60000 < c.f 12 4))
      || (c.f 10 1 = 2 && (c.f 12 4 = 0 || 65535 < c.f 12 4))) = true := by
  have alone : (bitOf (c.f 11 1) 1 && !bitOf (c.f 11 1) 0) = false :=
    Bool.eq_false_iff.mpr fun set_ => shards ((shards_alone_iff (shards_lt_of_takes takes)).mp set_)
  simp only [alone, Bool.false_or, Bool.or_eq_true, Bool.and_eq_true, decide_eq_true_eq]
  omega

theorem routeUp_takeTag (s : State) (n d : Nat) (f : CkptRun → CkptRun) : (s.takeTag.2.updRun n f).routeUp d = s.routeUp d := rfl

/-- The reduction of a slot's checkpoint ends. -/
theorem exec_reduction {n : Fin 64} {ue : Bool} {s : State} {r : CkptRun} {w : CkptWin} (live : s.live = true) (run : s.ckRun n.val = some r)
    (win : lookupN s.ckpt.win (16 * r.ctx + r.win) = some w) (phase : r.phase = .reduce) {tag : BitVec 16} (eqT : tag = s.takeTag.1) :
    exec (.ckptReductionDone n ue) s = .next (
      if ue then (s.faultLog 0x37 Status.internal.code (BitVec.ofNat 32 n.val)).ckEnd n.val .internal
      else if w.half < shardsEnd r.snap then s.ckEnd n.val .noResource
      else
        let q : CkptRun := { r with
          tag := tag, bytes := 256 + (shardsEnd r.snap - 0x1000)
          manifest := manifestOf r.snap r.num.toNat (r.num.toNat % 2) n.val r.frameSeq r.time s.sup.fuses.serial }
        match w with
        | .host _ =>
          if !s.canRequest then s
          else (((s.updRun n.val (fun _ => q)).ckShards q w (q.base w)).ckManifest q w (q.base w)).ckEnd n.val .ok
        | .peer d _ _ =>
          let s := s.takeTag.2.updRun n.val (fun _ => q)
          if !s.routeUp d then s.ckEnd n.val .unreachable
          else (s.ckShards q w (q.base w)).ckFlush q d .flush1) := by
  subst eqT
  change execCkptReductionDone n ue s = _
  rw [execCkptReductionDone, whenLive_of_live live, run]
  simp only [win]
  refine congrArg Host.Outcome.next ((if_neg (show ¬ (r.phase != .reduce) = true by rw [phase]; decide)).trans ?_)
  split
  · rfl
  split
  · rfl
  cases w with
  | host xs => rfl
  | peer d o b => rfl

/-- A snapshot that waits for no TRACK: the number is taken, then the granules. -/
theorem exec_ckptSnapshot {n : Fin 64} {s u : State} {r : CkptRun} {q : U32} {g : Nat} (live : s.live = true) (run : s.ckRun n.val = some r)
    (phase : r.phase = .snapshot) (free : s.tracking n.val = false)
    (eqQ : (match (s.slotN n.val).lastTracked with | some x => x.1 | none => 0xFFFFFFFF) = q)
    (eqG : g = max 1 (ceilDiv ((s.slotN n.val).tracks.length * 2176) 65536))
    (eqU : u = (s.updCk n.val (fun c => { c with number := c.number + 1, frames := 0 })).updRun n.val
      (fun r => { r with num := (s.ckN n.val).number, time := s.devTime, frameSeq := q })) :
    exec (.ckptSnapshot n) s = .next (match u.str.fs.fit g with
      | none => u.ckEnd n.val .noResource
      | some first => (({ u with str := { u.str with fs := u.str.fs.take first g } } : State).updRun n.val (fun x => { x with
          phase := .copy, fs := some (first, g)
          snap := u.shardsOf n.val (s.ckN n.val).number.toNat r.shards q s.devTime })).updSlotN n.val (fun sl => { sl with copying := true })) := by
  subst eqQ eqG eqU
  change execCkptSnapshot n s = _
  rw [execCkptSnapshot, whenLive_of_live live]
  dsimp only
  rw [run]
  exact congrArg Host.Outcome.next ((if_neg (show ¬ (r.phase != .snapshot || s.tracking n.val) = true by simp [phase, free])).trans rfl)

/-- Settles O30: each command's own part by its checks; each event by the phase of the slot's run. -/
theorem checkpoints : Obligations.Checkpoints := by
  refine ⟨fun c bs s acc => ⟨fun dirty => ?dirty, fun clear => ⟨fun dead => ?winDead, fun live => ⟨fun none => ?winBad, fun w key some eq =>
      ⟨fun used => ?winBusy, fun idle open_ => ⟨fun x set_ => ?winSet, fun del none => ?winNone, fun del here => ?winDelete⟩⟩⟩⟩⟩,
    fun c s acc => ⟨fun st fails => ?configFails, fun passes => ⟨fun out => ?configBad, fun shards timer frames => ⟨fun none => ?configNone, fun w some => ?configured⟩⟩⟩,
    fun c s takes => ⟨fun st fails => ?nowFails, fun passes => ⟨fun none => ?nowNone, fun some => ⟨fun busy => ?nowBusy, fun idle => ?nowFires⟩⟩⟩,
    fun c s w' acc eqW => ⟨fun st fails => ?restoreFails, fun passes => ⟨fun none => ?restoreNone, fun w some => ⟨fun busy => ?restoreBusy, fun idle =>
      ⟨fun bs h data chosen => ?restored, fun bs st data failed => ?restoreRefused, fun ue => ?restoreUe, fun d o b noUe noData peer => ?restorePeer,
       fun xs noUe noData host => ?restoreHost⟩⟩⟩⟩,
    fun c s acc => ⟨fun st fails => ?queryFails, fun tail passes eq => ⟨fun num fs tm st last => ?queryLast, fun none => ?queryFirst⟩⟩,
    fun n s live timer => ⟨fun due => ?due, fun early => ?early⟩,
    fun n s u r q g live run phase eqQ eqG eqU => ⟨fun runs => ?trackRuns, fun free => ⟨fun none => ?noGranules, fun first fit => ?snapshot⟩⟩,
    fun n s r live run phase => ⟨?copyUe, ?copyDone⟩,
    fun n ue s r w live run phase win => ⟨fun err => ?reduceUe, fun ok small => ?tooSmall, fun m q ok fits eqM eqQ =>
      ⟨fun xs host no => ?hostWaits, fun xs host can => ?toHost, fun d o b peer down => ?noRoute, fun d o b peer up => ?toPeer⟩⟩⟩
  case dirty => exact direct_desc_st acc ((ckptWindow_own c bs s rfl rfl).trans (if_pos dirty))
  case winDead =>
    refine direct_desc_st acc ((ckptWindow_own c bs s rfl rfl).trans ?_)
    simp only [clear, dead, Bool.false_eq_true, if_false, Bool.not_false, if_true]
  case winBad =>
    refine direct_desc_st acc ((ckptWindow_own c bs s rfl rfl).trans ?_)
    simp only [clear, live, none, Bool.false_eq_true, if_false, Bool.not_true]
  case winBusy =>
    refine direct_desc_st acc ((ckptWindow_own c bs s rfl eq).trans ?_)
    simp only [clear, live, some, Bool.false_eq_true, if_false, Bool.not_true]
    exact if_pos (Bool.or_eq_true _ _ ▸ used)
  case winSet =>
    subst set_
    refine direct_desc_ok acc ((ckptWindow_own c bs s rfl eq).trans ?_)
    simp only [clear, live, some, idle, open_, Bool.false_eq_true, if_false, Bool.not_true, Bool.or_false]
  case winNone =>
    subst del
    refine direct_desc_st acc ((ckptWindow_own c bs s rfl eq).trans ?_)
    simp only [clear, live, some, idle, open_, none, Bool.false_eq_true, if_false, Bool.not_true, Bool.or_false, Option.isNone_none, if_true]
  case winDelete =>
    subst del
    refine direct_desc_ok acc ((ckptWindow_own c bs s rfl eq).trans ?_)
    simp only [clear, live, some, idle, open_, Option.isNone_iff_eq_none, here, Bool.false_eq_true, if_false, Bool.not_true, Bool.or_false]
  case configFails => exact direct_st acc (by simp only [cmdCkptConfig, fails])
  case configBad =>
    refine direct_st acc ?_
    simp only [cmdCkptConfig, passes]
    refine if_pos ?_
    rcases out with gallery | ⟨timer, out⟩ | ⟨frames, out⟩
    · simp [gallery, show bitOf 2 1 = true from rfl, show bitOf 2 0 = false from rfl]
    · simp [timer, out]
    · simp [frames, out]
  case configNone =>
    refine direct_st acc ?_
    simp only [cmdCkptConfig, passes]
    exact (if_neg (config_inside (takes_of_accepts acc) shards timer frames)).trans (if_pos (by rw [none]; rfl))
  case configured =>
    refine direct_ok acc ?_
    simp only [cmdCkptConfig, passes]
    exact (if_neg (config_inside (takes_of_accepts acc) shards timer frames)).trans (if_neg (by rw [some]; exact Bool.false_ne_true))
  case nowFails =>
    refine direct_takes_st takes (by simp only [cmdCkptNow, fails]) ?_
    rintro rfl
    exact slotCheck_ne_ok (fun x => by cases x <;> decide) fails
  case nowNone => exact direct_takes_st takes (by simp only [cmdCkptNow, passes, none, Option.isNone_none, if_true]) (by decide)
  case nowBusy =>
    exact direct_takes_st takes (by simp only [cmdCkptNow, passes, Option.isNone_iff_eq_none, some, busy, if_true, if_false]) (by decide)
  case nowFires =>
    exact direct_takes_wait takes (by simp only [cmdCkptNow, passes, Option.isNone_iff_eq_none, some, idle, Bool.false_eq_true, if_false])
  case restoreFails =>
    refine direct_takes_st (takes_of_acceptsAsync acc) (by simp only [cmdCkptRestore, fails]) ?_
    rintro rfl
    exact slotCheck_ne_ok (fun x => by cases x <;> decide) fails
  case restoreNone => exact direct_takes_st (takes_of_acceptsAsync acc) (by simp only [cmdCkptRestore, passes, none]) (by decide)
  case restoreBusy => exact direct_takes_st (takes_of_acceptsAsync acc) (by simp only [cmdCkptRestore, passes, some, busy, if_true]) (by decide)
  case restored =>
    subst eqW
    refine ckptRestore_ends acc ?_
    simp only [cmdCkptRestore, passes, some, idle, data, chosen, Bool.false_eq_true, if_false]
  case restoreRefused =>
    subst eqW
    refine ckptRestore_ends acc ?_
    simp only [cmdCkptRestore, passes, some, idle, data, failed, Bool.false_eq_true, if_false]
  case restoreUe =>
    subst eqW
    refine ckptRestore_ends acc ?_
    simp only [cmdCkptRestore, passes, some, idle, ue, Bool.false_eq_true, if_false]
  case restorePeer =>
    subst eqW peer
    refine ckptRestore_ends acc ?_
    simp only [cmdCkptRestore, passes, some, idle, Bool.false_eq_true, if_false]
  case restoreHost =>
    subst eqW host
    refine ckptRestore_ends acc ?_
    simp only [cmdCkptRestore, passes, some, idle, Bool.false_eq_true, if_false]
  case queryFails => exact direct_st acc (by simp only [cmdCkptQuery, fails])
  case queryLast =>
    subst eq
    exact direct_ok acc (by simp only [cmdCkptQuery, passes, last])
  case queryFirst =>
    subst eq
    exact direct_ok acc (by simp only [cmdCkptQuery, passes, none])
  case due =>
    change execCkptTimerTrigger n s = _
    rw [execCkptTimerTrigger, whenLive_of_live live]
    exact congrArg Host.Outcome.next (if_pos (by simp [timer, due]))
  case early =>
    change execCkptTimerTrigger n s = _
    exact whenLive_of_id (if_neg (by simp [early]))
  case trackRuns =>
    change execCkptSnapshot n s = _
    refine whenLive_of_id ?_
    dsimp only
    rw [run]
    exact if_pos (by simp [runs])
  case noGranules => rw [exec_ckptSnapshot live run phase free eqQ eqG eqU, none] <;> rfl
  case snapshot => rw [exec_ckptSnapshot live run phase free eqQ eqG eqU, fit] <;> rfl
  case copyUe =>
    change execCkptCopyDone n true s = _
    rw [execCkptCopyDone, whenLive_of_live live, run]
    exact congrArg Host.Outcome.next ((if_neg (by simp [phase])).trans (if_pos rfl))
  case copyDone =>
    change execCkptCopyDone n false s = _
    rw [execCkptCopyDone, whenLive_of_live live, run]
    exact congrArg Host.Outcome.next ((if_neg (by simp [phase])).trans (if_neg Bool.false_ne_true))
  case reduceUe =>
    rw [exec_reduction live run win phase rfl]
    exact congrArg Host.Outcome.next (if_pos err)
  case tooSmall =>
    rw [exec_reduction live run win phase rfl]
    exact congrArg Host.Outcome.next ((if_neg (by simp [ok])).trans (if_pos small))
  case hostWaits =>
    subst host
    rw [exec_reduction live run win phase (tag := s.lfn.nextTag) rfl, ok]
    exact congrArg Host.Outcome.next ((if_neg Bool.false_ne_true).trans ((if_neg (Nat.not_lt.mpr fits)).trans (if_pos (by simp [no]))))
  case toHost =>
    subst host eqM eqQ
    rw [exec_reduction live run win phase (tag := s.lfn.nextTag) rfl, ok]
    exact congrArg Host.Outcome.next ((if_neg Bool.false_ne_true).trans ((if_neg (Nat.not_lt.mpr fits)).trans (if_neg (by simp [can]))))
  case noRoute =>
    subst peer eqM eqQ
    rw [exec_reduction live run win phase (tag := s.lfn.nextTag) rfl, ok]
    exact congrArg Host.Outcome.next ((if_neg Bool.false_ne_true).trans ((if_neg (Nat.not_lt.mpr fits)).trans (if_pos (by rw [routeUp_takeTag, down]; rfl))))
  case toPeer =>
    subst peer eqM eqQ
    rw [exec_reduction live run win phase (tag := s.lfn.nextTag) rfl, ok]
    exact congrArg Host.Outcome.next ((if_neg Bool.false_ne_true).trans ((if_neg (Nat.not_lt.mpr fits)).trans (if_neg (by rw [routeUp_takeTag, up]; decide))))

end Sys2Proof.Machine

/-!
What the work of the streams and the dispatcher keeps: a frame that goes on, is discarded or frees its buffers, and an item that ends,
leave SELECT's count of items as it is and never end the device-fault stop. Used for `TranslationEvents` and `SelectAndTrack`.
-/
namespace Sys2Proof.Machine
open Sys2Proof
set_option Elab.async false

/-- From `s` to `t` SELECT has counted no item, and a device that had stopped stays so (R472, R563). -/
structure Steady (s t : State) : Prop where
  items : t.str.st.items = s.str.st.items
  stopped : s.kpr.stopped = true → t.kpr.stopped = true

namespace Steady

variable {s t u : State}

theorem refl : Steady s s := ⟨rfl, id⟩

theorem trans (a : Steady s t) (b : Steady t u) : Steady s u := ⟨b.items.trans a.items, fun h => b.stopped (a.stopped h)⟩

/-- A change of neither part. -/
theorem step (r : Steady s t) (items : u.str.st.items = t.str.st.items := by rfl) (stopped : u.kpr.stopped = t.kpr.stopped := by rfl) :
    Steady s u := r.trans ⟨items, fun h => stopped.trans h⟩

theorem ite {c : Prop} [Decidable c] (a : Steady s t) (b : Steady s u) : Steady s (if c then t else u) := by
  split
  · exact a
  · exact b

theorem foldl {α : Type} {f : State → α → State} (h : ∀ t x, Steady s t → Steady s (f t x)) (l : List α) (r : Steady s t) :
    Steady s (l.foldl f t) := by
  induction l generalizing t with
  | nil => exact r
  | cons x xs ih => exact ih (h t x r)

theorem of_unlinked (eq : t.unlinked = s.unlinked) : Steady s t := by
  have str : t.unlinked.str = s.unlinked.str := congrArg State.str eq
  have kpr : t.unlinked.kpr = s.unlinked.kpr := congrArg State.kpr eq
  exact ⟨congrArg (fun x : Streams => x.st.items) str, fun h => (congrArg Keeper.stopped kpr).trans h⟩

section
variable (r : Steady s t)
include r

/-! ### Commands and pips -/

theorem jobClose {j : Job} {st : Status} : Steady s (t.jobClose j st) := r.trans (of_unlinked (jobClose_unlinked t j st))

theorem pipApply {p : Nat} {op : PipOp} {v : U32} : Steady s (t.pipApply p op v) := r.trans (of_unlinked (pipApply_unlinked t p op v))

theorem watchFill : Steady s t.watchFill := by
  unfold State.watchFill
  exact ite r r.step

/-! ### Memory errors (R236 to R239) -/

theorem faultLog {unit status : Nat} {detail : U32} : Steady s (t.faultLog unit status detail) := r.step

theorem latch {b : KprBit} {cause who : Nat} {value : U32} : Steady s (t.latch b cause who value) := by
  obtain ⟨h, o, g, k, eq, -⟩ := latch_frame t b cause who value
  rw [eq]
  exact r.trans ⟨rfl, fun stopped => by simp [stopped]⟩

theorem deviceFault {unit cause : Nat} {value : U32} : Steady s (t.deviceFault unit cause value) := ite r r.latch

theorem ueLine {line : Nat} : Steady s (t.ueLine line) := by
  unfold State.ueLine
  split
  · exact r
  · exact ite (Steady.deviceFault r.step) r.step

theorem lineMet {line : Nat} {e : EccErr} : Steady s (t.lineMet line e) := by
  cases e with
  | uncorrectable => exact r.ueLine
  | correctable =>
    unfold State.lineMet
    dsimp only
    split
    · exact r.step
    · exact r.step

theorem memPut {a : Nat} {bs : List Byte} : Steady s (t.memPut a bs).1 :=
  step (foldl (fun _ _ r => r.lineMet) _ r)

/-! ### Buffers (R249, R250, R256) -/

theorem updPoolN {n : Nat} {f : Pool → Pool} : Steady s (t.updPoolN n f) := by
  unfold State.updPoolN
  split
  · exact r.step
  · exact r

theorem poolSpill {n : Nat} (k : Nat) : Steady s (t.poolSpill n k) := by
  induction k generalizing t with
  | zero => exact r
  | succ k ih =>
    rw [State.poolSpill]
    split
    · exact r
    · exact ih r.memPut.updPoolN

theorem poolGive {n i : Nat} : Steady s (t.poolGive n i) :=
  ite r.updPoolN (ite r.updPoolN.memPut.updPoolN (ite (r.updPoolN.updPoolN.poolSpill 32) r.updPoolN.updPoolN))

theorem poolLevels {n : Nat} : Steady s (t.poolLevels n) := by
  unfold State.poolLevels
  extract_lets p f q report u v
  refine ite r ?_
  have reported : ∀ {x : State} {level : Nat}, Steady s x → Steady s (report x level) := fun r => r.step
  have set_ : Steady s u := r.updPoolN
  have low : Steady s v := ite (reported set_) set_
  exact ite (reported low) low

theorem bufFree {h : U32} {ctx port unit : Nat} : Steady s (t.bufFree h ctx port unit).1 := by
  unfold State.bufFree
  split
  · exact r.step
  · exact r.poolGive.poolLevels

theorem bufFrees {hs : List U32} {ctx port unit : Nat} : Steady s (t.bufFrees hs ctx port unit) := foldl (fun _ _ r => r.bufFree) _ r

theorem bufsBack {n : Nat} {hs : List U32} {port unit : Nat} : Steady s (t.bufsBack n hs port unit) := r.bufFrees

theorem srcBack {n : Nat} {h : U32} {port unit : Nat} : Steady s (t.srcBack n h port unit) := ite r r.bufFree

/-! ### The dispatcher (R296 to R306) -/

theorem updEngN {e : Nat} {f : Engine → Engine} : Steady s (t.updEngN e f) := by
  unfold State.updEngN
  split
  · exact r.step
  · exact r

theorem setShare {vpu : Bool} {x : Share} : Steady s (t.setShare vpu x) := ite r.step r.step

theorem deductOver {i : Item} : Steady s (t.deductOver i) := by
  unfold State.deductOver
  split
  · exact r
  · exact r.setShare

theorem saveEntry {e : Nat} {i : Item} : Steady s (t.saveEntry e i).2 := r.step

theorem updTower {n : Fin 8} {f : Tower → Tower} : Steady s (t.updTower n f) := r.step

theorem updVpu {n : Fin 16} {f : Vpu → Vpu} : Steady s (t.updVpu n f) := r.step

theorem passOwner {vpu : Bool} : Steady s (t.passOwner vpu) := by
  unfold State.passOwner
  extract_lets x cs u
  have marked : Steady s u := ite (foldl (fun _ _ r => r.updEngN) _ r) r
  split
  · exact marked.setShare
  · exact marked.setShare

theorem reshare {vpu : Bool} : Steady s (t.reshare vpu) := ite r.setShare (ite r r.setShare.passOwner)

theorem atBoundary {e : Nat} : Steady s (t.atBoundary e) := by
  unfold State.atBoundary
  split
  · exact r
  · exact ite r.reshare r

theorem preempt {e : Nat} {i : Item} : Steady s (t.preempt e i) := by
  unfold State.preempt
  extract_lets u v
  have saved : Steady s u := by
    unfold u
    split
    · exact r.deductOver.saveEntry.updEngN
    · exact r
  have incoming : Steady s v := saved.updEngN
  split
  · exact incoming.updTower
  · split
    · exact incoming.updVpu
    · exact incoming

theorem startItem {e : Nat} {i : Item} : Steady s (t.startItem e i) := by
  unfold State.startItem
  extract_lets u start mem v
  have started : Steady s v := by
    unfold v
    split
    · exact step r.updEngN
    · exact r.updEngN
  split
  · exact ite started.updTower started.updTower
  split
  · dsimp only
    split
    · exact started
    · exact started.updVpu
  · exact started

theorem takeOne {e : Nat} : Steady s (t.takeOne e) := by
  unfold State.takeOne
  refine ite r ?_
  dsimp only
  split
  · exact r.atBoundary
  · exact ite r.atBoundary.updEngN r.atBoundary.updEngN.startItem
  · exact r.atBoundary.updEngN.startItem

theorem settleShare (k : Nat) {vpu : Bool} : Steady s (State.settleShare k vpu t) := by
  induction k generalizing t with
  | zero => exact r
  | succ k ih =>
    rw [State.settleShare]
    split
    · exact r
    · exact ite (ih (foldl (fun _ _ r => r.takeOne) _ r.passOwner)) r

theorem takeNext {e : Nat} : Steady s (t.takeNext e) := by
  unfold State.takeNext
  split
  · exact r.takeOne
  · exact r.takeOne.settleShare 64

theorem enqueue {e : Nat} {i : Item} : Steady s (t.enqueue e i) := r.updEngN

theorem carry {i : Item} {p : Place} : Steady s (t.carry i p) := by
  cases p with
  | start e => exact r.enqueue.takeNext
  | queue e => exact r.enqueue.takeNext
  | preempt e => exact r.preempt
  | yieldAt e => exact r.enqueue.updEngN
  | wait => exact r.step

theorem dispatch : Steady s t.dispatch := foldl (fun _ _ r => r.carry) _ r.step

theorem refill : Steady s t.refill :=
  (settleShare (settleShare (foldl (fun _ _ r => r.takeOne) _ r) 64) 64).dispatch

theorem dropQueued {p : Item → Bool} {st : Status} : Steady s (t.dropQueued p st) := by
  refine ite r ?_
  exact refill (foldl (fun _ _ r => r.pipApply) _ (watchFill r.step))

theorem engineDone {e : Nat} : Steady s (t.engineDone e) := by
  unfold State.engineDone
  extract_lets u v
  have deducted : Steady s u := by
    unfold u
    split
    · exact r.deductOver
    · exact r
  exact (deducted.updEngN).takeNext.dispatch

/-! ### Instances and jobs -/

theorem clearPlan {n : Nat} : Steady s (t.clearPlan n) := foldl (fun _ _ r => r.pipApply.pipApply) _ r

theorem updInsts {f : Nat → Inst → Inst} : Steady s (t.updInsts f) := r.step

theorem instSettle : Steady s t.instSettle := foldl (fun _ _ r => r.clearPlan.updInsts) _ r

theorem instCut {who : Nat × U32} : Steady s (t.instCut who) := r.updInsts.instSettle

theorem jobDone {j : Job} {st : Status} : Steady s (t.jobDone j st) := by
  unfold State.jobDone
  dsimp only
  split
  · exact r.jobClose
  · exact ite r.jobClose.pipApply r.jobClose.pipApply

theorem jobDoneId {id : U32} {st : Status} : Steady s (t.jobDoneId id st) := by
  unfold State.jobDoneId
  split
  · exact r
  · exact r.jobDone

/-! ### Frames -/

theorem updSlotN {n : Nat} {f : Slot → Slot} : Steady s (t.updSlotN n f) := by
  unfold State.updSlotN
  split
  · exact r.step
  · exact r

theorem updFrame {n : Nat} {q : U32} {f : Frame → Frame} : Steady s (t.updFrame n q f) := r.updSlotN

theorem picBack {n : Nat} {q : U32} : Steady s (t.picBack n q) := by
  unfold State.picBack
  split
  · exact r
  refine ite r ?_
  extract_lets u v
  have back : Steady s u := by
    unfold u
    split
    · exact r
    · exact r.bufsBack
  have gone : Steady s v := back.updFrame
  refine ite gone ?_
  split
  · exact gone
  · exact gone.updFrame.srcBack

theorem discard {n : Nat} {q : U32} {why : GapReason} : Steady s (t.discard n q why) := by
  unfold State.discard
  split
  · exact r
  extract_lets dec src a b c d
  clear_value src
  have marked : Steady s b := r.dropQueued.updFrame
  have freed : Steady s c := by
    unfold c
    split
    · exact marked.srcBack
    · exact marked
  exact freed.bufsBack.instCut.picBack

theorem updCk {n : Nat} {f : CkptSlot → CkptSlot} : Steady s (t.updCk n f) := by
  unfold State.updCk
  split
  · exact r.step
  · exact r

theorem ckFire {n : Nat} {now : Bool} {cfg : CkCfg} : Steady s (t.ckFire n now cfg) := by
  unfold State.ckFire
  split
  · exact r
  · exact r.step

theorem ckTrigger {n : Nat} {cfg : CkCfg} : Steady s (t.ckTrigger n cfg) := ite r.updCk (ite r.ckFire r)

theorem ckFrame {n : Nat} {cfg : CkCfg} : Steady s (t.ckFrame n cfg) := ite r.updCk.ckTrigger r.updCk

theorem passStage {n : Nat} {q : U32} : Steady s (t.passStage n q) := by
  unfold State.passStage
  split
  · exact r
  · exact ite r.pipApply.updFrame.updSlotN.ckFrame r.pipApply.updFrame

theorem dmaRecord {n : Nat} {f : Frame} : Steady s (t.dmaRecord n f) := r.discard.updFrame.passStage

/-! ### Views (R374 to R384) -/

theorem veeNext : Steady s t.veeNext := by
  unfold State.veeNext
  refine ite r ?_
  split
  · exact r
  · exact r.step

theorem veeSkip {v : Nat} : Steady s (t.veeSkip v) := by
  unfold State.veeSkip
  split
  · exact r.step
  · exact r

theorem returnFrames {n : Nat} : Steady s (t.returnFrames n) := by
  refine updSlotN (foldl (fun _ _ r => ?_) _ r)
  split
  · exact r.updFrame.srcBack
  · exact r

theorem viewDone {v : Nat} {q : U32} : Steady s (t.viewDone v q) := r.updFrame.picBack.returnFrames

theorem veeReady {n : Nat} {q : U32} {f : Fmt} : Steady s (t.veeReady n q f) := by
  refine foldl (fun t v r => ?_) _ r
  refine ite r (ite r.veeSkip ?_)
  have queued := r.updFrame (n := n) (q := q) (f := fun f => { f with views := f.views ++ [v] })
  refine ite ?_ queued.step
  split
  · exact viewDone (veeSkip queued.step)
  · exact queued.step

theorem analyse {n : Nat} {q : U32} : Steady s (t.analyse n q) := by
  unfold State.analyse
  dsimp only
  split
  · exact r
  split
  · exact r
  · exact r.veeReady.veeNext

/-! ### A frame that goes on -/

theorem enterResync {n : Nat} : Steady s (t.enterResync n) := by
  unfold State.enterResync
  refine ite r.updSlotN ?_
  dsimp only
  split
  · split
    · exact step r.updSlotN
    · exact r.updSlotN
  · exact r.updSlotN

theorem passDecode {n : Nat} {f : Frame} : Steady s (t.passDecode n f) :=
  ite (passStage (ite r.discard r.analyse)) (ite r.discard.passStage (passStage (ite r.enterResync r)))

theorem advanceOne {n : Nat} (next : t.advanceOne n = some u) : Steady s u := by
  unfold State.advanceOne at next
  split at next
  · exact nomatch next
  next f _ =>
    split at next
    · exact Option.some.inj next ▸ r.passDecode
    split at next
    · exact Option.some.inj next ▸ r.dmaRecord
    split at next
    · exact Option.some.inj next ▸ r.discard.passStage
    split at next
    · exact Option.some.inj next ▸ r.passStage.picBack
    · exact Option.some.inj next ▸ r.passStage

theorem advanceN (k : Nat) {n : Nat} : Steady s (State.advanceN k t n) := by
  induction k generalizing t with
  | zero => exact r
  | succ k ih =>
    rw [State.advanceN]
    split
    · exact r
    next goes => exact ih (r.advanceOne goes)

theorem noteTurns {n : Nat} : Steady s (t.noteTurns n) := by
  refine foldl (fun t k r => ?_) _ r
  split
  · exact ite r (step r.updFrame)
  · exact r

theorem ssuNext : Steady s t.ssuNext := ite r r.step

theorem advance {n : Nat} : Steady s (t.advance n) := (r.advanceN 72).noteTurns.ssuNext

/-! ### Work that is discarded -/

theorem itemDiscard {i : Item} {st : Status} : Steady s (t.itemDiscard i st) := by
  unfold State.itemDiscard
  extract_lets u v
  have poisoned : Steady s u := by
    unfold u
    split
    · exact r.pipApply
    · exact r
  have ended : Steady s v := by
    unfold v
    split
    · split
      · exact ite poisoned.instSettle poisoned.dropQueued.discard.advance
      · exact poisoned.instSettle
    · exact poisoned.dropQueued.jobDoneId.instCut.instSettle
    · exact poisoned
  exact ended.step

theorem discardWork {unit ctx : Nat} {st : Status} : Steady s (t.discardWork unit ctx st) := by
  unfold State.discardWork
  extract_lets u
  have items : Steady s u := by
    refine foldl (fun t e r => ?_) _ r
    split
    · exact ite r.engineDone.itemDiscard r
    · exact r
  split
  · split
    · exact items.discard.advance
    · exact items
  split
  · split
    · exact ite (veeNext (viewDone (veeSkip items.step))) items
    · exact items
  · exact foldl (fun _ _ r => ite r.updSlotN r) _ items

end

end Steady

end Sys2Proof.Machine

/-!
Proof of `TranslationEvents` (07, R208 to R219).
-/
namespace Sys2Proof.Machine
open Sys2Proof
set_option Elab.async false

/-! ### An uncorrectable error in firmware's region (R239, R562) -/

theorem deviceFault_stops (s : State) (unit cause : Nat) (value : U32) : (s.deviceFault unit cause value).kpr.stopped = true := by
  unfold State.deviceFault
  split
  next stopped => exact stopped
  · obtain ⟨h, o, g, k, eq, -⟩ := latch_frame s .device cause unit value
    rw [eq]
    exact Bool.or_true _

theorem ueLine_stops {s : State} {line : Nat} (there : s.locate (64 * line) ≠ none) (low : 64 * line < 0x10000000) :
    (s.ueLine line).kpr.stopped = true := by
  unfold State.ueLine
  split
  next none => exact absurd none there
  · dsimp only
    rw [if_pos low]
    exact deviceFault_stops _ _ _ _

theorem ueLine_region (s : State) (line : Nat) : (s.ueLine line).mem.region = s.mem.region := by
  unfold State.ueLine
  split
  · rfl
  dsimp only
  split
  · unfold State.deviceFault
    split
    · rfl
    · obtain ⟨h, o, g, k, eq, -⟩ := latch_frame (((s.updDmc _ _).faultLog _ _ _)) .device 0 _ _
      rw [eq] <;> rfl
  · rfl

theorem lineMet_region (s : State) (line : Nat) (e : EccErr) : (s.lineMet line e).mem.region = s.mem.region := by
  cases e with
  | uncorrectable => exact ueLine_region s line
  | correctable =>
    unfold State.lineMet
    dsimp only
    split
    · rfl
    · rfl

theorem locate_of_region {s t : State} (eq : s.mem.region = t.mem.region) (a : Nat) : s.locate a = t.locate a := by
  rw [State.locate, State.locate, eq]

/-- A read that meets an uncorrectable line of firmware's region stops the device. -/
theorem readSense_stops {s : State} {a n line : Nat} (bad : (line, EccErr.uncorrectable) ∈ s.mem.ecc) (first : a / 64 ≤ line)
    (last : line ≤ (a + n - 1) / 64) (some_ : n ≠ 0) (there : s.locate (64 * line) ≠ none) (low : 64 * line < 0x10000000) :
    (s.readSense a n).kpr.stopped = true := by
  rw [State.readSense, if_neg some_]
  have met : (line, EccErr.uncorrectable) ∈ s.mem.ecc.filter (fun e => a / 64 ≤ e.1 && e.1 ≤ (a + n - 1) / 64) :=
    List.mem_filter.mpr ⟨bad, by simp [first, last]⟩
  obtain ⟨before, after, eq⟩ := List.append_of_mem met
  rw [eq, List.foldl_append, List.foldl_cons]
  refine (Steady.foldl (fun _ _ r => r.lineMet) after .refl).stopped (ueLine_stops ?_ low)
  rw [locate_of_region (foldl_keeps (fun s : State => s.mem.region) (fun s e => lineMet_region s e.1 e.2) before s)]
  exact there

theorem mem_insertN_self {α : Type} (l : List (Nat × α)) (k : Nat) (v : α) : (k, v) ∈ insertN l k v := by
  induction l with
  | nil => exact List.mem_singleton_self _
  | cons c cs ih =>
    rw [insertN]
    split
    · exact List.mem_cons_self
    split
    · exact List.mem_cons_self
    · exact List.mem_cons_of_mem _ ih

/-- An error struck into an entry of eight bytes below the Feature Store lies in its line. -/
theorem strike_entry {s : State} {a : Nat} (low : a < fsBase) (aligned : a % 8 = 0) :
    s.strike a 8 = { s with free := s.free + 1, mem := { s.mem with ecc := insertN s.mem.ecc (a / 64) .uncorrectable } } := by
  have oneLine : (a + 8 - 1) / 64 - a / 64 + 1 = 1 := by omega
  rw [State.strike]
  dsimp only
  rw [if_neg (by decide), if_neg (by simp [Nat.not_le.mpr low]), oneLine, Nat.mod_one] <;> rfl

/-! ### Translation (R208 to R215) -/

theorem touchLines_keeps {β : Type} (p : State → β) (keeps : ∀ (s : State) (n : Fin 4) (l : Nat) (h : Hint), p (s.dramAccess n l h) = p s)
    (s : State) (a n : Nat) (h : Hint) : p (s.touchLines a n h) = p s := by
  unfold State.touchLines
  split
  · rfl
  refine foldl_keeps p (fun s i => ?_) _ s
  split
  · exact keeps _ _ _ _
  · rfl

/-- A request of one byte is one translation. -/
theorem reach_one (s : State) (unit ctx a : Nat) (w : Bool) : s.reach unit ctx a 1 w = match (s.translate ctx a w).2 with
    | none => ((s.translate ctx a w).1, none)
    | some st => ((s.translate ctx a w).1.faultLog unit st.code (BitVec.ofNat 32 (bitsOf a 12 27)), some st) := by
  have last : 1 - (4096 - a % 4096) = 0 := by omega
  rw [State.reach, State.translateSpan, if_neg (by decide)]
  dsimp only
  cases (s.translate ctx a w).2 with
  | some st => rfl
  | none =>
    dsimp only
    rw [last]
    rfl

/-- A request of a unit that translates: what follows once its walk has met the error that may strike. -/
theorem exec_mmuTranslate {ctx unit addr len : Nat} {w walkUe : Bool} {s u : State} (live : s.live = true) (ctx_ : ctx < 64) (some_ : 0 < len)
    (eq : u = if walkUe && ctx ≠ 0 then
        s.takeFree.2.strike ((s.walkReads ((s.mem.root.toList.getD ctx {}).root.toNat * 4096) addr).getD
          (Config.freeNat s.takeFree.1 % (s.walkReads ((s.mem.root.toList.getD ctx {}).root.toNat * 4096) addr).length) 0) 8
      else s) :
    exec (.mmuTranslate ctx unit addr len w walkUe) s = .next (match (u.translate ctx addr w).2 with
      | none => (u.translate ctx addr w).1.windowRequest ((u.translate ctx addr w).1.itemOf unit ctx) ((u.translate ctx addr w).1.physOf ctx addr) len w
      | some st => ((u.translate ctx addr w).1.faultLog unit st.code (BitVec.ofNat 32 (bitsOf addr 12 27))).discardWork unit ctx st) := by
  change execMmuTranslate ctx unit addr len w walkUe s = _
  rw [execMmuTranslate, whenLive_of_live live]
  refine congrArg Host.Outcome.next ((if_neg (by simp; omega)).trans ?_)
  dsimp only
  rw [← eq, reach_one]
  cases (u.translate ctx addr w).2 <;> rfl

theorem windowRequest_none {s : State} {item : Option Nat} {a len : Nat} {w : Bool} (inside : a < 0x020000000000 ∨ 0x030000000000 ≤ a) :
    s.windowRequest item a len w = s := if_pos (by rcases inside with h | h <;> simp [h])

theorem windowRequest_host {s : State} {item : Option Nat} {a len : Nat} {w : Bool} (low : 0x020000000000 ≤ a) (high : a < 0x030000000000)
    (can : s.canRequest = true) : s.windowRequest item a len w = s.emit (.hostRequest (a - 0x020000000000) len w) :=
  (if_neg (by simp [low, high])).trans (if_pos can)

/-- A translation that the cache holds reads no table. -/
theorem translate_hit {s : State} {ctx a : Nat} {w : Bool} (hit : s.mem.tlb.find? (fun t => t.ctx == ctx && t.va ≤ a && a < t.va + t.size) ≠ none) :
    ({ (s.translate ctx a w).1 with mem := { (s.translate ctx a w).1.mem with tlb := s.mem.tlb } } : State) = s := by
  obtain ⟨t, found⟩ := Option.ne_none_iff_exists'.mp hit
  unfold State.translate
  split
  · rfl
  dsimp only
  split
  · rfl
  split
  · rfl
  rw [found]
  dsimp only [Option.isSome_some, if_true]
  split
  · rfl
  · rfl

/-- A translation that the cache lacks reads its tables, and nothing after that touches the Keeper. -/
theorem translate_miss {s : State} {ctx a x : Nat} {w : Bool} (other : ctx ≠ 0) (open_ : s.ctxClosed ctx = false)
    (en : (s.mem.root.toList.getD ctx {}).en = true) (low : 0x40000000 ≤ a) (high : a < 2 ^ 39)
    (miss : s.mem.tlb.find? (fun t => t.ctx == ctx && t.va ≤ a && a < t.va + t.size) = none)
    (reads : s.walkReads ((s.mem.root.toList.getD ctx {}).root.toNat * 4096) a = [x]) :
    (s.translate ctx a w).1.kpr = ((s.touchLines x 8 .none).readSense x 8).kpr := by
  unfold State.translate
  rw [if_neg other]
  dsimp only
  rw [if_neg (by simp [open_]), en, if_neg (by simp; omega), miss]
  dsimp only [Option.isSome_none]
  rw [if_neg (by decide), reads, List.foldl_cons, List.foldl_nil]
  split
  · rfl
  · split
    · rfl
    · rfl

theorem windowRequest_steady {s t : State} {item : Option Nat} {a len : Nat} {w : Bool} (r : Steady s t) : Steady s (t.windowRequest item a len w) :=
  .ite r (.ite r.step r.step)

/-- The read of a table entry in firmware's region that an error struck stops the device, whatever the walk then gives. -/
theorem translate_struck {s u : State} {ctx a x n : Nat} {w : Bool} (pos : 0 < ctx)
    (struck : u = { s with free := n, mem := { s.mem with ecc := insertN s.mem.ecc (x / 64) .uncorrectable } })
    (reads : s.walkReads ((s.mem.root.toList.getD ctx {}).root.toNat * 4096) a = [x])
    (en : (s.mem.root.toList.getD ctx {}).en = true) (open_ : s.ctxClosed ctx = false) (low : 0x40000000 ≤ a) (high : a < 2 ^ 39)
    (miss : ∀ t ∈ s.mem.tlb, ¬ (t.ctx = ctx ∧ t.va ≤ a ∧ a < t.va + t.size)) (region : x < 0x10000000) (aligned : x % 8 = 0)
    (there : s.locate (x / 64 * 64) ≠ none) : (u.translate ctx a w).1.kpr.stopped = true := by
  have clear : u.mem.tlb.find? (fun t => t.ctx == ctx && t.va ≤ a && a < t.va + t.size) = none := by
    subst struck
    exact List.find?_eq_none.mpr fun t inside hit => miss t inside (by simpa [and_assoc] using hit)
  have open' : u.ctxClosed ctx = false := by
    subst struck
    exact open_
  have en' : (u.mem.root.toList.getD ctx {}).en = true := by
    subst struck
    exact en
  have reads' : u.walkReads ((u.mem.root.toList.getD ctx {}).root.toNat * 4096) a = [x] := by
    subst struck
    exact reads
  have bad : (x / 64, EccErr.uncorrectable) ∈ u.mem.ecc := by
    subst struck
    exact mem_insertN_self _ _ _
  have there' : u.locate (64 * (x / 64)) ≠ none := by
    subst struck
    rw [Nat.mul_comm]
    exact there
  rw [translate_miss (Nat.ne_of_gt pos) open' en' low high clear reads']
  refine readSense_stops (line := x / 64) ?_ (Nat.le_refl _) (by omega) (by decide) ?_ (by omega)
  · rw [touchLines_keeps (fun s => s.mem.ecc) (fun _ _ _ _ => rfl)]
    exact bad
  · rw [locate_of_region (touchLines_keeps (fun s : State => s.mem.region) (fun _ _ _ _ => rfl) u x 8 .none)]
    exact there'

/-- A request whose walk meets an uncorrectable error in firmware's region (R219, R239). -/
theorem walkError_stops {ctx unit addr len : Nat} {w : Bool} {s : State} (live : s.live = true) (pos : 0 < ctx) (ctx_ : ctx < 64) (some_ : 0 < len)
    (reads : s.walkReads ((s.mem.root.toList.getD ctx {}).root.toNat * 4096) addr
      = [(s.mem.root.toList.getD ctx {}).root.toNat * 4096 + 8 * bitsOf addr 30 9])
    (en : (s.mem.root.toList.getD ctx {}).en = true) (open_ : s.ctxClosed ctx = false) (low : 0x40000000 ≤ addr) (high : addr < 2 ^ 39)
    (miss : ∀ t ∈ s.mem.tlb, ¬ (t.ctx = ctx ∧ t.va ≤ addr ∧ addr < t.va + t.size))
    (region : (s.mem.root.toList.getD ctx {}).root.toNat * 4096 < 0x10000000 - 4096)
    (there : s.locate (((s.mem.root.toList.getD ctx {}).root.toNat * 4096 + 8 * bitsOf addr 30 9) / 64 * 64) ≠ none) :
    ∃ t : State, exec (.mmuTranslate ctx unit addr len w true) s = .next t ∧ t.kpr.stopped = true := by
  have entry : bitsOf addr 30 9 < 512 := Nat.mod_lt _ (by decide)
  generalize eqX : (s.mem.root.toList.getD ctx {}).root.toNat * 4096 + 8 * bitsOf addr 30 9 = x at reads there
  have below : x < 0x10000000 := by omega
  have aligned : x % 8 = 0 := by omega
  have struck := strike_entry (s := s.takeFree.2) (Nat.lt_trans below (by decide)) aligned
  generalize eqU : s.takeFree.2.strike x 8 = u at struck
  have first : [x].getD (Config.freeNat s.takeFree.1 % [x].length) 0 = x := by
    rw [List.length_singleton, Nat.mod_one] <;> rfl
  have begins : u = if true && ctx ≠ 0 then
      s.takeFree.2.strike ((s.walkReads ((s.mem.root.toList.getD ctx {}).root.toNat * 4096) addr).getD
        (Config.freeNat s.takeFree.1 % (s.walkReads ((s.mem.root.toList.getD ctx {}).root.toNat * 4096) addr).length) 0) 8
    else s := by
    rw [reads, first, if_pos (by simp; omega), eqU]
  have stopped := translate_struck (w := w) pos (s := s) struck reads en open_ low high miss below aligned there
  refine ⟨_, exec_mmuTranslate live ctx_ some_ begins, ?_⟩
  split
  · exact (windowRequest_steady .refl).stopped stopped
  · exact (Steady.discardWork (Steady.faultLog .refl)).stopped stopped

/-- Settles O15: a request by `exec_mmuTranslate`; an error met in a walk by `readSense_stops`, and what follows is `Steady`. -/
theorem translationEvents : Obligations.TranslationEvents := by
  refine ⟨fun v s live => ?inval, fun ctx unit addr len w s live ctx_ some_ => ⟨fun ok => ⟨fun inside => ?inside, fun low high can => ?outside⟩, fun st refused => ?refused⟩,
    fun s a w => ⟨rfl, rfl, fun dram => ?dram, fun above below => ?hole, fun low high => ?window⟩,
    fun ctx a w s hit => ?hit, fun ctx unit addr len w s live pos ctx_ some_ reads en open_ low high miss region there => ?walkUe⟩
  case inval =>
    refine ⟨s.invalidate (fun t => t.ctx == bitsOf v.toNat 0 6 && (bitOf v.toNat 6 || (t.va ≤ bitsOf v.toNat 12 27 * 4096
      && bitsOf v.toNat 12 27 * 4096 < t.va + t.size))), ?_, fun e => ?_, rfl⟩
    · change execMmuInvalWrite v s = _
      exact whenLive_of_live live _
    · simp only [State.invalidate, List.mem_filter, Bool.not_eq_true', ← Bool.not_eq_true, Bool.and_eq_true, beq_iff_eq, Bool.or_eq_true,
        decide_eq_true_eq]
  case inside =>
    rw [exec_mmuTranslate live ctx_ some_ rfl]
    simp only [Bool.false_and, Bool.false_eq_true, if_false, ok]
    exact congrArg Host.Outcome.next (windowRequest_none inside)
  case outside =>
    rw [exec_mmuTranslate live ctx_ some_ rfl]
    simp only [Bool.false_and, Bool.false_eq_true, if_false, ok]
    exact congrArg Host.Outcome.next (windowRequest_host low high can)
  case refused =>
    rw [exec_mmuTranslate live ctx_ some_ rfl]
    simp only [Bool.false_and, Bool.false_eq_true, if_false, refused]
  case dram => exact if_pos (by simp [dram])
  case hole =>
    have short : ∀ b c : Nat, 0x010000000000 ≤ b → ¬ (decide (b ≤ a) && decide (a < c)) = true := by
      intro b c far inside
      simp only [Bool.and_eq_true, decide_eq_true_eq] at inside
      omega
    have noUnit : memUnit a = none := by
      simp only [memUnit, fsBase, wbBase, vpuBase]
      exact (if_neg (short _ _ (by decide))).trans ((if_neg (short _ _ (by decide))).trans (if_neg (short _ _ (by decide))))
    exact (if_neg (by simp [noUnit]; omega)).trans (if_neg (by simp; omega))
  case window => exact if_pos (by simp [low, high])
  case hit => exact translate_hit hit
  case walkUe =>
    exact walkError_stops live pos ctx_ some_ reads en open_ low high miss region there

end Sys2Proof.Machine

/-!
Proof of `SelectAndTrack` (15, R440 to R474).
-/
namespace Sys2Proof.Machine
open Sys2Proof
set_option Elab.async false

/-! ### A poisoned read (R238, R427) -/

theorem deviceFault_str (s : State) (unit cause : Nat) (value : U32) : (s.deviceFault unit cause value).str = s.str := by
  unfold State.deviceFault
  split
  · rfl
  · obtain ⟨h, o, g, k, eq, -⟩ := latch_frame s .device cause unit value
    rw [eq]

theorem fsUe_poisons (s : State) (w : Nat) : w ∈ (s.fsUe w).str.fs.poison := by
  have listed : w ∈ (if s.str.fs.poison.contains w then s.str.fs.poison else s.str.fs.poison ++ [w]) := by
    split
    next held => simpa using held
    · simp
  unfold State.fsUe
  dsimp only
  split
  · rw [deviceFault_str]
    exact listed
  · exact listed

/-- What is struck reads as uncorrectable. -/
theorem readUe_strike {s : State} {a n : Nat} (some_ : 0 < n) : (s.strike a n).readUe a n = true := by
  unfold State.strike
  dsimp only
  rw [if_neg (Nat.ne_of_gt some_)]
  generalize Config.freeNat s.takeFree.1 = k
  split
  next store =>
    have low : fsBase ≤ a := of_decide_eq_true (Bool.and_eq_true_iff.mp store).1
    have order : (a - fsBase) / 8 ≤ (a + n - 1 - fsBase) / 8 := Nat.div_le_div_right (by omega)
    have within : k % ((a + n - 1 - fsBase) / 8 - (a - fsBase) / 8 + 1) < (a + n - 1 - fsBase) / 8 - (a - fsBase) / 8 + 1 := Nat.mod_lt k (Nat.succ_pos _)
    refine Bool.or_eq_true_iff.mpr (.inr (List.any_eq_true.mpr ⟨_, fsUe_poisons _ _, ?_⟩))
    have last : (a - fsBase) / 8 + k % ((a + n - 1 - fsBase) / 8 - (a - fsBase) / 8 + 1) ≤ (a + n - 1 - fsBase) / 8 := by omega
    exact Bool.and_eq_true_iff.mpr ⟨Bool.and_eq_true_iff.mpr ⟨decide_eq_true low, decide_eq_true (Nat.le_add_right _ _)⟩, decide_eq_true last⟩
  · have order : a / 64 ≤ (a + n - 1) / 64 := Nat.div_le_div_right (by omega)
    have within : k % ((a + n - 1) / 64 - a / 64 + 1) < (a + n - 1) / 64 - a / 64 + 1 := Nat.mod_lt k (Nat.succ_pos _)
    refine Bool.or_eq_true_iff.mpr (.inl (List.any_eq_true.mpr ⟨_, mem_insertN_self _ _ _, ?_⟩))
    generalize k % ((a + n - 1) / 64 - a / 64 + 1) = j at within ⊢
    simp only [beq_self_eq_true, Bool.true_and, Bool.and_eq_true, decide_eq_true_eq]
    omega

/-! ### SELECT's survivors (R440 to R444) -/

/-- Suppression drops candidates and adds none. -/
theorem suppress_spec (mode t : Nat) (cs : List Cand) : (suppress mode t cs).length ≤ cs.length ∧ ∀ c ∈ suppress mode t cs, c ∈ cs := by
  unfold suppress
  induction cs using List.reverseRecOn with
  | nil => exact ⟨Nat.le_refl _, fun c mem => mem⟩
  | append_singleton cs c ih =>
    rw [List.foldl_append, List.foldl_cons, List.foldl_nil, List.length_append]
    obtain ⟨short, among⟩ := ih
    split
    · exact ⟨short.trans (Nat.le_add_right _ _), fun x mem => List.mem_append_left _ (among x mem)⟩
    · refine ⟨?_, fun x mem => ?_⟩
      · rw [List.length_append]
        exact Nat.add_le_add_right short _
      · rcases List.mem_append.mp mem with old | new
        · exact List.mem_append_left _ (among x old)
        · exact List.mem_append_right _ new

theorem ssuSelect_spec (par : TrackPar) (cs : List Cand) : (ssuSelect par cs).length ≤ par.nmsMax ∧ (ssuSelect par cs).length ≤ par.topK
    ∧ ∀ c ∈ ssuSelect par cs, c ∈ cs ∧ par.scoreMin ≤ c.score := by
  have sorted : ∀ c ∈ (sortBy (fun x y : Cand × Nat => decide (y.1.score < x.1.score) || (x.1.score == y.1.score && decide (x.2 ≤ y.2)))
      (cs.filter (fun c => par.scoreMin ≤ c.score)).zipIdx).map Prod.fst, c ∈ cs ∧ par.scoreMin ≤ c.score := by
    intro c mem
    obtain ⟨x, inside, rfl⟩ := List.mem_map.mp mem
    have kept := List.mem_filter.mp (List.fst_mem_of_mem_zipIdx ((mem_sortBy _ _ _).mp inside))
    exact ⟨kept.1, of_decide_eq_true kept.2⟩
  obtain ⟨short, among⟩ := suppress_spec par.nmsMode par.iouNms (((sortBy (fun x y : Cand × Nat => decide (y.1.score < x.1.score)
    || (x.1.score == y.1.score && decide (x.2 ≤ y.2))) (cs.filter (fun c => par.scoreMin ≤ c.score)).zipIdx).map Prod.fst).take par.topK |>.take par.nmsMax)
  rw [List.length_take, List.length_take] at short
  exact ⟨short.trans (Nat.min_le_left _ _), short.trans ((Nat.min_le_right _ _).trans (Nat.min_le_left _ _)),
    fun c mem => sorted c (List.mem_of_mem_take (List.mem_of_mem_take (among c mem)))⟩

theorem filterMap_single {α β : Type} {l : List α} {g : α → Option β} {a : α} {b : β} (once : l.Nodup) (inside : a ∈ l) (hit : g a = some b)
    (others : ∀ x ∈ l, x ≠ a → g x = none) : l.filterMap g = [b] := by
  obtain ⟨l₁, l₂, rfl⟩ := List.append_of_mem inside
  obtain ⟨-, tail, apart⟩ := List.nodup_append.mp once
  have before : l₁.filterMap g = [] := List.filterMap_eq_nil_iff.mpr fun x mem =>
    others x (List.mem_append_left _ mem) (apart x mem a List.mem_cons_self)
  have after : l₂.filterMap g = [] := List.filterMap_eq_nil_iff.mpr fun x mem =>
    others x (List.mem_append_right _ (List.mem_cons_of_mem _ mem)) fun same => (List.nodup_cons.mp tail).1 (same ▸ mem)
  rw [List.filterMap_append, before, List.filterMap_cons_some hit, after, List.nil_append]

/-- An event of SELECT on its frame's turn. -/
theorem exec_select {n : Fin 64} {poisoned : Bool} {f : Frame} {a : AnaCfg} {x : Inst} {m : Model} {s : State} {len : Nat} (live : s.live = true)
    (unit_ : s.unitLive 0x1F = true) (turn : s.frameTurn n.val 4 = some f) (taken : s.str.st.ssuRun = some (n.val, f.seq))
    (ana : (s.slotN n.val).ana = some a) (whole : f.gap = none) (inst : lookupN s.mem.insts a.det = some x) (model : s.instModel a.det = some m)
    (eqL : len = 16 + 16 * min 32768 (s.memNat (x.base + f.candAt) 4)) {u : State} (eqU : u = if poisoned then s.strike (x.base + f.candAt) len else s) :
    exec (.selectComplete n poisoned) s = .next (if u.readUe (x.base + f.candAt) len then (u.discard n.val f.seq .fault).advance n.val
      else u.selectFrame n.val f a m x.base) := by
  subst eqU eqL
  change execSelectComplete n poisoned s = _
  rw [execSelectComplete, whenLive_of_live live]
  refine congrArg Host.Outcome.next ((if_neg (by simp [unit_])).trans ?_)
  rw [turn, ana]
  refine (if_neg (by simp [whole, taken])).trans ?_
  rw [inst, model]

theorem selectFrame_items (s : State) (n : Nat) (f : Frame) (a : AnaCfg) (m : Model) (base : Nat) :
    (s.selectFrame n f a m base).str.st.items = s.str.st.items + 1 := by
  unfold State.selectFrame
  extract_lets count read cands kept surv bad crops t
  have counted : t.str.st.items = s.str.st.items + 1 := rfl
  rw [← counted]
  clear_value t
  exact (Steady.advance (Steady.passStage (Steady.updFrame .refl))).items

/-- Settles O54: SELECT by `exec_select`, what it keeps by `ssuSelect_spec`; what goes on after a counted item is `Steady`. -/
theorem selectAndTrack : Obligations.SelectAndTrack := by
  refine ⟨fun n poisoned f a x m s u len live unit_ turn taken ana whole inst model eqL eqU => ⟨fun clean => ?selects, fun bad => ?selectUe⟩,
    fun s a n some_ => readUe_strike some_,
    fun n ue f a s live trk ssu free turn ana idle stage => ⟨fun due => ?costDue, fun done => ?tracks⟩, fun n ue s live copying => ?copying,
    fun s u n f a g h grant => ⟨fun r gap => ?gapFrame, fun whole => ?analysed, fun r gap => ?gapFrameUe, fun whole => ?analysedUe⟩,
    fun s u w n f a g whole empty eqW => ?noBuffer, fun trk s live early => ?notYet, fun trk n f s u live unit_ late inside turn others eqU => ?stops,
    fun s n f a m base => ?counts, fun par cs => ssuSelect_spec par cs⟩
  case selects => rw [exec_select live unit_ turn taken ana whole inst model eqL eqU, clean, if_neg Bool.false_ne_true]
  case selectUe => rw [exec_select live unit_ turn taken ana whole inst model eqL eqU, bad, if_pos rfl]
  case costDue =>
    change execTrackComplete n ue s = _
    refine whenLive_of_id ?_
    dsimp only
    rw [if_neg (by simp [trk, ssu, free]), turn, ana]
    exact if_pos (by simp [due])
  case tracks =>
    change execTrackComplete n ue s = _
    rw [execTrackComplete, whenLive_of_live live]
    refine congrArg Host.Outcome.next ((if_neg (by simp [trk, ssu, free])).trans ?_)
    rw [turn, ana]
    exact if_neg (by simp [done, idle, stage])
  case copying =>
    change execTrackComplete n ue s = _
    exact whenLive_of_id (if_pos (by simp [copying]))
  case gapFrame =>
    rw [State.trackOne, grant]
    dsimp only
    rw [if_neg Bool.false_ne_true, gap]
  case analysed =>
    rw [State.trackOne, grant]
    dsimp only
    rw [if_neg Bool.false_ne_true, whole]
  case gapFrameUe =>
    rw [State.trackOne, grant]
    dsimp only
    rw [if_pos rfl, gap]
  case analysedUe =>
    rw [State.trackOne, grant]
    dsimp only
    rw [if_pos rfl, whole]
  case noBuffer =>
    subst eqW
    rw [State.trackOne, empty, whole] <;> rfl
  case notYet =>
    change execSsuTrkStopTimeout trk s = _
    exact whenLive_of_id (if_pos (by simp [early]))
  case stops =>
    subst eqU
    have mine : (List.range 64).filterMap (fun k => (s.frameTurn k (if trk then 7 else 4)).map (fun f => (k, f.seq))) = [(n, f.seq)] :=
      filterMap_single List.nodup_range (List.mem_range.mpr inside) (by rw [turn] <;> rfl) fun k low other => by
        rw [others k (List.mem_range.mp low) other] <;> rfl
    change execSsuTrkStopTimeout trk s = _
    rw [execSsuTrkStopTimeout, whenLive_of_live live]
    dsimp only
    rw [mine]
    exact congrArg Host.Outcome.next (if_neg (by simp [unit_, late]))
  case counts => exact selectFrame_items s n f a m base

end Sys2Proof.Machine
